-- ==== Sys2Proof/Word.lean ====
section
/-! DEFINITION. The machine's words: 8-bit bytes and 32-bit words (R5, R9), and the conversions between
words, naturals and little-endian byte lists. -/

namespace Sys2Proof

/-- A byte of memory. -/
abbrev Byte := BitVec 8

/-- A 32-bit word, the width of a register (R9) and of a general register (R57). -/
abbrev Word := BitVec 32

/-- A natural as a word, modulo 2^32. -/
abbrev wd (n : Nat) : Word := BitVec.ofNat 32 n

end Sys2Proof
end

