-- ==== Sys2Proof/Syntax.lean ====
section
/-! DEFINITION. The commands of the block: one constructor of `Instr` per row of spec/opcode_table.json, with the
types of their operands. A command is one whole step of spec/95: an instruction that a pair executes, an access that a
master makes, a frame or a pin event from outside, a timer that falls due, or the job of a host command. -/

namespace Sys2Proof

/-- A core pair, hearth × 32 + pair index (R11). -/
abbrev PairId := Fin 512
/-- A hearth (R11). -/
abbrev HearthId := Fin 16
/-- A port (R15). -/
abbrev PortId := Fin 128
/-- A symmetric engine by its global index 4 × hearth + engine (chapter 10). -/
abbrev SymId := Fin 64
/-- A master identity (R164). -/
abbrev Master := Fin 1024

/-- A unit that holds a UCTL register (R26). -/
inductive UnitId where
  | port (n : PortId)
  | hearth (h : HearthId)
  | pke (h : HearthId)
  | sym (s : SymId)
  deriving DecidableEq, Repr

/-- A disciplining source of the Beat generator that can be lost (R36). -/
inductive BeatSource where
  | pin
  | basket
  deriving DecidableEq, Repr

/-- What the word check of R156 finds at one access; the environment's, since upsets come from outside. -/
inductive WordCheck where
  | clean
  | corrected
  | uncorrectable
  deriving DecidableEq, Repr

/-- A body of a pair's job that reads a host buffer (R204): the pair, and what the read brings, `none` where it fails. -/
structure HostRead where
  pair : PairId
  data : Option (List Byte)
  deriving DecidableEq, Repr

/-- A malformed access or a TLP that fails its end-to-end CRC (R190, R191). -/
structure BadTlp where
  isWrite : Bool
  ecrcOk : Bool
  deriving DecidableEq, Repr

/-- A write to RIDX (R299): the value stored, and what the word checks of the image find (R156). -/
structure IndexRead where
  value : Word
  chk : WordCheck
  deriving DecidableEq, Repr

/-- A limit of a cartridge slot that has expired (R382): of read data or a busy phase where `data`, else of a response. -/
structure CartExpiry where
  slot : Fin 8
  data : Bool
  deriving DecidableEq, Repr

/-- A READ frame of the tag protocol (R409): its information field, and what the check of the selected copy finds (R414). -/
structure TagReading where
  inf : List Byte
  chk : WordCheck
  deriving DecidableEq, Repr

/-- An arbiter (R178): a public-key engine's, a bank's, or the NVM controller's. -/
inductive ArbId where
  | pke (h : HearthId)
  | bank (h : HearthId) (b : Fin 16)
  | nvm
  deriving DecidableEq, Repr

/-- An emergency requester (R178, R185). -/
inductive EmergencyUser where
  | debugHalt
  | nvmRefresh
  deriving DecidableEq, Repr

/-- Where a command comes from and its reply goes: a host queue, a head stream, a basket member's stream (R24, R427,
R454), or a load job of the supervisor (R119). -/
inductive Stream where
  | queue (l : Fin 2) (q : Fin 64)
  | head (h : Fin 32)
  | node (n : Nat)
  | load
  deriving DecidableEq, Repr

/-- What supervisor firmware brings to a command (R24, R25, R46): the worst-case cycle count of the job, the pair it assigns, and the
fabric address of the buffer that the parameters are moved to. -/
structure Admission where
  wc : Nat
  pair : PairId
  buf : Nat
  deriving DecidableEq, Repr

/-- A health test of a noise source (R264). -/
inductive HealthTest where
  | repetition
  | proportion
  deriving DecidableEq, Repr

/-- What a cartridge puts on its bus (R377). -/
inductive CartAnswer where
  | condition (ready voltageOk byteAddressing : Bool)
  | ident (cid : List Byte)
  | status (ok : Bool)
  | extParams (maxClk : Fin 3)
  | block (data : List Byte) (sectors : Nat) (crcOk : Bool)
  | writeToken (positive : Bool)
  | crcError
  deriving DecidableEq, Repr

/-- The answer of a card to a reader exchange or a contact card exchange (R402, R436). -/
structure RfAnswer where
  answered : Bool
  data : List Byte
  rxBits : Fin 8
  collPos : Fin 256
  coll : Bool
  parErr : Bool
  crcErr : Bool
  deriving DecidableEq, Repr

/-- A card found by an inventory (R406). -/
structure RfCard where
  typeB : Bool
  uid : List Byte
  atqa : BitVec 16
  sak : Byte
  deriving DecidableEq, Repr

/-- What one try of a contact card's activation finds (R434). -/
structure AtrResult where
  atr : List Byte
  cls : Fin 4
  t1 : Bool
  ifsc : Nat
  wt : Nat
  fi : Nat
  di : Nat
  err : Byte
  deriving DecidableEq, Repr

/-- The payload of a HELLO frame (R447), with the result of its CRC. -/
structure HelloFrame where
  crcOk : Bool
  node : Nat
  prio : Byte
  eligible : Bool
  admitted : Bool
  basket : BitVec 64
  uid : BitVec 128
  rn : BitVec 128
  deriving DecidableEq, Repr

/-- The line fields of a keyed Weave frame (R445) and the results of its checks. -/
structure KeyedFrame where
  crcOk : Bool
  tagOk : Bool
  fseq : Word
  src : Nat
  dst : Nat
  hops : Nat
  deriving DecidableEq, Repr

/-- One entry of a ROUTE frame (R447). -/
structure RouteEntry where
  node : Nat
  hops : Nat
  prio : Byte
  deriving DecidableEq, Repr

/-- The payload of MUPD and MCOPY (R460); `rindex` 0xFFFF_FFFF asks the receiver to allocate. -/
structure MirrorUpdate where
  origin : Nat
  rindex : Nat
  j : Word
  hlsn : Nat
  image : List Byte
  deriving DecidableEq, Repr

/-- The payload of MACK and MDROP (R460). -/
structure MirrorAck where
  origin : Nat
  rindex : Nat
  j : Word
  hlsn : Nat
  deriving DecidableEq, Repr

/-- The payload of MSYNC (R460). -/
structure MirrorSync where
  verdict : Fin 3
  origin : Nat
  rindex : Nat
  hlsn : Nat
  image : List Byte
  deriving DecidableEq, Repr

/-- What the silicon shows during one boot (R476, R477): results of the checks that no register holds. -/
structure BootEnv where
  romOk : Bool
  helper0Ok : Bool
  helper1Ok : Bool
  pufOk : Bool
  rngOk : Bool
  bootsOk : Bool
  failedMark : Option (Fin 8)
  failedSources : List (Fin 4)
  failedPke : List HearthId
  failedSym : List SymId
  deriving DecidableEq, Repr

/-- A supply rail whose fall the device acts on (R498). -/
inductive Rail where
  | vddCore
  | vddio18
  | vddio33
  deriving DecidableEq, Repr

/-- The commands, one constructor per row of the table, in the table's order. -/
inductive Instr where
  /-- REGISTER_WRITE (R6): A write to a register field that has no behaviour of its own is applied according to its access type, lock and writer rights. -/
  | registerWrite (m : Master) (a : Word) (v : Word)
  /-- UNIT_ENABLE (R30): Writing UCTL.ENABLE = 1 returns a port, engine or hearth to service, and cancels any drain in progress. -/
  | unitEnable (m : Master) (u : UnitId)
  /-- UNIT_DISABLE (R28): Writing UCTL.ENABLE = 0 stops a unit accepting work and refuses its queued items with PORT_DISABLED; started items run to their boundary. -/
  | unitDisable (m : Master) (u : UnitId)
  /-- UNIT_DRAINED (R28): When the last started item of a disabled unit ends, DRAINED and DRAINEV set. -/
  | unitDrained (u : UnitId)
  /-- PIN_EDGE (R36): A rising edge on BEAT is measured against the crystal and judged good or failed; it can qualify the pin source. -/
  | pinEdge (t : Nat)
  /-- SOURCE_LOST (R36): At the end of window 4 with periods 1 to 4 all failed, the source is declared lost and holdover begins. -/
  | sourceLost (src : BeatSource) (t : Nat)
  /-- BEAT_TICK (R41): The generator produces a Beat: BEAT.COUNT increments, and phase alignment and the Beat-counted intervals advance. -/
  | beatTick (t : Nat)
  /-- NOMINAL_WRITE (R45): A write to BEAT.NOMINAL sets the nominal rate and recomputes CPB_MIN and MARGIN. -/
  | nominalWrite (m : Master) (v : Word)
  /-- WDOG_WRITE (R54): A write to BEAT.WDOG sets LIMIT and then, if LIMIT is non-zero, starts the watchdog. -/
  | wdogWrite (m : Master) (v : Word)
  /-- WDOG_KICK (R54): A write of 0x0000_B3A7 to WDOG_KICK restarts the watchdog count. -/
  | wdogKick (m : Master) (v : Word)
  /-- WDOG_EXPIRE (R54): The watchdog count reaches LIMIT, and the device resets. -/
  | wdogExpire
  /-- JOB_START (R47): A job-start notice loads the pair's slot timer with A and W and starts the job after checkpoint verification. -/
  | jobStart (p : PairId)
  /-- SLOT_OVERRUN (R48): W Beats pass without a commit, so OVERRUN sets and an event-log entry is written. -/
  | slotOverrun (p : PairId)
  /-- DEADLINE_REACHED (R50): BEAT.COUNT reaches A on an armed job: the job is abandoned, its staged items are discarded, the session is restored and DEADLINE is replied. -/
  | deadlineReached (p : PairId)
  /-- DEADLINE_EXCEPTION (R81): The pending deadline exception 0x0E is taken at the first boundary with EXL = 0, DF = 0 and RING ≠ 0. -/
  | deadlineException (p : PairId)
  /-- INTERRUPT (R80): A pending doorbell or device interrupt is taken as exception 0x01 at a boundary with IE = 1. -/
  | interrupt (p : PairId)
  /-- IMPRECISE_EXCEPTION (R83): A pending imprecise arithmetic exception is taken at its reporting point. -/
  | impreciseException (p : PairId)
  /-- MUL_RESULT (R102): A multiplier result becomes visible in mh and ml when its latency has elapsed. -/
  | mulResult (p : PairId)
  /-- DIV_RESULT (R102): A divider result becomes visible in dq and dr when its latency has elapsed. -/
  | divResult (p : PairId)
  /-- STORE_PERFORMED (R93): A posted store leaves the store buffer and is performed in memory. -/
  | storePerformed (p : PairId) (i : Nat)
  /-- ADD (R95): add writes ra + rb to rd. -/
  | add (p : PairId) (w : Word)
  /-- SUB (R95): sub writes ra − rb to rd. -/
  | sub (p : PairId) (w : Word)
  /-- ADDV (R82): addv writes the wrapped sum and raises overflow on signed overflow. -/
  | addv (p : PairId) (w : Word)
  /-- SUBV (R82): subv writes the wrapped difference and raises overflow on signed overflow. -/
  | subv (p : PairId) (w : Word)
  /-- AND (R95): and writes ra and rb to rd. -/
  | and_ (p : PairId) (w : Word)
  /-- OR (R95): or writes ra or rb to rd. -/
  | or_ (p : PairId) (w : Word)
  /-- XOR (R95): xor writes ra xor rb to rd. -/
  | xor_ (p : PairId) (w : Word)
  /-- ANDN (R95): andn writes ra and not rb to rd. -/
  | andn (p : PairId) (w : Word)
  /-- SLL (R95): sll shifts ra left by rb[4:0]. -/
  | sll (p : PairId) (w : Word)
  /-- SRL (R95): srl shifts ra right logically by rb[4:0]. -/
  | srl (p : PairId) (w : Word)
  /-- SRA (R95): sra shifts ra right arithmetically by rb[4:0]. -/
  | sra (p : PairId) (w : Word)
  /-- SLT (R95): slt sets rd to 1 when signed ra < rb. -/
  | slt (p : PairId) (w : Word)
  /-- SLTU (R95): sltu sets rd to 1 when unsigned ra < rb. -/
  | sltu (p : PairId) (w : Word)
  /-- CLZ (R95): clz counts the leading zero bits of ra. -/
  | clz (p : PairId) (w : Word)
  /-- POP (R95): pop counts the one bits of ra. -/
  | pop (p : PairId) (w : Word)
  /-- BSWAP (R95): bswap reverses the byte order of ra. -/
  | bswap (p : PairId) (w : Word)
  /-- CSEL (R95): csel selects ra when rc ≠ 0, and rb otherwise. -/
  | csel (p : PairId) (w : Word)
  /-- ADDI (R96): addi adds the sign-extended immediate to ra. -/
  | addi (p : PairId) (w : Word)
  /-- ANDI (R96): andi ands ra with the zero-extended immediate. -/
  | andi (p : PairId) (w : Word)
  /-- ORI (R96): ori ors ra with the zero-extended immediate. -/
  | ori (p : PairId) (w : Word)
  /-- XORI (R96): xori xors ra with the zero-extended immediate. -/
  | xori (p : PairId) (w : Word)
  /-- SLTI (R96): slti compares ra, signed, with the sign-extended immediate. -/
  | slti (p : PairId) (w : Word)
  /-- SLTIU (R96): sltiu compares ra, unsigned, with the sign-extended immediate. -/
  | sltiu (p : PairId) (w : Word)
  /-- LUI (R96): lui writes imm × 65,536 to rd. -/
  | lui (p : PairId) (w : Word)
  /-- SLLI (R96): slli shifts ra left by the immediate amount. -/
  | slli (p : PairId) (w : Word)
  /-- SRLI (R96): srli shifts ra right logically by the immediate amount. -/
  | srli (p : PairId) (w : Word)
  /-- SRAI (R96): srai shifts ra right arithmetically by the immediate amount. -/
  | srai (p : PairId) (w : Word)
  /-- LDW (R97): ldw loads a 32-bit word after the alignment, MPU and decode checks. -/
  | ldw (p : PairId) (w : Word) (chk : WordCheck)
  /-- LDH (R97): ldh loads a sign-extended halfword. -/
  | ldh (p : PairId) (w : Word) (chk : WordCheck)
  /-- LDHU (R97): ldhu loads a zero-extended halfword. -/
  | ldhu (p : PairId) (w : Word) (chk : WordCheck)
  /-- LDB (R97): ldb loads a sign-extended byte. -/
  | ldb (p : PairId) (w : Word) (chk : WordCheck)
  /-- LDBU (R97): ldbu loads a zero-extended byte. -/
  | ldbu (p : PairId) (w : Word) (chk : WordCheck)
  /-- STW (R97): stw stores a word after the checks; it is posted or held per target. -/
  | stw (p : PairId) (w : Word)
  /-- STH (R97): sth stores a halfword. -/
  | sth (p : PairId) (w : Word)
  /-- STB (R97): stb stores a byte. -/
  | stb (p : PairId) (w : Word)
  /-- BEQ (R99): beq branches when ra = rb. -/
  | beq (p : PairId) (w : Word)
  /-- BNE (R99): bne branches when ra ≠ rb. -/
  | bne (p : PairId) (w : Word)
  /-- BLT (R99): blt branches when signed ra < rb. -/
  | blt (p : PairId) (w : Word)
  /-- BGE (R99): bge branches when signed ra ≥ rb. -/
  | bge (p : PairId) (w : Word)
  /-- BLTU (R99): bltu branches when unsigned ra < rb. -/
  | bltu (p : PairId) (w : Word)
  /-- BGEU (R99): bgeu branches when unsigned ra ≥ rb. -/
  | bgeu (p : PairId) (w : Word)
  /-- BEQI (R99): beqi branches when ra equals the sign-extended imm8. -/
  | beqi (p : PairId) (w : Word)
  /-- BNEI (R99): bnei branches when ra differs from the sign-extended imm8. -/
  | bnei (p : PairId) (w : Word)
  /-- BLTI (R99): blti branches when signed ra < imm8. -/
  | blti (p : PairId) (w : Word)
  /-- BGEI (R99): bgei branches when signed ra ≥ imm8. -/
  | bgei (p : PairId) (w : Word)
  /-- BLTUI (R99): bltui branches when unsigned ra < the zero-extended imm8. -/
  | bltui (p : PairId) (w : Word)
  /-- BGEUI (R99): bgeui branches when unsigned ra ≥ the zero-extended imm8. -/
  | bgeui (p : PairId) (w : Word)
  /-- J (R99): j jumps by off26 × 4. -/
  | j (p : PairId) (w : Word)
  /-- JAL (R99): jal jumps and writes the return address to g1. -/
  | jal (p : PairId) (w : Word)
  /-- JR (R100): jr jumps to ra + imm, and raises misaligned for an unaligned target. -/
  | jr (p : PairId) (w : Word)
  /-- JALR (R100): jalr jumps to ra + imm and writes g1. -/
  | jalr (p : PairId) (w : Word)
  /-- MUL (R101): mul issues a signed 64-bit product to mh and ml. -/
  | mul (p : PairId) (w : Word)
  /-- MULH (R101): mulh issues a signed × unsigned product. -/
  | mulh (p : PairId) (w : Word)
  /-- MULHU (R101): mulhu issues an unsigned product. -/
  | mulhu (p : PairId) (w : Word)
  /-- CLMUL (R101): clmul issues a carry-less product. -/
  | clmul (p : PairId) (w : Word)
  /-- DIV (R101): div issues a signed divide to dq and dr. -/
  | div (p : PairId) (w : Word)
  /-- DIVU (R101): divu issues an unsigned divide. -/
  | divu (p : PairId) (w : Word)
  /-- WIPE (R106): wipe zeroes memory in 32-byte steps and can be stopped between steps. -/
  | wipe (p : PairId) (w : Word) (steps : Nat)
  /-- BCOPY (R106): bcopy copies memory in 32-byte steps. -/
  | bcopy (p : PairId) (w : Word) (steps : Nat)
  /-- CTEQ (R106): cteq compares two ranges in constant time into an accumulator. -/
  | cteq (p : PairId) (w : Word) (steps : Nat)
  /-- MFS (R60): mfs reads a special register, subject to the ring rights. -/
  | mfs (p : PairId) (w : Word)
  /-- MTS (R61): mts writes a special register, subject to the ring and field rules. -/
  | mts (p : PairId) (w : Word)
  /-- GATE (R68): gate n enters the gate's target ring at its entry PC, saving lpc and lst. -/
  | gate (p : PairId) (w : Word)
  /-- RET_G (R69): ret.g returns to lst.CRING at lpc, or raises PRIV_RESTORE. -/
  | retG (p : PairId) (w : Word)
  /-- ERET (R78): eret returns from an exception to estat.PRING at epc. -/
  | eret (p : PairId) (w : Word)
  /-- BRK (R108): brk raises breakpoint 0x0F with the instruction's code. -/
  | brk (p : PairId) (w : Word)
  /-- FENCE_M (R109): fence.m waits until every earlier access has been performed. -/
  | fenceM (p : PairId) (w : Word)
  /-- FENCE_P (R110): fence.p fences, applies pending MPU rules, empties the instruction buffer and refetches. -/
  | fenceP (p : PairId) (w : Word)
  /-- WAIT (R111): wait holds issue, with the clocks stopped, until an interrupt, deadline or halt is pending. -/
  | wait_ (p : PairId) (w : Word)
  /-- LOCKSTEP_MISMATCH (R114): A failed lead/trail comparison stops both cores, discards the attempt, records MISM and starts the self-test. -/
  | lockstepMismatch (p : PairId) (kind : Fin 4) (pc : Word)
  /-- SELFTEST_DONE (R132): The self-test ends, and the pair becomes SPARE or RETIRED under the pass limit. -/
  | selftestDone (p : PairId) (pass : Bool)
  /-- ROLE_LOADING (R119): A PST write of LOADING arms a load job on the pair with J = 0, W = 0 and no deadline. -/
  | roleLoading (m : Master) (p : PairId) (v : Word)
  /-- ROLE_FREE (R115): A PST write of FREE releases a pair and disarms any load job. -/
  | roleFree (m : Master) (p : PairId) (v : Word)
  /-- ROLE_SPARE (R115): A PST write of SPARE makes a free pair a spare. -/
  | roleSpare (m : Master) (p : PairId) (v : Word)
  /-- ROLE_RETIRED (R115): A PST write of RETIRED takes a pair out of use until reset. -/
  | roleRetired (m : Master) (p : PairId) (v : Word)
  /-- ROLE_SUPERVISOR (R115): A PST write of SUPERVISOR promotes a hearth 0 spare to supervisor. -/
  | roleSupervisor (m : Master) (p : PairId) (v : Word)
  /-- COMMIT (R125): A store of 0x0000_C3E1 to HRT.COMMIT checks the deadline, writes the checkpoint and hands the staged updates to the ledger. -/
  | commit (p : PairId) (v : Word)
  /-- SCRUB_LINE (R160): A due scrub line is read in a free bank cycle and checked. -/
  | scrubLine (unit : Fin 17) (bank : Fin 16) (corrected uncorrectable : BitVec 8)
  /-- SCRUB_WRITEBACK (R162): A corrected word is written back in a free bank cycle unless a foreground write has overtaken it. -/
  | scrubWriteback (unit : Fin 17) (addr : Nat)
  /-- SCRUB_OVERRUN (R163): A line is still unread 6,000,000 Beats after its pass began, so OVERRUN sets. -/
  | scrubOverrun (unit : Fin 17)
  /-- MPU_WRITE (R148): A write to MPU_BASE or MPU_ATTR changes the written rule set, or raises MPU overlap. -/
  | mpuWrite (p : PairId) (r : Fin 32) (v : Word)
  /-- PG_REGION_WRITE (R155): A port guard region write changes the written set, or is ignored and sets OVL on overlap. -/
  | pgRegionWrite (m : Master) (n : PortId) (r : Fin 16) (v : Word)
  /-- PG_APPLY (R155): Writing PGCTL.APPLY brings the written regions into force at the next burst boundary. -/
  | pgApply (m : Master) (n : PortId) (v : Word)
  /-- PORT_BURST (R153): A port DMA burst is checked by its guard and moves, or is refused with nothing moved. -/
  | portBurst (n : PortId) (wr : Bool) (addr : Nat) (data : List Byte)
  /-- CHANNEL_WRITE (R167): A write to word 0 of a channel table entry clears FULL, zeroes the slot and resets SEQ. -/
  | channelWrite (m : Master) (c : Fin 2048) (v : Word)
  /-- FLUE_STORE (R168): A sender store to slot words 0–6 writes the word, or raises flue full. -/
  | flueStore (p : PairId) (c : Fin 2048) (i : Fin 7) (v : Word)
  /-- FLUE_DELIVER (R168): A sender store to word 7 delivers the message, sets FULL, increments SEQ and sets doorbells. -/
  | flueDeliver (p : PairId) (c : Fin 2048) (v : Word)
  /-- FLUE_RELEASE (R168): A receiver store to word 7 releases the slot and zeroes it. -/
  | flueRelease (p : PairId) (c : Fin 2048) (v : Word)
  /-- FLUE_FABRIC_WRITE (R169): A non-pair master writes a whole message as one 32-byte write that delivers atomically or is refused. -/
  | flueFabricWrite (m : Master) (c : Fin 2048) (ws : List Word)
  /-- ARB_GRANT (R180): When a use ends, the arbiter grants the resource to the next requester by rank, round robin or fallback. -/
  | arbGrant (a : ArbId)
  /-- EMERGENCY_GRANT (R185): An emergency requester is granted at once and may revoke a grant in use. -/
  | emergencyGrant (a : ArbId) (r : EmergencyUser)
  /-- ARB_CFG_WRITE (R188): A write to ARB_CFG takes effect at the next arbitration, or is ignored for an invalid FB_N. -/
  | arbCfgWrite (m : Master) (a : ArbId) (v : Word)
  /-- SQ_TAIL_WRITE (R195): A write to SQ_TAIL records the new submission tail, or sets QERR for a value out of range. -/
  | sqTailWrite (l : Fin 2) (q : Fin 64) (v : Word)
  /-- CQ_HEAD_WRITE (R196): A write to CQ_HEAD frees completion entries, or sets QERR for a value out of range. -/
  | cqHeadWrite (l : Fin 2) (q : Fin 64) (v : Word)
  /-- COMMAND_TAKE (R200): The HOST class block takes a complete command, checks its header, stamps T_arr and posts it to the dispatcher. -/
  | commandTake (l : Fin 2) (q : Fin 64) (hdr : List Word) (params : List Byte) (adm : Admission)
  /-- REPLY_WRITE (R196): A released reply is written to its completion ring in queue order once there is room, and MSI-X is signalled. -/
  | replyWrite (src : Stream) (tag : Nat)
  /-- AQ_ENABLE (R217): Setting AQ_CTL.EN starts queue 0 afresh with its indices, phase and NEXT_SEQ reset. -/
  | aqEnable (l : Fin 2) (v : Word)
  /-- AQ_DISABLE (R202): Clearing AQ_CTL.EN ends queue 0 as link loss does. -/
  | aqDisable (l : Fin 2) (v : Word)
  /-- LINK_LOSS (R210): A link down, hot reset, FLR or D3hot discards unposted commands and later replies, and deletes the link's queues. -/
  | linkLoss (l : Fin 2)
  /-- BAR0_MALFORMED (R191): A BAR0 access that is not a single aligned 32-bit access is rejected or dropped. -/
  | bar0Malformed (l : Fin 2) (tlp : BadTlp)
  /-- NOP (R212): NOP does nothing and replies. -/
  | nop (p : PairId)
  /-- DEV_INFO (R212): DEV_INFO returns the identity, capabilities, UID, state and BOOTS. -/
  | devInfo (p : PairId)
  /-- QUEUE_CREATE (R212): QUEUE_CREATE creates a queue pair on the link. -/
  | queueCreate (p : PairId)
  /-- QUEUE_DELETE (R215): QUEUE_DELETE stops taking from a queue and deletes it after its last reply. -/
  | queueDelete (p : PairId)
  /-- UNIT_CTL (R212): UNIT_CTL writes the UCTL of a hearth or engine. -/
  | unitCtl (p : PairId)
  /-- TENANT_POLICY (R212): TENANT_POLICY sets a tenant's permitted families and rollback floor. -/
  | tenantPolicy (p : PairId)
  /-- SOFT_RESET (R214): SOFT_RESET replies and then resets the device. -/
  | softReset (p : PairId)
  /-- BEAT_READ (R212): BEAT_READ returns the Beat count, basket offset and status. -/
  | beatRead (p : PairId)
  /-- IMAGE_STORE (R212): IMAGE_STORE programs an image into blank bank 0 sectors. -/
  | imageStore (r : HostRead)
  /-- IMAGE_ERASE (R212): IMAGE_ERASE erases bank 0 sectors not held by a loaded session. -/
  | imageErase (p : PairId)
  /-- SESSION_OPEN (R119): SESSION_OPEN checks and loads an applet image onto a free pair. -/
  | sessionOpen (p : PairId)
  /-- SESSION_CLOSE (R519): SESSION_CLOSE waits for the session's jobs and frees its pair. -/
  | sessionClose (p : PairId)
  /-- SESSION_CALL (R212): SESSION_CALL runs an applet entry point as a job on the session's pair. -/
  | sessionCall (p : PairId)
  /-- SESSION_BIND_HEAD (R429): SESSION_BIND_HEAD binds a head to a session. -/
  | sessionBindHead (p : PairId)
  /-- SESSION_STATUS (R519): SESSION_STATUS returns the session's pair, state and XH. -/
  | sessionStatus (p : PairId)
  /-- KEY_IMPORT (R283): KEY_IMPORT places a blob, transport-wrapped or not, in a key entry. -/
  | keyImport (p : PairId)
  /-- KEY_DERIVE (R277): KEY_DERIVE derives a child key into an entry. -/
  | keyDerive (p : PairId)
  /-- KEY_GENERATE (R212): KEY_GENERATE generates a key into an entry. -/
  | keyGenerate (p : PairId)
  /-- KEY_REPLACE_STAGE (R285): KEY_REPLACE_STAGE stores the next key version as pending. -/
  | keyReplaceStage (p : PairId)
  /-- KEY_REPLACE_SWITCH (R285): KEY_REPLACE_SWITCH flips the entry to the staged key version. -/
  | keyReplaceSwitch (p : PairId)
  /-- KEY_INFO (R212): KEY_INFO returns a key entry's attributes and use counts. -/
  | keyInfo (p : PairId)
  /-- KEY_DESTROY (R286): KEY_DESTROY destroys both versions of a key. -/
  | keyDestroy (p : PairId)
  /-- KEY_PUBLIC (R212): KEY_PUBLIC returns a key's public key. -/
  | keyPublic (p : PairId)
  /-- LEDGER_READ (R216): LEDGER_READ returns an entry and its last committing command. -/
  | ledgerRead (p : PairId)
  /-- COUNTER_INC (R212): COUNTER_INC increments a counter. -/
  | counterInc (p : PairId)
  /-- COUNTER_INC_ATTESTED (R301): COUNTER_INC_ATTESTED increments a counter and signs the statement. -/
  | counterIncAttested (p : PairId)
  /-- TOKEN_ISSUE (R300): TOKEN_ISSUE writes a token with its uses and digest. -/
  | tokenIssue (p : PairId)
  /-- TOKEN_REDEEM (R212): TOKEN_REDEEM spends a token use on proof and may stage a pulse. -/
  | tokenRedeem (p : PairId)
  /-- ENTRY_ALLOC (R290): ENTRY_ALLOC allocates the lowest permitted free entry of a type. -/
  | entryAlloc (p : PairId)
  /-- ENTRY_FREE (R290): ENTRY_FREE frees an entry while keeping NEXT_VER and FLOOR. -/
  | entryFree (p : PairId)
  /-- ENTRY_MIRROR (R464): ENTRY_MIRROR pairs, hands over, unpairs, promotes or resolves a mirrored entry. -/
  | entryMirror (p : PairId)
  /-- SYM_CRYPT (R213): SYM_CRYPT runs a cipher job on a symmetric engine. -/
  | symCrypt (r : HostRead)
  /-- MAC (R213): MAC computes or verifies a CMAC on a symmetric engine. -/
  | mac (r : HostRead)
  /-- PIN_TRANSLATE (R212): PIN_TRANSLATE translates a PIN block between keys and formats. -/
  | pinTranslate (p : PairId)
  /-- SIGN (R212): SIGN signs a digest with a key. -/
  | sign (p : PairId)
  /-- VERIFY (R212): VERIFY checks a signature. -/
  | verify (p : PairId)
  /-- KEM_DECAP (R212): KEM_DECAP decapsulates into a shared key entry. -/
  | kemDecap (p : PairId)
  /-- RANDOM (R212): RANDOM returns random bytes. -/
  | random (p : PairId)
  /-- CURVE_LOAD (R231): CURVE_LOAD vets a curve and installs it in one slot on every engine. -/
  | curveLoad (p : PairId)
  /-- PORT_CTL (R212): PORT_CTL writes a port's UCTL. -/
  | portCtl (p : PairId)
  /-- PORT_STATUS (R520): PORT_STATUS returns a port's UCTL and class status. -/
  | portStatus (p : PairId)
  /-- HEAD_LIST (R212): HEAD_LIST returns the present heads. -/
  | headList (p : PairId)
  /-- CART_CTL_MOUNT (R380): CART_CTL mount starts identification in a slot that is FAILED or RELEASED. -/
  | cartCtlMount (p : PairId)
  /-- CART_CTL_SLEEP (R383): CART_CTL sleep puts the cartridge to sleep once the slot is idle. -/
  | cartCtlSleep (p : PairId)
  /-- CART_CTL_WAKE (R383): CART_CTL wake restarts the clock and reselects the cartridge. -/
  | cartCtlWake (p : PairId)
  /-- CART_CTL_RELEASE (R383): CART_CTL release deselects the cartridge and enters RELEASED. -/
  | cartCtlRelease (p : PairId)
  /-- RF_CTL (R397): RF_CTL sets a front end's mode. -/
  | rfCtl (p : PairId)
  /-- TAG_ACCESS_READ (R418): TAG_ACCESS with WRITE = 0 reads a tag store block. -/
  | tagAccessRead (p : PairId)
  /-- TAG_ACCESS_WRITE (R418): TAG_ACCESS with WRITE = 1 stages a tag store block write. -/
  | tagAccessWrite (p : PairId)
  /-- SC_APDU (R435): SC_APDU exchanges an APDU with a contact card through a supervisor job. -/
  | scApdu (p : PairId)
  /-- BASKET_STATUS (R212): BASKET_STATUS returns the node, member count, master and flags. -/
  | basketStatus (p : PairId)
  /-- BASKET_ADMIT (R455): BASKET_ADMIT verifies an admission request and loads the basket key. -/
  | basketAdmit (p : PairId)
  /-- BASKET_LEAVE (R456): BASKET_LEAVE unpairs origins, frees copies, clears BK and clears the node. -/
  | basketLeave (p : PairId)
  /-- LINK_REKEY (R449): LINK_REKEY starts a rekey of a Weave link. -/
  | linkRekey (p : PairId)
  /-- LC_READ (R212): LC_READ returns the state, mark and UID. -/
  | lcRead (p : PairId)
  /-- LC_NONCE (R336): LC_NONCE draws and returns a new device nonce. -/
  | lcNonce (p : PairId)
  /-- LC_TRANSITION (R339): LC_TRANSITION verifies a request, sets M0, replies and resets. -/
  | lcTransition (p : PairId)
  /-- DEBUG_CERT (R348): DEBUG_CERT presents a debug certificate for acceptance. -/
  | debugCert (p : PairId)
  /-- DEBUG_CLOSE (R349): DEBUG_CLOSE ends the debug rights. -/
  | debugClose (p : PairId)
  /-- TELEMETRY (R212): TELEMETRY returns a group of telemetry values. -/
  | telemetry (p : PairId)
  /-- EVENT_READ (R485): EVENT_READ copies log entries to a host buffer and moves LOG_MARK. -/
  | eventRead (p : PairId)
  /-- ASH_LIST (R489): ASH_LIST reports the validity and Beat of each ash slot. -/
  | ashList (p : PairId)
  /-- ASH_READ (R490): ASH_READ decrypts and returns an ash dump. -/
  | ashRead (p : PairId)
  /-- ASH_CLEAR (R489): ASH_CLEAR erases an ash slot. -/
  | ashClear (p : PairId)
  /-- PKE_SUBMIT (R218): A store to PKE.SUBMIT makes a request at the public-key engine arbiter, or is refused. -/
  | pkeSubmit (p : PairId) (h : HearthId) (v : Word)
  /-- BOUND (R232): BOUND returns K and B for a descriptor. -/
  | bound (h : HearthId)
  /-- MODEXP (R223): MODEXP computes a modular exponentiation. -/
  | modexp (h : HearthId)
  /-- RSA_PUB (R223): RSA_PUB applies a raw RSA public operation. -/
  | rsaPub (h : HearthId)
  /-- RSA_PRIV (R223): RSA_PRIV applies a raw RSA CRT private operation with a check. -/
  | rsaPriv (h : HearthId)
  /-- EC_KEYGEN (R223): EC_KEYGEN generates an EC key pair as a public key and a blob. -/
  | ecKeygen (h : HearthId)
  /-- EC_SIGN (R223): EC_SIGN makes an ECDSA or EdDSA signature. -/
  | ecSign (h : HearthId)
  /-- EC_VERIFY (R223): EC_VERIFY checks an EC signature. -/
  | ecVerify (h : HearthId)
  /-- EC_AGREE (R223): EC_AGREE computes an ECDH or X25519/X448 shared secret. -/
  | ecAgree (h : HearthId)
  /-- EC_POINT_CHECK (R223): EC_POINT_CHECK validates a point on a slot curve. -/
  | ecPointCheck (h : HearthId)
  /-- MLKEM_KEYGEN (R223): MLKEM_KEYGEN generates an ML-KEM key pair. -/
  | mlkemKeygen (h : HearthId)
  /-- MLKEM_ENCAP (R223): MLKEM_ENCAP encapsulates a shared key. -/
  | mlkemEncap (h : HearthId)
  /-- MLKEM_DECAP (R223): MLKEM_DECAP decapsulates with implicit rejection. -/
  | mlkemDecap (h : HearthId)
  /-- MLDSA_KEYGEN (R223): MLDSA_KEYGEN generates an ML-DSA key pair. -/
  | mldsaKeygen (h : HearthId)
  /-- MLDSA_SIGN (R234): MLDSA_SIGN signs within the iteration cap, or ends BUSY. -/
  | mldsaSign (h : HearthId)
  /-- MLDSA_VERIFY (R223): MLDSA_VERIFY checks an ML-DSA signature. -/
  | mldsaVerify (h : HearthId)
  /-- CURVE_VET (R230): CURVE_VET checks a curve record, writes the vetting record and installs it. -/
  | curveVet (h : HearthId)
  /-- SLOT_INSTALL (R231): SLOT_INSTALL installs a vetted curve into a slot by a shadow flip. -/
  | slotInstall (h : HearthId)
  /-- SLOT_CLEAR (R231): SLOT_CLEAR empties a curve slot. -/
  | slotClear (h : HearthId)
  /-- NTT (R223): NTT computes a forward or inverse number-theoretic transform. -/
  | ntt (h : HearthId)
  /-- PKE_JOB_COMPLETE (R238): A public-key job ends: output, result record and wipe, then the doorbell. -/
  | pkeJobComplete (h : HearthId)
  /-- PKE_PARITY_FAULT (R235): A parity fault or failed check wipes the engine and starts its self-test. -/
  | pkeParityFault (h : HearthId)
  /-- PKE_SELFTEST_DONE (R235): The engine self-test ends; the job is rerun once, or the engine is marked FAILED. -/
  | pkeSelftestDone (h : HearthId) (pass : Bool)
  /-- SYM_SUBMIT (R240): A store to SYM.SUBMIT queues a descriptor, or is refused. -/
  | symSubmit (p : PairId) (s : SymId) (v : Word)
  /-- CIPHER (R245): CIPHER runs AES in ECB, CBC, CTR, GCM or CCM. -/
  | cipher (s : SymId)
  /-- TDEA (R245): TDEA runs TDEA in ECB or CBC. -/
  | tdea (s : SymId)
  /-- SYM_MAC (R248): The MAC operation computes or verifies a CMAC. -/
  | symMac (s : SymId)
  /-- SYM_PIN_TRANSLATE (R251): The PIN_TRANSLATE operation decodes, checks, rebuilds and re-encrypts a PIN block. -/
  | symPinTranslate (s : SymId)
  /-- KCV (R252): KCV writes a key check value. -/
  | kcv (s : SymId)
  /-- DERIVE (R252): DERIVE computes a child key blob. -/
  | derive (s : SymId)
  /-- COPY_CKPT (R253): COPY_CKPT copies a checkpoint record, rekeying its CMAC. -/
  | copyCkpt (s : SymId)
  /-- SYM_JOB_COMPLETE (R261): A symmetric job ends: output, result record and wipe, then the doorbell. -/
  | symJobComplete (s : SymId)
  /-- SYM_PARITY_FAULT (R257): A parity fault zeroes the output, wipes the engine, ends the job FAULT_HW and starts the self-test. -/
  | symParityFault (s : SymId)
  /-- SYM_SELFTEST_DONE (R257): The symmetric self-test ends, possibly marking the engine FAILED. -/
  | symSelftestDone (s : SymId) (pass : Bool)
  /-- RNG_DATA_READ (R269): A load of RNG.DATA takes 4 bytes from the queue, waits, or ends in bus error. -/
  | rngDataRead (p : PairId)
  /-- RNG_SOURCE_FAIL (R265): A health test failure marks a source failed and may make the RNG unhealthy. -/
  | rngSourceFail (i : Fin 4) (test : HealthTest)
  /-- RNG_RESTART (R265): A write of RESTART bit i runs the start-up test on source i. -/
  | rngRestart (m : Master) (v : Word)
  /-- RNG_STARTUP_DONE (R265): A source's start-up test ends, and a pass returns it to service. -/
  | rngStartupDone (i : Fin 4) (pass : Bool)
  /-- RNG_RESEED (R267): The expander reseeds and generates a request into the queue as room frees. -/
  | rngReseed
  /-- RNG_KAT_START (R270): KAT_CTL.START runs a known-answer test on the test context. -/
  | rngKatStart (m : Master) (v : Word)
  /-- RNG_KAT_DONE (R270): The known-answer test ends with KAT_OUT and PASS. -/
  | rngKatDone
  /-- CTR_ADD (R292): A CTR_ADD staging locks a counter and stages an increment. -/
  | ctrAdd (p : PairId) (v : Word)
  /-- TOKEN_USE (R292): A TOKEN_USE staging checks the proof and stages a token use. -/
  | tokenUse (p : PairId) (v : Word)
  /-- LEDGER_WRITE (R292): A WRITE staging by a supervisor pair stages a whole image. -/
  | ledgerWrite (p : PairId) (v : Word)
  /-- ATT_ADD (R301): An ATT_ADD staging stages an attested increment and returns its statement digest. -/
  | attAdd (p : PairId) (v : Word)
  /-- RIDX_WRITE (R299): A write to RIDX reads the committed image of an entry into RDATA. -/
  | ridxWrite (m : Master) (r : IndexRead)
  /-- GROUP_CLOSE (R296): The open group closes at 32 images or after GROUP_WAIT, and its commit record is programmed. -/
  | groupClose
  /-- COMMIT_RECORD_DONE (R296): The commit record is programmed: the commit point, with directory updates, lock release and applied marks. -/
  | commitRecordDone
  /-- NVM_PROGRAM (R312): Gate 1 PROGRAM programs up to one row with ECC and a CRC read-back. -/
  | nvmProgram (p : PairId) (chk : WordCheck) (readback : Bool)
  /-- NVM_ERASE (R311): Gate 1 ERASE issues a sector erase. -/
  | nvmErase (p : PairId)
  /-- NVM_SUSPEND (R318): Gate 1 SUSPEND suspends a bank's erase and sets XSUSP. -/
  | nvmSuspend (p : PairId)
  /-- NVM_RESUME (R318): Gate 1 RESUME resumes an erase held by SUSPEND. -/
  | nvmResume (p : PairId)
  /-- NVM_CONFIG (R310): Gate 1 CONFIG sets DO0, OP_IE, REF_IE and LOCK. -/
  | nvmConfig (p : PairId)
  /-- NVM_ACK (R310): Gate 1 ACK clears the NVM completion flags. -/
  | nvmAck (p : PairId)
  /-- ERASE_AUTO_RESUME (R318): After the hold-off with no request for the bank, the erase resumes automatically. -/
  | eraseAutoResume (b : Fin 4)
  /-- ERASE_COMPLETE (R313): An erase ends, OPSTAT records its status and DONE sets. -/
  | eraseComplete (b : Fin 4) (verify : Bool)
  /-- PATROL_SECTOR (R328): The patrol margin-reads the next sector and schedules a refresh or an early head advance. -/
  | patrolSector (weak : Bool)
  /-- REFRESH_DONE (R329): A refresh of a bank 0 or 1 sector completes, ends the redirection and erases the journal and spare. -/
  | refreshDone
  /-- GATE2_NONCE (R353): Gate 2 NONCE draws a nonce into a buffer. -/
  | gate2Nonce (p : PairId)
  /-- GATE2_TRANSITION (R353): Gate 2 TRANSITION verifies a life-cycle request and resets on OK. -/
  | gate2Transition (p : PairId)
  /-- GATE2_CERT (R353): Gate 2 CERT presents a debug certificate. -/
  | gate2Cert (p : PairId)
  /-- GATE2_CLOSE (R353): Gate 2 CLOSE ends the debug rights. -/
  | gate2Close (p : PairId)
  /-- TAP_RESET (R346): TRST_N, or five TCK cycles with TMS high, selects IDCODE. -/
  | tapReset
  /-- EXTEST (R346): EXTEST drives boundary scan in the open states. -/
  | extest
  /-- IDCODE (R346): IDCODE shifts out 0xB902_4B67. -/
  | idcode
  /-- SAMPLE_PRELOAD (R346): SAMPLE/PRELOAD samples and preloads boundary scan. -/
  | samplePreload
  /-- CLAMP (R346): CLAMP holds outputs while bypassing. -/
  | clamp
  /-- HIGHZ (R346): HIGHZ places outputs in high impedance. -/
  | highz
  /-- DBG_AUTH (R348): DBG_AUTH shifts in a certificate for the life-cycle controller to check. -/
  | dbgAuth (word : Word) (last : Bool)
  /-- DBG_STATUS (R346): DBG_STATUS shifts out DBG_RIGHTS. -/
  | dbgStatus
  /-- BYPASS (R346): BYPASS selects the one-bit bypass register. -/
  | bypass
  /-- DBG_READ (R350): A DBG_ACCESS read of memory or pair registers is checked against the rights and performed. -/
  | dbgRead (p : PairId) (space : Fin 4) (addr : Word)
  /-- DBG_WRITE (R350): A DBG_ACCESS write of memory or pair registers is checked against the rights and performed. -/
  | dbgWrite (p : PairId) (space : Fin 4) (addr : Word) (v : Word)
  /-- DBG_HALT (R352): A halt-control write requests a halt of a pair. -/
  | dbgHalt (p : PairId)
  /-- DBG_RESUME (R352): A halt-control write resumes a halted pair. -/
  | dbgResume (p : PairId)
  /-- DBG_STEP (R352): A halt-control write single-steps a halted pair. -/
  | dbgStep (p : PairId)
  /-- DEBUG_HALT_TAKEN (R352): A requested halt is taken at the first boundary in a granted ring. -/
  | debugHaltTaken (p : PairId)
  /-- DEBUG_RIGHTS_EXPIRE (R349): DBG_LEFT reaches 0, so the rights end and halted pairs resume. -/
  | debugRightsExpire
  /-- WALE_SAMPLE (R356): An armed wale or case switch is sampled on main power and a mismatch counts as an event. -/
  | waleSample (n : Fin 52) (level : Bool)
  /-- BATTERY_SAMPLE (R371): On battery, armed wales and case switches are sampled at 64 Hz and can clear the key register. -/
  | batterySample (mon : Fin 101) (level : Bool)
  /-- MONITOR_EVENT (R361): A supply, clock, light, temperature, mesh or readback monitor registers an event in its window. -/
  | monitorEvent (mon : Fin 101)
  /-- TAMPER_RESET (R368): Within 25 µs after zeroisation the device resets with tamper as the cause. -/
  | tamperReset
  /-- VBAT_LOW (R371): With main power present, VBAT below 2.5 V sets BKLOW and logs an entry. -/
  | vbatLow
  /-- BACKUP_CHANGEOVER (R370): The backup domain changes supply between VDDIO_33 and VBAT, and the window counts are discarded. -/
  | backupChangeover (toBattery : Bool)
  /-- QUAR_LIFT (R367): A write of 0x0000_9A11 to TAMP.QUAR lifts a class 2 response. -/
  | quarLift (m : Master) (v : Word)
  /-- MCFG_WRITE (R361): A write to MCFG sets N, W and CLASS, or is ignored as a whole. -/
  | mcfgWrite (m : Master) (mon : Fin 101) (v : Word)
  /-- BIST_START (R362): TAMP.BIST.START stimulates one monitor. -/
  | bistStart (m : Master) (v : Word)
  /-- BIST_DONE (R362): The stimulation ends, and PASS and DONE are set. -/
  | bistDone (detected : Bool)
  /-- WALE_RESEED (R357): Writing RESEED, or writing MODE to pattern, requests a new LFSR seed. -/
  | waleReseed (m : Master) (n : Fin 48) (v : Word)
  /-- WALE_SEED_LOADED (R357): A pending seed is loaded once main power and a healthy RNG allow. -/
  | waleSeedLoaded (n : Fin 48)
  /-- CART_INSERT (R380): Ten low CD_N samples recognise an insertion and start identification. -/
  | cartInsert (k : Fin 8)
  /-- CART_RESPONSE (R382): A cartridge response or data block arrives and is checked, advancing the mount or operation. -/
  | cartResponse (k : Fin 8) (r : CartAnswer)
  /-- CART_TIMEOUT (R382): A response, read or busy limit expires, leading to a retry or FAULT_HW. -/
  | cartTimeout (x : CartExpiry)
  /-- CART_REMOVE (R393): A high CD_N sample recognises removal and ends all operations with PORT_ABSENT. -/
  | cartRemove (k : Fin 8)
  /-- CRT_SUBMIT (R387): A store to CRT.SUBMIT queues a cartridge read. -/
  | crtSubmit (p : PairId) (k : Fin 8) (v : Word)
  /-- CRT_STAGE (R388): A store to CRT.STAGE stages a cartridge write as an outbound frame. -/
  | crtStage (p : PairId) (k : Fin 8) (v : Word)
  /-- CART_BLOCK_CONFIRMED (R388): A written block's busy phase ends and a clean CMD13 confirms it. -/
  | cartBlockConfirmed (k : Fin 8)
  /-- JOPEN (R390): Gate 3 JOPEN writes the journal record with the pre-images and arms the write. -/
  | jopen (p : PairId) (readOk : Bool)
  /-- JCLOSE (R390): Gate 3 JCLOSE programs CLOSED and clears JARM. -/
  | jclose (p : PairId)
  /-- JCHECK (R391): Gate 3 JCHECK restores open records for the cartridge and sets READY. -/
  | jcheck (p : PairId)
  /-- JDISCARD (R390): Gate 3 JDISCARD closes an open record without restoring it. -/
  | jdiscard (p : PairId)
  /-- RF_MODE_WRITE (R397): A write of CFG.MODE takes effect once no item of the front end is started. -/
  | rfModeWrite (m : Master) (f : Fin 4) (v : Word)
  /-- RF_SUBMIT (R400): A store to RF.SUBMIT queues a reader exchange. -/
  | rfSubmit (p : PairId) (f : Fin 4) (v : Word)
  /-- RAW (R402): RAW sends one frame and receives one answer. -/
  | raw (f : Fin 4) (ans : RfAnswer)
  /-- RF_APDU (R402): The APDU exchange runs ISO-DEP with the active card. -/
  | rfApdu (f : Fin 4) (ans : RfAnswer)
  /-- INVENTORY (R406): INVENTORY runs anticollision and records the cards found. -/
  | inventory (f : Fin 4) (cards : List RfCard)
  /-- RF_ACTIVATE (R402): ACTIVATE selects a card and sends RATS or ATTRIB and PPS. -/
  | rfActivate (f : Fin 4) (ans : RfAnswer)
  /-- FIELD_RESET (R402): FIELD_RESET switches the field off for 68,000 fc and on again. -/
  | fieldReset (f : Fin 4)
  /-- RF_DEACTIVATE (R402): DEACTIVATE sends DESELECT to the active card. -/
  | rfDeactivate (f : Fin 4)
  /-- RF_EXCHANGE_DONE (R405): A reader exchange ends with its result record and doorbell. -/
  | rfExchangeDone (f : Fin 4)
  /-- FIELD_IDLE_OFF (R398): The reader field switches off after 1,356,000 fc with no exchange. -/
  | fieldIdleOff (f : Fin 4)
  /-- FIELD_DETECT (R408): An external field appears, and the emulated tag enters IDLE. -/
  | fieldDetect (f : Fin 4)
  /-- FIELD_LOSS (R408): The external field disappears, and the tag returns to OFF. -/
  | fieldLoss (f : Fin 4)
  /-- REQA (R407): A REQA from the field is answered with ATQA from IDLE. -/
  | reqa (f : Fin 4)
  /-- WUPA (R407): A WUPA from the field is answered with ATQA from IDLE or HALT. -/
  | wupa (f : Fin 4)
  /-- ANTICOLLISION (R407): An ANTICOLLISION frame is answered with UID bits. -/
  | anticollision (f : Fin 4) (cl : Fin 3) (nvb : Nat) (bits : List Byte)
  /-- SELECT (R407): SELECT is answered with SAK and can make the tag ACTIVE. -/
  | select (f : Fin 4) (cl : Fin 3) (uid : List Byte)
  /-- HLTA (R408): HLTA halts the tag. -/
  | hlta (f : Fin 4)
  /-- RATS (R407): RATS is answered with the ATS and enters PROTOCOL. -/
  | rats (f : Fin 4) (param : Byte)
  /-- PPS (R407): PPS changes the emulation rate, or is refused silently. -/
  | pps (f : Fin 4) (dsi dri : Fin 4)
  /-- DESELECT (R408): DESELECT puts the tag in HALT. -/
  | deselect (f : Fin 4)
  /-- TAG_READ (R409): The tag READ command returns a block under the sector rights. -/
  | tagRead (f : Fin 4) (r : TagReading)
  /-- TAG_WRITE (R414): The tag WRITE command writes a block by a copy flip. -/
  | tagWrite (f : Fin 4) (inf : List Byte)
  /-- PWD (R412): PWD compares a password and may enter SECURED_PWD. -/
  | pwd (f : Fin 4) (inf : List Byte)
  /-- AUTH1 (R410): AUTH1 starts the AES handshake and returns RB and TT. -/
  | auth1 (f : Fin 4) (inf : List Byte)
  /-- AUTH2 (R410): AUTH2 completes the handshake into SECURED_AES. -/
  | auth2 (f : Fin 4) (inf : List Byte)
  /-- INFO (R409): INFO returns the UID, tag state and block count. -/
  | info (f : Fin 4) (inf : List Byte)
  /-- TKEY_LOAD (R411): A store to RF.TKEY loads or clears the tag AES key. -/
  | tkeyLoad (p : PairId) (f : Fin 4) (v : Word)
  /-- TAG_STAGE (R416): A store to TSTG<7> stages a wired tag store write. -/
  | tagStage (p : PairId) (f : Fin 4) (v : Word)
  /-- TAG_STORE_LOAD (R417): A wired load of the tag store window returns the selected copy, after any open section. -/
  | tagStoreLoad (p : PairId) (f : Fin 4) (off : Fin 4096) (chk : WordCheck)
  /-- HEAD_PROBE (R423): Every 32 Beats a PROBE is sent, and three unanswered probes declare the head lost. -/
  | headProbe (hd : Fin 32)
  /-- PRESENT (R423): A PRESENT frame records the head's presence and HID. -/
  | present (hd : Fin 32) (hid : List Byte)
  /-- KEYX2 (R425): A KEYX2 frame is verified under KS, KEYX3 is sent and KEYED sets. -/
  | keyx2 (hd : Fin 32) (rh : List Byte) (fseq : Word) (tagOk : Bool)
  /-- KEYX_TIMEOUT (R425): No KEYX2 arrives within 100,000 bit times, so KS is destroyed. -/
  | keyxTimeout (hd : Fin 32)
  /-- HEAD_CMD (R427): A keyed CMD frame is checked and posted as a command. -/
  | headCmd (hd : Fin 32) (fseq : Word) (tagOk : Bool) (hdr : List Word) (params : List Byte) (adm : Admission)
  /-- HKEY_LOAD (R424): A store to HEAD.HKEY loads or clears the head key. -/
  | hkeyLoad (p : PairId) (hd : Fin 32) (v : Word)
  /-- HEAD_STAGE (R429): A store to HEAD.STAGE stages a NOTICE frame. -/
  | headStage (p : PairId) (hd : Fin 32) (v : Word)
  /-- SC_SUBMIT (R435): A store to SC.SUBMIT queues a contact card exchange. -/
  | scSubmit (p : PairId) (n : Fin 2) (v : Word)
  /-- SC_ACTIVATE (R434): ACTIVATE powers and resets the card, reads the ATR and negotiates PPS. -/
  | scActivate (n : Fin 2) (r : AtrResult)
  /-- SC_APDU_EXCHANGE (R436): An APDU exchange runs by T=0 or T=1. -/
  | scApduExchange (n : Fin 2) (r : RfAnswer)
  /-- SC_DEACTIVATE (R436): DEACTIVATE powers the card down in the order of ISO/IEC 7816-3. -/
  | scDeactivate (n : Fin 2)
  /-- SC_EXCHANGE_DONE (R436): A contact card exchange ends with its result record and doorbell. -/
  | scExchangeDone (n : Fin 2)
  /-- ACT_STAGE (R438): A store to ACT.STG1 stages a release pulse, or records a refusal. -/
  | actStage (p : PairId) (v : Word)
  /-- ACT_PULSE_START (R439): A released pulse begins within 2,500 crystal cycles and drives the active level. -/
  | actPulseStart (n : Fin 16) (t : Nat)
  /-- ACT_PULSE_END (R439): The pulse length expires and the output returns to its inactive level. -/
  | actPulseEnd (n : Fin 16) (t : Nat)
  /-- ACT_READBACK (R440): A readback check compares RB with the expected level and raises a monitor event on a mismatch. -/
  | actReadback (n : Fin 16) (t : Nat) (rb : Bool)
  /-- HELLO (R448): A HELLO frame can key a link or report a node conflict. -/
  | hello (l : Fin 8) (f : HelloFrame)
  /-- KHELLO (R448): A KHELLO frame that verifies keys the link and refreshes the neighbour. -/
  | khello (l : Fin 8) (fr : KeyedFrame) (prio flags : Byte) (master members : Nat)
  /-- REKEY (R449): A REKEY frame is answered and the new link key is derived. -/
  | rekey (l : Fin 8) (fr : KeyedFrame) (rn : List Byte)
  /-- ROUTE (R452): A ROUTE frame updates the domain map by distance vector. -/
  | route (l : Fin 8) (fr : KeyedFrame) (entries : List RouteEntry)
  /-- TIME (R458): A TIME frame anchors basket time and checks the mark count. -/
  | time (l : Fin 8) (fr : KeyedFrame) (btime : Nat) (master : Nat)
  /-- BEAT_MARK (R458): A Beat mark accepted upstream is forwarded and disciplines the basket source. -/
  | beatMark (l : Fin 8) (t : Nat)
  /-- MSG (R454): An MSG frame posts a command from another member. -/
  | msg (l : Fin 8) (fr : KeyedFrame) (hdr : List Word) (params : List Byte) (adm : Admission)
  /-- MREPLY (R454): An MREPLY frame returns a reply to its source member. -/
  | mreply (l : Fin 8) (fr : KeyedFrame) (hdr : List Word) (data : List Byte)
  /-- MUPD (R460): A partner applies an MUPD as a WRITE of the copy and acknowledges it. -/
  | mupd (l : Fin 8) (fr : KeyedFrame) (u : MirrorUpdate)
  /-- MACK (R461): An MACK acknowledges a mirrored update or copy at the origin. -/
  | mack (l : Fin 8) (fr : KeyedFrame) (u : MirrorAck)
  /-- MCOPY (R465): An MCOPY makes the receiver allocate or refresh a copy entry. -/
  | mcopy (l : Fin 8) (fr : KeyedFrame) (u : MirrorUpdate)
  /-- MDROP (R465): An MDROP frees a copy and its mirror entry. -/
  | mdrop (l : Fin 8) (fr : KeyedFrame) (u : MirrorAck)
  /-- MSYNC_ORIGIN_QUERY (R468): MSYNC KIND 0 asks the partner for its HLSN and image. -/
  | msyncOriginQuery (l : Fin 8) (fr : KeyedFrame) (u : MirrorSync)
  /-- MSYNC_ANSWER (R468): MSYNC KIND 1 resolves a RESYNC entry at the origin. -/
  | msyncAnswer (l : Fin 8) (fr : KeyedFrame) (u : MirrorSync)
  /-- MSYNC_COPY_QUERY (R467): MSYNC KIND 2 asks the origin whether to keep a copy. -/
  | msyncCopyQuery (l : Fin 8) (fr : KeyedFrame) (u : MirrorSync)
  /-- MSYNC_VERDICT (R467): MSYNC KIND 3 keeps, drops or supersedes a copy. -/
  | msyncVerdict (l : Fin 8) (fr : KeyedFrame) (u : MirrorSync)
  /-- HELLO_TIMER (R448): Every 16 Beats an unkeyed link sends HELLO with a fresh RN. -/
  | helloTimer (l : Fin 8)
  /-- KHELLO_TIMER (R450): Every 16 Beats a keyed link sends KHELLO. -/
  | khelloTimer (l : Fin 8)
  /-- NEIGHBOUR_LOST (R450): 64 Beats without an accepted frame declare the neighbour lost and unkey the link. -/
  | neighbourLost (l : Fin 8)
  /-- ROUTE_TIMER (R452): A map change, or 1,024 Beats, sends ROUTE to the neighbours. -/
  | routeTimer (l : Fin 8)
  /-- TIME_TIMER (R457): Every 1,024 Beats the time master sends TIME. -/
  | timeTimer
  /-- REKEY_TIMEOUT (R449): No REKEY answer arrives within 16 Beats, so the link becomes unkeyed. -/
  | rekeyTimeout (l : Fin 8)
  /-- MUPD_RESEND (R461): MIRROR.WAIT / 2 cycles without an MACK send MUPD again. -/
  | mupdResend (i : Fin 131072)
  /-- MIRROR_WAIT_EXPIRE (R461): MIRROR.WAIT expires, so the mirror entry becomes ORPHAN and the group commits. -/
  | mirrorWaitExpire (i : Fin 131072)
  /-- BKEY_LOAD (R455): A store to WEAVE.BKEY loads the basket key. -/
  | bkeyLoad (p : PairId) (v : Word)
  /-- POWER_ON (R471): The main rails reach their operating levels and a power-on reset clears the device. -/
  | powerOn
  /-- PIN_RESET (R471): RST_N low for at least 1 µs causes a device-level reset. -/
  | pinReset (ns : Nat)
  /-- SUPPLY_FALL (R498): A falling supply crosses a threshold, raising events or holding power-on reset. -/
  | supplyFall (rail : Rail) (mv : Nat)
  /-- BOOT (R476): After a reset ends, the boot sequence runs its stages to the supervisor image. -/
  | boot (env : BootEnv)
  /-- GATE0_READY (R481): Gate 0 READY sets BOOT.READY. -/
  | gate0Ready (p : PairId)
  /-- GATE0_RESET (R482): Gate 0 RESET with the key resets the device. -/
  | gate0Reset (p : PairId)
  /-- ASH_WRITE (R488): Gate 0 ASH_WRITE writes an encrypted dump into an ash slot. -/
  | ashWrite (p : PairId)
  /-- ASH_ERASE (R482): Gate 0 ASH_ERASE erases an ash slot. -/
  | ashErase (p : PairId)
  /-- FLOOR (R482): Gate 0 FLOOR raises the supervisor version floor. -/
  | floor (p : PairId)
  /-- ASH_OPEN (R490): Gate 0 ASH_OPEN decrypts a dump into hearth memory. -/
  | ashOpen (p : PairId)
  /-- LOG_WRITE (R486): A supervisor store to LOG_W<7> writes an event-log entry. -/
  | logWrite (p : PairId) (v : Word)
  /-- LOG_IDX_WRITE (R492): A write to LOG_IDX loads LOG_DATA with an entry. -/
  | logIdxWrite (m : Master) (v : Word)
  /-- MGT_ENTRY_SENT (R487): An entry finishes transmission on MGT_TX and the next one starts. -/
  | mgtEntrySent
  /-- LOW_WORD_READ (R9): A read of the least significant word of a value wider than 32 bits copies the higher words into the reader's hold. -/
  | lowWordRead (m : Master) (a : Word)
  /-- MAPIDX_WRITE (R470): A write to WEAVE.MAPIDX loads MAPDATA0 and MAPDATA1 with the domain map entry of the named node. -/
  | mapidxWrite (m : Master) (v : Word)
  /-- HOST_LINK_UP (R217): A host link completes PCI Express training and LSTAT.LINK_UP, SPEED and WIDTH are set. -/
  | hostLinkUp (l : Fin 2) (speed : Fin 4) (width : Fin 3)
  /-- WEAVE_SYNC_GAINED (R443): A Weave receiver sees 64 consecutive valid idle sets and is in sync. -/
  | weaveSyncGained (l : Fin 8)
  /-- WEAVE_SYNC_LOST (R443): A Weave receiver sees 4 invalid code groups within 16 and loses sync. -/
  | weaveSyncLost (l : Fin 8)
  /-- BACKUP_DOMAIN_RESET (R370): VBAT and VDDIO_33 are both absent, so the backup domain loses its state and restarts with everything zero and nothing armed. -/
  | backupDomainReset
  /-- BACKUP_TICK (R375): The 64 Hz backup oscillator tick increments BKTICK while main power is present. -/
  | backupTick
  /-- VBAT_LOW_END (R371): With main power present, VBAT rises back to 2.5 V or above and BKLOW reads 0 again. -/
  | vbatLowEnd
  deriving DecidableEq, Repr

end Sys2Proof
end

