-- ==== Sys2Proof/Machine/Bits.lean ====
section
/-! DEFINITION. Bit fields of a word, sign extension, byte order (R5) and the arithmetic that the instructions of
chapter 04 use on single words. -/

namespace Sys2Proof.Machine

/-- Bits [hi:lo] of a word, as a natural. -/
def fld (hi lo : Nat) (w : Word) : Nat := (w >>> lo).toNat % 2 ^ (hi + 1 - lo)

/-- The word with ones in bits [hi:lo] and zeros elsewhere. -/
def fieldMask (hi lo : Nat) : Word := wd ((2 ^ (hi + 1 - lo) - 1) * 2 ^ lo)

/-- The word with bits [hi:lo] replaced by the low bits of `n`. -/
def setFld (hi lo n : Nat) (w : Word) : Word :=
  (w &&& ~~~fieldMask hi lo) ||| (wd (n % 2 ^ (hi + 1 - lo) * 2 ^ lo))

/-- Bit `i` of a word. -/
def bit (i : Nat) (w : Word) : Bool := w.getLsbD i

/-- A flag as the number a field holds. -/
def b2n (b : Bool) : Nat := if b then 1 else 0

/-- Sign extension of the low `n` bits of a word (R90). -/
def sextWord (n : Nat) (w : Word) : Word := (w.setWidth n).signExtend 32

/-- The two's-complement value of the low `n` bits of a natural. -/
def toSigned (n v : Nat) : Int := if v % 2 ^ n < 2 ^ (n - 1) then (v % 2 ^ n : Int) else (v % 2 ^ n : Int) - 2 ^ n

/-- An integer modulo 2^n. -/
def ofSigned (n : Nat) (v : Int) : Nat := (v % (2 ^ n : Int)).toNat

/-- Saturating sum: the counters that the manual calls saturating at `top`. -/
def satAdd (top a b : Nat) : Nat := min top (a + b)

/-- The `n` bytes of a natural, least significant first (R5). -/
def leBytes : Nat → Nat → List Byte
  | 0, _ => []
  | n + 1, v => BitVec.ofNat 8 v :: leBytes n (v / 256)

/-- The natural of a byte list, least significant first (R5). -/
def ofLe : List Byte → Nat
  | [] => 0
  | b :: bs => b.toNat + 256 * ofLe bs

/-- The `n` bytes of a natural, most significant first, for the published wire formats. -/
def beBytes (n v : Nat) : List Byte := (leBytes n v).reverse

/-- The natural of a byte list, most significant first. -/
def ofBe (bs : List Byte) : Nat := ofLe bs.reverse

/-- The four bytes of a word. -/
def wordBytes (w : Word) : List Byte := leBytes 4 w.toNat

/-- The bytes of a list of words. -/
def wordsBytes (ws : List Word) : List Byte := ws.flatMap wordBytes

/-- The words of a byte list; a last part of fewer than four bytes is filled with zeros. -/
def toWords : List Byte → List Word
  | [] => []
  | a :: b :: c :: d :: r => wd (ofLe [a, b, c, d]) :: toWords r
  | r => [wd (ofLe r)]

/-- `n` bytes at offset `o` of a byte list, with zeros beyond its end. -/
def slice (bs : List Byte) (o n : Nat) : List Byte :=
  let t := (bs.drop o).take n
  t ++ List.replicate (n - t.length) 0

/-- The little-endian natural of `n` bytes at offset `o`. -/
def leAt (bs : List Byte) (o n : Nat) : Nat := ofLe (slice bs o n)

/-- Byte-wise exclusive or, as long as the shorter list. -/
def xorBytes (a b : List Byte) : List Byte := List.zipWith (· ^^^ ·) a b

/-- `n` zero bytes. -/
def zeros (n : Nat) : List Byte := List.replicate n 0

/-- A byte of given number. -/
def byte (n : Nat) : Byte := BitVec.ofNat 8 n

/-- The number of leading zero bits (R95, clz): 32 for zero. -/
def clzWord (w : Word) : Nat := if w = 0 then 32 else 31 - w.toNat.log2

/-- The number of one bits (R95, pop). -/
def popWord (w : Word) : Nat := (List.range 32).countP (fun i => w.getLsbD i)

/-- The four bytes in reverse order (R95, bswap). -/
def bswapWord (w : Word) : Word := wd (ofLe (wordBytes w).reverse)

/-- The carry-less product of two words, 63 bits (R101, clmul). -/
def clmulWord (a b : Word) : BitVec 64 :=
  (List.range 32).foldl (fun acc i => if b.getLsbD i then acc ^^^ (a.setWidth 64 <<< i) else acc) 0

/-- The quotient rounded up. -/
def ceilDiv (a b : Nat) : Nat := (a + b - 1) / b

end Sys2Proof.Machine
end

