-- ==== Sys2Proof/Machine/Crypto.lean ====
section
/-! DEFINITION. The published primitives that the manual names: SHA-256, CRC-32C, AES (FIPS 197) with its block modes and
CMAC, TDEA, and the modes GCM and CCM, written from the standards. -/

namespace Sys2Proof.Machine

/-! ## SHA-256 -/

/-- The initial hash value of SHA-256. -/
def sha256Init : List Word :=
  [0x6A09E667#32, 0xBB67AE85#32, 0x3C6EF372#32, 0xA54FF53A#32, 0x510E527F#32, 0x9B05688C#32, 0x1F83D9AB#32, 0x5BE0CD19#32]

/-- The round constants of SHA-256. -/
def sha256K : List Word :=
  [0x428A2F98#32, 0x71374491#32, 0xB5C0FBCF#32, 0xE9B5DBA5#32, 0x3956C25B#32, 0x59F111F1#32, 0x923F82A4#32, 0xAB1C5ED5#32,
   0xD807AA98#32, 0x12835B01#32, 0x243185BE#32, 0x550C7DC3#32, 0x72BE5D74#32, 0x80DEB1FE#32, 0x9BDC06A7#32, 0xC19BF174#32,
   0xE49B69C1#32, 0xEFBE4786#32, 0x0FC19DC6#32, 0x240CA1CC#32, 0x2DE92C6F#32, 0x4A7484AA#32, 0x5CB0A9DC#32, 0x76F988DA#32,
   0x983E5152#32, 0xA831C66D#32, 0xB00327C8#32, 0xBF597FC7#32, 0xC6E00BF3#32, 0xD5A79147#32, 0x06CA6351#32, 0x14292967#32] ++
  [0x27B70A85#32, 0x2E1B2138#32, 0x4D2C6DFC#32, 0x53380D13#32, 0x650A7354#32, 0x766A0ABB#32, 0x81C2C92E#32, 0x92722C85#32,
   0xA2BFE8A1#32, 0xA81A664B#32, 0xC24B8B70#32, 0xC76C51A3#32, 0xD192E819#32, 0xD6990624#32, 0xF40E3585#32, 0x106AA070#32,
   0x19A4C116#32, 0x1E376C08#32, 0x2748774C#32, 0x34B0BCB5#32, 0x391C0CB3#32, 0x4ED8AA4A#32, 0x5B9CCA4F#32, 0x682E6FF3#32,
   0x748F82EE#32, 0x78A5636F#32, 0x84C87814#32, 0x8CC70208#32, 0x90BEFFFA#32, 0xA4506CEB#32, 0xBEF9A3F7#32, 0xC67178F2#32]

/-- Σ0, Σ1, σ0 and σ1 of SHA-256. -/
def shaBig0 (x : Word) : Word := x.rotateRight 2 ^^^ x.rotateRight 13 ^^^ x.rotateRight 22
/-- Σ1. -/
def shaBig1 (x : Word) : Word := x.rotateRight 6 ^^^ x.rotateRight 11 ^^^ x.rotateRight 25
/-- σ0. -/
def shaSmall0 (x : Word) : Word := x.rotateRight 7 ^^^ x.rotateRight 18 ^^^ x >>> 3
/-- σ1. -/
def shaSmall1 (x : Word) : Word := x.rotateRight 17 ^^^ x.rotateRight 19 ^^^ x >>> 10

/-- The message schedule grown by `n` words, newest first. -/
def shaSchedule : Nat → List Word → List Word
  | 0, w => w
  | n + 1, w => shaSchedule n ((shaSmall1 (w.getD 1 0) + w.getD 6 0 + shaSmall0 (w.getD 14 0) + w.getD 15 0) :: w)

/-- One round on the eight working variables. -/
def shaRound (v : List Word) (kw : Word) : List Word :=
  let a := v.getD 0 0
  let b := v.getD 1 0
  let c := v.getD 2 0
  let e := v.getD 4 0
  let t1 := v.getD 7 0 + shaBig1 e + ((e &&& v.getD 5 0) ^^^ (~~~e &&& v.getD 6 0)) + kw
  let t2 := shaBig0 a + ((a &&& b) ^^^ (a &&& c) ^^^ (b &&& c))
  [t1 + t2, a, b, c, v.getD 3 0 + t1, e, v.getD 5 0, v.getD 6 0]

/-- One 64-byte block. -/
def shaBlock (h : List Word) (blk : List Byte) : List Word :=
  let w := (List.range 16).map (fun i => wd (ofBe (slice blk (4 * i) 4)))
  let ws := (shaSchedule 48 w.reverse).reverse
  List.zipWith (· + ·) h ((List.zipWith (· + ·) sha256K ws).foldl shaRound h)

/-- `n` blocks of a message. -/
def shaBlocks : Nat → List Word → List Byte → List Word
  | 0, h, _ => h
  | n + 1, h, m => shaBlocks n (shaBlock h (m.take 64)) (m.drop 64)

/-- SHA-256 (FIPS 180-4): 32 bytes. -/
def sha256 (m : List Byte) : List Byte :=
  let k := (119 - m.length % 64) % 64
  let p := m ++ [0x80#8] ++ zeros k ++ beBytes 8 (8 * m.length)
  (shaBlocks (p.length / 64) sha256Init p).flatMap (fun w => beBytes 4 w.toNat)

/-! ## CRC-32C -/

/-- One byte of the reflected CRC-32C (polynomial 0x1EDC6F41). -/
def crcByte (c : Word) (b : Byte) : Word :=
  (List.range 8).foldl (fun c _ => if bit 0 c then (c >>> 1) ^^^ 0x82F63B78#32 else c >>> 1) (c ^^^ b.setWidth 32)

/-- CRC-32C of a message. -/
def crc32c (m : List Byte) : Word := ~~~(m.foldl crcByte 0xFFFFFFFF#32)

/-! ## AES -/

/-- The S-box of AES. -/
def aesSbox : List Byte :=
  [0x63#8, 0x7C#8, 0x77#8, 0x7B#8, 0xF2#8, 0x6B#8, 0x6F#8, 0xC5#8, 0x30#8, 0x01#8, 0x67#8, 0x2B#8, 0xFE#8, 0xD7#8, 0xAB#8, 0x76#8,
   0xCA#8, 0x82#8, 0xC9#8, 0x7D#8, 0xFA#8, 0x59#8, 0x47#8, 0xF0#8, 0xAD#8, 0xD4#8, 0xA2#8, 0xAF#8, 0x9C#8, 0xA4#8, 0x72#8, 0xC0#8] ++
  [0xB7#8, 0xFD#8, 0x93#8, 0x26#8, 0x36#8, 0x3F#8, 0xF7#8, 0xCC#8, 0x34#8, 0xA5#8, 0xE5#8, 0xF1#8, 0x71#8, 0xD8#8, 0x31#8, 0x15#8,
   0x04#8, 0xC7#8, 0x23#8, 0xC3#8, 0x18#8, 0x96#8, 0x05#8, 0x9A#8, 0x07#8, 0x12#8, 0x80#8, 0xE2#8, 0xEB#8, 0x27#8, 0xB2#8, 0x75#8] ++
  [0x09#8, 0x83#8, 0x2C#8, 0x1A#8, 0x1B#8, 0x6E#8, 0x5A#8, 0xA0#8, 0x52#8, 0x3B#8, 0xD6#8, 0xB3#8, 0x29#8, 0xE3#8, 0x2F#8, 0x84#8,
   0x53#8, 0xD1#8, 0x00#8, 0xED#8, 0x20#8, 0xFC#8, 0xB1#8, 0x5B#8, 0x6A#8, 0xCB#8, 0xBE#8, 0x39#8, 0x4A#8, 0x4C#8, 0x58#8, 0xCF#8] ++
  [0xD0#8, 0xEF#8, 0xAA#8, 0xFB#8, 0x43#8, 0x4D#8, 0x33#8, 0x85#8, 0x45#8, 0xF9#8, 0x02#8, 0x7F#8, 0x50#8, 0x3C#8, 0x9F#8, 0xA8#8,
   0x51#8, 0xA3#8, 0x40#8, 0x8F#8, 0x92#8, 0x9D#8, 0x38#8, 0xF5#8, 0xBC#8, 0xB6#8, 0xDA#8, 0x21#8, 0x10#8, 0xFF#8, 0xF3#8, 0xD2#8] ++
  [0xCD#8, 0x0C#8, 0x13#8, 0xEC#8, 0x5F#8, 0x97#8, 0x44#8, 0x17#8, 0xC4#8, 0xA7#8, 0x7E#8, 0x3D#8, 0x64#8, 0x5D#8, 0x19#8, 0x73#8,
   0x60#8, 0x81#8, 0x4F#8, 0xDC#8, 0x22#8, 0x2A#8, 0x90#8, 0x88#8, 0x46#8, 0xEE#8, 0xB8#8, 0x14#8, 0xDE#8, 0x5E#8, 0x0B#8, 0xDB#8] ++
  [0xE0#8, 0x32#8, 0x3A#8, 0x0A#8, 0x49#8, 0x06#8, 0x24#8, 0x5C#8, 0xC2#8, 0xD3#8, 0xAC#8, 0x62#8, 0x91#8, 0x95#8, 0xE4#8, 0x79#8,
   0xE7#8, 0xC8#8, 0x37#8, 0x6D#8, 0x8D#8, 0xD5#8, 0x4E#8, 0xA9#8, 0x6C#8, 0x56#8, 0xF4#8, 0xEA#8, 0x65#8, 0x7A#8, 0xAE#8, 0x08#8] ++
  [0xBA#8, 0x78#8, 0x25#8, 0x2E#8, 0x1C#8, 0xA6#8, 0xB4#8, 0xC6#8, 0xE8#8, 0xDD#8, 0x74#8, 0x1F#8, 0x4B#8, 0xBD#8, 0x8B#8, 0x8A#8,
   0x70#8, 0x3E#8, 0xB5#8, 0x66#8, 0x48#8, 0x03#8, 0xF6#8, 0x0E#8, 0x61#8, 0x35#8, 0x57#8, 0xB9#8, 0x86#8, 0xC1#8, 0x1D#8, 0x9E#8] ++
  [0xE1#8, 0xF8#8, 0x98#8, 0x11#8, 0x69#8, 0xD9#8, 0x8E#8, 0x94#8, 0x9B#8, 0x1E#8, 0x87#8, 0xE9#8, 0xCE#8, 0x55#8, 0x28#8, 0xDF#8,
   0x8C#8, 0xA1#8, 0x89#8, 0x0D#8, 0xBF#8, 0xE6#8, 0x42#8, 0x68#8, 0x41#8, 0x99#8, 0x2D#8, 0x0F#8, 0xB0#8, 0x54#8, 0xBB#8, 0x16#8]

/-- The inverse S-box of AES. -/
def aesInvSbox : List Byte :=
  [0x52#8, 0x09#8, 0x6A#8, 0xD5#8, 0x30#8, 0x36#8, 0xA5#8, 0x38#8, 0xBF#8, 0x40#8, 0xA3#8, 0x9E#8, 0x81#8, 0xF3#8, 0xD7#8, 0xFB#8,
   0x7C#8, 0xE3#8, 0x39#8, 0x82#8, 0x9B#8, 0x2F#8, 0xFF#8, 0x87#8, 0x34#8, 0x8E#8, 0x43#8, 0x44#8, 0xC4#8, 0xDE#8, 0xE9#8, 0xCB#8] ++
  [0x54#8, 0x7B#8, 0x94#8, 0x32#8, 0xA6#8, 0xC2#8, 0x23#8, 0x3D#8, 0xEE#8, 0x4C#8, 0x95#8, 0x0B#8, 0x42#8, 0xFA#8, 0xC3#8, 0x4E#8,
   0x08#8, 0x2E#8, 0xA1#8, 0x66#8, 0x28#8, 0xD9#8, 0x24#8, 0xB2#8, 0x76#8, 0x5B#8, 0xA2#8, 0x49#8, 0x6D#8, 0x8B#8, 0xD1#8, 0x25#8] ++
  [0x72#8, 0xF8#8, 0xF6#8, 0x64#8, 0x86#8, 0x68#8, 0x98#8, 0x16#8, 0xD4#8, 0xA4#8, 0x5C#8, 0xCC#8, 0x5D#8, 0x65#8, 0xB6#8, 0x92#8,
   0x6C#8, 0x70#8, 0x48#8, 0x50#8, 0xFD#8, 0xED#8, 0xB9#8, 0xDA#8, 0x5E#8, 0x15#8, 0x46#8, 0x57#8, 0xA7#8, 0x8D#8, 0x9D#8, 0x84#8] ++
  [0x90#8, 0xD8#8, 0xAB#8, 0x00#8, 0x8C#8, 0xBC#8, 0xD3#8, 0x0A#8, 0xF7#8, 0xE4#8, 0x58#8, 0x05#8, 0xB8#8, 0xB3#8, 0x45#8, 0x06#8,
   0xD0#8, 0x2C#8, 0x1E#8, 0x8F#8, 0xCA#8, 0x3F#8, 0x0F#8, 0x02#8, 0xC1#8, 0xAF#8, 0xBD#8, 0x03#8, 0x01#8, 0x13#8, 0x8A#8, 0x6B#8] ++
  [0x3A#8, 0x91#8, 0x11#8, 0x41#8, 0x4F#8, 0x67#8, 0xDC#8, 0xEA#8, 0x97#8, 0xF2#8, 0xCF#8, 0xCE#8, 0xF0#8, 0xB4#8, 0xE6#8, 0x73#8,
   0x96#8, 0xAC#8, 0x74#8, 0x22#8, 0xE7#8, 0xAD#8, 0x35#8, 0x85#8, 0xE2#8, 0xF9#8, 0x37#8, 0xE8#8, 0x1C#8, 0x75#8, 0xDF#8, 0x6E#8] ++
  [0x47#8, 0xF1#8, 0x1A#8, 0x71#8, 0x1D#8, 0x29#8, 0xC5#8, 0x89#8, 0x6F#8, 0xB7#8, 0x62#8, 0x0E#8, 0xAA#8, 0x18#8, 0xBE#8, 0x1B#8,
   0xFC#8, 0x56#8, 0x3E#8, 0x4B#8, 0xC6#8, 0xD2#8, 0x79#8, 0x20#8, 0x9A#8, 0xDB#8, 0xC0#8, 0xFE#8, 0x78#8, 0xCD#8, 0x5A#8, 0xF4#8] ++
  [0x1F#8, 0xDD#8, 0xA8#8, 0x33#8, 0x88#8, 0x07#8, 0xC7#8, 0x31#8, 0xB1#8, 0x12#8, 0x10#8, 0x59#8, 0x27#8, 0x80#8, 0xEC#8, 0x5F#8,
   0x60#8, 0x51#8, 0x7F#8, 0xA9#8, 0x19#8, 0xB5#8, 0x4A#8, 0x0D#8, 0x2D#8, 0xE5#8, 0x7A#8, 0x9F#8, 0x93#8, 0xC9#8, 0x9C#8, 0xEF#8] ++
  [0xA0#8, 0xE0#8, 0x3B#8, 0x4D#8, 0xAE#8, 0x2A#8, 0xF5#8, 0xB0#8, 0xC8#8, 0xEB#8, 0xBB#8, 0x3C#8, 0x83#8, 0x53#8, 0x99#8, 0x61#8,
   0x17#8, 0x2B#8, 0x04#8, 0x7E#8, 0xBA#8, 0x77#8, 0xD6#8, 0x26#8, 0xE1#8, 0x69#8, 0x14#8, 0x63#8, 0x55#8, 0x21#8, 0x0C#8, 0x7D#8]

/-- A byte through the S-box. -/
def subByte (b : Byte) : Byte := aesSbox.getD b.toNat 0
/-- A byte through the inverse S-box. -/
def invSubByte (b : Byte) : Byte := aesInvSbox.getD b.toNat 0

/-- Multiplication by x in GF(2^8). -/
def xtime (b : Byte) : Byte := if b.getLsbD 7 then (b <<< 1) ^^^ 0x1B#8 else b <<< 1
/-- Multiplication in GF(2^8) by a constant below 16. -/
def gmul8 (n : Nat) (b : Byte) : Byte :=
  let b2 := xtime b
  let b4 := xtime b2
  let b8 := xtime b4
  (if n % 2 = 1 then b else 0) ^^^ (if n / 2 % 2 = 1 then b2 else 0) ^^^ (if n / 4 % 2 = 1 then b4 else 0) ^^^
    (if n / 8 % 2 = 1 then b8 else 0)

/-- The round constant of step i (from 1). -/
def aesRcon (i : Nat) : Byte := (List.range (i - 1)).foldl (fun b _ => xtime b) 1

/-- The key schedule grown by `n` words of four bytes; newest first, `nk` words of key, `i` words so far. -/
def aesExpand (nk : Nat) : Nat → Nat → List (List Byte) → List (List Byte)
  | 0, _, w => w
  | n + 1, i, w =>
    let t := w.headD []
    let t :=
      if i % nk = 0 then
        let r := (t.drop 1 ++ t.take 1).map subByte
        ((r.headD 0) ^^^ aesRcon (i / nk)) :: r.drop 1
      else if 6 < nk ∧ i % nk = 4 then t.map subByte
      else t
    aesExpand nk n (i + 1) (xorBytes (w.getD (nk - 1) []) t :: w)

/-- The round keys of a key of 16, 24 or 32 bytes, 16 bytes each. -/
def aesKeys (key : List Byte) : List (List Byte) :=
  let nk := key.length / 4
  let init := ((List.range nk).map (fun i => slice key (4 * i) 4)).reverse
  let ws := (aesExpand nk (4 * (nk + 7) - nk) nk init).reverse.flatten
  (List.range (nk + 7)).map (fun i => slice ws (16 * i) 16)

/-- ShiftRows on a block in column order. -/
def shiftRows (b : List Byte) : List Byte := (List.range 16).map (fun i => b.getD ((i + 4 * (i % 4)) % 16) 0)
/-- InvShiftRows. -/
def invShiftRows (b : List Byte) : List Byte := (List.range 16).map (fun i => b.getD ((i + 12 * (i % 4)) % 16) 0)
/-- A column mixed with the row (c0, c1, c2, c3) of the circulant matrix. -/
def mixCol (c0 c1 c2 c3 : Nat) (b : List Byte) : List Byte :=
  (List.range 16).map (fun i =>
    let k := i / 4 * 4
    gmul8 c0 (b.getD i 0) ^^^ gmul8 c1 (b.getD (k + (i + 1) % 4) 0) ^^^ gmul8 c2 (b.getD (k + (i + 2) % 4) 0) ^^^
      gmul8 c3 (b.getD (k + (i + 3) % 4) 0))

/-- AES encryption of one block under round keys. -/
def aesEncKeys : List (List Byte) → List Byte → List Byte
  | [], b => b
  | [k], b => xorBytes (shiftRows (b.map subByte)) k
  | k :: ks, b => aesEncKeys ks (xorBytes (mixCol 2 3 1 1 (shiftRows (b.map subByte))) k)

/-- AES encryption of one 16-byte block. -/
def aesEnc (key blk : List Byte) : List Byte :=
  match aesKeys key with
  | [] => blk
  | k :: ks => aesEncKeys ks (xorBytes blk k)

/-- The rounds of AES decryption under round keys in reverse order. -/
def aesDecKeys : List (List Byte) → List Byte → List Byte
  | [], b => b
  | [k], b => xorBytes ((invShiftRows b).map invSubByte) k
  | k :: ks, b => aesDecKeys ks (mixCol 14 11 13 9 (xorBytes ((invShiftRows b).map invSubByte) k))

/-- AES decryption of one 16-byte block. -/
def aesDec (key blk : List Byte) : List Byte :=
  match (aesKeys key).reverse with
  | [] => blk
  | k :: ks => aesDecKeys ks (xorBytes blk k)

/-- The 16-byte blocks of a message; a last part that is shorter stays shorter. -/
def blocksOf (n : Nat) : Nat → List Byte → List (List Byte)
  | 0, _ => []
  | k + 1, m => if m.isEmpty then [] else m.take n :: blocksOf n k (m.drop n)

/-- The blocks of 16 bytes of a message. -/
def blocks16 (m : List Byte) : List (List Byte) := blocksOf 16 (m.length + 1) m

/-! ## CMAC (NIST SP 800-38B) -/

/-- A block doubled in GF(2^n), as wide as its length, with the constant of its width (0x87 for 16 bytes, 0x1B for 8). -/
def cmacDouble (b : List Byte) : List Byte :=
  let n := b.length
  let v := ofBe b
  let d := (2 * v) % 2 ^ (8 * n)
  beBytes n (if v / 2 ^ (8 * n - 1) = 1 then d ^^^ (if n = 16 then 0x87 else 0x1B) else d)

/-- CMAC over a block cipher of `n`-byte blocks. -/
def cmacWith (enc : List Byte → List Byte) (n : Nat) (m : List Byte) : List Byte :=
  let k1 := cmacDouble (enc (zeros n))
  let k2 := cmacDouble k1
  let bs := blocksOf n (m.length + 1) m
  let last := bs.getLastD []
  let whole := last.length = n
  let fin := if whole then xorBytes last k1 else xorBytes (last ++ [0x80#8] ++ zeros (n - 1 - last.length)) k2
  enc (xorBytes ((bs.dropLast).foldl (fun c b => enc (xorBytes c b)) (zeros n)) fin)

/-- AES-CMAC: 16 bytes. -/
def aesCmac (key m : List Byte) : List Byte := cmacWith (aesEnc key) 16 m

end Sys2Proof.Machine
end

