-- ==== Sys2Proof/Machine/Ciphers.lean ====
section
/-! DEFINITION. TDEA (NIST SP 800-67), the block cipher modes of R246 (SP 800-38A, 38C, 38D), AES key wrap with padding
(SP 800-38F), the KDF of R276, and the CTR_DRBG of R267 as its known-answer test runs it (SP 800-90A). Byte strings are
carried in the order of those standards. -/

namespace Sys2Proof.Machine

/-! ## DES and TDEA -/

/-- A bit permutation of an n-bit value: entry k of the table names the bit, counted from 1 at the most significant end,
that becomes bit k of the result. -/
def permBits (n : Nat) (tbl : List Nat) (v : Nat) : Nat := tbl.foldl (fun r k => 2 * r + v / 2 ^ (n - k) % 2) 0

/-- The initial permutation of DES. -/
def desIP : List Nat :=
  [58, 50, 42, 34, 26, 18, 10, 2, 60, 52, 44, 36, 28, 20, 12, 4, 62, 54, 46, 38, 30, 22, 14, 6, 64, 56, 48, 40, 32, 24, 16, 8] ++
  [57, 49, 41, 33, 25, 17, 9, 1, 59, 51, 43, 35, 27, 19, 11, 3, 61, 53, 45, 37, 29, 21, 13, 5, 63, 55, 47, 39, 31, 23, 15, 7]
/-- The final permutation of DES. -/
def desFP : List Nat :=
  [40, 8, 48, 16, 56, 24, 64, 32, 39, 7, 47, 15, 55, 23, 63, 31, 38, 6, 46, 14, 54, 22, 62, 30, 37, 5, 45, 13, 53, 21, 61, 29] ++
  [36, 4, 44, 12, 52, 20, 60, 28, 35, 3, 43, 11, 51, 19, 59, 27, 34, 2, 42, 10, 50, 18, 58, 26, 33, 1, 41, 9, 49, 17, 57, 25]
/-- The expansion of DES. -/
def desE : List Nat :=
  [32, 1, 2, 3, 4, 5, 4, 5, 6, 7, 8, 9, 8, 9, 10, 11, 12, 13, 12, 13, 14, 15, 16, 17, 16, 17, 18, 19, 20, 21, 20, 21] ++
  [22, 23, 24, 25, 24, 25, 26, 27, 28, 29, 28, 29, 30, 31, 32, 1]
/-- The permutation P of DES. -/
def desP : List Nat :=
  [16, 7, 20, 21, 29, 12, 28, 17, 1, 15, 23, 26, 5, 18, 31, 10, 2, 8, 24, 14, 32, 27, 3, 9, 19, 13, 30, 6, 22, 11, 4, 25]
/-- The permuted choices of the DES key schedule. -/
def desPC1 : List Nat :=
  [57, 49, 41, 33, 25, 17, 9, 1, 58, 50, 42, 34, 26, 18, 10, 2, 59, 51, 43, 35, 27, 19, 11, 3, 60, 52, 44, 36] ++
  [63, 55, 47, 39, 31, 23, 15, 7, 62, 54, 46, 38, 30, 22, 14, 6, 61, 53, 45, 37, 29, 21, 13, 5, 28, 20, 12, 4]
/-- The second permuted choice. -/
def desPC2 : List Nat :=
  [14, 17, 11, 24, 1, 5, 3, 28, 15, 6, 21, 10, 23, 19, 12, 4, 26, 8, 16, 7, 27, 20, 13, 2] ++
  [41, 52, 31, 37, 47, 55, 30, 40, 51, 45, 33, 48, 44, 49, 39, 56, 34, 53, 46, 42, 50, 36, 29, 32]
/-- The rotations of the key schedule. -/
def desShifts : List Nat := [1, 1, 2, 2, 2, 2, 2, 2, 1, 2, 2, 2, 2, 2, 2, 1]
/-- The S-boxes of DES, each a number of 64 hexadecimal digits, the first entry most significant. -/
def desSboxes : List Nat :=
  [0xE4D12FB83A6C59070F74E2D1A6CB953841E8D62BFC973A50FC8249175B3EA06D,
   0xF18E6B34972DC05A3D47F28EC01A69B50E7BA4D158C6932FD8A13F42B67C05E9,
   0xA09E63F51DC7B428D709346A285ECBF1D6498F30B12C5AE71AD069874FE3B52C,
   0x7DE3069A1285BC4FD8B56F03472C1AE9A690CB7DF13E52843F06A1D8945BC72E,
   0x2C417AB6853FD0E9EB2C47D150FA3986421BAD78F9C5630EB8C71E2D6F09A453,
   0xC1AF92680D34E75BAF427C9561DE0B389EF528C3704A1DB6432C95FABE17608D,
   0x4B2EF08D3C975A61D0B7491AE35C2F8614BDC37EAF6805926BD814A7950FE23C,
   0xD2846FB1A93E50C71FD8A374C56B0E927B419CE206ADF35821E74A8DFC90356B]

/-- Entry i of S-box k. -/
def desS (k i : Nat) : Nat := desSboxes.getD k 0 / 16 ^ (63 - i) % 16

/-- The round function of DES on a 32-bit half and a 48-bit round key. -/
def desF (r k : Nat) : Nat :=
  let x := permBits 32 desE r ^^^ k
  permBits 32 desP ((List.range 8).foldl (fun acc i =>
    let b := x / 2 ^ (42 - 6 * i) % 64
    acc * 16 + desS i (b / 32 * 32 + b % 2 * 16 + b / 2 % 16)) 0)

/-- The sixteen round keys of a 64-bit DES key. -/
def desKeys (key : Nat) : List Nat :=
  let cd := permBits 64 desPC1 key
  let rot := fun (v n : Nat) => (v * 2 ^ n) % 2 ^ 28 + v / 2 ^ (28 - n)
  (desShifts.foldl (fun (acc : (Nat × Nat) × List Nat) n =>
    let c := rot acc.1.1 n
    let d := rot acc.1.2 n
    ((c, d), acc.2 ++ [permBits 56 desPC2 (c * 2 ^ 28 + d)])) ((cd / 2 ^ 28, cd % 2 ^ 28), [])).2

/-- DES of a 64-bit block under round keys. -/
def desBlock (keys : List Nat) (v : Nat) : Nat :=
  let x := permBits 64 desIP v
  let r := keys.foldl (fun (lr : Nat × Nat) k => (lr.2, lr.1 ^^^ desF lr.2 k)) (x / 2 ^ 32, x % 2 ^ 32)
  permBits 64 desFP (r.2 * 2 ^ 32 + r.1)

/-- The three DES keys of a TDEA bundle of 16 or 24 bytes. -/
def tdeaKeys (key : List Byte) : Nat × Nat × Nat :=
  let k1 := ofBe (slice key 0 8)
  (k1, ofBe (slice key 8 8), if key.length < 24 then k1 else ofBe (slice key 16 8))

/-- TDEA encryption of an 8-byte block. -/
def tdeaEnc (key b : List Byte) : List Byte :=
  let k := tdeaKeys key
  beBytes 8 (desBlock (desKeys k.2.2) (desBlock (desKeys k.2.1).reverse (desBlock (desKeys k.1) (ofBe b))))

/-- TDEA decryption of an 8-byte block. -/
def tdeaDec (key b : List Byte) : List Byte :=
  let k := tdeaKeys key
  beBytes 8 (desBlock (desKeys k.1).reverse (desBlock (desKeys k.2.1) (desBlock (desKeys k.2.2).reverse (ofBe b))))

/-- A byte with its least significant bit set to odd parity (R276). -/
def oddParity (b : Byte) : Byte :=
  let ones := (List.range 8).countP (fun i => i != 0 && b.getLsbD i)
  byte (b.toNat / 2 * 2 + (1 - ones % 2))

/-! ## Modes -/

/-- The blocks of `n` bytes of a message. -/
def blocksN (n : Nat) (m : List Byte) : List (List Byte) := blocksOf n (m.length + 1) m

/-- ECB (SP 800-38A) over a block function. -/
def ecb (f : List Byte → List Byte) (n : Nat) (m : List Byte) : List Byte := (blocksN n m).flatMap f

/-- CBC encryption. -/
def cbcEnc (f : List Byte → List Byte) (n : Nat) (iv m : List Byte) : List Byte :=
  ((blocksN n m).foldl (fun (acc : List Byte × List Byte) b =>
    let c := f (xorBytes acc.1 b)
    (c, acc.2 ++ c)) (iv, [])).2

/-- CBC decryption. -/
def cbcDec (f : List Byte → List Byte) (n : Nat) (iv m : List Byte) : List Byte :=
  ((blocksN n m).foldl (fun (acc : List Byte × List Byte) c => (c, acc.2 ++ xorBytes (f c) acc.1)) (iv, [])).2

/-- A 16-byte counter block with its low `bits` bits incremented modulo 2^bits. -/
def incBlock (bits : Nat) (b : List Byte) : List Byte :=
  let v := ofBe b
  beBytes 16 (v / 2 ^ bits * 2 ^ bits + (v + 1) % 2 ^ bits)

/-- CTR over AES from a counter block, of which the low `bits` bits count (128 in R246, 32 in GCM, 8q in CCM). -/
def ctrWith (key : List Byte) (bits : Nat) (iv m : List Byte) : List Byte :=
  ((blocksN 16 m).foldl (fun (acc : List Byte × List Byte) b =>
    (incBlock bits acc.1, acc.2 ++ xorBytes b (aesEnc key acc.1))) (iv, [])).2

/-- A product in GF(2^128) as GCM orders the bits (SP 800-38D). -/
def gfMul (x y : Nat) : Nat :=
  ((List.range 128).foldl (fun (acc : Nat × Nat) i =>
    let z := if x / 2 ^ (127 - i) % 2 = 1 then acc.1 ^^^ acc.2 else acc.1
    let v := acc.2 / 2 ^^^ (if acc.2 % 2 = 1 then 0xE1 * 2 ^ 120 else 0)
    (z, v)) (0, y)).1

/-- GHASH of AAD and ciphertext under the hash key. -/
def ghash (h : Nat) (aad c : List Byte) : Nat :=
  let absorb := fun (z : Nat) (m : List Byte) => (blocksN 16 m).foldl (fun z b => gfMul (z ^^^ ofBe (slice b 0 16)) h) z
  gfMul (absorb (absorb 0 aad) c ^^^ (aad.length * 8 * 2 ^ 64 + c.length * 8)) h

/-- GCM with a 12-byte nonce: the tag of 16 bytes over AAD and ciphertext. -/
def gcmTag (key nonce aad c : List Byte) : List Byte :=
  let j0 := nonce ++ [0, 0, 0, 1]
  xorBytes (beBytes 16 (ghash (ofBe (aesEnc key (zeros 16))) aad c)) (aesEnc key j0)

/-- GCM encryption or decryption of the data alone. -/
def gcmCrypt (key nonce m : List Byte) : List Byte := ctrWith key 32 (nonce ++ [0, 0, 0, 2]) m

/-- The CBC-MAC of CCM over B0, AAD and payload (SP 800-38C), cut to t bytes. -/
def ccmMac (key nonce aad m : List Byte) (t : Nat) : List Byte :=
  let q := 15 - nonce.length
  let flags := (if aad.isEmpty then 0 else 64) + 8 * ((t - 2) / 2) + (q - 1)
  let b0 := [byte flags] ++ nonce ++ beBytes q m.length
  let pad := fun (b : List Byte) => b ++ zeros ((16 - b.length % 16) % 16)
  let a := if aad.isEmpty then [] else pad (beBytes 2 aad.length ++ aad)
  let x := (blocksN 16 (b0 ++ a ++ pad m)).foldl (fun z b => aesEnc key (xorBytes z b)) (zeros 16)
  x.take t

/-- The counter block i of CCM. -/
def ccmCtr (nonce : List Byte) (i : Nat) : List Byte :=
  let q := 15 - nonce.length
  [byte (q - 1)] ++ nonce ++ beBytes q i

/-- CCM encryption or decryption of the data alone. -/
def ccmCrypt (key nonce m : List Byte) : List Byte := ctrWith key (8 * (15 - nonce.length)) (ccmCtr nonce 1) m

/-- The encrypted tag of CCM. -/
def ccmTag (key nonce aad m : List Byte) (t : Nat) : List Byte :=
  xorBytes (ccmMac key nonce aad m t) (aesEnc key (ccmCtr nonce 0))

/-! ## Key wrap and key derivation -/

/-- One step of the wrapping function W: the value A and the half blocks R1–Rn. -/
def kwStep (key : List Byte) (n : Nat) (acc : List Byte × List (List Byte)) (t : Nat) : List Byte × List (List Byte) :=
  let i := (t - 1) % n
  let b := aesEnc key (acc.1 ++ acc.2.getD i [])
  (xorBytes (b.take 8) (beBytes 8 t), acc.2.set i (b.drop 8))

/-- One step of its inverse. -/
def kwUnstep (key : List Byte) (n : Nat) (acc : List Byte × List (List Byte)) (t : Nat) : List Byte × List (List Byte) :=
  let i := (t - 1) % n
  let b := aesDec key (xorBytes acc.1 (beBytes 8 t) ++ acc.2.getD i [])
  (b.take 8, acc.2.set i (b.drop 8))

/-- AES key wrap with padding (KWP): ceil(length / 8) × 8 + 8 bytes (R279). -/
def kwpWrap (key p : List Byte) : List Byte :=
  let n := ceilDiv p.length 8
  let a := [0xA6#8, 0x59#8, 0x59#8, 0xA6#8] ++ beBytes 4 p.length
  let pp := p ++ zeros (8 * n - p.length)
  if n ≤ 1 then aesEnc key (a ++ pp)
  else
    let r := ((List.range (6 * n)).map (· + 1)).foldl (kwStep key n) (a, blocksN 8 pp)
    r.1 ++ r.2.flatten

/-- AES key unwrap with padding: the plain key, or none where the integrity check fails. -/
def kwpUnwrap (key c : List Byte) : Option (List Byte) :=
  let n := c.length / 8 - 1
  if c.length % 8 ≠ 0 ∨ n = 0 then none
  else
    let r := if n = 1 then
        let b := aesDec key c
        (b.take 8, [b.drop 8])
      else ((List.range (6 * n)).map (· + 1)).reverse.foldl (kwUnstep key n) (c.take 8, blocksN 8 (c.drop 8))
    let len := ofBe (slice r.1 4 4)
    let p := r.2.flatten
    if r.1.take 4 = [0xA6#8, 0x59#8, 0x59#8, 0xA6#8] ∧ 8 * (n - 1) < len ∧ len ≤ 8 * n ∧ (p.drop len).all (· == 0) then
      some (p.take len)
    else none

/-- The 53-byte input of the KDF for block i (R276). -/
def kdfInput (i : Nat) (label : List Byte) (tenant alg index version l : Nat) : List Byte :=
  beBytes 4 i ++ slice label 0 32 ++ [0] ++ leBytes 1 tenant ++ [0] ++ leBytes 2 alg ++ leBytes 4 index ++ leBytes 4 version ++
    beBytes 4 l

/-- The KDF (R276): `n` bytes of key. -/
def kdf (key label : List Byte) (tenant alg index version n : Nat) : List Byte :=
  ((List.range (ceilDiv n 16)).flatMap (fun i => aesCmac key (kdfInput (i + 1) label tenant alg index version (8 * n)))).take n

/-- A label in ASCII, zero-padded to 32 bytes (R273). -/
def labelBytes (cs : List Nat) : List Byte := slice (cs.map byte) 0 32

/-! ## CTR_DRBG with AES-256 and derivation function (R267, R270) -/

/-- BCC of the derivation function: CBC-MAC from zero. -/
def drbgBcc (key m : List Byte) : List Byte := (blocksN 16 m).foldl (fun z b => aesEnc key (xorBytes z b)) (zeros 16)

/-- The derivation function for 48 bytes. -/
def drbgDf (m : List Byte) : List Byte :=
  let s := beBytes 4 m.length ++ beBytes 4 48 ++ m ++ [0x80#8]
  let s := s ++ zeros ((16 - s.length % 16) % 16)
  let k := (List.range 32).map byte
  let t := (List.range 3).flatMap (fun i => drbgBcc k (beBytes 4 i ++ zeros 12 ++ s))
  let k2 := t.take 32
  let x1 := aesEnc k2 (slice t 32 16)
  let x2 := aesEnc k2 x1
  x1 ++ x2 ++ aesEnc k2 x2

/-- Update: the key of 32 bytes and the counter V of 16. -/
def drbgUpdate (kv : List Byte × List Byte) (data : List Byte) : List Byte × List Byte :=
  let v1 := incBlock 128 kv.2
  let v2 := incBlock 128 v1
  let v3 := incBlock 128 v2
  let t := xorBytes (aesEnc kv.1 v1 ++ aesEnc kv.1 v2 ++ aesEnc kv.1 v3) data
  (t.take 32, t.drop 32)

/-- Instantiate from entropy input, nonce and personalisation. -/
def drbgInit (m : List Byte) : List Byte × List Byte := drbgUpdate (zeros 32, zeros 16) (drbgDf m)

/-- Generate `n` blocks of 16 bytes without additional input. -/
def drbgGen (kv : List Byte × List Byte) (n : Nat) : List Byte × (List Byte × List Byte) :=
  let r := (List.range n).foldl (fun (acc : List Byte × List Byte) _ =>
    let v := incBlock 128 acc.1
    (v, acc.2 ++ aesEnc kv.1 v)) (kv.2, [])
  (r.2, drbgUpdate (kv.1, r.1) (zeros 48))

end Sys2Proof.Machine
end

