-- ==== Sys2Proof/Config.lean ====
section
/-! DEFINITION. What an implementation fixes and the values that the manual leaves open. Every constant is opaque: no
proof can see its value, so a claim holds for every value. -/

namespace Sys2Proof.Config

/-- SYS.ID.GRADE is fused to industrial (R3). -/
opaque industrial : Bool

/-- A byte that the manual gives no value, at a position of the model's own counter `State.free` (log 1): fresh random
bytes, and contents the manual leaves open. -/
opaque freeByte : Nat → Byte

/-- A byte of the ledger's pool that the manual leaves open, by offset: the retire mark, and what a sector holds whose erase failed
(log 1). -/
opaque poolByte : Nat → Byte

/-- A byte of the ROM by core address: the manual describes what its routines do, and not their words (log 3). -/
opaque romByte : Nat → Byte

/-- The word offset in the Furdauc code window of the entry of gates 0–3 (R72; log 4). -/
opaque gateEntry : Nat → BitVec 14

/-- The stack of ring 0 that Furdauc puts into gs0 (R67; log 4). -/
opaque monitorStack : BitVec 32

/-- Byte i of the device secret S that the PUF yields (R272; log 20). -/
opaque secretByte : Nat → Byte

/-- Byte i of the UID fused at manufacture (R336; log 20). -/
opaque uidByte : Nat → Byte

/-- Byte i of a digest fused or held in ROM (R337; log 20): 0 of T1, 1 of T2, 2 of the vendor authority's key. -/
opaque digestByte : Nat → Nat → Byte

/-- The computation cycles K of an engine job whose operation, parameter and lengths R232 does not tabulate (log 21). -/
opaque pkeCycles : List Nat → Nat

/-- The length in bytes of a derived generic secret, which its template does not carry, less one, modulo 64 (log 24). -/
opaque genericLen : Nat

/-- Byte i of the fixed known-answer input of target t that boot uses (R270; log 25). -/
opaque katInput : Nat → Nat → Byte

end Sys2Proof.Config
end

