-- ==== Sys2Proof/Machine/RegNames.lean ====
section
/-! DEFINITION. The names of the registers of the window (R510) and of their fields, with the manual's own names
and offsets: `Reg.X` is a register's offset from 0x4000_0000, `Fld.X_Y` is field Y of it. The tables are those of the
rules named at each block. -/

namespace Sys2Proof.Machine

-- SYS (R3, R16, R17, R492, R517)
abbrev Reg.SYS_ID : Nat := 0x0
abbrev Reg.SYS_CAP0 : Nat := 0x4
abbrev Reg.SYS_CAP1 : Nat := 0x8
abbrev Reg.SYS_RSTCAUSE : Nat := 0x10
abbrev Reg.SYS_RSTHIST : Nat := 0x14
abbrev Reg.SYS_BOOT : Nat := 0x18
abbrev Reg.SYS_LOG_CTL : Nat := 0x20
abbrev Reg.SYS_LOG_STAT : Nat := 0x24
abbrev Reg.SYS_LOG_OVF : Nat := 0x28
abbrev Reg.SYS_LOG_MARK : Nat := 0x2C
abbrev Reg.SYS_LOG_IDX : Nat := 0x30
abbrev Reg.SYS_LOG_DATA (i : Nat) : Nat := 0x40 + 0x4 * i
abbrev Reg.SYS_LOG_W (i : Nat) : Nat := 0x60 + 0x4 * i
abbrev Reg.SYS_IRQ_SRC : Nat := 0x80
abbrev Reg.SYS_IRQ_EN : Nat := 0x84
-- BEAT (R55)
abbrev Reg.BEAT_CTRL : Nat := 0x1000
abbrev Reg.BEAT_NOMINAL : Nat := 0x1004
abbrev Reg.BEAT_STATUS : Nat := 0x1008
abbrev Reg.BEAT_MARGIN : Nat := 0x100C
abbrev Reg.BEAT_CPB_MIN : Nat := 0x1010
abbrev Reg.BEAT_PERIOD_MEAS : Nat := 0x1014
abbrev Reg.BEAT_COUNT_LO : Nat := 0x1018
abbrev Reg.BEAT_COUNT_HI : Nat := 0x101C
abbrev Reg.BEAT_BASKET_OFS_LO : Nat := 0x1020
abbrev Reg.BEAT_BASKET_OFS_HI : Nat := 0x1024
abbrev Reg.BEAT_FREE_BEATS : Nat := 0x1028
abbrev Reg.BEAT_WDOG : Nat := 0x1030
abbrev Reg.BEAT_WDOG_KICK : Nat := 0x1034
-- LCS (R354)
abbrev Reg.LCS_STAT : Nat := 0x2000
abbrev Reg.LCS_UID (i : Nat) : Nat := 0x2010 + 0x4 * i
abbrev Reg.LCS_LASTREF : Nat := 0x2020
abbrev Reg.LCS_DBG_RIGHTS : Nat := 0x2024
abbrev Reg.LCS_DBG_SERIAL : Nat := 0x2028
abbrev Reg.LCS_DBG_LEFT : Nat := 0x202C
abbrev Reg.LCS_DBG_REFUSED : Nat := 0x2030
abbrev Reg.LCS_HALTED (i : Nat) : Nat := 0x2040 + 0x4 * i
-- TAMP (R375)
abbrev Reg.TAMP_CTRL : Nat := 0x3000
abbrev Reg.TAMP_STAT : Nat := 0x3004
abbrev Reg.TAMP_ALARM : Nat := 0x3008
abbrev Reg.TAMP_QUAR : Nat := 0x300C
abbrev Reg.TAMP_BIST : Nat := 0x3010
abbrev Reg.TAMP_BKCFG : Nat := 0x3014
abbrev Reg.TAMP_BKTICK : Nat := 0x3018
abbrev Reg.TAMP_BKLOG_PTR : Nat := 0x301C
abbrev Reg.TAMP_BKARM0 : Nat := 0x3020
abbrev Reg.TAMP_BKARM1 : Nat := 0x3024
abbrev Reg.TAMP_BKLOG_W0 (i : Nat) : Nat := 0x3100 + 0x8 * i
abbrev Reg.TAMP_BKLOG_W1 (i : Nat) : Nat := 0x3104 + 0x8 * i
abbrev Reg.TAMP_MCFG (i : Nat) : Nat := 0x3400 + 0x4 * i
abbrev Reg.TAMP_MSTAT (i : Nat) : Nat := 0x3800 + 0x4 * i
-- RNG (R271)
abbrev Reg.RNG_CTRL : Nat := 0x4000
abbrev Reg.RNG_STAT : Nat := 0x4004
abbrev Reg.RNG_DATA : Nat := 0x4008
abbrev Reg.RNG_HCFG : Nat := 0x400C
abbrev Reg.RNG_RESERVE : Nat := 0x4010
abbrev Reg.RNG_RESEEDS : Nat := 0x4014
abbrev Reg.RNG_RESTART : Nat := 0x4018
abbrev Reg.RNG_SRC (i : Nat) : Nat := 0x4020 + 0x4 * i
abbrev Reg.RNG_SHC (i : Nat) : Nat := 0x4030 + 0x4 * i
abbrev Reg.RNG_KAT_CTL : Nat := 0x4040
abbrev Reg.RNG_KAT_IN (i : Nat) : Nat := 0x4080 + 0x4 * i
abbrev Reg.RNG_KAT_OUT (i : Nat) : Nat := 0x40C0 + 0x4 * i
-- NVMC (R331, R189)
abbrev Reg.NVMC_CTRL : Nat := 0x5000
abbrev Reg.NVMC_BANKST (i : Nat) : Nat := 0x5004 + 0x4 * i
abbrev Reg.NVMC_OPSTAT : Nat := 0x5014
abbrev Reg.NVMC_PATROL : Nat := 0x5018
abbrev Reg.NVMC_REFRESH : Nat := 0x501C
abbrev Reg.NVMC_ECC : Nat := 0x5020
abbrev Reg.NVMC_ECC_ADDR : Nat := 0x5024
abbrev Reg.NVMC_ERASES : Nat := 0x5028
abbrev Reg.NVMC_POOL : Nat := 0x502C
abbrev Reg.NVMC_POOL_STEPS : Nat := 0x5030
abbrev Reg.NVMC_ARB_CFG : Nat := 0x5200
abbrev Reg.NVMC_ARB_STAT : Nat := 0x5204
abbrev Reg.NVMC_ARB_GRANTS : Nat := 0x5208
-- LEDG (R304)
abbrev Reg.LEDG_CTRL : Nat := 0x6000
abbrev Reg.LEDG_STAT : Nat := 0x6004
abbrev Reg.LEDG_GROUP_WAIT : Nat := 0x6008
abbrev Reg.LEDG_LSN_LO : Nat := 0x600C
abbrev Reg.LEDG_LSN_HI : Nat := 0x6010
abbrev Reg.LEDG_COMMITS : Nat := 0x6014
abbrev Reg.LEDG_TORN : Nat := 0x6018
abbrev Reg.LEDG_DERR : Nat := 0x6020
abbrev Reg.LEDG_DERR_IDX : Nat := 0x6024
abbrev Reg.LEDG_RIDX : Nat := 0x6040
abbrev Reg.LEDG_RSTAT : Nat := 0x6044
abbrev Reg.LEDG_RDATA (i : Nat) : Nat := 0x6060 + 0x4 * i
abbrev Reg.LEDG_STG (i : Nat) : Nat := 0x6100 + 0x4 * i
abbrev Reg.LEDG_STG_RES : Nat := 0x6140
abbrev Reg.LEDG_STG_DIG (i : Nat) : Nat := 0x6160 + 0x4 * i
abbrev Reg.LEDG_DSCRUB : Nat := 0x601C
abbrev Reg.LEDG_STG_VAL (i : Nat) : Nat := 0x6144 + 0x4 * i
-- FLUE control (R177)
abbrev Reg.FLUE_CTRL : Nat := 0x7000
abbrev Reg.FLUE_REFUSE : Nat := 0x7004
abbrev Reg.FLUE_FULL_CNT : Nat := 0x7008
abbrev Reg.FLUE_UNBOUND_CNT : Nat := 0x700C
abbrev Reg.FLUE_DROP_CNT : Nat := 0x7010
abbrev Reg.FLUE_FULL (i : Nat) : Nat := 0x7100 + 0x4 * i
-- the flue channel table (R166)
abbrev Reg.CHAN_W0 (i : Nat) : Nat := 0x10000 + 0x8 * i
abbrev Reg.CHAN_W1 (i : Nat) : Nat := 0x10004 + 0x8 * i
-- HRT<n> (R511)
abbrev Reg.HRT_UCTL (n : Nat) : Nat := 0x100000 + 0x1000 * n
abbrev Reg.HRT_PAIRSUM (n : Nat) : Nat := 0x100010 + 0x1000 * n
abbrev Reg.HRT_MISM (n : Nat) : Nat := 0x100014 + 0x1000 * n
abbrev Reg.HRT_MISM_PC (n : Nat) : Nat := 0x100018 + 0x1000 * n
abbrev Reg.HRT_RPOL (n : Nat) : Nat := 0x10001C + 0x1000 * n
abbrev Reg.HRT_COMMIT (n : Nat) : Nat := 0x100020 + 0x1000 * n
abbrev Reg.HRT_CKSEL (n : Nat) : Nat := 0x100024 + 0x1000 * n
abbrev Reg.HRT_SCRUB (n : Nat) : Nat := 0x100040 + 0x1000 * n
abbrev Reg.HRT_SCRUB_POS (n : Nat) : Nat := 0x100044 + 0x1000 * n
abbrev Reg.HRT_MEMERR (n : Nat) : Nat := 0x100048 + 0x1000 * n
abbrev Reg.HRT_MEMERR_ADDR (n : Nat) : Nat := 0x10004C + 0x1000 * n
abbrev Reg.HRT_PST (n i : Nat) : Nat := 0x100100 + 0x1000 * n + 0x4 * i
abbrev Reg.HRT_PKE_ARB_CFG (n : Nat) : Nat := 0x100600 + 0x1000 * n
abbrev Reg.HRT_PKE_ARB_STAT (n : Nat) : Nat := 0x100604 + 0x1000 * n
abbrev Reg.HRT_PKE_ARB_GRANTS (n : Nat) : Nat := 0x100608 + 0x1000 * n
abbrev Reg.HRT_BANK_ARB_CFG (n : Nat) : Nat := 0x100610 + 0x1000 * n
abbrev Reg.HRT_BANK_ARB_STAT (n : Nat) : Nat := 0x100614 + 0x1000 * n
abbrev Reg.HRT_BANK_ARB_GRANTS (n : Nat) : Nat := 0x100618 + 0x1000 * n
abbrev Reg.PKE_UCTL (n : Nat) : Nat := 0x100800 + 0x1000 * n
abbrev Reg.PKE_SUBMIT (n : Nat) : Nat := 0x100804 + 0x1000 * n
abbrev Reg.PKE_CFG (n : Nat) : Nat := 0x100808 + 0x1000 * n
abbrev Reg.PKE_GLIMIT (n : Nat) : Nat := 0x10080C + 0x1000 * n
abbrev Reg.PKE_STAT (n : Nat) : Nat := 0x100810 + 0x1000 * n
abbrev Reg.PKE_SLOTS (n : Nat) : Nat := 0x100814 + 0x1000 * n
abbrev Reg.PKE_SLOT_GEN (n i : Nat) : Nat := 0x100818 + 0x1000 * n + 0x4 * i
abbrev Reg.PKE_JOBS (n : Nat) : Nat := 0x100838 + 0x1000 * n
abbrev Reg.PKE_PFAULTS (n : Nat) : Nat := 0x10083C + 0x1000 * n
abbrev Reg.PKE_LAST (n : Nat) : Nat := 0x100840 + 0x1000 * n
abbrev Reg.HRT_SGLIMIT (n : Nat) : Nat := 0x100A00 + 0x1000 * n
abbrev Reg.HRT_SFAULTS (n : Nat) : Nat := 0x100A04 + 0x1000 * n
abbrev Reg.SYM_UCTL (n i : Nat) : Nat := 0x100A40 + 0x1000 * n + 0x40 * i
abbrev Reg.SYM_SUBMIT (n i : Nat) : Nat := 0x100A44 + 0x1000 * n + 0x40 * i
abbrev Reg.SYM_STAT (n i : Nat) : Nat := 0x100A48 + 0x1000 * n + 0x40 * i
-- PG<n> (R154)
abbrev Reg.PG_UCTL (n : Nat) : Nat := 0x200000 + 0x100 * n
abbrev Reg.PG_PGCTL (n : Nat) : Nat := 0x200004 + 0x100 * n
abbrev Reg.PG_PGSTAT (n : Nat) : Nat := 0x200008 + 0x100 * n
abbrev Reg.PG_FAULT_ADDR (n : Nat) : Nat := 0x20000C + 0x100 * n
abbrev Reg.PG_FAULT_INFO (n : Nat) : Nat := 0x200010 + 0x100 * n
abbrev Reg.PG_XFER_CNT (n : Nat) : Nat := 0x200014 + 0x100 * n
abbrev Reg.PG_REFUSE_CNT (n : Nat) : Nat := 0x200018 + 0x100 * n
abbrev Reg.PG_MASTER (n : Nat) : Nat := 0x20001C + 0x100 * n
abbrev Reg.PG_BASE (n i : Nat) : Nat := 0x200020 + 0x100 * n + 0x8 * i
abbrev Reg.PG_ATTR (n i : Nat) : Nat := 0x200024 + 0x100 * n + 0x8 * i
-- HOST (R217)
abbrev Reg.HOST_LCTL (i : Nat) : Nat := 0x300000 + 0x400 * i
abbrev Reg.HOST_LSTAT (i : Nat) : Nat := 0x300004 + 0x400 * i
abbrev Reg.HOST_AQ_SQ_LO (i : Nat) : Nat := 0x300008 + 0x400 * i
abbrev Reg.HOST_AQ_SQ_HI (i : Nat) : Nat := 0x30000C + 0x400 * i
abbrev Reg.HOST_AQ_CQ_LO (i : Nat) : Nat := 0x300010 + 0x400 * i
abbrev Reg.HOST_AQ_CQ_HI (i : Nat) : Nat := 0x300014 + 0x400 * i
abbrev Reg.HOST_AQ_CTL (i : Nat) : Nat := 0x300018 + 0x400 * i
abbrev Reg.HOST_MALF_CNT (i : Nat) : Nat := 0x300020 + 0x400 * i
abbrev Reg.HOST_ECRC_CNT (i : Nat) : Nat := 0x300024 + 0x400 * i
abbrev Reg.HOST_DROP_CNT (i : Nat) : Nat := 0x300028 + 0x400 * i
abbrev Reg.HOST_SQ_TAIL (i : Nat) : Nat := 0x300800 + 0x10 * i
abbrev Reg.HOST_CQ_HEAD (i : Nat) : Nat := 0x300804 + 0x10 * i
abbrev Reg.HOST_QSTAT (i : Nat) : Nat := 0x300808 + 0x10 * i
abbrev Reg.HOST_QERR (i : Nat) : Nat := 0x30080C + 0x10 * i
-- WEAVE (R470)
abbrev Reg.WEAVE_LSTAT (i : Nat) : Nat := 0x301000 + 0x40 * i
abbrev Reg.WEAVE_LERR (i : Nat) : Nat := 0x30100C + 0x40 * i
abbrev Reg.WEAVE_TXSEQ (i : Nat) : Nat := 0x301004 + 0x40 * i
abbrev Reg.WEAVE_RXSEQ (i : Nat) : Nat := 0x301008 + 0x40 * i
abbrev Reg.WEAVE_CTRL : Nat := 0x301400
abbrev Reg.WEAVE_CFG : Nat := 0x301404
abbrev Reg.WEAVE_BSTAT : Nat := 0x301408
abbrev Reg.WEAVE_MEMBERS : Nat := 0x30140C
abbrev Reg.WEAVE_BKEY : Nat := 0x301410
abbrev Reg.WEAVE_BKEYIDX : Nat := 0x301414
abbrev Reg.WEAVE_MWAIT : Nat := 0x301418
abbrev Reg.WEAVE_MSTAT : Nat := 0x30141C
abbrev Reg.WEAVE_AUTH (i : Nat) : Nat := 0x301420 + 0x4 * i
abbrev Reg.WEAVE_MAPIDX : Nat := 0x301440
abbrev Reg.WEAVE_MAPDATA0 : Nat := 0x301444
abbrev Reg.WEAVE_MAPDATA1 : Nat := 0x301448
abbrev Reg.WEAVE_TSTAT : Nat := 0x30144C
abbrev Reg.WEAVE_BASKET (i : Nat) : Nat := 0x301450 + 0x4 * i
-- HEAD (R431)
abbrev Reg.HEAD_CFG (i : Nat) : Nat := 0x302000 + 0x40 * i
abbrev Reg.HEAD_STAT (i : Nat) : Nat := 0x302004 + 0x40 * i
abbrev Reg.HEAD_HKEY (i : Nat) : Nat := 0x302008 + 0x40 * i
abbrev Reg.HEAD_HKEYIDX (i : Nat) : Nat := 0x30200C + 0x40 * i
abbrev Reg.HEAD_STAGE (i : Nat) : Nat := 0x302010 + 0x40 * i
abbrev Reg.HEAD_SRES (i : Nat) : Nat := 0x302014 + 0x40 * i
abbrev Reg.HEAD_ERRCNT (i : Nat) : Nat := 0x302018 + 0x40 * i
abbrev Reg.HEAD_DROP (i : Nat) : Nat := 0x30201C + 0x40 * i
abbrev Reg.HEAD_PRESENT : Nat := 0x302800
-- CRT (R394)
abbrev Reg.CRT_CFG (i : Nat) : Nat := 0x303000 + 0x80 * i
abbrev Reg.CRT_STAT (i : Nat) : Nat := 0x303004 + 0x80 * i
abbrev Reg.CRT_SUBMIT (i : Nat) : Nat := 0x303008 + 0x80 * i
abbrev Reg.CRT_STAGE (i : Nat) : Nat := 0x30300C + 0x80 * i
abbrev Reg.CRT_JARM (i : Nat) : Nat := 0x303010 + 0x80 * i
abbrev Reg.CRT_JSTAT (i : Nat) : Nat := 0x303014 + 0x80 * i
abbrev Reg.CRT_WRES (i : Nat) : Nat := 0x303018 + 0x80 * i
abbrev Reg.CRT_ERRCNT (i : Nat) : Nat := 0x30301C + 0x80 * i
abbrev Reg.CRT_CID (i w : Nat) : Nat := 0x303020 + 0x80 * i + 4 * w
abbrev Reg.CRT_CTRL : Nat := 0x303400
abbrev Reg.CRT_RAWTEN (i : Nat) : Nat := 0x303410 + 0x4 * i
-- RF (R419)
abbrev Reg.RF_CFG (i : Nat) : Nat := 0x304000 + 0x100 * i
abbrev Reg.RF_STAT (i : Nat) : Nat := 0x304004 + 0x100 * i
abbrev Reg.RF_SUBMIT (i : Nat) : Nat := 0x304008 + 0x100 * i
abbrev Reg.RF_XLIMIT (i : Nat) : Nat := 0x30400C + 0x100 * i
abbrev Reg.RF_TRES (i : Nat) : Nat := 0x304040 + 0x100 * i
abbrev Reg.RF_TPWD (i : Nat) : Nat := 0x304044 + 0x100 * i
abbrev Reg.RF_TUID_LO (i : Nat) : Nat := 0x304048 + 0x100 * i
abbrev Reg.RF_TUID_HI (i : Nat) : Nat := 0x30404C + 0x100 * i
abbrev Reg.RF_TKEY (i : Nat) : Nat := 0x304058 + 0x100 * i
abbrev Reg.RF_TKEYIDX (i : Nat) : Nat := 0x30405C + 0x100 * i
abbrev Reg.RF_CNT (i : Nat) : Nat := 0x304060 + 0x100 * i
abbrev Reg.RF_ERRCNT (i : Nat) : Nat := 0x304064 + 0x100 * i
abbrev Reg.RF_TCOMMITS (i : Nat) : Nat := 0x304068 + 0x100 * i
abbrev Reg.RF_TLAST (i : Nat) : Nat := 0x30406C + 0x100 * i
abbrev Reg.RF_TACC0 (i : Nat) : Nat := 0x304050 + 0x100 * i
abbrev Reg.RF_TACC1 (i : Nat) : Nat := 0x304054 + 0x100 * i
abbrev Reg.RF_TSTG (i w : Nat) : Nat := 0x304020 + 0x100 * i + 4 * w
-- SC (R437)
abbrev Reg.SC_CFG (i : Nat) : Nat := 0x305000 + 0x100 * i
abbrev Reg.SC_STAT (i : Nat) : Nat := 0x305004 + 0x100 * i
abbrev Reg.SC_SUBMIT (i : Nat) : Nat := 0x305008 + 0x100 * i
abbrev Reg.SC_XLIMIT (i : Nat) : Nat := 0x30500C + 0x100 * i
abbrev Reg.SC_ERRCNT (i : Nat) : Nat := 0x305010 + 0x100 * i
abbrev Reg.SC_ATR (i w : Nat) : Nat := 0x305020 + 0x100 * i + 4 * w
-- ACT (R442)
abbrev Reg.ACT_CFG (i : Nat) : Nat := 0x306000 + 0x20 * i
abbrev Reg.ACT_MAXLEN (i : Nat) : Nat := 0x306004 + 0x20 * i
abbrev Reg.ACT_STAT (i : Nat) : Nat := 0x306008 + 0x20 * i
abbrev Reg.ACT_LAST_J (i : Nat) : Nat := 0x30600C + 0x20 * i
abbrev Reg.ACT_CTRL : Nat := 0x306400
abbrev Reg.ACT_STG0 : Nat := 0x306410
abbrev Reg.ACT_STG1 : Nat := 0x306414
abbrev Reg.ACT_SRES : Nat := 0x306418
-- WALE (R376)
abbrev Reg.WALE_WCFG (i : Nat) : Nat := 0x307000 + 0x4 * i
abbrev Reg.WALE_WSTAT (i : Nat) : Nat := 0x307100 + 0x4 * i
abbrev Reg.WALE_PERIOD : Nat := 0x307200
abbrev Reg.WALE_CASECFG : Nat := 0x307204
abbrev Reg.WALE_CASESTAT : Nat := 0x307208

/-- A field of a register of the window: the register's offset and the bits [hi:lo]. -/
structure FieldAt where
  off : Nat
  hi : Nat
  lo : Nat
  deriving DecidableEq, Repr

-- SYS (R3, R16, R17, R492, R517)
abbrev Fld.SYS_ID_PART : FieldAt := ⟨Reg.SYS_ID, 31, 16⟩
abbrev Fld.SYS_ID_STEP_LETTER : FieldAt := ⟨Reg.SYS_ID, 15, 12⟩
abbrev Fld.SYS_ID_STEP_NUM : FieldAt := ⟨Reg.SYS_ID, 11, 8⟩
abbrev Fld.SYS_ID_GRADE : FieldAt := ⟨Reg.SYS_ID, 7, 4⟩
abbrev Fld.SYS_ID_FAMILY : FieldAt := ⟨Reg.SYS_ID, 3, 0⟩
abbrev Fld.SYS_CAP0_PORTS : FieldAt := ⟨Reg.SYS_CAP0, 31, 24⟩
abbrev Fld.SYS_CAP0_PAIRS_PER_HEARTH : FieldAt := ⟨Reg.SYS_CAP0, 23, 16⟩
abbrev Fld.SYS_CAP0_HEARTHS : FieldAt := ⟨Reg.SYS_CAP0, 15, 8⟩
abbrev Fld.SYS_CAP0_SYM_PER_HEARTH : FieldAt := ⟨Reg.SYS_CAP0, 7, 4⟩
abbrev Fld.SYS_CAP0_PKE_PER_HEARTH : FieldAt := ⟨Reg.SYS_CAP0, 3, 0⟩
abbrev Fld.SYS_CAP1_FLUE_CHANNELS : FieldAt := ⟨Reg.SYS_CAP1, 31, 20⟩
abbrev Fld.SYS_CAP1_BASKET_MAX : FieldAt := ⟨Reg.SYS_CAP1, 19, 8⟩
abbrev Fld.SYS_CAP1_TENANT_MAX : FieldAt := ⟨Reg.SYS_CAP1, 7, 0⟩
abbrev Fld.SYS_RSTCAUSE_FW : FieldAt := ⟨Reg.SYS_RSTCAUSE, 6, 6⟩
abbrev Fld.SYS_RSTCAUSE_LC : FieldAt := ⟨Reg.SYS_RSTCAUSE, 5, 5⟩
abbrev Fld.SYS_RSTCAUSE_TAMPER : FieldAt := ⟨Reg.SYS_RSTCAUSE, 4, 4⟩
abbrev Fld.SYS_RSTCAUSE_WDOG : FieldAt := ⟨Reg.SYS_RSTCAUSE, 3, 3⟩
abbrev Fld.SYS_RSTCAUSE_SOFT : FieldAt := ⟨Reg.SYS_RSTCAUSE, 2, 2⟩
abbrev Fld.SYS_RSTCAUSE_PIN : FieldAt := ⟨Reg.SYS_RSTCAUSE, 1, 1⟩
abbrev Fld.SYS_RSTCAUSE_POR : FieldAt := ⟨Reg.SYS_RSTCAUSE, 0, 0⟩
abbrev Fld.SYS_BOOT_READY : FieldAt := ⟨Reg.SYS_BOOT, 31, 31⟩
abbrev Fld.SYS_BOOT_FAIL : FieldAt := ⟨Reg.SYS_BOOT, 30, 30⟩
abbrev Fld.SYS_BOOT_RESUMED : FieldAt := ⟨Reg.SYS_BOOT, 29, 29⟩
abbrev Fld.SYS_BOOT_IMG : FieldAt := ⟨Reg.SYS_BOOT, 28, 28⟩
abbrev Fld.SYS_BOOT_STAGE : FieldAt := ⟨Reg.SYS_BOOT, 23, 16⟩
abbrev Fld.SYS_BOOT_MS : FieldAt := ⟨Reg.SYS_BOOT, 15, 0⟩
abbrev Fld.SYS_LOG_CTL_CLR_OVF : FieldAt := ⟨Reg.SYS_LOG_CTL, 0, 0⟩
abbrev Fld.SYS_LOG_STAT_NEXT : FieldAt := ⟨Reg.SYS_LOG_STAT, 15, 0⟩
abbrev Fld.SYS_LOG_MARK_SEQ : FieldAt := ⟨Reg.SYS_LOG_MARK, 15, 0⟩
abbrev Fld.SYS_LOG_IDX_SEQ : FieldAt := ⟨Reg.SYS_LOG_IDX, 15, 0⟩
abbrev Fld.SYS_IRQ_SRC_HEARTH : FieldAt := ⟨Reg.SYS_IRQ_SRC, 31, 16⟩
abbrev Fld.SYS_IRQ_SRC_PG : FieldAt := ⟨Reg.SYS_IRQ_SRC, 9, 9⟩
abbrev Fld.SYS_IRQ_SRC_RF : FieldAt := ⟨Reg.SYS_IRQ_SRC, 8, 8⟩
abbrev Fld.SYS_IRQ_SRC_CRT : FieldAt := ⟨Reg.SYS_IRQ_SRC, 7, 7⟩
abbrev Fld.SYS_IRQ_SRC_WEAVE : FieldAt := ⟨Reg.SYS_IRQ_SRC, 6, 6⟩
abbrev Fld.SYS_IRQ_SRC_HOST : FieldAt := ⟨Reg.SYS_IRQ_SRC, 5, 5⟩
abbrev Fld.SYS_IRQ_SRC_LEDG : FieldAt := ⟨Reg.SYS_IRQ_SRC, 4, 4⟩
abbrev Fld.SYS_IRQ_SRC_NVMC : FieldAt := ⟨Reg.SYS_IRQ_SRC, 3, 3⟩
abbrev Fld.SYS_IRQ_SRC_RNG : FieldAt := ⟨Reg.SYS_IRQ_SRC, 2, 2⟩
abbrev Fld.SYS_IRQ_SRC_TAMP : FieldAt := ⟨Reg.SYS_IRQ_SRC, 1, 1⟩
abbrev Fld.SYS_IRQ_SRC_BEAT : FieldAt := ⟨Reg.SYS_IRQ_SRC, 0, 0⟩
-- BEAT (R55)
abbrev Fld.BEAT_CTRL_LOCK : FieldAt := ⟨Reg.BEAT_CTRL, 31, 31⟩
abbrev Fld.BEAT_CTRL_SWITCH_IE : FieldAt := ⟨Reg.BEAT_CTRL, 9, 9⟩
abbrev Fld.BEAT_CTRL_LOSS_IE : FieldAt := ⟨Reg.BEAT_CTRL, 8, 8⟩
abbrev Fld.BEAT_CTRL_SRC : FieldAt := ⟨Reg.BEAT_CTRL, 1, 0⟩
abbrev Fld.BEAT_NOMINAL_HZ : FieldAt := ⟨Reg.BEAT_NOMINAL, 16, 0⟩
abbrev Fld.BEAT_STATUS_SWITCH : FieldAt := ⟨Reg.BEAT_STATUS, 9, 9⟩
abbrev Fld.BEAT_STATUS_LOSS : FieldAt := ⟨Reg.BEAT_STATUS, 8, 8⟩
abbrev Fld.BEAT_STATUS_BASKET_QUAL : FieldAt := ⟨Reg.BEAT_STATUS, 5, 5⟩
abbrev Fld.BEAT_STATUS_PIN_QUAL : FieldAt := ⟨Reg.BEAT_STATUS, 4, 4⟩
abbrev Fld.BEAT_STATUS_FREE : FieldAt := ⟨Reg.BEAT_STATUS, 2, 2⟩
abbrev Fld.BEAT_STATUS_ACTIVE : FieldAt := ⟨Reg.BEAT_STATUS, 1, 0⟩
abbrev Fld.BEAT_MARGIN_BEATS : FieldAt := ⟨Reg.BEAT_MARGIN, 7, 0⟩
abbrev Fld.BEAT_CPB_MIN_CYCLES : FieldAt := ⟨Reg.BEAT_CPB_MIN, 19, 0⟩
abbrev Fld.BEAT_PERIOD_MEAS_XTAL : FieldAt := ⟨Reg.BEAT_PERIOD_MEAS, 19, 0⟩
abbrev Fld.BEAT_COUNT_HI_HI : FieldAt := ⟨Reg.BEAT_COUNT_HI, 15, 0⟩
abbrev Fld.BEAT_BASKET_OFS_HI_HI : FieldAt := ⟨Reg.BEAT_BASKET_OFS_HI, 15, 0⟩
abbrev Fld.BEAT_WDOG_EN : FieldAt := ⟨Reg.BEAT_WDOG, 31, 31⟩
abbrev Fld.BEAT_WDOG_LIMIT : FieldAt := ⟨Reg.BEAT_WDOG, 23, 0⟩
-- LCS (R354)
abbrev Fld.LCS_STAT_PENDING : FieldAt := ⟨Reg.LCS_STAT, 31, 31⟩
abbrev Fld.LCS_STAT_STUCK : FieldAt := ⟨Reg.LCS_STAT, 30, 30⟩
abbrev Fld.LCS_STAT_DEBUG : FieldAt := ⟨Reg.LCS_STAT, 29, 29⟩
abbrev Fld.LCS_STAT_OPEN : FieldAt := ⟨Reg.LCS_STAT, 28, 28⟩
abbrev Fld.LCS_STAT_HALTRIGHT : FieldAt := ⟨Reg.LCS_STAT, 27, 27⟩
abbrev Fld.LCS_STAT_MARKS : FieldAt := ⟨Reg.LCS_STAT, 23, 16⟩
abbrev Fld.LCS_STAT_REPROV : FieldAt := ⟨Reg.LCS_STAT, 11, 8⟩
abbrev Fld.LCS_STAT_LEGACY : FieldAt := ⟨Reg.LCS_STAT, 7, 4⟩
abbrev Fld.LCS_STAT_STATE : FieldAt := ⟨Reg.LCS_STAT, 2, 0⟩
abbrev Fld.LCS_LASTREF_VALID : FieldAt := ⟨Reg.LCS_LASTREF, 31, 31⟩
abbrev Fld.LCS_LASTREF_REASON : FieldAt := ⟨Reg.LCS_LASTREF, 7, 0⟩
abbrev Fld.LCS_DBG_RIGHTS_NVM_READ : FieldAt := ⟨Reg.LCS_DBG_RIGHTS, 23, 23⟩
abbrev Fld.LCS_DBG_RIGHTS_REG_WRITE : FieldAt := ⟨Reg.LCS_DBG_RIGHTS, 22, 22⟩
abbrev Fld.LCS_DBG_RIGHTS_HALT : FieldAt := ⟨Reg.LCS_DBG_RIGHTS, 21, 21⟩
abbrev Fld.LCS_DBG_RIGHTS_RINGS : FieldAt := ⟨Reg.LCS_DBG_RIGHTS, 19, 16⟩
abbrev Fld.LCS_DBG_RIGHTS_HEARTHS : FieldAt := ⟨Reg.LCS_DBG_RIGHTS, 15, 0⟩
-- TAMP (R375)
abbrev Fld.TAMP_CTRL_LOCK : FieldAt := ⟨Reg.TAMP_CTRL, 31, 31⟩
abbrev Fld.TAMP_STAT_QUAR : FieldAt := ⟨Reg.TAMP_STAT, 31, 31⟩
abbrev Fld.TAMP_STAT_TAMPERED : FieldAt := ⟨Reg.TAMP_STAT, 30, 30⟩
abbrev Fld.TAMP_STAT_LATCH : FieldAt := ⟨Reg.TAMP_STAT, 29, 29⟩
abbrev Fld.TAMP_STAT_ZEROISED : FieldAt := ⟨Reg.TAMP_STAT, 28, 28⟩
abbrev Fld.TAMP_STAT_BKLOW : FieldAt := ⟨Reg.TAMP_STAT, 27, 27⟩
abbrev Fld.TAMP_STAT_ONBAT : FieldAt := ⟨Reg.TAMP_STAT, 26, 26⟩
abbrev Fld.TAMP_STAT_GATED : FieldAt := ⟨Reg.TAMP_STAT, 25, 25⟩
abbrev Fld.TAMP_STAT_CLASS : FieldAt := ⟨Reg.TAMP_STAT, 18, 16⟩
abbrev Fld.TAMP_STAT_FIRST : FieldAt := ⟨Reg.TAMP_STAT, 6, 0⟩
abbrev Fld.TAMP_ALARM_VALID : FieldAt := ⟨Reg.TAMP_ALARM, 31, 31⟩
abbrev Fld.TAMP_ALARM_CLASS : FieldAt := ⟨Reg.TAMP_ALARM, 10, 8⟩
abbrev Fld.TAMP_ALARM_MON : FieldAt := ⟨Reg.TAMP_ALARM, 6, 0⟩
abbrev Fld.TAMP_BIST_BUSY : FieldAt := ⟨Reg.TAMP_BIST, 31, 31⟩
abbrev Fld.TAMP_BIST_PASS : FieldAt := ⟨Reg.TAMP_BIST, 30, 30⟩
abbrev Fld.TAMP_BIST_DONE : FieldAt := ⟨Reg.TAMP_BIST, 29, 29⟩
abbrev Fld.TAMP_BIST_START : FieldAt := ⟨Reg.TAMP_BIST, 8, 8⟩
abbrev Fld.TAMP_BIST_MON : FieldAt := ⟨Reg.TAMP_BIST, 6, 0⟩
abbrev Fld.TAMP_BKCFG_BKN : FieldAt := ⟨Reg.TAMP_BKCFG, 1, 0⟩
abbrev Fld.TAMP_BKLOG_PTR_OVF : FieldAt := ⟨Reg.TAMP_BKLOG_PTR, 31, 16⟩
abbrev Fld.TAMP_BKLOG_PTR_NEXT : FieldAt := ⟨Reg.TAMP_BKLOG_PTR, 5, 0⟩
abbrev Fld.TAMP_BKARM1_CASES : FieldAt := ⟨Reg.TAMP_BKARM1, 19, 16⟩
abbrev Fld.TAMP_BKARM1_WALES : FieldAt := ⟨Reg.TAMP_BKARM1, 15, 0⟩
abbrev Fld.TAMP_BKLOG_W1_FLAGS (i : Nat) : FieldAt := ⟨(Reg.TAMP_BKLOG_W1 i), 23, 16⟩
abbrev Fld.TAMP_BKLOG_W1_CLASS (i : Nat) : FieldAt := ⟨(Reg.TAMP_BKLOG_W1 i), 15, 8⟩
abbrev Fld.TAMP_BKLOG_W1_MON (i : Nat) : FieldAt := ⟨(Reg.TAMP_BKLOG_W1 i), 6, 0⟩
abbrev Fld.TAMP_MCFG_W (i : Nat) : FieldAt := ⟨(Reg.TAMP_MCFG i), 31, 16⟩
abbrev Fld.TAMP_MCFG_N (i : Nat) : FieldAt := ⟨(Reg.TAMP_MCFG i), 11, 8⟩
abbrev Fld.TAMP_MCFG_CLASS (i : Nat) : FieldAt := ⟨(Reg.TAMP_MCFG i), 2, 0⟩
abbrev Fld.TAMP_MSTAT_EVENTS (i : Nat) : FieldAt := ⟨(Reg.TAMP_MSTAT i), 31, 16⟩
abbrev Fld.TAMP_MSTAT_INWIN (i : Nat) : FieldAt := ⟨(Reg.TAMP_MSTAT i), 15, 8⟩
abbrev Fld.TAMP_MSTAT_ALARMS (i : Nat) : FieldAt := ⟨(Reg.TAMP_MSTAT i), 7, 0⟩
-- RNG (R271)
abbrev Fld.RNG_CTRL_LOCK : FieldAt := ⟨Reg.RNG_CTRL, 31, 31⟩
abbrev Fld.RNG_CTRL_FAIL_IE : FieldAt := ⟨Reg.RNG_CTRL, 8, 8⟩
abbrev Fld.RNG_CTRL_COND : FieldAt := ⟨Reg.RNG_CTRL, 4, 4⟩
abbrev Fld.RNG_CTRL_SRC_EN : FieldAt := ⟨Reg.RNG_CTRL, 3, 0⟩
abbrev Fld.RNG_STAT_HEALTHY : FieldAt := ⟨Reg.RNG_STAT, 31, 31⟩
abbrev Fld.RNG_STAT_FAIL : FieldAt := ⟨Reg.RNG_STAT, 30, 30⟩
abbrev Fld.RNG_STAT_SHORT : FieldAt := ⟨Reg.RNG_STAT, 29, 29⟩
abbrev Fld.RNG_STAT_SRC_FAIL : FieldAt := ⟨Reg.RNG_STAT, 19, 16⟩
abbrev Fld.RNG_STAT_LEVEL : FieldAt := ⟨Reg.RNG_STAT, 12, 0⟩
abbrev Fld.RNG_HCFG_APT_CUT : FieldAt := ⟨Reg.RNG_HCFG, 31, 16⟩
abbrev Fld.RNG_HCFG_RCT_CUT : FieldAt := ⟨Reg.RNG_HCFG, 7, 0⟩
abbrev Fld.RNG_RESERVE_BYTES : FieldAt := ⟨Reg.RNG_RESERVE, 12, 0⟩
abbrev Fld.RNG_RESTART_SRC : FieldAt := ⟨Reg.RNG_RESTART, 3, 0⟩
abbrev Fld.RNG_SRC_ONES (i : Nat) : FieldAt := ⟨(Reg.RNG_SRC i), 31, 16⟩
abbrev Fld.RNG_SRC_EQ (i : Nat) : FieldAt := ⟨(Reg.RNG_SRC i), 15, 0⟩
abbrev Fld.RNG_SHC_RCT_FAILS (i : Nat) : FieldAt := ⟨(Reg.RNG_SHC i), 31, 16⟩
abbrev Fld.RNG_SHC_APT_FAILS (i : Nat) : FieldAt := ⟨(Reg.RNG_SHC i), 15, 0⟩
abbrev Fld.RNG_KAT_CTL_BUSY : FieldAt := ⟨Reg.RNG_KAT_CTL, 31, 31⟩
abbrev Fld.RNG_KAT_CTL_PASS : FieldAt := ⟨Reg.RNG_KAT_CTL, 30, 30⟩
abbrev Fld.RNG_KAT_CTL_BITS : FieldAt := ⟨Reg.RNG_KAT_CTL, 21, 12⟩
abbrev Fld.RNG_KAT_CTL_START : FieldAt := ⟨Reg.RNG_KAT_CTL, 8, 8⟩
abbrev Fld.RNG_KAT_CTL_TARGET : FieldAt := ⟨Reg.RNG_KAT_CTL, 1, 0⟩
-- NVMC (R331, R189)
abbrev Fld.NVMC_CTRL_LOCK : FieldAt := ⟨Reg.NVMC_CTRL, 31, 31⟩
abbrev Fld.NVMC_CTRL_REF_IE : FieldAt := ⟨Reg.NVMC_CTRL, 2, 2⟩
abbrev Fld.NVMC_CTRL_OP_IE : FieldAt := ⟨Reg.NVMC_CTRL, 1, 1⟩
abbrev Fld.NVMC_CTRL_DO0 : FieldAt := ⟨Reg.NVMC_CTRL, 0, 0⟩
abbrev Fld.NVMC_BANKST_STATE (i : Nat) : FieldAt := ⟨(Reg.NVMC_BANKST i), 31, 28⟩
abbrev Fld.NVMC_BANKST_XSUSP (i : Nat) : FieldAt := ⟨(Reg.NVMC_BANKST i), 27, 27⟩
abbrev Fld.NVMC_BANKST_DO (i : Nat) : FieldAt := ⟨(Reg.NVMC_BANKST i), 26, 26⟩
abbrev Fld.NVMC_BANKST_ESECT (i : Nat) : FieldAt := ⟨(Reg.NVMC_BANKST i), 8, 0⟩
abbrev Fld.NVMC_OPSTAT_DONE : FieldAt := ⟨Reg.NVMC_OPSTAT, 31, 31⟩
abbrev Fld.NVMC_OPSTAT_SECTOR : FieldAt := ⟨Reg.NVMC_OPSTAT, 26, 16⟩
abbrev Fld.NVMC_OPSTAT_STATUS : FieldAt := ⟨Reg.NVMC_OPSTAT, 15, 0⟩
abbrev Fld.NVMC_PATROL_OVERRUN : FieldAt := ⟨Reg.NVMC_PATROL, 31, 31⟩
abbrev Fld.NVMC_PATROL_SECTOR : FieldAt := ⟨Reg.NVMC_PATROL, 26, 16⟩
abbrev Fld.NVMC_PATROL_PASSES : FieldAt := ⟨Reg.NVMC_PATROL, 15, 0⟩
abbrev Fld.NVMC_REFRESH_ACTIVE : FieldAt := ⟨Reg.NVMC_REFRESH, 31, 31⟩
abbrev Fld.NVMC_REFRESH_DONE : FieldAt := ⟨Reg.NVMC_REFRESH, 30, 30⟩
abbrev Fld.NVMC_REFRESH_SECTOR : FieldAt := ⟨Reg.NVMC_REFRESH, 26, 16⟩
abbrev Fld.NVMC_REFRESH_COUNT : FieldAt := ⟨Reg.NVMC_REFRESH, 15, 0⟩
abbrev Fld.NVMC_ECC_UNCORR : FieldAt := ⟨Reg.NVMC_ECC, 31, 16⟩
abbrev Fld.NVMC_ECC_CORR : FieldAt := ⟨Reg.NVMC_ECC, 15, 0⟩
abbrev Fld.NVMC_ECC_ADDR_OFFSET : FieldAt := ⟨Reg.NVMC_ECC_ADDR, 26, 0⟩
abbrev Fld.NVMC_ERASES_FAILS : FieldAt := ⟨Reg.NVMC_ERASES, 31, 16⟩
abbrev Fld.NVMC_ERASES_PFAILS : FieldAt := ⟨Reg.NVMC_ERASES, 15, 0⟩
abbrev Fld.NVMC_POOL_BAD : FieldAt := ⟨Reg.NVMC_POOL, 26, 16⟩
abbrev Fld.NVMC_POOL_HEAD : FieldAt := ⟨Reg.NVMC_POOL, 9, 0⟩
abbrev Fld.NVMC_ARB_CFG_FB_EN : FieldAt := ⟨Reg.NVMC_ARB_CFG, 31, 31⟩
abbrev Fld.NVMC_ARB_CFG_FB_N : FieldAt := ⟨Reg.NVMC_ARB_CFG, 30, 24⟩
abbrev Fld.NVMC_ARB_CFG_STARVE_LIMIT : FieldAt := ⟨Reg.NVMC_ARB_CFG, 23, 12⟩
abbrev Fld.NVMC_ARB_CFG_RANK3 : FieldAt := ⟨Reg.NVMC_ARB_CFG, 7, 6⟩
abbrev Fld.NVMC_ARB_CFG_RANK2 : FieldAt := ⟨Reg.NVMC_ARB_CFG, 5, 4⟩
abbrev Fld.NVMC_ARB_CFG_RANK1 : FieldAt := ⟨Reg.NVMC_ARB_CFG, 3, 2⟩
abbrev Fld.NVMC_ARB_CFG_RANK0 : FieldAt := ⟨Reg.NVMC_ARB_CFG, 1, 0⟩
abbrev Fld.NVMC_ARB_STAT_STARVE : FieldAt := ⟨Reg.NVMC_ARB_STAT, 31, 31⟩
abbrev Fld.NVMC_ARB_STAT_REVOKED : FieldAt := ⟨Reg.NVMC_ARB_STAT, 29, 29⟩
abbrev Fld.NVMC_ARB_STAT_BANK : FieldAt := ⟨Reg.NVMC_ARB_STAT, 27, 24⟩
abbrev Fld.NVMC_ARB_STAT_STARVE_REQ : FieldAt := ⟨Reg.NVMC_ARB_STAT, 21, 16⟩
abbrev Fld.NVMC_ARB_STAT_MAXWAIT : FieldAt := ⟨Reg.NVMC_ARB_STAT, 15, 8⟩
abbrev Fld.NVMC_ARB_STAT_WAITING : FieldAt := ⟨Reg.NVMC_ARB_STAT, 5, 0⟩
-- LEDG (R304)
abbrev Fld.LEDG_CTRL_LOCK : FieldAt := ⟨Reg.LEDG_CTRL, 31, 31⟩
abbrev Fld.LEDG_CTRL_ERR_IE : FieldAt := ⟨Reg.LEDG_CTRL, 0, 0⟩
abbrev Fld.LEDG_STAT_READY : FieldAt := ⟨Reg.LEDG_STAT, 31, 31⟩
abbrev Fld.LEDG_STAT_SEALED : FieldAt := ⟨Reg.LEDG_STAT, 30, 30⟩
abbrev Fld.LEDG_STAT_DIRERR : FieldAt := ⟨Reg.LEDG_STAT, 29, 29⟩
abbrev Fld.LEDG_STAT_TORNEV : FieldAt := ⟨Reg.LEDG_STAT, 28, 28⟩
abbrev Fld.LEDG_STAT_OPEN : FieldAt := ⟨Reg.LEDG_STAT, 21, 16⟩
abbrev Fld.LEDG_STAT_LOCKED : FieldAt := ⟨Reg.LEDG_STAT, 15, 0⟩
abbrev Fld.LEDG_GROUP_WAIT_CYCLES : FieldAt := ⟨Reg.LEDG_GROUP_WAIT, 19, 0⟩
abbrev Fld.LEDG_LSN_HI_HI : FieldAt := ⟨Reg.LEDG_LSN_HI, 15, 0⟩
abbrev Fld.LEDG_TORN_COUNT : FieldAt := ⟨Reg.LEDG_TORN, 15, 0⟩
abbrev Fld.LEDG_DERR_UNCORR : FieldAt := ⟨Reg.LEDG_DERR, 31, 16⟩
abbrev Fld.LEDG_DERR_CORR : FieldAt := ⟨Reg.LEDG_DERR, 15, 0⟩
abbrev Fld.LEDG_DERR_IDX_INDEX : FieldAt := ⟨Reg.LEDG_DERR_IDX, 16, 0⟩
abbrev Fld.LEDG_RIDX_INDEX : FieldAt := ⟨Reg.LEDG_RIDX, 16, 0⟩
abbrev Fld.LEDG_RSTAT_DONE : FieldAt := ⟨Reg.LEDG_RSTAT, 31, 31⟩
abbrev Fld.LEDG_RSTAT_DENIED : FieldAt := ⟨Reg.LEDG_RSTAT, 30, 30⟩
abbrev Fld.LEDG_STG_RES_STATUS : FieldAt := ⟨Reg.LEDG_STG_RES, 31, 16⟩
abbrev Fld.LEDG_STG_RES_SUB : FieldAt := ⟨Reg.LEDG_STG_RES, 15, 8⟩
abbrev Fld.LEDG_STG_RES_STAGED : FieldAt := ⟨Reg.LEDG_STG_RES, 4, 0⟩
abbrev Fld.LEDG_DSCRUB_OVERRUN : FieldAt := ⟨Reg.LEDG_DSCRUB, 31, 31⟩
abbrev Fld.LEDG_DSCRUB_LATE : FieldAt := ⟨Reg.LEDG_DSCRUB, 30, 30⟩
abbrev Fld.LEDG_DSCRUB_PASSES : FieldAt := ⟨Reg.LEDG_DSCRUB, 23, 0⟩
-- FLUE control (R177)
abbrev Fld.FLUE_CTRL_LOCK : FieldAt := ⟨Reg.FLUE_CTRL, 31, 31⟩
abbrev Fld.FLUE_REFUSE_VALID : FieldAt := ⟨Reg.FLUE_REFUSE, 31, 31⟩
abbrev Fld.FLUE_REFUSE_KIND : FieldAt := ⟨Reg.FLUE_REFUSE, 30, 30⟩
abbrev Fld.FLUE_REFUSE_CHANNEL : FieldAt := ⟨Reg.FLUE_REFUSE, 26, 16⟩
abbrev Fld.FLUE_REFUSE_MASTER : FieldAt := ⟨Reg.FLUE_REFUSE, 9, 0⟩
-- the flue channel table (R166)
abbrev Fld.CHAN_W0_EN (i : Nat) : FieldAt := ⟨(Reg.CHAN_W0 i), 31, 31⟩
abbrev Fld.CHAN_W0_FULL (i : Nat) : FieldAt := ⟨(Reg.CHAN_W0 i), 30, 30⟩
abbrev Fld.CHAN_W0_RECV (i : Nat) : FieldAt := ⟨(Reg.CHAN_W0 i), 25, 16⟩
abbrev Fld.CHAN_W0_SEND (i : Nat) : FieldAt := ⟨(Reg.CHAN_W0 i), 9, 0⟩
abbrev Fld.CHAN_W1_SEQ (i : Nat) : FieldAt := ⟨(Reg.CHAN_W1 i), 31, 16⟩
abbrev Fld.CHAN_W1_DB (i : Nat) : FieldAt := ⟨(Reg.CHAN_W1 i), 15, 15⟩
abbrev Fld.CHAN_W1_DBIT (i : Nat) : FieldAt := ⟨(Reg.CHAN_W1 i), 13, 8⟩
-- HRT<n> (R511)
abbrev Fld.HRT_UCTL_DRAINED (n : Nat) : FieldAt := ⟨(Reg.HRT_UCTL n), 31, 31⟩
abbrev Fld.HRT_UCTL_DRAINING (n : Nat) : FieldAt := ⟨(Reg.HRT_UCTL n), 30, 30⟩
abbrev Fld.HRT_UCTL_STARTED (n : Nat) : FieldAt := ⟨(Reg.HRT_UCTL n), 23, 16⟩
abbrev Fld.HRT_UCTL_QUEUED (n : Nat) : FieldAt := ⟨(Reg.HRT_UCTL n), 15, 8⟩
abbrev Fld.HRT_UCTL_DRAINEV (n : Nat) : FieldAt := ⟨(Reg.HRT_UCTL n), 2, 2⟩
abbrev Fld.HRT_UCTL_DRAIN_IE (n : Nat) : FieldAt := ⟨(Reg.HRT_UCTL n), 1, 1⟩
abbrev Fld.HRT_UCTL_ENABLE (n : Nat) : FieldAt := ⟨(Reg.HRT_UCTL n), 0, 0⟩
abbrev Fld.HRT_PAIRSUM_SPARES (n : Nat) : FieldAt := ⟨(Reg.HRT_PAIRSUM n), 21, 16⟩
abbrev Fld.HRT_PAIRSUM_RETIRED (n : Nat) : FieldAt := ⟨(Reg.HRT_PAIRSUM n), 13, 8⟩
abbrev Fld.HRT_PAIRSUM_SESSIONS (n : Nat) : FieldAt := ⟨(Reg.HRT_PAIRSUM n), 5, 0⟩
abbrev Fld.HRT_MISM_VALID (n : Nat) : FieldAt := ⟨(Reg.HRT_MISM n), 31, 31⟩
abbrev Fld.HRT_MISM_OVER (n : Nat) : FieldAt := ⟨(Reg.HRT_MISM n), 30, 30⟩
abbrev Fld.HRT_MISM_KIND (n : Nat) : FieldAt := ⟨(Reg.HRT_MISM n), 29, 27⟩
abbrev Fld.HRT_MISM_PAIR (n : Nat) : FieldAt := ⟨(Reg.HRT_MISM n), 20, 16⟩
abbrev Fld.HRT_RPOL_LIMIT (n : Nat) : FieldAt := ⟨(Reg.HRT_RPOL n), 31, 28⟩
abbrev Fld.HRT_RPOL_WINDOW (n : Nat) : FieldAt := ⟨(Reg.HRT_RPOL n), 23, 0⟩
abbrev Fld.HRT_SCRUB_OVERRUN (n : Nat) : FieldAt := ⟨(Reg.HRT_SCRUB n), 31, 31⟩
abbrev Fld.HRT_SCRUB_LATE (n : Nat) : FieldAt := ⟨(Reg.HRT_SCRUB n), 30, 30⟩
abbrev Fld.HRT_SCRUB_PASSES (n : Nat) : FieldAt := ⟨(Reg.HRT_SCRUB n), 23, 0⟩
abbrev Fld.HRT_SCRUB_POS_LINE (n : Nat) : FieldAt := ⟨(Reg.HRT_SCRUB_POS n), 21, 5⟩
abbrev Fld.HRT_MEMERR_UNCORR (n : Nat) : FieldAt := ⟨(Reg.HRT_MEMERR n), 31, 16⟩
abbrev Fld.HRT_MEMERR_CORR (n : Nat) : FieldAt := ⟨(Reg.HRT_MEMERR n), 15, 0⟩
abbrev Fld.HRT_PST_ROLE (n i : Nat) : FieldAt := ⟨(Reg.HRT_PST n i), 31, 28⟩
abbrev Fld.HRT_PST_TRANSIENTS (n i : Nat) : FieldAt := ⟨(Reg.HRT_PST n i), 27, 24⟩
abbrev Fld.HRT_PST_TENANT (n i : Nat) : FieldAt := ⟨(Reg.HRT_PST n i), 23, 16⟩
abbrev Fld.HRT_PST_HOME (n i : Nat) : FieldAt := ⟨(Reg.HRT_PST n i), 15, 12⟩
abbrev Fld.HRT_PST_RESTORE (n i : Nat) : FieldAt := ⟨(Reg.HRT_PST n i), 3, 3⟩
abbrev Fld.HRT_PST_XH (n i : Nat) : FieldAt := ⟨(Reg.HRT_PST n i), 2, 2⟩
abbrev Fld.HRT_PST_REPLAY (n i : Nat) : FieldAt := ⟨(Reg.HRT_PST n i), 1, 1⟩
abbrev Fld.HRT_PST_JOB (n i : Nat) : FieldAt := ⟨(Reg.HRT_PST n i), 0, 0⟩
abbrev Fld.HRT_PKE_ARB_CFG_FB_EN (n : Nat) : FieldAt := ⟨(Reg.HRT_PKE_ARB_CFG n), 31, 31⟩
abbrev Fld.HRT_PKE_ARB_CFG_FB_N (n : Nat) : FieldAt := ⟨(Reg.HRT_PKE_ARB_CFG n), 30, 24⟩
abbrev Fld.HRT_PKE_ARB_CFG_STARVE_LIMIT (n : Nat) : FieldAt := ⟨(Reg.HRT_PKE_ARB_CFG n), 23, 12⟩
abbrev Fld.HRT_PKE_ARB_CFG_RANK3 (n : Nat) : FieldAt := ⟨(Reg.HRT_PKE_ARB_CFG n), 7, 6⟩
abbrev Fld.HRT_PKE_ARB_CFG_RANK2 (n : Nat) : FieldAt := ⟨(Reg.HRT_PKE_ARB_CFG n), 5, 4⟩
abbrev Fld.HRT_PKE_ARB_CFG_RANK1 (n : Nat) : FieldAt := ⟨(Reg.HRT_PKE_ARB_CFG n), 3, 2⟩
abbrev Fld.HRT_PKE_ARB_CFG_RANK0 (n : Nat) : FieldAt := ⟨(Reg.HRT_PKE_ARB_CFG n), 1, 0⟩
abbrev Fld.HRT_PKE_ARB_STAT_STARVE (n : Nat) : FieldAt := ⟨(Reg.HRT_PKE_ARB_STAT n), 31, 31⟩
abbrev Fld.HRT_PKE_ARB_STAT_REVOKED (n : Nat) : FieldAt := ⟨(Reg.HRT_PKE_ARB_STAT n), 29, 29⟩
abbrev Fld.HRT_PKE_ARB_STAT_BANK (n : Nat) : FieldAt := ⟨(Reg.HRT_PKE_ARB_STAT n), 27, 24⟩
abbrev Fld.HRT_PKE_ARB_STAT_STARVE_REQ (n : Nat) : FieldAt := ⟨(Reg.HRT_PKE_ARB_STAT n), 21, 16⟩
abbrev Fld.HRT_PKE_ARB_STAT_MAXWAIT (n : Nat) : FieldAt := ⟨(Reg.HRT_PKE_ARB_STAT n), 15, 8⟩
abbrev Fld.HRT_PKE_ARB_STAT_WAITING (n : Nat) : FieldAt := ⟨(Reg.HRT_PKE_ARB_STAT n), 5, 0⟩
abbrev Fld.HRT_BANK_ARB_CFG_FB_EN (n : Nat) : FieldAt := ⟨(Reg.HRT_BANK_ARB_CFG n), 31, 31⟩
abbrev Fld.HRT_BANK_ARB_CFG_FB_N (n : Nat) : FieldAt := ⟨(Reg.HRT_BANK_ARB_CFG n), 30, 24⟩
abbrev Fld.HRT_BANK_ARB_CFG_STARVE_LIMIT (n : Nat) : FieldAt := ⟨(Reg.HRT_BANK_ARB_CFG n), 23, 12⟩
abbrev Fld.HRT_BANK_ARB_CFG_RANK3 (n : Nat) : FieldAt := ⟨(Reg.HRT_BANK_ARB_CFG n), 7, 6⟩
abbrev Fld.HRT_BANK_ARB_CFG_RANK2 (n : Nat) : FieldAt := ⟨(Reg.HRT_BANK_ARB_CFG n), 5, 4⟩
abbrev Fld.HRT_BANK_ARB_CFG_RANK1 (n : Nat) : FieldAt := ⟨(Reg.HRT_BANK_ARB_CFG n), 3, 2⟩
abbrev Fld.HRT_BANK_ARB_CFG_RANK0 (n : Nat) : FieldAt := ⟨(Reg.HRT_BANK_ARB_CFG n), 1, 0⟩
abbrev Fld.HRT_BANK_ARB_STAT_STARVE (n : Nat) : FieldAt := ⟨(Reg.HRT_BANK_ARB_STAT n), 31, 31⟩
abbrev Fld.HRT_BANK_ARB_STAT_REVOKED (n : Nat) : FieldAt := ⟨(Reg.HRT_BANK_ARB_STAT n), 29, 29⟩
abbrev Fld.HRT_BANK_ARB_STAT_BANK (n : Nat) : FieldAt := ⟨(Reg.HRT_BANK_ARB_STAT n), 27, 24⟩
abbrev Fld.HRT_BANK_ARB_STAT_STARVE_REQ (n : Nat) : FieldAt := ⟨(Reg.HRT_BANK_ARB_STAT n), 21, 16⟩
abbrev Fld.HRT_BANK_ARB_STAT_MAXWAIT (n : Nat) : FieldAt := ⟨(Reg.HRT_BANK_ARB_STAT n), 15, 8⟩
abbrev Fld.HRT_BANK_ARB_STAT_WAITING (n : Nat) : FieldAt := ⟨(Reg.HRT_BANK_ARB_STAT n), 5, 0⟩
abbrev Fld.PKE_UCTL_DRAINED (n : Nat) : FieldAt := ⟨(Reg.PKE_UCTL n), 31, 31⟩
abbrev Fld.PKE_UCTL_DRAINING (n : Nat) : FieldAt := ⟨(Reg.PKE_UCTL n), 30, 30⟩
abbrev Fld.PKE_UCTL_STARTED (n : Nat) : FieldAt := ⟨(Reg.PKE_UCTL n), 23, 16⟩
abbrev Fld.PKE_UCTL_QUEUED (n : Nat) : FieldAt := ⟨(Reg.PKE_UCTL n), 15, 8⟩
abbrev Fld.PKE_UCTL_DRAINEV (n : Nat) : FieldAt := ⟨(Reg.PKE_UCTL n), 2, 2⟩
abbrev Fld.PKE_UCTL_DRAIN_IE (n : Nat) : FieldAt := ⟨(Reg.PKE_UCTL n), 1, 1⟩
abbrev Fld.PKE_UCTL_ENABLE (n : Nat) : FieldAt := ⟨(Reg.PKE_UCTL n), 0, 0⟩
abbrev Fld.PKE_SUBMIT_ADDR (n : Nat) : FieldAt := ⟨(Reg.PKE_SUBMIT n), 31, 6⟩
abbrev Fld.PKE_CFG_BWAIT (n : Nat) : FieldAt := ⟨(Reg.PKE_CFG n), 15, 0⟩
abbrev Fld.PKE_STAT_BUSY (n : Nat) : FieldAt := ⟨(Reg.PKE_STAT n), 31, 31⟩
abbrev Fld.PKE_STAT_SELFTEST (n : Nat) : FieldAt := ⟨(Reg.PKE_STAT n), 30, 30⟩
abbrev Fld.PKE_STAT_FAILED (n : Nat) : FieldAt := ⟨(Reg.PKE_STAT n), 29, 29⟩
abbrev Fld.PKE_STAT_RETRIED (n : Nat) : FieldAt := ⟨(Reg.PKE_STAT n), 28, 28⟩
abbrev Fld.PKE_STAT_CUR (n : Nat) : FieldAt := ⟨(Reg.PKE_STAT n), 5, 0⟩
abbrev Fld.PKE_PFAULTS_FAILS (n : Nat) : FieldAt := ⟨(Reg.PKE_PFAULTS n), 31, 16⟩
abbrev Fld.PKE_PFAULTS_FAULTS (n : Nat) : FieldAt := ⟨(Reg.PKE_PFAULTS n), 15, 0⟩
abbrev Fld.PKE_LAST_STATUS (n : Nat) : FieldAt := ⟨(Reg.PKE_LAST n), 31, 16⟩
abbrev Fld.PKE_LAST_CODE (n : Nat) : FieldAt := ⟨(Reg.PKE_LAST n), 15, 8⟩
abbrev Fld.PKE_LAST_REQ (n : Nat) : FieldAt := ⟨(Reg.PKE_LAST n), 5, 0⟩
abbrev Fld.HRT_SFAULTS_FAILS (n : Nat) : FieldAt := ⟨(Reg.HRT_SFAULTS n), 31, 16⟩
abbrev Fld.HRT_SFAULTS_FAULTS (n : Nat) : FieldAt := ⟨(Reg.HRT_SFAULTS n), 15, 0⟩
abbrev Fld.SYM_UCTL_DRAINED (n i : Nat) : FieldAt := ⟨(Reg.SYM_UCTL n i), 31, 31⟩
abbrev Fld.SYM_UCTL_DRAINING (n i : Nat) : FieldAt := ⟨(Reg.SYM_UCTL n i), 30, 30⟩
abbrev Fld.SYM_UCTL_STARTED (n i : Nat) : FieldAt := ⟨(Reg.SYM_UCTL n i), 23, 16⟩
abbrev Fld.SYM_UCTL_QUEUED (n i : Nat) : FieldAt := ⟨(Reg.SYM_UCTL n i), 15, 8⟩
abbrev Fld.SYM_UCTL_DRAINEV (n i : Nat) : FieldAt := ⟨(Reg.SYM_UCTL n i), 2, 2⟩
abbrev Fld.SYM_UCTL_DRAIN_IE (n i : Nat) : FieldAt := ⟨(Reg.SYM_UCTL n i), 1, 1⟩
abbrev Fld.SYM_UCTL_ENABLE (n i : Nat) : FieldAt := ⟨(Reg.SYM_UCTL n i), 0, 0⟩
abbrev Fld.SYM_SUBMIT_ADDR (n i : Nat) : FieldAt := ⟨(Reg.SYM_SUBMIT n i), 31, 6⟩
abbrev Fld.SYM_STAT_BUSY (n i : Nat) : FieldAt := ⟨(Reg.SYM_STAT n i), 31, 31⟩
abbrev Fld.SYM_STAT_SELFTEST (n i : Nat) : FieldAt := ⟨(Reg.SYM_STAT n i), 30, 30⟩
abbrev Fld.SYM_STAT_FAILED (n i : Nat) : FieldAt := ⟨(Reg.SYM_STAT n i), 29, 29⟩
abbrev Fld.SYM_STAT_FAULTED (n i : Nat) : FieldAt := ⟨(Reg.SYM_STAT n i), 28, 28⟩
abbrev Fld.SYM_STAT_COPY (n i : Nat) : FieldAt := ⟨(Reg.SYM_STAT n i), 27, 27⟩
abbrev Fld.SYM_STAT_QLEN (n i : Nat) : FieldAt := ⟨(Reg.SYM_STAT n i), 11, 8⟩
abbrev Fld.SYM_STAT_CUR (n i : Nat) : FieldAt := ⟨(Reg.SYM_STAT n i), 5, 0⟩
-- PG<n> (R154)
abbrev Fld.PG_UCTL_DRAINED (n : Nat) : FieldAt := ⟨(Reg.PG_UCTL n), 31, 31⟩
abbrev Fld.PG_UCTL_DRAINING (n : Nat) : FieldAt := ⟨(Reg.PG_UCTL n), 30, 30⟩
abbrev Fld.PG_UCTL_STARTED (n : Nat) : FieldAt := ⟨(Reg.PG_UCTL n), 23, 16⟩
abbrev Fld.PG_UCTL_QUEUED (n : Nat) : FieldAt := ⟨(Reg.PG_UCTL n), 15, 8⟩
abbrev Fld.PG_UCTL_DRAINEV (n : Nat) : FieldAt := ⟨(Reg.PG_UCTL n), 2, 2⟩
abbrev Fld.PG_UCTL_DRAIN_IE (n : Nat) : FieldAt := ⟨(Reg.PG_UCTL n), 1, 1⟩
abbrev Fld.PG_UCTL_ENABLE (n : Nat) : FieldAt := ⟨(Reg.PG_UCTL n), 0, 0⟩
abbrev Fld.PG_PGCTL_APPLY (n : Nat) : FieldAt := ⟨(Reg.PG_PGCTL n), 0, 0⟩
abbrev Fld.PG_PGSTAT_PEND (n : Nat) : FieldAt := ⟨(Reg.PG_PGSTAT n), 31, 31⟩
abbrev Fld.PG_PGSTAT_OVL (n : Nat) : FieldAt := ⟨(Reg.PG_PGSTAT n), 30, 30⟩
abbrev Fld.PG_PGSTAT_ACTIVE (n : Nat) : FieldAt := ⟨(Reg.PG_PGSTAT n), 7, 0⟩
abbrev Fld.PG_FAULT_INFO_VALID (n : Nat) : FieldAt := ⟨(Reg.PG_FAULT_INFO n), 31, 31⟩
abbrev Fld.PG_FAULT_INFO_WR (n : Nat) : FieldAt := ⟨(Reg.PG_FAULT_INFO n), 9, 9⟩
abbrev Fld.PG_FAULT_INFO_LEN (n : Nat) : FieldAt := ⟨(Reg.PG_FAULT_INFO n), 8, 0⟩
abbrev Fld.PG_MASTER_ID (n : Nat) : FieldAt := ⟨(Reg.PG_MASTER n), 9, 0⟩
abbrev Fld.PG_BASE_BASE (n i : Nat) : FieldAt := ⟨(Reg.PG_BASE n i), 31, 5⟩
abbrev Fld.PG_ATTR_EN (n i : Nat) : FieldAt := ⟨(Reg.PG_ATTR n i), 31, 31⟩
abbrev Fld.PG_ATTR_SIZE (n i : Nat) : FieldAt := ⟨(Reg.PG_ATTR n i), 13, 8⟩
abbrev Fld.PG_ATTR_W (n i : Nat) : FieldAt := ⟨(Reg.PG_ATTR n i), 1, 1⟩
abbrev Fld.PG_ATTR_R (n i : Nat) : FieldAt := ⟨(Reg.PG_ATTR n i), 0, 0⟩
-- HOST (R217)
abbrev Fld.HOST_LCTL_ERR_IE (i : Nat) : FieldAt := ⟨(Reg.HOST_LCTL i), 8, 8⟩
abbrev Fld.HOST_LCTL_ECRC (i : Nat) : FieldAt := ⟨(Reg.HOST_LCTL i), 0, 0⟩
abbrev Fld.HOST_LSTAT_LINK_UP (i : Nat) : FieldAt := ⟨(Reg.HOST_LSTAT i), 31, 31⟩
abbrev Fld.HOST_LSTAT_RETRAIN (i : Nat) : FieldAt := ⟨(Reg.HOST_LSTAT i), 30, 30⟩
abbrev Fld.HOST_LSTAT_SPEED (i : Nat) : FieldAt := ⟨(Reg.HOST_LSTAT i), 27, 24⟩
abbrev Fld.HOST_LSTAT_WIDTH (i : Nat) : FieldAt := ⟨(Reg.HOST_LSTAT i), 23, 20⟩
abbrev Fld.HOST_LSTAT_QERR (i : Nat) : FieldAt := ⟨(Reg.HOST_LSTAT i), 6, 0⟩
abbrev Fld.HOST_AQ_SQ_LO_ADDR (i : Nat) : FieldAt := ⟨(Reg.HOST_AQ_SQ_LO i), 31, 12⟩
abbrev Fld.HOST_AQ_SQ_LO_LOG2 (i : Nat) : FieldAt := ⟨(Reg.HOST_AQ_SQ_LO i), 3, 0⟩
abbrev Fld.HOST_AQ_CQ_LO_ADDR (i : Nat) : FieldAt := ⟨(Reg.HOST_AQ_CQ_LO i), 31, 12⟩
abbrev Fld.HOST_AQ_CQ_LO_LOG2 (i : Nat) : FieldAt := ⟨(Reg.HOST_AQ_CQ_LO i), 3, 0⟩
abbrev Fld.HOST_AQ_CTL_EN (i : Nat) : FieldAt := ⟨(Reg.HOST_AQ_CTL i), 31, 31⟩
abbrev Fld.HOST_AQ_CTL_VEC (i : Nat) : FieldAt := ⟨(Reg.HOST_AQ_CTL i), 6, 0⟩
abbrev Fld.HOST_SQ_TAIL_TAIL (i : Nat) : FieldAt := ⟨(Reg.HOST_SQ_TAIL i), 11, 0⟩
abbrev Fld.HOST_CQ_HEAD_HEAD (i : Nat) : FieldAt := ⟨(Reg.HOST_CQ_HEAD i), 11, 0⟩
abbrev Fld.HOST_QSTAT_EN (i : Nat) : FieldAt := ⟨(Reg.HOST_QSTAT i), 31, 31⟩
abbrev Fld.HOST_QSTAT_ERR (i : Nat) : FieldAt := ⟨(Reg.HOST_QSTAT i), 30, 30⟩
abbrev Fld.HOST_QSTAT_HELD (i : Nat) : FieldAt := ⟨(Reg.HOST_QSTAT i), 29, 29⟩
abbrev Fld.HOST_QSTAT_PRIV (i : Nat) : FieldAt := ⟨(Reg.HOST_QSTAT i), 28, 28⟩
abbrev Fld.HOST_QSTAT_TENANT (i : Nat) : FieldAt := ⟨(Reg.HOST_QSTAT i), 23, 16⟩
abbrev Fld.HOST_QSTAT_SQ_HEAD (i : Nat) : FieldAt := ⟨(Reg.HOST_QSTAT i), 11, 0⟩
abbrev Fld.HOST_QERR_VALID (i : Nat) : FieldAt := ⟨(Reg.HOST_QERR i), 31, 31⟩
abbrev Fld.HOST_QERR_REASON (i : Nat) : FieldAt := ⟨(Reg.HOST_QERR i), 19, 16⟩
abbrev Fld.HOST_QERR_NEXT_SEQ (i : Nat) : FieldAt := ⟨(Reg.HOST_QERR i), 15, 0⟩
-- WEAVE (R470)
abbrev Fld.WEAVE_LSTAT_SYNC (i : Nat) : FieldAt := ⟨(Reg.WEAVE_LSTAT i), 31, 31⟩
abbrev Fld.WEAVE_LSTAT_KEYED (i : Nat) : FieldAt := ⟨(Reg.WEAVE_LSTAT i), 30, 30⟩
abbrev Fld.WEAVE_LSTAT_LOST (i : Nat) : FieldAt := ⟨(Reg.WEAVE_LSTAT i), 29, 29⟩
abbrev Fld.WEAVE_LSTAT_CONFLICT (i : Nat) : FieldAt := ⟨(Reg.WEAVE_LSTAT i), 28, 28⟩
abbrev Fld.WEAVE_LSTAT_UPSTREAM (i : Nat) : FieldAt := ⟨(Reg.WEAVE_LSTAT i), 27, 27⟩
abbrev Fld.WEAVE_LSTAT_PEER (i : Nat) : FieldAt := ⟨(Reg.WEAVE_LSTAT i), 26, 16⟩
abbrev Fld.WEAVE_LSTAT_EPOCH (i : Nat) : FieldAt := ⟨(Reg.WEAVE_LSTAT i), 15, 0⟩
abbrev Fld.WEAVE_LERR_CRC (i : Nat) : FieldAt := ⟨(Reg.WEAVE_LERR i), 31, 16⟩
abbrev Fld.WEAVE_LERR_AUTH (i : Nat) : FieldAt := ⟨(Reg.WEAVE_LERR i), 15, 0⟩
abbrev Fld.WEAVE_CTRL_LOCK : FieldAt := ⟨Reg.WEAVE_CTRL, 31, 31⟩
abbrev Fld.WEAVE_CFG_TENANT : FieldAt := ⟨Reg.WEAVE_CFG, 31, 24⟩
abbrev Fld.WEAVE_CFG_PRIO : FieldAt := ⟨Reg.WEAVE_CFG, 23, 16⟩
abbrev Fld.WEAVE_CFG_ELIG : FieldAt := ⟨Reg.WEAVE_CFG, 15, 15⟩
abbrev Fld.WEAVE_CFG_NODE : FieldAt := ⟨Reg.WEAVE_CFG, 10, 0⟩
abbrev Fld.WEAVE_BSTAT_MEMBER : FieldAt := ⟨Reg.WEAVE_BSTAT, 31, 31⟩
abbrev Fld.WEAVE_BSTAT_MASTER : FieldAt := ⟨Reg.WEAVE_BSTAT, 30, 30⟩
abbrev Fld.WEAVE_BSTAT_MASTER_CHG : FieldAt := ⟨Reg.WEAVE_BSTAT, 29, 29⟩
abbrev Fld.WEAVE_BSTAT_CONFLICT : FieldAt := ⟨Reg.WEAVE_BSTAT, 28, 28⟩
abbrev Fld.WEAVE_BSTAT_MASTER_NODE : FieldAt := ⟨Reg.WEAVE_BSTAT, 26, 16⟩
abbrev Fld.WEAVE_BSTAT_UNROUTED : FieldAt := ⟨Reg.WEAVE_BSTAT, 15, 0⟩
abbrev Fld.WEAVE_MEMBERS_COUNT : FieldAt := ⟨Reg.WEAVE_MEMBERS, 11, 0⟩
abbrev Fld.WEAVE_BKEY_ADDR : FieldAt := ⟨Reg.WEAVE_BKEY, 31, 5⟩
abbrev Fld.WEAVE_BKEYIDX_LOADED : FieldAt := ⟨Reg.WEAVE_BKEYIDX, 31, 31⟩
abbrev Fld.WEAVE_BKEYIDX_INDEX : FieldAt := ⟨Reg.WEAVE_BKEYIDX, 16, 0⟩
abbrev Fld.WEAVE_MSTAT_TIMEOUTS : FieldAt := ⟨Reg.WEAVE_MSTAT, 31, 16⟩
abbrev Fld.WEAVE_MSTAT_ORPHANS : FieldAt := ⟨Reg.WEAVE_MSTAT, 15, 0⟩
abbrev Fld.WEAVE_MAPIDX_NODE : FieldAt := ⟨Reg.WEAVE_MAPIDX, 10, 0⟩
abbrev Fld.WEAVE_MAPDATA0_STATE : FieldAt := ⟨Reg.WEAVE_MAPDATA0, 31, 30⟩
abbrev Fld.WEAVE_MAPDATA0_ELIG : FieldAt := ⟨Reg.WEAVE_MAPDATA0, 29, 29⟩
abbrev Fld.WEAVE_MAPDATA0_HOPS : FieldAt := ⟨Reg.WEAVE_MAPDATA0, 28, 24⟩
abbrev Fld.WEAVE_MAPDATA0_LINK : FieldAt := ⟨Reg.WEAVE_MAPDATA0, 18, 16⟩
abbrev Fld.WEAVE_MAPDATA0_PRIO : FieldAt := ⟨Reg.WEAVE_MAPDATA0, 15, 8⟩
abbrev Fld.WEAVE_TSTAT_MARKERR : FieldAt := ⟨Reg.WEAVE_TSTAT, 31, 16⟩
abbrev Fld.WEAVE_TSTAT_ELECTIONS : FieldAt := ⟨Reg.WEAVE_TSTAT, 15, 0⟩
-- HEAD (R431)
abbrev Fld.HEAD_CFG_TENANT (i : Nat) : FieldAt := ⟨(Reg.HEAD_CFG i), 31, 24⟩
abbrev Fld.HEAD_CFG_BPAIR (i : Nat) : FieldAt := ⟨(Reg.HEAD_CFG i), 9, 1⟩
abbrev Fld.HEAD_CFG_BOUND (i : Nat) : FieldAt := ⟨(Reg.HEAD_CFG i), 0, 0⟩
abbrev Fld.HEAD_STAT_PRESENT (i : Nat) : FieldAt := ⟨(Reg.HEAD_STAT i), 31, 31⟩
abbrev Fld.HEAD_STAT_KEYED (i : Nat) : FieldAt := ⟨(Reg.HEAD_STAT i), 30, 30⟩
abbrev Fld.HEAD_STAT_LOST (i : Nat) : FieldAt := ⟨(Reg.HEAD_STAT i), 29, 29⟩
abbrev Fld.HEAD_STAT_OUT (i : Nat) : FieldAt := ⟨(Reg.HEAD_STAT i), 27, 24⟩
abbrev Fld.HEAD_STAT_FQ (i : Nat) : FieldAt := ⟨(Reg.HEAD_STAT i), 20, 16⟩
abbrev Fld.HEAD_STAT_EPOCH (i : Nat) : FieldAt := ⟨(Reg.HEAD_STAT i), 15, 0⟩
abbrev Fld.HEAD_HKEY_ADDR (i : Nat) : FieldAt := ⟨(Reg.HEAD_HKEY i), 31, 5⟩
abbrev Fld.HEAD_HKEYIDX_LOADED (i : Nat) : FieldAt := ⟨(Reg.HEAD_HKEYIDX i), 31, 31⟩
abbrev Fld.HEAD_HKEYIDX_INDEX (i : Nat) : FieldAt := ⟨(Reg.HEAD_HKEYIDX i), 16, 0⟩
abbrev Fld.HEAD_STAGE_ADDR (i : Nat) : FieldAt := ⟨(Reg.HEAD_STAGE i), 31, 5⟩
abbrev Fld.HEAD_SRES_STATUS (i : Nat) : FieldAt := ⟨(Reg.HEAD_SRES i), 31, 16⟩
abbrev Fld.HEAD_SRES_CODE (i : Nat) : FieldAt := ⟨(Reg.HEAD_SRES i), 15, 8⟩
abbrev Fld.HEAD_ERRCNT_AUTH (i : Nat) : FieldAt := ⟨(Reg.HEAD_ERRCNT i), 31, 16⟩
abbrev Fld.HEAD_ERRCNT_LINE (i : Nat) : FieldAt := ⟨(Reg.HEAD_ERRCNT i), 15, 0⟩
-- CRT (R394)
abbrev Fld.CRT_CFG_MAXCLK (i : Nat) : FieldAt := ⟨(Reg.CRT_CFG i), 9, 8⟩
abbrev Fld.CRT_CFG_W4 (i : Nat) : FieldAt := ⟨(Reg.CRT_CFG i), 4, 4⟩
abbrev Fld.CRT_CFG_DET_IE (i : Nat) : FieldAt := ⟨(Reg.CRT_CFG i), 1, 1⟩
abbrev Fld.CRT_CFG_JREQ_IE (i : Nat) : FieldAt := ⟨(Reg.CRT_CFG i), 0, 0⟩
abbrev Fld.CRT_STAT_STATE (i : Nat) : FieldAt := ⟨(Reg.CRT_STAT i), 31, 28⟩
abbrev Fld.CRT_STAT_WP (i : Nat) : FieldAt := ⟨(Reg.CRT_STAT i), 27, 27⟩
abbrev Fld.CRT_STAT_CD (i : Nat) : FieldAt := ⟨(Reg.CRT_STAT i), 26, 26⟩
abbrev Fld.CRT_STAT_HDRVALID (i : Nat) : FieldAt := ⟨(Reg.CRT_STAT i), 25, 25⟩
abbrev Fld.CRT_STAT_ERR (i : Nat) : FieldAt := ⟨(Reg.CRT_STAT i), 23, 16⟩
abbrev Fld.CRT_STAT_CLK (i : Nat) : FieldAt := ⟨(Reg.CRT_STAT i), 15, 14⟩
abbrev Fld.CRT_STAT_BUS4 (i : Nat) : FieldAt := ⟨(Reg.CRT_STAT i), 13, 13⟩
abbrev Fld.CRT_STAT_WQ (i : Nat) : FieldAt := ⟨(Reg.CRT_STAT i), 10, 8⟩
abbrev Fld.CRT_SUBMIT_ADDR (i : Nat) : FieldAt := ⟨(Reg.CRT_SUBMIT i), 31, 5⟩
abbrev Fld.CRT_STAGE_ADDR (i : Nat) : FieldAt := ⟨(Reg.CRT_STAGE i), 31, 5⟩
abbrev Fld.CRT_JARM_SEQ (i : Nat) : FieldAt := ⟨(Reg.CRT_JARM i), 15, 0⟩
abbrev Fld.CRT_JSTAT_JREQ (i : Nat) : FieldAt := ⟨(Reg.CRT_JSTAT i), 31, 31⟩
abbrev Fld.CRT_JSTAT_JDONE (i : Nat) : FieldAt := ⟨(Reg.CRT_JSTAT i), 30, 30⟩
abbrev Fld.CRT_JSTAT_OPEN (i : Nat) : FieldAt := ⟨(Reg.CRT_JSTAT i), 29, 29⟩
abbrev Fld.CRT_JSTAT_FOREIGN (i : Nat) : FieldAt := ⟨(Reg.CRT_JSTAT i), 28, 28⟩
abbrev Fld.CRT_JSTAT_SEQ (i : Nat) : FieldAt := ⟨(Reg.CRT_JSTAT i), 15, 0⟩
abbrev Fld.CRT_WRES_STATUS (i : Nat) : FieldAt := ⟨(Reg.CRT_WRES i), 31, 16⟩
abbrev Fld.CRT_WRES_CODE (i : Nat) : FieldAt := ⟨(Reg.CRT_WRES i), 15, 8⟩
abbrev Fld.CRT_ERRCNT_CRC (i : Nat) : FieldAt := ⟨(Reg.CRT_ERRCNT i), 31, 16⟩
abbrev Fld.CRT_ERRCNT_FAIL (i : Nat) : FieldAt := ⟨(Reg.CRT_ERRCNT i), 15, 0⟩
abbrev Fld.CRT_CTRL_LOCK : FieldAt := ⟨Reg.CRT_CTRL, 31, 31⟩
-- RF (R419)
abbrev Fld.RF_CFG_TENANT (i : Nat) : FieldAt := ⟨(Reg.RF_CFG i), 31, 24⟩
abbrev Fld.RF_CFG_DRIVE (i : Nat) : FieldAt := ⟨(Reg.RF_CFG i), 19, 17⟩
abbrev Fld.RF_CFG_UIDFIX (i : Nat) : FieldAt := ⟨(Reg.RF_CFG i), 16, 16⟩
abbrev Fld.RF_CFG_WTXMAX (i : Nat) : FieldAt := ⟨(Reg.RF_CFG i), 15, 12⟩
abbrev Fld.RF_CFG_EMURATE (i : Nat) : FieldAt := ⟨(Reg.RF_CFG i), 11, 10⟩
abbrev Fld.RF_CFG_PWDLIM (i : Nat) : FieldAt := ⟨(Reg.RF_CFG i), 9, 8⟩
abbrev Fld.RF_CFG_FLD_IE (i : Nat) : FieldAt := ⟨(Reg.RF_CFG i), 2, 2⟩
abbrev Fld.RF_CFG_MODE (i : Nat) : FieldAt := ⟨(Reg.RF_CFG i), 1, 0⟩
abbrev Fld.RF_STAT_FIELD (i : Nat) : FieldAt := ⟨(Reg.RF_STAT i), 31, 31⟩
abbrev Fld.RF_STAT_FON (i : Nat) : FieldAt := ⟨(Reg.RF_STAT i), 30, 30⟩
abbrev Fld.RF_STAT_SECT (i : Nat) : FieldAt := ⟨(Reg.RF_STAT i), 29, 29⟩
abbrev Fld.RF_STAT_FLDCHG (i : Nat) : FieldAt := ⟨(Reg.RF_STAT i), 28, 28⟩
abbrev Fld.RF_STAT_TSTATE (i : Nat) : FieldAt := ⟨(Reg.RF_STAT i), 27, 24⟩
abbrev Fld.RF_STAT_XQ (i : Nat) : FieldAt := ⟨(Reg.RF_STAT i), 20, 18⟩
abbrev Fld.RF_STAT_ACTIVE (i : Nat) : FieldAt := ⟨(Reg.RF_STAT i), 17, 16⟩
abbrev Fld.RF_SUBMIT_ADDR (i : Nat) : FieldAt := ⟨(Reg.RF_SUBMIT i), 31, 5⟩
abbrev Fld.RF_TRES_STATUS (i : Nat) : FieldAt := ⟨(Reg.RF_TRES i), 31, 16⟩
abbrev Fld.RF_TRES_CODE (i : Nat) : FieldAt := ⟨(Reg.RF_TRES i), 15, 8⟩
abbrev Fld.RF_TUID_HI_UID (i : Nat) : FieldAt := ⟨(Reg.RF_TUID_HI i), 23, 0⟩
abbrev Fld.RF_TKEY_ADDR (i : Nat) : FieldAt := ⟨(Reg.RF_TKEY i), 31, 5⟩
abbrev Fld.RF_TKEYIDX_LOADED (i : Nat) : FieldAt := ⟨(Reg.RF_TKEYIDX i), 31, 31⟩
abbrev Fld.RF_TKEYIDX_INDEX (i : Nat) : FieldAt := ⟨(Reg.RF_TKEYIDX i), 16, 0⟩
abbrev Fld.RF_CNT_AUTHFAIL (i : Nat) : FieldAt := ⟨(Reg.RF_CNT i), 31, 16⟩
abbrev Fld.RF_CNT_AUTHOK (i : Nat) : FieldAt := ⟨(Reg.RF_CNT i), 15, 0⟩
abbrev Fld.RF_ERRCNT_CRC (i : Nat) : FieldAt := ⟨(Reg.RF_ERRCNT i), 31, 16⟩
abbrev Fld.RF_ERRCNT_PROTO (i : Nat) : FieldAt := ⟨(Reg.RF_ERRCNT i), 15, 0⟩
abbrev Fld.RF_TLAST_SRC (i : Nat) : FieldAt := ⟨(Reg.RF_TLAST i), 31, 31⟩
abbrev Fld.RF_TLAST_BLOCK (i : Nat) : FieldAt := ⟨(Reg.RF_TLAST i), 9, 0⟩
-- SC (R437)
abbrev Fld.SC_CFG_EXT5 (i : Nat) : FieldAt := ⟨(Reg.SC_CFG i), 31, 31⟩
abbrev Fld.SC_CFG_CLKMAX (i : Nat) : FieldAt := ⟨(Reg.SC_CFG i), 13, 12⟩
abbrev Fld.SC_CFG_CLASSES (i : Nat) : FieldAt := ⟨(Reg.SC_CFG i), 10, 8⟩
abbrev Fld.SC_STAT_STATE (i : Nat) : FieldAt := ⟨(Reg.SC_STAT i), 31, 28⟩
abbrev Fld.SC_STAT_CLASS (i : Nat) : FieldAt := ⟨(Reg.SC_STAT i), 27, 26⟩
abbrev Fld.SC_STAT_T1 (i : Nat) : FieldAt := ⟨(Reg.SC_STAT i), 25, 25⟩
abbrev Fld.SC_STAT_ERR (i : Nat) : FieldAt := ⟨(Reg.SC_STAT i), 23, 16⟩
abbrev Fld.SC_STAT_ATRLEN (i : Nat) : FieldAt := ⟨(Reg.SC_STAT i), 15, 8⟩
abbrev Fld.SC_STAT_XQ (i : Nat) : FieldAt := ⟨(Reg.SC_STAT i), 1, 0⟩
abbrev Fld.SC_SUBMIT_ADDR (i : Nat) : FieldAt := ⟨(Reg.SC_SUBMIT i), 31, 5⟩
abbrev Fld.SC_ERRCNT_PARITY (i : Nat) : FieldAt := ⟨(Reg.SC_ERRCNT i), 31, 16⟩
abbrev Fld.SC_ERRCNT_PROTO (i : Nat) : FieldAt := ⟨(Reg.SC_ERRCNT i), 15, 0⟩
-- ACT (R442)
abbrev Fld.ACT_CFG_TENANT (i : Nat) : FieldAt := ⟨(Reg.ACT_CFG i), 31, 24⟩
abbrev Fld.ACT_CFG_TEN_EN (i : Nat) : FieldAt := ⟨(Reg.ACT_CFG i), 23, 23⟩
abbrev Fld.ACT_CFG_POL (i : Nat) : FieldAt := ⟨(Reg.ACT_CFG i), 22, 22⟩
abbrev Fld.ACT_CFG_SETTLE (i : Nat) : FieldAt := ⟨(Reg.ACT_CFG i), 19, 0⟩
abbrev Fld.ACT_STAT_ACTIVE (i : Nat) : FieldAt := ⟨(Reg.ACT_STAT i), 31, 31⟩
abbrev Fld.ACT_STAT_RBFAIL (i : Nat) : FieldAt := ⟨(Reg.ACT_STAT i), 30, 30⟩
abbrev Fld.ACT_STAT_RB (i : Nat) : FieldAt := ⟨(Reg.ACT_STAT i), 29, 29⟩
abbrev Fld.ACT_STAT_Q (i : Nat) : FieldAt := ⟨(Reg.ACT_STAT i), 11, 8⟩
abbrev Fld.ACT_STAT_RSVD (i : Nat) : FieldAt := ⟨(Reg.ACT_STAT i), 3, 0⟩
abbrev Fld.ACT_CTRL_LOCK : FieldAt := ⟨Reg.ACT_CTRL, 31, 31⟩
abbrev Fld.ACT_STG0_OUTPUT : FieldAt := ⟨Reg.ACT_STG0, 3, 0⟩
abbrev Fld.ACT_SRES_STATUS : FieldAt := ⟨Reg.ACT_SRES, 31, 16⟩
abbrev Fld.ACT_SRES_CODE : FieldAt := ⟨Reg.ACT_SRES, 15, 8⟩
-- WALE (R376)
abbrev Fld.WALE_WCFG_MODE (i : Nat) : FieldAt := ⟨(Reg.WALE_WCFG i), 31, 30⟩
abbrev Fld.WALE_WCFG_RESEED (i : Nat) : FieldAt := ⟨(Reg.WALE_WCFG i), 0, 0⟩
abbrev Fld.WALE_WSTAT_LAST (i : Nat) : FieldAt := ⟨(Reg.WALE_WSTAT i), 31, 31⟩
abbrev Fld.WALE_WSTAT_FAULT (i : Nat) : FieldAt := ⟨(Reg.WALE_WSTAT i), 30, 30⟩
abbrev Fld.WALE_WSTAT_MISMATCH (i : Nat) : FieldAt := ⟨(Reg.WALE_WSTAT i), 23, 0⟩
abbrev Fld.WALE_PERIOD_CYCLES : FieldAt := ⟨Reg.WALE_PERIOD, 19, 0⟩
abbrev Fld.WALE_CASECFG_INVERT : FieldAt := ⟨Reg.WALE_CASECFG, 3, 0⟩
abbrev Fld.WALE_CASESTAT_OPEN : FieldAt := ⟨Reg.WALE_CASESTAT, 3, 0⟩

end Sys2Proof.Machine
end

