-- ==== Sys2Proof/Machine/RegMap.lean ====
section
/-! DEFINITION. The register window (R510): which offsets hold a register, the access type of every field (R6), the locks
of RWL fields, and the value of every register at reset. Offsets are counted from 0x4000_0000. -/

namespace Sys2Proof.Machine

/-- The access type of a field (R6). -/
inductive Acc where
  | ro | rw | wo | w1c | w1s | rwl
  deriving DecidableEq, Repr

/-- A field: bits [hi:lo], its access type, and the values that a write may give it. -/
structure Field where
  hi : Nat
  lo : Nat
  acc : Acc
  min : Nat
  max : Nat
  deriving DecidableEq, Repr

/-- A field that takes every value of its bits. -/
abbrev Field.of (hi lo : Nat) (acc : Acc) : Field := ⟨hi, lo, acc, 0, 2 ^ 32⟩
/-- A field of which the manual names the values that a write is not ignored for. -/
abbrev Field.within (hi lo : Nat) (acc : Acc) (mn mx : Nat) : Field := ⟨hi, lo, acc, mn, mx⟩

/-- A register or an array of registers: `count` words at `first`, `first + stride`, … of its block, with one field
table and one reset word. -/
structure RegDesc where
  first : Nat
  stride : Nat
  count : Nat
  fields : List Field
  reset : Word
  deriving DecidableEq, Repr

/-- The registers of SYS (R3, R16, R17, R492, R517): first offset, stride, count, fields, reset word. -/
def sysRegs : List RegDesc :=[
    -- SYS.ID
    ⟨0x000, 0x4, 1, [.of 31 16 .ro, .of 15 12 .ro, .of 11 8 .ro, .of 7 4 .ro, .of 3 0 .ro], 0x9024B001#32⟩,
    -- SYS.CAP0
    ⟨0x004, 0x4, 1, [.of 31 24 .ro, .of 23 16 .ro, .of 15 8 .ro, .of 7 4 .ro, .of 3 0 .ro], 0x80201041#32⟩,
    -- SYS.CAP1
    ⟨0x008, 0x4, 1, [.of 31 20 .ro, .of 19 8 .ro, .of 7 0 .ro], 0x800800FF#32⟩,
    -- SYS.RSTCAUSE
    ⟨0x010, 0x4, 1, [.of 6 6 .ro, .of 5 5 .ro, .of 4 4 .ro, .of 3 3 .ro, .of 2 2 .ro, .of 1 1 .ro, .of 0 0 .ro], 0x00000000#32⟩,
    -- SYS.RSTHIST
    ⟨0x014, 0x4, 1, [.of 31 0 .ro], 0x00000000#32⟩,
    -- SYS.BOOT
    ⟨0x018, 0x4, 1, [.of 31 31 .ro, .of 30 30 .ro, .of 29 29 .ro, .of 28 28 .ro, .of 23 16 .ro, .of 15 0 .ro], 0x00000000#32⟩,
    -- SYS.LOG_CTL
    ⟨0x020, 0x4, 1, [.of 0 0 .w1s], 0x00000000#32⟩,
    -- SYS.LOG_STAT
    ⟨0x024, 0x4, 1, [.of 15 0 .ro], 0x00000000#32⟩,
    -- SYS.LOG_OVF
    ⟨0x028, 0x4, 1, [.of 31 0 .ro], 0x00000000#32⟩,
    -- SYS.LOG_MARK
    ⟨0x02C, 0x4, 1, [.of 15 0 .rw], 0x00000000#32⟩,
    -- SYS.LOG_IDX
    ⟨0x030, 0x4, 1, [.of 15 0 .rw], 0x00000000#32⟩,
    -- SYS.LOG_DATA<w>
    ⟨0x040, 0x4, 8, [.of 31 0 .ro], 0x00000000#32⟩]
  ++ [
    -- SYS.LOG_W<w>
    ⟨0x060, 0x4, 8, [.of 31 0 .wo], 0x00000000#32⟩,
    -- SYS.IRQ_SRC
    ⟨0x080, 0x4, 1, [.of 31 16 .ro, .of 9 9 .ro, .of 8 8 .ro, .of 7 7 .ro, .of 6 6 .ro, .of 5 5 .ro, .of 4 4 .ro, .of 3 3 .ro, .of 2 2 .ro, .of 1 1 .ro, .of 0 0 .ro], 0x00000000#32⟩,
    -- SYS.IRQ_EN
    ⟨0x084, 0x4, 1, [.of 31 0 .rw], 0x00000000#32⟩]

/-- The registers of BEAT (R55): first offset, stride, count, fields, reset word. -/
def beatRegs : List RegDesc :=[
    -- BEAT.CTRL
    ⟨0x000, 0x4, 1, [.of 31 31 .w1s, .of 9 9 .rw, .of 8 8 .rw, .of 1 0 .rwl], 0x00000000#32⟩,
    -- BEAT.NOMINAL
    ⟨0x004, 0x4, 1, [.within 16 0 .rwl 1000 100000], 0x00002710#32⟩,
    -- BEAT.STATUS
    ⟨0x008, 0x4, 1, [.of 9 9 .w1c, .of 8 8 .w1c, .of 5 5 .ro, .of 4 4 .ro, .of 2 2 .ro, .of 1 0 .ro], 0x00000006#32⟩,
    -- BEAT.MARGIN
    ⟨0x00C, 0x4, 1, [.of 7 0 .ro], 0x00000014#32⟩,
    -- BEAT.CPB_MIN
    ⟨0x010, 0x4, 1, [.of 19 0 .ro], 0x0000B3EC#32⟩,
    -- BEAT.PERIOD_MEAS
    ⟨0x014, 0x4, 1, [.of 19 0 .ro], 0x00000000#32⟩,
    -- BEAT.COUNT_LO
    ⟨0x018, 0x4, 1, [.of 31 0 .ro], 0x00000000#32⟩,
    -- BEAT.COUNT_HI
    ⟨0x01C, 0x4, 1, [.of 15 0 .ro], 0x00000000#32⟩,
    -- BEAT.BASKET_OFS_LO
    ⟨0x020, 0x4, 1, [.of 31 0 .ro], 0x00000000#32⟩,
    -- BEAT.BASKET_OFS_HI
    ⟨0x024, 0x4, 1, [.of 15 0 .ro], 0x00000000#32⟩,
    -- BEAT.FREE_BEATS
    ⟨0x028, 0x4, 1, [.of 31 0 .ro], 0x00000000#32⟩,
    -- BEAT.WDOG
    ⟨0x030, 0x4, 1, [.of 31 31 .w1s, .of 23 0 .rwl], 0x00000000#32⟩]
  ++ [
    -- BEAT.WDOG_KICK
    ⟨0x034, 0x4, 1, [.of 31 0 .wo], 0x00000000#32⟩]

/-- The registers of LCS (R354): first offset, stride, count, fields, reset word. -/
def lcsRegs : List RegDesc :=[
    -- LCS.STAT
    ⟨0x000, 0x4, 1, [.of 31 31 .ro, .of 30 30 .ro, .of 29 29 .ro, .of 28 28 .ro, .of 27 27 .ro, .of 23 16 .ro, .of 11 8 .ro, .of 7 4 .ro, .of 2 0 .ro], 0x00000000#32⟩,
    -- LCS.UID<w>
    ⟨0x010, 0x4, 4, [.of 31 0 .ro], 0x00000000#32⟩,
    -- LCS.LASTREF
    ⟨0x020, 0x4, 1, [.of 31 31 .w1c, .of 7 0 .ro], 0x00000000#32⟩,
    -- LCS.DBG_RIGHTS
    ⟨0x024, 0x4, 1, [.of 23 23 .ro, .of 22 22 .ro, .of 21 21 .ro, .of 19 16 .ro, .of 15 0 .ro], 0x00000000#32⟩,
    -- LCS.DBG_SERIAL
    ⟨0x028, 0x4, 1, [.of 31 0 .ro], 0x00000000#32⟩,
    -- LCS.DBG_LEFT
    ⟨0x02C, 0x4, 1, [.of 31 0 .ro], 0x00000000#32⟩,
    -- LCS.DBG_REFUSED
    ⟨0x030, 0x4, 1, [.of 31 0 .ro], 0x00000000#32⟩,
    -- LCS.HALTED<w>
    ⟨0x040, 0x4, 16, [.of 31 0 .ro], 0x00000000#32⟩]

/-- The registers of TAMP (R375): first offset, stride, count, fields, reset word. -/
def tampRegs : List RegDesc :=[
    -- TAMP.CTRL
    ⟨0x000, 0x4, 1, [.of 31 31 .w1s], 0x00000000#32⟩,
    -- TAMP.STAT
    ⟨0x004, 0x4, 1, [.of 31 31 .ro, .of 30 30 .ro, .of 29 29 .ro, .of 28 28 .ro, .of 27 27 .ro, .of 26 26 .w1c, .of 25 25 .w1c, .of 18 16 .ro, .of 6 0 .ro], 0x00000000#32⟩,
    -- TAMP.ALARM
    ⟨0x008, 0x4, 1, [.of 31 31 .w1c, .of 10 8 .ro, .of 6 0 .ro], 0x00000000#32⟩,
    -- TAMP.QUAR
    ⟨0x00C, 0x4, 1, [.of 31 0 .wo], 0x00000000#32⟩,
    -- TAMP.BIST
    ⟨0x010, 0x4, 1, [.of 31 31 .ro, .of 30 30 .ro, .of 29 29 .w1c, .of 8 8 .w1s, .within 6 0 .rw 0 100], 0x00000000#32⟩,
    -- TAMP.BKCFG
    ⟨0x014, 0x4, 1, [.of 1 0 .rwl], 0x00000001#32⟩,
    -- TAMP.BKTICK
    ⟨0x018, 0x4, 1, [.of 31 0 .ro], 0x00000000#32⟩,
    -- TAMP.BKLOG_PTR
    ⟨0x01C, 0x4, 1, [.of 31 16 .ro, .of 5 0 .ro], 0x00000000#32⟩,
    -- TAMP.BKARM0
    ⟨0x020, 0x4, 1, [.of 31 0 .ro], 0x00000000#32⟩,
    -- TAMP.BKARM1
    ⟨0x024, 0x4, 1, [.of 19 16 .ro, .of 15 0 .ro], 0x00000000#32⟩,
    -- TAMP.BKLOG<i> word 0
    ⟨0x100, 0x8, 64, [.of 31 0 .ro], 0x00000000#32⟩,
    -- TAMP.BKLOG<i> word 1
    ⟨0x104, 0x8, 64, [.of 23 16 .ro, .of 15 8 .ro, .of 6 0 .ro], 0x00000000#32⟩]
  ++ [
    -- TAMP.MCFG<m>
    ⟨0x400, 0x4, 101, [.of 31 16 .rwl, .of 11 8 .rwl, .of 2 0 .rwl], 0x00000000#32⟩,
    -- TAMP.MSTAT<m>
    ⟨0x800, 0x4, 101, [.of 31 16 .ro, .of 15 8 .ro, .of 7 0 .ro], 0x00000000#32⟩]

/-- The registers of RNG (R271): first offset, stride, count, fields, reset word. -/
def rngRegs : List RegDesc :=[
    -- RNG.CTRL
    ⟨0x000, 0x4, 1, [.of 31 31 .w1s, .of 8 8 .rw, .of 4 4 .rwl, .of 3 0 .rwl], 0x0000000F#32⟩,
    -- RNG.STAT
    ⟨0x004, 0x4, 1, [.of 31 31 .ro, .of 30 30 .w1c, .of 29 29 .w1c, .of 19 16 .ro, .of 12 0 .ro], 0x00000000#32⟩,
    -- RNG.DATA
    ⟨0x008, 0x4, 1, [.of 31 0 .ro], 0x00000000#32⟩,
    -- RNG.HCFG
    ⟨0x00C, 0x4, 1, [.of 31 16 .rwl, .of 7 0 .rwl], 0x02EC0023#32⟩,
    -- RNG.RESERVE
    ⟨0x010, 0x4, 1, [.of 12 0 .rw], 0x00000400#32⟩,
    -- RNG.RESEEDS
    ⟨0x014, 0x4, 1, [.of 31 0 .ro], 0x00000000#32⟩,
    -- RNG.RESTART
    ⟨0x018, 0x4, 1, [.of 3 0 .w1s], 0x00000000#32⟩,
    -- RNG.SRC<i>
    ⟨0x020, 0x4, 4, [.of 31 16 .ro, .of 15 0 .ro], 0x00000000#32⟩,
    -- RNG.SHC<i>
    ⟨0x030, 0x4, 4, [.of 31 16 .ro, .of 15 0 .ro], 0x00000000#32⟩,
    -- RNG.KAT_CTL
    ⟨0x040, 0x4, 1, [.of 31 31 .ro, .of 30 30 .ro, .of 21 12 .ro, .of 8 8 .w1s, .within 1 0 .rw 0 2], 0x00000000#32⟩,
    -- RNG.KAT_IN<w>
    ⟨0x080, 0x4, 16, [.of 31 0 .rw], 0x00000000#32⟩,
    -- RNG.KAT_OUT<w>
    ⟨0x0C0, 0x4, 16, [.of 31 0 .ro], 0x00000000#32⟩]

/-- The registers of NVMC (R331, R189): first offset, stride, count, fields, reset word. -/
def nvmcRegs : List RegDesc :=[
    -- NVMC.CTRL
    ⟨0x000, 0x4, 1, [.of 31 31 .w1s, .of 2 2 .rw, .of 1 1 .rw, .of 0 0 .rwl], 0x00000000#32⟩,
    -- NVMC.BANKST<b>
    ⟨0x004, 0x4, 4, [.of 31 28 .ro, .of 27 27 .ro, .of 26 26 .ro, .of 8 0 .ro], 0x00000000#32⟩,
    -- NVMC.OPSTAT
    ⟨0x014, 0x4, 1, [.of 31 31 .w1c, .of 26 16 .ro, .of 15 0 .ro], 0x00000000#32⟩,
    -- NVMC.PATROL
    ⟨0x018, 0x4, 1, [.of 31 31 .w1c, .of 26 16 .ro, .of 15 0 .ro], 0x00000000#32⟩,
    -- NVMC.REFRESH
    ⟨0x01C, 0x4, 1, [.of 31 31 .ro, .of 30 30 .w1c, .of 26 16 .ro, .of 15 0 .ro], 0x00000000#32⟩,
    -- NVMC.ECC
    ⟨0x020, 0x4, 1, [.of 31 16 .ro, .of 15 0 .ro], 0x00000000#32⟩,
    -- NVMC.ECC_ADDR
    ⟨0x024, 0x4, 1, [.of 26 0 .ro], 0x00000000#32⟩,
    -- NVMC.ERASES
    ⟨0x028, 0x4, 1, [.of 31 16 .ro, .of 15 0 .ro], 0x00000000#32⟩,
    -- NVMC.POOL
    ⟨0x02C, 0x4, 1, [.of 26 16 .ro, .of 9 0 .ro], 0x00000000#32⟩,
    -- NVMC.POOL_STEPS
    ⟨0x030, 0x4, 1, [.of 31 0 .ro], 0x00000000#32⟩,
    -- NVMC.ARB_CFG
    ⟨0x200, 0x4, 1, [.of 31 31 .rw, .of 30 24 .rw, .of 23 12 .rw, .of 7 6 .rw, .of 5 4 .rw, .of 3 2 .rw, .of 1 0 .rw], 0x10400000#32⟩,
    -- NVMC.ARB_STAT
    ⟨0x204, 0x4, 1, [.of 31 31 .w1c, .of 29 29 .w1c, .of 27 24 .ro, .of 21 16 .ro, .of 15 8 .ro, .of 5 0 .ro], 0x00000000#32⟩]
  ++ [
    -- NVMC.ARB_GRANTS
    ⟨0x208, 0x4, 1, [.of 31 0 .ro], 0x00000000#32⟩]

/-- The registers of LEDG (R304): first offset, stride, count, fields, reset word. -/
def ledgRegs : List RegDesc :=[
    -- LEDG.CTRL
    ⟨0x000, 0x4, 1, [.of 31 31 .w1s, .of 0 0 .rw], 0x00000000#32⟩,
    -- LEDG.STAT
    ⟨0x004, 0x4, 1, [.of 31 31 .ro, .of 30 30 .ro, .of 29 29 .w1c, .of 28 28 .w1c, .of 21 16 .ro, .of 15 0 .ro], 0x00000000#32⟩,
    -- LEDG.GROUP_WAIT
    ⟨0x008, 0x4, 1, [.within 19 0 .rwl 1000 1048575], 0x0000C350#32⟩,
    -- LEDG.LSN_LO
    ⟨0x00C, 0x4, 1, [.of 31 0 .ro], 0x00000000#32⟩,
    -- LEDG.LSN_HI
    ⟨0x010, 0x4, 1, [.of 15 0 .ro], 0x00000000#32⟩,
    -- LEDG.COMMITS
    ⟨0x014, 0x4, 1, [.of 31 0 .ro], 0x00000000#32⟩,
    -- LEDG.TORN
    ⟨0x018, 0x4, 1, [.of 15 0 .ro], 0x00000000#32⟩,
    -- LEDG.DERR
    ⟨0x020, 0x4, 1, [.of 31 16 .ro, .of 15 0 .ro], 0x00000000#32⟩,
    -- LEDG.DERR_IDX
    ⟨0x024, 0x4, 1, [.of 16 0 .ro], 0x00000000#32⟩,
    -- LEDG.RIDX
    ⟨0x040, 0x4, 1, [.of 16 0 .rw], 0x00000000#32⟩,
    -- LEDG.RSTAT
    ⟨0x044, 0x4, 1, [.of 31 31 .ro, .of 30 30 .ro], 0x00000000#32⟩,
    -- LEDG.RDATA<w>
    ⟨0x060, 0x4, 8, [.of 31 0 .ro], 0x00000000#32⟩]
  ++ [
    -- LEDG.STG<w>
    ⟨0x100, 0x4, 16, [.of 31 0 .wo], 0x00000000#32⟩,
    -- LEDG.STG_RES
    ⟨0x140, 0x4, 1, [.of 31 16 .ro, .of 15 8 .ro, .of 4 0 .ro], 0x00000000#32⟩,
    -- LEDG.STG_DIG<w>
    ⟨0x160, 0x4, 8, [.of 31 0 .ro], 0x00000000#32⟩,
    -- LEDG.DSCRUB
    ⟨0x01C, 0x4, 1, [.of 31 31 .w1c, .of 30 30 .ro, .of 23 0 .ro], 0x00000000#32⟩,
    -- LEDG.STG_VAL_LO/HI
    ⟨0x144, 0x4, 2, [.of 31 0 .ro], 0x00000000#32⟩]

/-- The registers of FLUE control (R177): first offset, stride, count, fields, reset word. -/
def flueRegs : List RegDesc :=[
    -- FLUE.CTRL
    ⟨0x000, 0x4, 1, [.of 31 31 .w1s], 0x00000000#32⟩,
    -- FLUE.REFUSE
    ⟨0x004, 0x4, 1, [.of 31 31 .w1c, .of 30 30 .ro, .of 26 16 .ro, .of 9 0 .ro], 0x00000000#32⟩,
    -- FLUE.FULL_CNT
    ⟨0x008, 0x4, 1, [.of 31 0 .ro], 0x00000000#32⟩,
    -- FLUE.UNBOUND_CNT
    ⟨0x00C, 0x4, 1, [.of 31 0 .ro], 0x00000000#32⟩,
    -- FLUE.DROP_CNT
    ⟨0x010, 0x4, 1, [.of 31 0 .ro], 0x00000000#32⟩,
    -- FLUE.FULL<w>
    ⟨0x100, 0x4, 64, [.of 31 0 .ro], 0x00000000#32⟩]

/-- The registers of the flue channel table (R166): first offset, stride, count, fields, reset word. -/
def ftabRegs : List RegDesc :=[
    -- channel word 0
    ⟨0x000, 0x8, 2048, [.of 31 31 .rwl, .of 30 30 .ro, .of 25 16 .rwl, .of 9 0 .rwl], 0x00000000#32⟩,
    -- channel word 1
    ⟨0x004, 0x8, 2048, [.of 31 16 .ro, .of 15 15 .rwl, .of 13 8 .rwl], 0x00000000#32⟩]

/-- The registers of HRT<n> (R511): first offset, stride, count, fields, reset word. -/
def hrtRegs : List RegDesc :=[
    -- HRT.UCTL
    ⟨0x000, 0x4, 1, [.of 31 31 .ro, .of 30 30 .ro, .of 23 16 .ro, .of 15 8 .ro, .of 2 2 .w1c, .of 1 1 .rw, .of 0 0 .rw], 0x00000000#32⟩,
    -- HRT.PAIRSUM
    ⟨0x010, 0x4, 1, [.of 21 16 .ro, .of 13 8 .ro, .of 5 0 .ro], 0x00010000#32⟩,
    -- HRT.MISM
    ⟨0x014, 0x4, 1, [.of 31 31 .w1c, .of 30 30 .w1c, .of 29 27 .ro, .of 20 16 .ro], 0x00000000#32⟩,
    -- HRT.MISM_PC
    ⟨0x018, 0x4, 1, [.of 31 0 .ro], 0x00000000#32⟩,
    -- HRT.RPOL
    ⟨0x01C, 0x4, 1, [.of 31 28 .rw, .of 23 0 .rw], 0x305B8D80#32⟩,
    -- HRT.COMMIT
    ⟨0x020, 0x4, 1, [.of 31 0 .wo], 0x00000000#32⟩,
    -- HRT.CKSEL
    ⟨0x024, 0x4, 1, [.of 31 0 .ro], 0x00000000#32⟩,
    -- HRT.SCRUB
    ⟨0x040, 0x4, 1, [.of 31 31 .w1c, .of 30 30 .ro, .of 23 0 .ro], 0x00000000#32⟩,
    -- HRT.SCRUB_POS
    ⟨0x044, 0x4, 1, [.of 21 5 .ro], 0x00000000#32⟩,
    -- HRT.MEMERR
    ⟨0x048, 0x4, 1, [.of 31 16 .ro, .of 15 0 .ro], 0x00000000#32⟩,
    -- HRT.MEMERR_ADDR
    ⟨0x04C, 0x4, 1, [.of 31 0 .ro], 0x00000000#32⟩,
    -- HRT.PST<k>
    ⟨0x100, 0x4, 32, [.of 31 28 .rw, .of 27 24 .ro, .of 23 16 .rw, .of 15 12 .rw, .of 3 3 .rw, .of 2 2 .ro, .of 1 1 .ro, .of 0 0 .ro], 0x00000000#32⟩]
  ++ [
    -- HRT.PKE_ARB_CFG
    ⟨0x600, 0x4, 1, [.of 31 31 .rw, .of 30 24 .rw, .of 23 12 .rw, .of 7 6 .rw, .of 5 4 .rw, .of 3 2 .rw, .of 1 0 .rw], 0x10400000#32⟩,
    -- HRT.PKE_ARB_STAT
    ⟨0x604, 0x4, 1, [.of 31 31 .w1c, .of 29 29 .w1c, .of 27 24 .ro, .of 21 16 .ro, .of 15 8 .ro, .of 5 0 .ro], 0x00000000#32⟩,
    -- HRT.PKE_ARB_GRANTS
    ⟨0x608, 0x4, 1, [.of 31 0 .ro], 0x00000000#32⟩,
    -- HRT.BANK_ARB_CFG
    ⟨0x610, 0x4, 1, [.of 31 31 .rw, .of 30 24 .rw, .of 23 12 .rw, .of 7 6 .rw, .of 5 4 .rw, .of 3 2 .rw, .of 1 0 .rw], 0x10400000#32⟩,
    -- HRT.BANK_ARB_STAT
    ⟨0x614, 0x4, 1, [.of 31 31 .w1c, .of 29 29 .w1c, .of 27 24 .ro, .of 21 16 .ro, .of 15 8 .ro, .of 5 0 .ro], 0x00000000#32⟩,
    -- HRT.BANK_ARB_GRANTS
    ⟨0x618, 0x4, 1, [.of 31 0 .ro], 0x00000000#32⟩,
    -- PKE.UCTL
    ⟨0x800, 0x4, 1, [.of 31 31 .ro, .of 30 30 .ro, .of 23 16 .ro, .of 15 8 .ro, .of 2 2 .w1c, .of 1 1 .rw, .of 0 0 .rw], 0x00000000#32⟩,
    -- PKE.SUBMIT
    ⟨0x804, 0x4, 1, [.of 31 6 .wo], 0x00000000#32⟩,
    -- PKE.CFG
    ⟨0x808, 0x4, 1, [.of 15 0 .rw], 0x0000004D#32⟩,
    -- PKE.GLIMIT
    ⟨0x80C, 0x4, 1, [.of 31 0 .rw], 0xFFFFFFFF#32⟩,
    -- PKE.STAT
    ⟨0x810, 0x4, 1, [.of 31 31 .ro, .of 30 30 .ro, .of 29 29 .ro, .of 28 28 .w1c, .of 5 0 .ro], 0x00000000#32⟩,
    -- PKE.SLOTS
    ⟨0x814, 0x4, 1, [.of 31 0 .ro], 0x00000000#32⟩]
  ++ [
    -- PKE.SLOT_GEN<m>
    ⟨0x818, 0x4, 8, [.of 31 24 .ro, .of 23 16 .ro, .of 15 8 .ro, .of 7 0 .ro], 0x00000000#32⟩,
    -- PKE.JOBS
    ⟨0x838, 0x4, 1, [.of 31 0 .ro], 0x00000000#32⟩,
    -- PKE.PFAULTS
    ⟨0x83C, 0x4, 1, [.of 31 16 .ro, .of 15 0 .ro], 0x00000000#32⟩,
    -- PKE.LAST
    ⟨0x840, 0x4, 1, [.of 31 16 .ro, .of 15 8 .ro, .of 5 0 .ro], 0x00000000#32⟩,
    -- SGLIMIT
    ⟨0xA00, 0x4, 1, [.of 31 0 .rw], 0x000249F0#32⟩,
    -- SFAULTS
    ⟨0xA04, 0x4, 1, [.of 31 16 .ro, .of 15 0 .ro], 0x00000000#32⟩,
    -- SYM.UCTL
    ⟨0xA40, 0x40, 4, [.of 31 31 .ro, .of 30 30 .ro, .of 23 16 .ro, .of 15 8 .ro, .of 2 2 .w1c, .of 1 1 .rw, .of 0 0 .rw], 0x00000000#32⟩,
    -- SYM.SUBMIT
    ⟨0xA44, 0x40, 4, [.of 31 6 .wo], 0x00000000#32⟩,
    -- SYM.STAT
    ⟨0xA48, 0x40, 4, [.of 31 31 .ro, .of 30 30 .ro, .of 29 29 .ro, .of 28 28 .w1c, .of 27 27 .ro, .of 11 8 .ro, .of 5 0 .ro], 0x00000000#32⟩]

/-- The registers of PG<n> (R154): first offset, stride, count, fields, reset word. -/
def pgRegs : List RegDesc :=[
    -- PG.UCTL
    ⟨0x000, 0x4, 1, [.of 31 31 .ro, .of 30 30 .ro, .of 23 16 .ro, .of 15 8 .ro, .of 2 2 .w1c, .of 1 1 .rw, .of 0 0 .rw], 0x00000000#32⟩,
    -- PG.PGCTL
    ⟨0x004, 0x4, 1, [.of 0 0 .w1s], 0x00000000#32⟩,
    -- PG.PGSTAT
    ⟨0x008, 0x4, 1, [.of 31 31 .ro, .of 30 30 .w1c, .of 7 0 .ro], 0x00000000#32⟩,
    -- PG.FAULT_ADDR
    ⟨0x00C, 0x4, 1, [.of 31 0 .ro], 0x00000000#32⟩,
    -- PG.FAULT_INFO
    ⟨0x010, 0x4, 1, [.of 31 31 .w1c, .of 9 9 .ro, .of 8 0 .ro], 0x00000000#32⟩,
    -- PG.XFER_CNT
    ⟨0x014, 0x4, 1, [.of 31 0 .ro], 0x00000000#32⟩,
    -- PG.REFUSE_CNT
    ⟨0x018, 0x4, 1, [.of 31 0 .ro], 0x00000000#32⟩,
    -- PG.MASTER
    ⟨0x01C, 0x4, 1, [.of 9 0 .ro], 0x00000000#32⟩,
    -- PG.BASE<i>
    ⟨0x020, 0x8, 8, [.of 31 5 .rw], 0x00000000#32⟩,
    -- PG.ATTR<i>
    ⟨0x024, 0x8, 8, [.of 31 31 .rw, .of 13 8 .rw, .of 1 1 .rw, .of 0 0 .rw], 0x00000500#32⟩]

/-- The registers of HOST (R217): first offset, stride, count, fields, reset word. -/
def hostRegs : List RegDesc :=[
    -- HOST.LCTL
    ⟨0x000, 0x400, 2, [.of 8 8 .rw, .of 0 0 .rw], 0x00000000#32⟩,
    -- HOST.LSTAT
    ⟨0x004, 0x400, 2, [.of 31 31 .ro, .of 30 30 .w1c, .of 27 24 .ro, .of 23 20 .ro, .of 6 0 .ro], 0x00000000#32⟩,
    -- HOST.AQ_SQ_LO
    ⟨0x008, 0x400, 2, [.of 31 12 .rw, .within 3 0 .rw 5 12], 0x00000005#32⟩,
    -- HOST.AQ_SQ_HI
    ⟨0x00C, 0x400, 2, [.of 31 0 .rw], 0x00000000#32⟩,
    -- HOST.AQ_CQ_LO
    ⟨0x010, 0x400, 2, [.of 31 12 .rw, .within 3 0 .rw 5 12], 0x00000005#32⟩,
    -- HOST.AQ_CQ_HI
    ⟨0x014, 0x400, 2, [.of 31 0 .rw], 0x00000000#32⟩,
    -- HOST.AQ_CTL
    ⟨0x018, 0x400, 2, [.of 31 31 .rw, .within 6 0 .rw 0 63], 0x00000000#32⟩,
    -- HOST.MALF_CNT
    ⟨0x020, 0x400, 2, [.of 31 0 .ro], 0x00000000#32⟩,
    -- HOST.ECRC_CNT
    ⟨0x024, 0x400, 2, [.of 31 0 .ro], 0x00000000#32⟩,
    -- HOST.DROP_CNT
    ⟨0x028, 0x400, 2, [.of 31 0 .ro], 0x00000000#32⟩,
    -- HOST.SQ_TAIL
    ⟨0x800, 0x10, 128, [.of 11 0 .rw], 0x00000000#32⟩,
    -- HOST.CQ_HEAD
    ⟨0x804, 0x10, 128, [.of 11 0 .rw], 0x00000000#32⟩]
  ++ [
    -- HOST.QSTAT
    ⟨0x808, 0x10, 128, [.of 31 31 .ro, .of 30 30 .ro, .of 29 29 .ro, .of 28 28 .ro, .of 23 16 .ro, .of 11 0 .ro], 0x00000000#32⟩,
    -- HOST.QERR
    ⟨0x80C, 0x10, 128, [.of 31 31 .w1c, .of 19 16 .ro, .of 15 0 .ro], 0x00000000#32⟩]

/-- The registers of WEAVE (R470): first offset, stride, count, fields, reset word. -/
def weaveRegs : List RegDesc :=[
    -- WEAVE.LSTAT
    ⟨0x000, 0x40, 8, [.of 31 31 .ro, .of 30 30 .ro, .of 29 29 .w1c, .of 28 28 .w1c, .of 27 27 .ro, .of 26 16 .ro, .of 15 0 .ro], 0x00000000#32⟩,
    -- WEAVE.LERR
    ⟨0x00C, 0x40, 8, [.of 31 16 .ro, .of 15 0 .ro], 0x00000000#32⟩,
    -- WEAVE.TXSEQ
    ⟨0x004, 0x40, 8, [.of 31 0 .ro], 0x00000000#32⟩,
    -- WEAVE.RXSEQ
    ⟨0x008, 0x40, 8, [.of 31 0 .ro], 0x00000000#32⟩,
    -- WEAVE.CTRL
    ⟨0x400, 0x4, 1, [.of 31 31 .w1s], 0x00000000#32⟩,
    -- WEAVE.CFG
    ⟨0x404, 0x4, 1, [.of 31 24 .rwl, .of 23 16 .rw, .of 15 15 .rw, .of 10 0 .rw], 0x00000000#32⟩,
    -- WEAVE.BSTAT
    ⟨0x408, 0x4, 1, [.of 31 31 .ro, .of 30 30 .ro, .of 29 29 .w1c, .of 28 28 .w1c, .of 26 16 .ro, .of 15 0 .ro], 0x00000000#32⟩,
    -- WEAVE.MEMBERS
    ⟨0x40C, 0x4, 1, [.of 11 0 .ro], 0x00000000#32⟩,
    -- WEAVE.BKEY
    ⟨0x410, 0x4, 1, [.of 31 5 .wo], 0x00000000#32⟩,
    -- WEAVE.BKEYIDX
    ⟨0x414, 0x4, 1, [.of 31 31 .ro, .of 16 0 .rw], 0x00000000#32⟩,
    -- WEAVE.MWAIT
    ⟨0x418, 0x4, 1, [.of 31 0 .rwl], 0x000DBBA0#32⟩,
    -- WEAVE.MSTAT
    ⟨0x41C, 0x4, 1, [.of 31 16 .ro, .of 15 0 .ro], 0x00000000#32⟩]
  ++ [
    -- WEAVE.AUTH<w>
    ⟨0x420, 0x4, 8, [.of 31 0 .rwl], 0x00000000#32⟩,
    -- WEAVE.MAPIDX
    ⟨0x440, 0x4, 1, [.of 10 0 .rw], 0x00000000#32⟩,
    -- WEAVE.MAPDATA0
    ⟨0x444, 0x4, 1, [.of 31 30 .ro, .of 29 29 .ro, .of 28 24 .ro, .of 18 16 .ro, .of 15 8 .ro], 0x00000000#32⟩,
    -- WEAVE.MAPDATA1
    ⟨0x448, 0x4, 1, [.of 31 0 .ro], 0x00000000#32⟩,
    -- WEAVE.TSTAT
    ⟨0x44C, 0x4, 1, [.of 31 16 .ro, .of 15 0 .ro], 0x00000000#32⟩,
    -- WEAVE.BASKET_LO/HI
    ⟨0x450, 0x4, 2, [.of 31 0 .rw], 0x00000000#32⟩]

/-- The registers of HEAD (R431): first offset, stride, count, fields, reset word. -/
def headRegs : List RegDesc :=[
    -- HEAD.CFG
    ⟨0x000, 0x40, 32, [.of 31 24 .rw, .of 9 1 .rw, .of 0 0 .rw], 0x00000000#32⟩,
    -- HEAD.STAT
    ⟨0x004, 0x40, 32, [.of 31 31 .ro, .of 30 30 .ro, .of 29 29 .w1c, .of 27 24 .ro, .of 20 16 .ro, .of 15 0 .ro], 0x00000000#32⟩,
    -- HEAD.HKEY
    ⟨0x008, 0x40, 32, [.of 31 5 .wo], 0x00000000#32⟩,
    -- HEAD.HKEYIDX
    ⟨0x00C, 0x40, 32, [.of 31 31 .ro, .of 16 0 .rw], 0x00000000#32⟩,
    -- HEAD.STAGE
    ⟨0x010, 0x40, 32, [.of 31 5 .wo], 0x00000000#32⟩,
    -- HEAD.SRES
    ⟨0x014, 0x40, 32, [.of 31 16 .ro, .of 15 8 .ro], 0x00000000#32⟩,
    -- HEAD.ERRCNT
    ⟨0x018, 0x40, 32, [.of 31 16 .ro, .of 15 0 .ro], 0x00000000#32⟩,
    -- HEAD.DROP
    ⟨0x01C, 0x40, 32, [.of 31 0 .ro], 0x00000000#32⟩,
    -- HEAD.PRESENT
    ⟨0x800, 0x4, 1, [.of 31 0 .ro], 0x00000000#32⟩]

/-- The registers of CRT (R394): first offset, stride, count, fields, reset word. -/
def crtRegs : List RegDesc :=[
    -- CRT.CFG
    ⟨0x000, 0x80, 8, [.within 9 8 .rw 0 2, .of 4 4 .rw, .of 1 1 .rw, .of 0 0 .rw], 0x00000210#32⟩,
    -- CRT.STAT
    ⟨0x004, 0x80, 8, [.of 31 28 .ro, .of 27 27 .ro, .of 26 26 .ro, .of 25 25 .ro, .of 23 16 .ro, .of 15 14 .ro, .of 13 13 .ro, .of 10 8 .ro], 0x08000000#32⟩,
    -- CRT.SUBMIT
    ⟨0x008, 0x80, 8, [.of 31 5 .wo], 0x00000000#32⟩,
    -- CRT.STAGE
    ⟨0x00C, 0x80, 8, [.of 31 5 .wo], 0x00000000#32⟩,
    -- CRT.JARM
    ⟨0x010, 0x80, 8, [.of 15 0 .rw], 0x00000000#32⟩,
    -- CRT.JSTAT
    ⟨0x014, 0x80, 8, [.of 31 31 .w1c, .of 30 30 .w1c, .of 29 29 .ro, .of 28 28 .ro, .of 15 0 .ro], 0x00000000#32⟩,
    -- CRT.WRES
    ⟨0x018, 0x80, 8, [.of 31 16 .ro, .of 15 8 .ro], 0x00000000#32⟩,
    -- CRT.ERRCNT
    ⟨0x01C, 0x80, 8, [.of 31 16 .ro, .of 15 0 .ro], 0x00000000#32⟩,
    -- CRT.CID0
    ⟨0x020, 0x80, 8, [.of 31 0 .ro], 0x00000000#32⟩,
    -- CRT.CID1
    ⟨0x024, 0x80, 8, [.of 31 0 .ro], 0x00000000#32⟩,
    -- CRT.CID2
    ⟨0x028, 0x80, 8, [.of 31 0 .ro], 0x00000000#32⟩,
    -- CRT.CID3
    ⟨0x02C, 0x80, 8, [.of 31 0 .ro], 0x00000000#32⟩]
  ++ [
    -- CRT.CTRL
    ⟨0x400, 0x4, 1, [.of 31 31 .w1s], 0x00000000#32⟩,
    -- CRT.RAWTEN<w>
    ⟨0x410, 0x4, 8, [.of 31 0 .rwl], 0x00000000#32⟩]

/-- The registers of RF (R419): first offset, stride, count, fields, reset word. -/
def rfRegs : List RegDesc :=[
    -- RF.CFG
    ⟨0x000, 0x100, 4, [.of 31 24 .rw, .of 19 17 .rw, .of 16 16 .rw, .of 15 12 .rw, .within 11 10 .rw 0 2, .within 9 8 .rw 1 3, .of 2 2 .rw, .within 1 0 .rw 0 2], 0x00083B00#32⟩,
    -- RF.STAT
    ⟨0x004, 0x100, 4, [.of 31 31 .ro, .of 30 30 .ro, .of 29 29 .ro, .of 28 28 .w1c, .of 27 24 .ro, .of 20 18 .ro, .of 17 16 .ro], 0x00000000#32⟩,
    -- RF.SUBMIT
    ⟨0x008, 0x100, 4, [.of 31 5 .wo], 0x00000000#32⟩,
    -- RF.XLIMIT
    ⟨0x00C, 0x100, 4, [.of 31 0 .rw], 0x003D0900#32⟩,
    -- RF.TRES
    ⟨0x040, 0x100, 4, [.of 31 16 .ro, .of 15 8 .ro], 0x00000000#32⟩,
    -- RF.TPWD
    ⟨0x044, 0x100, 4, [.of 31 0 .wo], 0x00000000#32⟩,
    -- RF.TUID_LO
    ⟨0x048, 0x100, 4, [.of 31 0 .rw], 0x00000000#32⟩,
    -- RF.TUID_HI
    ⟨0x04C, 0x100, 4, [.of 23 0 .rw], 0x00000000#32⟩,
    -- RF.TKEY
    ⟨0x058, 0x100, 4, [.of 31 5 .wo], 0x00000000#32⟩,
    -- RF.TKEYIDX
    ⟨0x05C, 0x100, 4, [.of 31 31 .ro, .of 16 0 .rw], 0x00000000#32⟩,
    -- RF.CNT
    ⟨0x060, 0x100, 4, [.of 31 16 .ro, .of 15 0 .ro], 0x00000000#32⟩,
    -- RF.ERRCNT
    ⟨0x064, 0x100, 4, [.of 31 16 .ro, .of 15 0 .ro], 0x00000000#32⟩]
  ++ [
    -- RF.TCOMMITS
    ⟨0x068, 0x100, 4, [.of 31 0 .ro], 0x00000000#32⟩,
    -- RF.TLAST
    ⟨0x06C, 0x100, 4, [.of 31 31 .ro, .of 9 0 .ro], 0x00000000#32⟩,
    -- RF.TACC0
    ⟨0x050, 0x100, 4, [.of 31 0 .rw], 0x00000000#32⟩,
    -- RF.TACC1
    ⟨0x054, 0x100, 4, [.of 31 0 .rw], 0x00000000#32⟩,
    -- RF.TSTG0
    ⟨0x020, 0x100, 4, [.of 31 0 .wo], 0x00000000#32⟩,
    -- RF.TSTG1
    ⟨0x024, 0x100, 4, [.of 31 0 .wo], 0x00000000#32⟩,
    -- RF.TSTG2
    ⟨0x028, 0x100, 4, [.of 31 0 .wo], 0x00000000#32⟩,
    -- RF.TSTG3
    ⟨0x02C, 0x100, 4, [.of 31 0 .wo], 0x00000000#32⟩,
    -- RF.TSTG4
    ⟨0x030, 0x100, 4, [.of 31 0 .wo], 0x00000000#32⟩,
    -- RF.TSTG5
    ⟨0x034, 0x100, 4, [.of 31 0 .wo], 0x00000000#32⟩,
    -- RF.TSTG6
    ⟨0x038, 0x100, 4, [.of 31 0 .wo], 0x00000000#32⟩,
    -- RF.TSTG7
    ⟨0x03C, 0x100, 4, [.of 31 0 .wo], 0x00000000#32⟩]

/-- The registers of SC (R437): first offset, stride, count, fields, reset word. -/
def scRegs : List RegDesc :=[
    -- SC.CFG
    ⟨0x000, 0x100, 2, [.of 31 31 .rw, .of 13 12 .rw, .of 10 8 .rw], 0x00003300#32⟩,
    -- SC.STAT
    ⟨0x004, 0x100, 2, [.of 31 28 .ro, .of 27 26 .ro, .of 25 25 .ro, .of 23 16 .ro, .of 15 8 .ro, .of 1 0 .ro], 0x00000000#32⟩,
    -- SC.SUBMIT
    ⟨0x008, 0x100, 2, [.of 31 5 .wo], 0x00000000#32⟩,
    -- SC.XLIMIT
    ⟨0x00C, 0x100, 2, [.of 31 0 .rw], 0x00030D40#32⟩,
    -- SC.ERRCNT
    ⟨0x010, 0x100, 2, [.of 31 16 .ro, .of 15 0 .ro], 0x00000000#32⟩,
    -- SC.ATR0
    ⟨0x020, 0x100, 2, [.of 31 0 .ro], 0x00000000#32⟩,
    -- SC.ATR1
    ⟨0x024, 0x100, 2, [.of 31 0 .ro], 0x00000000#32⟩,
    -- SC.ATR2
    ⟨0x028, 0x100, 2, [.of 31 0 .ro], 0x00000000#32⟩,
    -- SC.ATR3
    ⟨0x02C, 0x100, 2, [.of 31 0 .ro], 0x00000000#32⟩,
    -- SC.ATR4
    ⟨0x030, 0x100, 2, [.of 31 0 .ro], 0x00000000#32⟩,
    -- SC.ATR5
    ⟨0x034, 0x100, 2, [.of 31 0 .ro], 0x00000000#32⟩,
    -- SC.ATR6
    ⟨0x038, 0x100, 2, [.of 31 0 .ro], 0x00000000#32⟩]
  ++ [
    -- SC.ATR7
    ⟨0x03C, 0x100, 2, [.of 31 0 .ro], 0x00000000#32⟩,
    -- SC.ATR8
    ⟨0x040, 0x100, 2, [.of 31 0 .ro], 0x00000000#32⟩]

/-- The registers of ACT (R442): first offset, stride, count, fields, reset word. -/
def actRegs : List RegDesc :=[
    -- ACT.CFG
    ⟨0x000, 0x20, 16, [.of 31 24 .rwl, .of 23 23 .rwl, .of 22 22 .rwl, .within 19 0 .rwl 2500 1048575], 0x004061A8#32⟩,
    -- ACT.MAXLEN
    ⟨0x004, 0x20, 16, [.of 31 0 .rwl], 0x017D7840#32⟩,
    -- ACT.STAT
    ⟨0x008, 0x20, 16, [.of 31 31 .ro, .of 30 30 .w1c, .of 29 29 .ro, .of 11 8 .ro, .of 3 0 .ro], 0x00000000#32⟩,
    -- ACT.LAST_J
    ⟨0x00C, 0x20, 16, [.of 31 0 .ro], 0x00000000#32⟩,
    -- ACT.CTRL
    ⟨0x400, 0x4, 1, [.of 31 31 .w1s], 0x00000000#32⟩,
    -- ACT.STG0
    ⟨0x410, 0x4, 1, [.of 3 0 .wo], 0x00000000#32⟩,
    -- ACT.STG1
    ⟨0x414, 0x4, 1, [.of 31 0 .wo], 0x00000000#32⟩,
    -- ACT.SRES
    ⟨0x418, 0x4, 1, [.of 31 16 .ro, .of 15 8 .ro], 0x00000000#32⟩]

/-- The registers of WALE (R376): first offset, stride, count, fields, reset word. -/
def waleRegs : List RegDesc :=[
    -- WALE.WCFG<n>
    ⟨0x000, 0x4, 48, [.within 31 30 .rwl 0 2, .of 0 0 .w1s], 0x00000000#32⟩,
    -- WALE.WSTAT<n>
    ⟨0x100, 0x4, 48, [.of 31 31 .ro, .of 30 30 .ro, .of 23 0 .ro], 0x00000000#32⟩,
    -- WALE.PERIOD
    ⟨0x200, 0x4, 1, [.within 19 0 .rwl 2500 1048575], 0x000061A8#32⟩,
    -- WALE.CASECFG
    ⟨0x204, 0x4, 1, [.of 3 0 .rwl], 0x00000000#32⟩,
    -- WALE.CASESTAT
    ⟨0x208, 0x4, 1, [.of 3 0 .ro], 0x00000000#32⟩]

/-- A block of the window (R510): base, stride and number of instances, extent of each, and its registers. -/
structure Block where
  base : Nat
  stride : Nat
  instances : Nat
  extent : Nat
  regs : List RegDesc
  deriving DecidableEq, Repr

/-- The blocks of R510 that hold registers. The flue slots and the tag store windows are `isSlot` and `isTagStore`. -/
def blocks : List Block :=
  [⟨0x0, 0x1000, 1, 0x1000, sysRegs⟩, ⟨0x1000, 0x1000, 1, 0x1000, beatRegs⟩, ⟨0x2000, 0x1000, 1, 0x1000, lcsRegs⟩,
   ⟨0x3000, 0x1000, 1, 0x1000, tampRegs⟩, ⟨0x4000, 0x1000, 1, 0x1000, rngRegs⟩, ⟨0x5000, 0x1000, 1, 0x1000, nvmcRegs⟩,
   ⟨0x6000, 0x1000, 1, 0x1000, ledgRegs⟩, ⟨0x7000, 0x1000, 1, 0x1000, flueRegs⟩, ⟨0x10000, 0x4000, 1, 0x4000, ftabRegs⟩]
  ++ [⟨0x100000, 0x1000, 16, 0x1000, hrtRegs⟩, ⟨0x200000, 0x100, 128, 0x100, pgRegs⟩,
   ⟨0x300000, 0x1000, 1, 0x1000, hostRegs⟩, ⟨0x301000, 0x1000, 1, 0x1000, weaveRegs⟩, ⟨0x302000, 0x1000, 1, 0x1000, headRegs⟩,
   ⟨0x303000, 0x1000, 1, 0x1000, crtRegs⟩, ⟨0x304000, 0x1000, 1, 0x1000, rfRegs⟩, ⟨0x305000, 0x1000, 1, 0x1000, scRegs⟩,
   ⟨0x306000, 0x1000, 1, 0x1000, actRegs⟩, ⟨0x307000, 0x1000, 1, 0x1000, waleRegs⟩]

/-- The offset lies in the flue slots (R168). -/
def isSlot (o : Nat) : Bool := 0x20000 ≤ o && o < 0x30000
/-- The offset lies in the channel table (R166). -/
def isChannelTable (o : Nat) : Bool := 0x10000 ≤ o && o < 0x14000
/-- The offset lies in a tag store window (R415). -/
def isTagStore (o : Nat) : Bool := 0x400000 ≤ o && o < 0x410000

/-- The block that holds an offset, with the offset inside its instance. -/
def findBlock (o : Nat) : Option (Block × Nat) :=
  (blocks.find? (fun b => decide (b.base ≤ o ∧ o < b.base + b.stride * b.instances))).map
    (fun b => (b, (o - b.base) % b.stride))

/-- The offset lies inside some defined block (R7, R510); any other offset ends in bus error. -/
def inBlock (o : Nat) : Bool := isSlot o || isTagStore o || (findBlock o).isSome

/-- A register description covers an offset inside its block. -/
def RegDesc.covers (d : RegDesc) (o : Nat) : Bool :=
  decide (d.first ≤ o ∧ (o - d.first) % d.stride = 0 ∧ (o - d.first) / d.stride < d.count)

/-- The description of the register at an offset; `none` where no register lies (R7). -/
def findReg (o : Nat) : Option RegDesc :=
  match findBlock o with
  | some (b, r) => b.regs.find? (fun d => d.covers r)
  | none => none

/-- The fields of the register at an offset. -/
def fieldsAt (o : Nat) : List Field := ((findReg o).map (·.fields)).getD []

/-- The lowest class that MCFG<m>.CLASS accepts (R355). -/
def classFloor (m : Nat) : Nat :=
  if m < 52 then 1 else if m = 52 ∨ m = 54 ∨ m = 56 ∨ m = 58 then 2
  else if m = 53 ∨ m = 55 ∨ m = 57 ∨ m = 59 ∨ m = 84 then 3
  else if m < 76 then 2 else if m < 84 then 0 else 1

/-- The class of monitor m at reset (R355). -/
def classReset (m : Nat) : Nat :=
  if m < 52 then 3 else if m = 52 ∨ m = 54 ∨ m = 58 then 2
  else if m < 76 then 3 else if m < 84 then 1 else if m = 84 then 3 else 2

/-- The role of a pair at reset (R12, R116): SUPERVISOR for pairs 0 and 1, SPARE for pair 31 of a hearth, else FREE. -/
def roleReset (h k : Nat) : Nat := if h = 0 ∧ k < 2 then 4 else if k = 31 then 3 else 0

/-- The registers whose reset value depends on the instance or on what is fused: SYS.ID (R3), the UCTL registers, whose
DRAINED and DRAINING are computed at the read and of which only HRT0's resets with ENABLE = 1 (R26, R32), PAIRSUM, computed
at the read (R116), PST<k> (R116), PG<n>.MASTER (R154), BANKST<b> (R331) and MCFG<m> (R355, R361). -/
def instanceReset (o : Nat) : Option Word :=
  if o = Reg.SYS_ID then some (setFld 7 4 (if Config.industrial then 2 else 1) 0x9024B001#32)
  else if 0x100000 ≤ o ∧ o < 0x110000 then
    let h := (o - 0x100000) / 0x1000
    let r := (o - 0x100000) % 0x1000
    if r = 0 then some (if h = 0 then 1 else 0)
    else if r = 0x10 ∨ r = 0x800 ∨ r = 0xA40 ∨ r = 0xA80 ∨ r = 0xAC0 ∨ r = 0xB00 then some 0
    else if 0x100 ≤ r ∧ r < 0x180 ∧ r % 4 = 0 then
      some (setFld 31 28 (roleReset h ((r - 0x100) / 4)) (setFld 15 12 h 0))
    else none
  else if 0x200000 ≤ o ∧ o < 0x208000 then
    if o % 0x100 = 0 then some 0
    else if o % 0x100 = 0x1C then some (wd (512 + (o - 0x200000) / 0x100))
    else none
  else if o = Reg.NVMC_BANKST 1 ∨ o = Reg.NVMC_BANKST 2 ∨ o = Reg.NVMC_BANKST 3 then some (setFld 26 26 1 0)
  else if Reg.TAMP_MCFG 0 ≤ o ∧ o < Reg.TAMP_MCFG 101 ∧ o % 4 = 0 then
    let m := (o - Reg.TAMP_MCFG 0) / 4
    some (setFld 31 16 (if m ≤ 51 then 40 else 1) (setFld 11 8 (if m ≤ 51 then 2 else 1) (setFld 2 0 (classReset m) 0)))
  else none

/-- The value of the register at an offset after reset; an offset with no register reads as zero (R7). -/
def resetReg (o : Nat) : Word :=
  match instanceReset o with
  | some v => v
  | none => ((findReg o).map (·.reset)).getD 0

/-- The register whose bit 31 or named bit locks the RWL fields of an offset, with that bit: CTRL.LOCK of the block
(R40, R166, R271, R304, R331, R375, R376, R394, R442, R470), and WDOG.EN for WDOG.LIMIT (R54). -/
def lockOf (o : Nat) : Option FieldAt :=
  if o = Reg.BEAT_WDOG then some ⟨Reg.BEAT_WDOG, 31, 31⟩
  else if o / 0x1000 = 1 then some ⟨Reg.BEAT_CTRL, 31, 31⟩
  else if o / 0x1000 = 3 ∨ o / 0x1000 = 0x307 then some ⟨Reg.TAMP_CTRL, 31, 31⟩
  else if o / 0x1000 = 4 then some ⟨Reg.RNG_CTRL, 31, 31⟩
  else if o / 0x1000 = 5 then some ⟨Reg.NVMC_CTRL, 31, 31⟩
  else if o / 0x1000 = 6 then some ⟨Reg.LEDG_CTRL, 31, 31⟩
  else if isChannelTable o then some ⟨Reg.FLUE_CTRL, 31, 31⟩
  else if o / 0x1000 = 0x301 then some ⟨Reg.WEAVE_CTRL, 31, 31⟩
  else if o / 0x1000 = 0x303 then some ⟨Reg.CRT_CTRL, 31, 31⟩
  else if o / 0x1000 = 0x306 then some ⟨Reg.ACT_CTRL, 31, 31⟩
  else none

/-- The registers kept per master identity (R515): SYS.LOG_IDX and LOG_DATA, and those that R304, R419, R431 and R442
name. -/
def perMaster (o : Nat) : Bool :=
  o == Reg.SYS_LOG_IDX || (decide (Reg.SYS_LOG_DATA 0 ≤ o ∧ o < Reg.SYS_LOG_DATA 8)) ||
  (decide (Reg.LEDG_RIDX ≤ o ∧ o < 0x7000)) ||
  (decide (0x304000 ≤ o ∧ o < 0x304400 ∧ 0x20 ≤ o % 0x100 ∧ o % 0x100 ≤ 0x40)) ||
  (decide (0x302000 ≤ o ∧ o < 0x302800 ∧ o % 0x40 = 0x14)) ||
  o == Reg.ACT_STG0 || o == Reg.ACT_STG1 || o == Reg.ACT_SRES

end Sys2Proof.Machine
end

