-- ==== Sys2Proof/Machine/Table.lean ====
section
/-! DEFINITION. Sparse arrays: a list of (key, value) pairs with strictly rising keys and no entry that equals what an
unlisted key reads as, so that equal arrays are equal data. Memories, register files and unit arrays use it. -/

namespace Sys2Proof.Machine

/-- A sparse array of `α` by natural key. -/
abbrev Table (α : Type) := List (Nat × α)

variable {α : Type}

/-- The value at key `k`; an unlisted key reads as `d k`. -/
def Table.get (d : Nat → α) : Table α → Nat → α
  | [], k => d k
  | (k', v) :: t, k => if k = k' then v else Table.get d t k

/-- The table with `k` listed as `v`. -/
def Table.put : Table α → Nat → α → Table α
  | [], k, v => [(k, v)]
  | (k', v') :: t, k, v =>
    if k < k' then (k, v) :: (k', v') :: t
    else if k = k' then (k, v) :: t
    else (k', v') :: Table.put t k v

/-- The table with the keys that satisfy `p` unlisted. -/
def Table.drop (p : Nat → Bool) (t : Table α) : Table α := t.filter (fun e => !p e.1)

/-- The table with `k` reading as `v`, in canonical form. -/
def Table.set [DecidableEq α] (d : Nat → α) (t : Table α) (k : Nat) (v : α) : Table α :=
  if v = d k then t.drop (· == k) else t.put k v

/-- The table with the value at `k` mapped by `f`. -/
def Table.upd [DecidableEq α] (d : Nat → α) (t : Table α) (k : Nat) (f : α → α) : Table α :=
  t.set d k (f (t.get d k))

/-- The canonical form: strictly rising keys, and no entry equal to what its key reads as when unlisted. -/
def Table.wf [DecidableEq α] (d : Nat → α) (t : Table α) : Bool :=
  decide (t.Pairwise (fun a b => a.1 < b.1)) && t.all (fun e => decide (e.2 ≠ d e.1))

/-- `n` bytes from key `a` upward of a byte array. -/
def Table.bytes (d : Nat → Byte) (t : Table Byte) (a : Nat) : Nat → List Byte
  | 0 => []
  | n + 1 => t.get d a :: Table.bytes d t (a + 1) n

/-- The byte array with a list of bytes written from key `a` upward. -/
def Table.setBytes (d : Nat → Byte) : Table Byte → Nat → List Byte → Table Byte
  | t, _, [] => t
  | t, a, b :: bs => Table.setBytes d (t.set d a b) (a + 1) bs

/-- What an unlisted byte of a memory that reset zeroes reads as. -/
abbrev zeroByte : Nat → Byte := fun _ => 0
/-- What an unlisted word of a register file that resets to zero reads as. -/
abbrev zeroWord : Nat → Word := fun _ => 0

end Sys2Proof.Machine
end

