-- ==== Sys2Proof/Machine/State.lean ====
section
/-! DEFINITION. The state of the block: every register, memory, queue, counter and mode that the manual gives it, as
plain data, and its value after a power-on reset. INVENTORY.md names the rule of each field. -/

namespace Sys2Proof.Machine

/-- A stop with a fault. No meaning of this model raises one: every access that the manual says does not exist ends in
the exception or the status that the manual gives it. -/
inductive Fault where
  /-- Raised by nothing. Safe. -/
  | none
  deriving DecidableEq, Repr

/-- A stop with a refusal. -/
inductive Refusal where
  /-- Raised by an arm of `exec` that has no meaning yet, with the row's mnemonic. Safe: the model stops. -/
  | notModelled (mnemonic : String)
  deriving DecidableEq, Repr

/-! ## Core pairs -/

/-- A posted store in the store buffer (R93): address, size in bytes, value, and the STRONG attribute of its region
(R150). -/
structure PostedStore where
  addr : Nat
  size : Nat
  value : Word
  strong : Bool
  deriving DecidableEq, Repr

/-- A pending imprecise arithmetic exception (R83): its code, the PC of the causing instruction, the instructions
retired since, and whether a further one occurred. -/
structure Imprecise where
  code : Nat
  pc : Word
  after : Nat
  multi : Bool
  deriving DecidableEq, Repr

/-- The slot timer (R47): deadline A, worst-case Beats W, the flags of SLOT_CTL, and the Beat the job started. -/
structure SlotTimer where
  a : Nat := 0
  w : Nat := 0
  nodl : Bool := false
  armed : Bool := false
  overrun : Bool := false
  start : Nat := 0
  deriving DecidableEq, Repr

/-- A core pair (R11): the stream of its lead core as software sees it (R56). -/
structure Pair where
  /-- g1–g31 (R57); g0 is never listed. -/
  g : Table Word := []
  /-- The special registers of R60 by number; pstat without IMPP, which is `imp.isSome`. -/
  sr : Table Word := []
  pc : Word := 0xFFFF0000#32
  /-- Multiplier results not yet visible, oldest first: mh, ml and the cycles left (R62, R102, R103). -/
  mulPend : List (Word × Word × Nat) := []
  /-- The divider result not yet visible: dq, dr and the cycles left (R62, R103). -/
  divPend : Option (Word × Word × Nat) := none
  imp : Option Imprecise := none
  /-- Cycles until a register that a load writes is usable (R92, R93), by register number, and whether the wait for a grant may have
  lengthened them (R94). -/
  ready : Table (Nat × Bool) := []
  /-- What R94 excludes has happened since a result of the multiplier or divider became pending: the cycles that have passed are
  then no fewer than those counted. -/
  unsteady : Bool := false
  /-- The store buffer, oldest first (R93). -/
  stores : List PostedStore := []
  /-- Local memory (R140), by core address. -/
  lmem : Table Byte := []
  /-- The written MPU rule set (R149), by offset in the core-local block. -/
  mpuW : Table Word := []
  /-- The MPU rules in force (R149). -/
  mpuF : Table Word := []
  /-- MPU_STAT.PEND: an MPU register has been written since the last boundary of R149. -/
  mpuPend : Bool := false
  /-- The instruction buffer (R143): line number to tag + 1, 0 when the line is empty. -/
  ibuf : Table Nat := []
  ibufMiss : Word := 0
  /-- The word addresses the pair has stored to since its last fence.p, with the word that a fetch still sees there
  (R110). -/
  unfenced : List (Nat × Word) := []
  slot : SlotTimer := ⟨0, 0, false, false, false, 0⟩
  dbPend0 : Word := 0
  dbPend1 : Word := 0
  dbMask0 : Word := 0
  dbMask1 : Word := 0
  /-- The deadline exception pending (R81), with bits [31:0] of A. -/
  deadline : Option Word := none
  /-- The pair holds issue in `wait` (R111). -/
  waiting : Bool := false
  /-- A debug halt is requested (R352). -/
  haltReq : Bool := false
  /-- The pair is halted (R352). -/
  halted : Bool := false
  /-- The pair runs one instruction and halts again (R352). -/
  stepping : Bool := false
  /-- The Beats of the self-test passes that fall within RPOL.WINDOW (R132). -/
  passes : List Nat := []
  deriving DecidableEq, Repr

/-- A pair right after its reset (R66). -/
def Pair.reset : Pair := {}

/-- What an unlisted MPU register reads as (R146): BASE 0, ATTR with SIZE = 5. -/
def mpuReset (o : Nat) : Word := if o % 8 = 4 then 0x500#32 else 0

/-! ## Beat, scrub, arbiters, event log -/

/-- The measurement of a source of Beats (R36), in crystal cycles: the last good edge, the last edge, the periods of the
present count that have failed, the good periods in a row, and the length of the last good period (R55). -/
structure SourceMeas where
  lastGood : Option Nat := none
  lastEdge : Option Nat := none
  failed : List Nat := []
  good : Nat := 0
  period : Nat := 0
  deriving DecidableEq, Repr

/-- The Beat unit beside its registers (R35–R42, R54): the counter, the time of the last Beat, the two measured sources,
the length of the period in use in crystal cycles (0: the nominal one), the source whose phase is being aligned to, whether the
generator goes on at the last measured period of a source that was lost (R38), the watchdog count and the last untrusted Beat. -/
structure BeatUnit where
  count : BitVec 48 := 0
  lastT : Nat := 0
  pin : SourceMeas := {}
  basket : SourceMeas := {}
  period : Nat := 0
  aligning : Option BeatSource := none
  holdover : Bool := false
  wdogCount : Nat := 0
  lastUntrusted : Option Nat := none
  deriving DecidableEq, Repr

/-- A scrub unit (R160–R163): the Beat its pass began, the lines read in each bank, the words queued for write-back. -/
structure ScrubUnit where
  passStart : Nat := 0
  /-- The pass has overrun (R163). -/
  overran : Bool := false
  pos : Table Nat := []
  writeBack : List Nat := []
  deriving DecidableEq, Repr

/-- A request waiting at an arbiter (R178): requester index, class, grants waited through, whether it has raised
the starvation flag (R182), and the hint of the last arbitration that it lost (R184). -/
structure Waiter where
  idx : Nat
  cls : Nat
  waited : Nat := 0
  flagged : Bool := false
  hint : Option Nat := none
  deriving DecidableEq, Repr

/-- An arbiter (R178–R185): the waiting requests in order of arrival, the grant in use, the index granted last, the
grants since FB_EN was set, and the requester whose grant an emergency use took back. The manual names no index granted last before
any grant: it is 63 at reset, so that index 0 comes first (DESIGN CHOICE; log 87). -/
structure Arbiter where
  waiting : List Waiter := []
  inUse : Option Nat := none
  last : Nat := 63
  fallback : Nat := 0
  emergency : Bool := false
  revoked : Option Nat := none
  deriving DecidableEq, Repr

/-- A read of a pair that waits for its grant at a bank or, at the read port of its hearth, for the NVM controller (R178, R179): the
pair, the core address of the 32-byte line, whether it is an instruction fetch, and the line once read. -/
structure PendingRead where
  pair : Nat
  line : Nat
  fetch : Bool
  data : Option (List Byte)
  deriving DecidableEq, Repr

/-- An event-log entry (R483). -/
structure LogEntry where
  beat : Nat
  seq : Nat
  src : Nat
  flags : Nat
  code : Nat
  unit : Nat
  arg0 : Word
  arg1 : Word
  arg2 : Nat
  deriving DecidableEq, Repr

/-! ## Ledger -/

/-- The BODY of an entry by its type (R288). -/
inductive Body where
  | free (nextVer floor : Nat)
  | counter (value nextVer : Nat)
  | key (uses limit version slot pslot : Nat)
  | token (remain : Nat) (digest : List Byte)
  | mirror (loc node rindex state hlsn : Nat)
  deriving DecidableEq, Repr

/-- An entry image without its index and MAC (R287). -/
structure Entry where
  owner : Nat
  dev : Bool
  att : Bool
  pend : Bool
  mir : Bool
  body : Body
  deriving DecidableEq, Repr

/-- The established free image of an index (R289, R290). -/
def Entry.established (i : Nat) : Entry := ⟨0, decide (i < 16), false, false, false, .free 1 0⟩

/-- An entry of the directory: its committed image and the LSN of the group that holds it (R287, R299). -/
structure DirEntry where
  entry : Entry
  lsn : Nat
  deriving DecidableEq, Repr

/-- What an unlisted index of the directory holds: the established free image, LSN 0 (R324). -/
def dirReset (i : Nat) : DirEntry := ⟨Entry.established i, 0⟩

/-- A staged update (R292), with the entry it names. `keyUse` is staged by engines only. -/
inductive Update where
  | ctrAdd (i : Nat) (amount : Nat)
  | tokenUse (i : Nat) (proof : List Byte)
  | write (i : Nat) (e : Entry)
  | attAdd (i : Nat) (amount : Nat) (nonce : List Byte)
  | keyUse (i : Nat) (count : Nat) (version : Nat)
  deriving DecidableEq, Repr

/-- The entry an update names. -/
def Update.index : Update → Nat
  | .ctrAdd i _ => i
  | .tokenUse i _ => i
  | .write i _ => i
  | .attAdd i _ _ => i
  | .keyUse i _ _ => i

/-- A group of the log (R295): its LSN, its images by index, and whether its commit record is programmed. -/
structure Group where
  lsn : Nat
  images : List (Nat × Entry)
  committed : Bool
  deriving DecidableEq, Repr

/-- A pool sector that carries log data (R323, R324): its ring position, LAP, FIRST_LSN, its groups oldest first, those that a
rebuild discarded, which are never read again (R298), whether it bears the retire mark, and whether the patrol found it in need of
refresh (R327). -/
structure LogSector where
  p : Nat
  lap : Nat
  firstLsn : Nat
  groups : List Group
  dead : List Group := []
  retired : Bool
  weak : Bool := false
  /-- Erase verifies of the sector that have failed since it was last erased (R325). -/
  fails : Nat := 0
  deriving DecidableEq, Repr

/-- A mirror frame to be routed (R460): TYPE, DST and payload. -/
structure MirrorFrame where
  type : Nat
  dst : Nat
  payload : List Byte
  deriving DecidableEq, Repr

/-- A job's set in the ledger (R296): J, the pair that hands it over (512: the ledger's own, for a mirror), its updates, and the
mirror frames that leave once its commit record is programmed (R460, R465). -/
structure JobSet where
  j : Word
  pair : Nat
  updates : List Update
  after : List MirrorFrame
  deriving DecidableEq, Repr

/-- The ledger beside its registers: the directory, the sets waiting for a group (the open group is the first of them that
fit), the closed group whose commit record is being programmed, the log in NVM and the bad-sector list. -/
structure Ledger where
  established : Bool := false
  dir : Table DirEntry := []
  openSets : List JobSet := []
  closing : Option Group := none
  closingSets : List JobSet := []
  /-- The entries of the closed group whose MUPD has no MACK yet (R461), and those whose wait has expired. -/
  unacked : List Nat := []
  expired : List Nat := []
  /-- Those whose MUPD has been sent again (R461). -/
  resent : List Nat := []
  nextLsn : Nat := 1
  sectors : List LogSector := []
  bad : List Nat := []
  laps : Table Nat := []
  /-- The job whose commit last changed an entry (R216): J, TAG, port, queue. -/
  lastJ : Table (Nat × Nat × Nat × Nat) := []
  /-- The sets applied and kept until their pair arms its next job (R297): pair to J and the values of its updates. -/
  applied : Table (Word × List Nat) := []
  deriving DecidableEq, Repr

/-! ## Commands, jobs, host queues -/

/-- A reply (R205): status, SUB, data, and the host-buffer output that goes with it (R204): host addresses and bytes, which lie one
after the other from the fabric address `buf` on. -/
structure Reply where
  status : Nat
  sub : Nat
  data : List Byte
  out : List (Nat × List Byte)
  degraded : Bool
  untrusted : Bool
  beat : Nat
  j : Word
  buf : Nat
  deriving DecidableEq, Repr

/-- A command taken and not yet replied to (R200, R208): `j` is its job's J, 0 while it has none; `lost` says that its stream has
ended and its reply is to be discarded (R210, R202, R423), `noRoom` that its reply waits for room in the completion ring (R196), `off`
the ports out of service when its commit was issued (R29), none of a reply that no commit releases. -/
structure Taken where
  src : Stream
  tag : Nat
  j : Word
  lost : Bool
  seq : Nat
  opcode : Nat
  tenant : Nat
  unordered : Bool
  noint : Bool
  tArr : Nat
  reply : Option Reply
  held : Bool
  noRoom : Bool := false
  off : Option (List Nat) := none
  deriving DecidableEq, Repr

/-- A command whose header lies in its port's intake slot because no pair is in SUPERVISOR (R24, R134): its port and stream, its header
and parameters, and what supervisor firmware brings to it. -/
structure Intake where
  port : Nat
  src : Stream
  hdr : List Word
  params : List Byte
  adm : Admission
  deriving DecidableEq, Repr

/-- A staged actuation pulse (R438): output and length in crystal cycles. -/
structure Pulse where
  output : Nat
  len : Nat
  deriving DecidableEq, Repr

/-- A staged outbound frame (R121): the port it goes to and its bytes; for a cartridge write, block and data; for a
tag store write, block and data. -/
structure Frame where
  port : Nat
  kind : Nat
  target : Nat
  data : List Byte
  deriving DecidableEq, Repr

/-- How far a job has come. -/
inductive JobPhase where
  /-- Created by the dispatcher, waiting for its job-start notice. -/
  | admitted
  /-- Armed on its pair. -/
  | running
  /-- Its attempt was abandoned by a mismatch and the rerun is being prepared (R128). -/
  | abandoned
  /-- Its commit store has been performed and its set is with the ledger. -/
  | committing
  deriving DecidableEq, Repr

/-- A tenant's policy (R212, TENANT_POLICY). -/
structure Policy where
  families : Word
  floor : Nat
  deriving DecidableEq, Repr

/-- A host queue pair beside its registers (R193–R196). -/
structure HostQueue where
  sqBase : Nat := 0
  cqBase : Nat := 0
  sqLog : Nat := 5
  cqLog : Nat := 5
  vec : Nat := 0
  cqTail : Nat := 0
  phase : Bool := true
  /-- The QUEUE_DELETE that has committed and whose reply waits for the queue's last reply (R215). -/
  deleting : Option (Stream × Nat) := none
  deriving DecidableEq, Repr

/-- A mirror handover in progress (R465): the entry, its mirror entry, the new partner, the former NODE, RINDEX and STATE, and
the MCOPY frames sent. -/
structure Handover where
  entry : Nat
  mirror : Nat
  node : Nat
  oldNode : Nat
  oldIndex : Nat
  oldState : Nat
  sends : Nat
  deriving DecidableEq, Repr

/-- A change that supervisor firmware makes at a job's commit (R212): a queue created or deleted (R215), a tenant's policy, a
session opened or closed (R119, R519), LOG_MARK (R485), the basket joined with its key or left (R455, R456), a mirror handover begun or an entry
unpaired (R464, R465), the reset of SOFT_RESET (R214). `progress` changes nothing: it records how far a body that waits has come. -/
inductive Effect where
  | createQueue (l q : Nat) (h : HostQueue) (priv : Bool) (tenant : Nat)
  | deleteQueue (l q : Nat)
  | policy (tenant : Nat) (p : Policy)
  | openSession (handle : Nat)
  | progress (step : Nat)
  | closeSession (handle : Nat)
  | logMark (seq : Nat)
  | joinBasket (node prio : Nat) (elig : Bool) (basket index : Nat) (key : List Byte)
  | leave
  | handover (h : Handover)
  | send (f : MirrorFrame)
  | softReset
  deriving DecidableEq, Repr

/-- A job (R120–R122): J, attempt, executing pair, its command, deadline A (`none`: no deadline), worst-case Beats W,
and what the present attempt has staged. -/
structure Job where
  j : Word
  attempt : Nat
  pair : Nat
  src : Stream
  tag : Nat
  opcode : Nat
  tenant : Nat
  params : List Byte
  a : Option Nat
  w : Nat
  tArr : Nat
  phase : JobPhase
  /-- A session job: the handle of its session. -/
  session : Option Nat
  updates : List Update
  pulses : List Pulse
  frames : List Frame
  reply : Option Reply
  /-- Changes of supervisor tables that take effect at the job's commit. -/
  effects : List Effect
  /-- The ports whose ENABLE was 0 when the commit store was performed (R29). -/
  portsOff : List Nat
  /-- The updates it had staged were discarded when the ledger was sealed (R302): its commit is gated (R366). -/
  cut : Bool := false
  /-- The fabric address of the buffer that the dispatcher named for the job: its parameters, and 4,096 bytes further on the data of
  its host buffers (R24, R204). -/
  buf : Nat := 0
  deriving DecidableEq, Repr

/-- The state of a session (R119, R131). -/
inductive SessionState where
  | loading
  | loaded
  | parked
  deriving DecidableEq, Repr

/-- A session (R519): handle, tenant, pair, first sector of its image, the hearth it was first loaded in, whether a
close has been admitted. -/
structure Session where
  handle : Nat
  tenant : Nat
  pair : Nat
  sector : Nat
  home : Nat
  state : SessionState
  closing : Bool
  deriving DecidableEq, Repr

/-- What leaves the device: a write to host memory, the data of a host link's read, an MSI-X signal, a frame on a port, the level
of a pin, a log line on MGT_TX. -/
inductive Output where
  | hostWrite (link : Nat) (addr : Nat) (data : List Byte)
  | hostData (link : Nat) (data : Word)
  | msix (link : Nat) (vec : Nat)
  | frame (port : Nat) (kind : Nat) (data : List Byte)
  | pin (port : Nat) (level : Bool)
  | mgt (data : List Byte)
  | beatMark (link : Nat)
  deriving DecidableEq, Repr

/-! ## NVM -/

/-- How far a refresh has come (R329): it copies the sector into the spare and writes the journal (steps 1 and 2); erases the sector
(3); programs it from the spare (4); erases the journal, then the spare (5). -/
inductive RefreshPhase where
  | copy
  | erase
  | program
  | journal
  | spare
  deriving DecidableEq, Repr

/-- The refresh in progress (R329): the global sector it works on, and its phase. The state of the banks that it uses is in
BANKST. -/
structure NvmRefresh where
  sector : Nat
  phase : RefreshPhase
  deriving DecidableEq, Repr

/-- Reads of the sector are served from the spare, from the programming of the journal on until step 5 (R329). -/
def NvmRefresh.redirects (r : NvmRefresh) : Bool := r.phase == .erase || r.phase == .program

/-! ## Engines, random numbers, keys -/

/-- A request at a public-key or symmetric engine (R218, R240): the requesting pair, its requester index, whether it was
in SUPERVISOR, the ring that submitted, the descriptor as an offset in hearth memory, and the MPU rules in force then
(R220). -/
structure EngReq where
  pair : Nat
  idx : Nat
  sup : Bool
  ring : Nat
  desc : Nat
  rules : Table Word
  deriving DecidableEq, Repr

/-- What a job of an engine ends with (R238, R261). -/
structure EngResult where
  status : Nat
  code : Nat
  out : List Byte
  iter : Nat
  deriving DecidableEq, Repr

/-- A curve y² = x³ + ax + b over GF(p) with base point G, order n and cofactor h (R230). -/
structure Curve where
  bits : Nat
  h : Nat
  p : Nat
  a : Nat
  b : Nat
  gx : Nat
  gy : Nat
  n : Nat
  deriving DecidableEq, Repr

/-- A running job of an engine: its request, its descriptor as read, the plain keys unwrapped at its start, the uses reserved
for it, the slot curve read at the grant (R229), its result once computed, and whether it has been rerun (R235). -/
structure EngRun where
  req : EngReq
  words : List Word
  /-- The checks at the grant or start have been made, and blobs and inputs read. -/
  begun : Bool := false
  blob : List Byte := []
  blob2 : List Byte := []
  ins : List (List Byte) := []
  key : List Byte := []
  key2 : List Byte := []
  reserved : List Update := []
  /-- J and attempt of the job under which the uses are staged. -/
  att : Word × Nat := (0, 0)
  curve : Option Curve := none
  result : Option EngResult := none
  retried : Bool := false
  /-- The self-test of R235 or R257 holds the job. -/
  testing : Bool := false
  deriving DecidableEq, Repr

/-- A public-key engine beside its registers (R218–R239). -/
structure PkeEngine where
  reqs : List EngReq := []
  run : Option EngRun := none
  curves : Table (Option Curve) := []
  deriving DecidableEq, Repr

/-- A symmetric engine beside its registers (R240–R262). -/
structure SymEngine where
  queue : List EngReq := []
  copy : Option EngReq := none
  run : Option EngRun := none
  deriving DecidableEq, Repr

/-- The roots of the key tree (R273). -/
inductive Root where
  | vendor
  | field
  | develop
  | analysis
  deriving DecidableEq, Repr

/-- The key unit (R272–R275): the root present, the backup key register, the per-boot keys, and the check values stored in the life-cycle area when each root was first established (R274). -/
structure KeyUnit where
  root : Option Root := none
  backupKey : List Byte := []
  bootKeys : List Byte := []
  checks : List (Root × List Byte) := []
  deriving DecidableEq, Repr

/-- Bytes of the queue that come from one request of the expander (R267): Key and V at the start of the request, the place of the
first of the bytes in its output, and how many they are. -/
structure DrbgRun where
  key : List Byte
  v : List Byte
  start : Nat
  count : Nat
  deriving DecidableEq, Repr

/-- The random number generator beside its registers (R263–R271): the expander has passed its known-answer test since
reset (R266); Key and V at the start of the request it works on, the bytes of it generated so far, of 65,536, and the queue. -/
structure RngUnit where
  expanderOk : Bool := false
  key : List Byte := []
  v : List Byte := []
  made : Nat := 65536
  queue : List DrbgRun := []
  deriving DecidableEq, Repr

/-! ## Tamper, life cycle, debug, actuation -/

/-- The tamper controller beside its registers (R355–R376): the Beats of the events in each monitor's window, the
consecutive samples with an event on battery, the LFSRs, the supply of the backup domain, the entries of the backup log
and those of them written since the last start, a tamper reset to come (R368), and the monitor under stimulation. -/
structure TamperUnit where
  windows : Table (List Nat) := []
  runs : Table Nat := []
  lfsr : Table Nat := []
  onBattery : Bool := false
  bkCount : Nat := 0
  bkFresh : Nat := 0
  resetPending : Bool := false
  bistMon : Option Nat := none
  deriving DecidableEq, Repr

/-- Fuses and OTP (R333–R340): the three copies of F1–F7 and of each record's marks M0–M7 (records 1–7 by target state,
8–15 the re-provision records; key copy × 16 + record), the legacy mirror, the owner digest. -/
structure Otp where
  fuses : Table Word := []
  marks : Table Word := []
  legacy : Nat := 0
  ownerDigest : Option (List Byte) := none
  deriving DecidableEq, Repr

/-- The life-cycle controller and the debug port beside their registers: the device nonce (R336), the ranges of the
certificate in force with ACC (R347), rights ended by a tamper response until reset (R349), the TAP's instruction and
the words its data register shifted out last, the certificate words shifted in, and the result of the last DBG_ACCESS:
DATA, DONE, ERR (R351). -/
structure DebugUnit where
  nonce : Option (List Byte) := none
  ranges : List (Nat × Nat × Nat) := []
  ended : Bool := false
  instr : Nat := 1
  dr : List Word := []
  cert : List Word := []
  data : Word := 0
  done : Bool := false
  err : Bool := false
  deriving DecidableEq, Repr

/-- An actuation output beside its registers (R439): the pulses released and not ended, J and length, the first one first;
when the first rose and fell; the J released last, and every J released (R127). -/
structure ActOutput where
  queue : List (Word × Nat) := []
  rose : Option Nat := none
  fell : Option Nat := none
  lastJ : Option Word := none
  seen : List Word := []
  deriving DecidableEq, Repr

/-! ## Cartridge slots -/

/-- An operation of a cartridge slot (R386–R388): the request, its descriptor words as read, the J of a write, its first
block and count on the card, whether it is journalled, the data of a write, the blocks finished, whether the present
block has been tried again (R382), whether it has asked for its journal record, and the SEQ of that record (R390). -/
structure CrtOp where
  req : EngReq
  words : List Word
  j : Word
  abs : Nat
  count : Nat
  journalled : Bool
  data : List Byte
  finished : Nat
  tried : Bool
  asked : Bool
  record : Option Nat
  deriving DecidableEq, Repr

/-- What a cartridge slot waits for on its bus: nothing; the answer of a mount step (3–6 of R380, 7 the exchange of R381);
the block of a read; the token of a written block; the end of its busy phase; the status of the sleep that ends in a state;
that of a wake. -/
inductive CrtPhase where
  | idle
  | mount (step : Nat)
  | reading
  | writing
  | busy
  | sleeping (target : Nat)
  | waking
  deriving DecidableEq, Repr

/-- A cartridge slot beside its registers (R379–R391): the phase, whether its command has been repeated, whether the
exchange of R381 has, the header, the sectors of the card, a sleep or release that waits, the reads and the released
writes. -/
structure CrtSlot where
  phase : CrtPhase := .idle
  tried : Bool := false
  narrow : Bool := false
  header : List Byte := []
  sectors : Nat := 0
  sleepTo : Option Nat := none
  reads : List CrtOp := []
  writes : List CrtOp := []
  deriving DecidableEq, Repr

/-! ## Contactless front ends, heads, contact cards -/

/-- The active card of a front end (R402): Type B, RATE, FSC in bytes and FWT in fc. -/
structure RfActive where
  typeB : Bool
  rate : Nat
  fsc : Nat
  fwt : Nat
  deriving DecidableEq, Repr

/-- An exchange of a front end or a contact card port (R400, R435): its request and its descriptor as read. -/
structure PortExch where
  req : EngReq
  words : List Word
  deriving DecidableEq, Repr

/-- A front end beside its registers (R395–R419): the exchanges, the running one first; whether it has run, and its STATUS, CODE
and word 7; whether it is cut under R399, or writes no result under R405; the active card; and of the emulated tag its UID, the
cascade level passed, its rate, K, RA and RB of a handshake, KS, CTR and the failures of PWD in a row. -/
structure RfUnit where
  queue : List PortExch := []
  result : Option (Nat × Nat × Word) := none
  cut : Bool := false
  silent : Bool := false
  active : Option RfActive := none
  uid : List Byte := []
  cl1 : Bool := false
  rate : Nat := 0
  key : List Byte := []
  ra : List Byte := []
  rb : List Byte := []
  ks : List Byte := []
  ctr : Nat := 0
  pwdFails : Nat := 0
  deriving DecidableEq, Repr

/-- A head port beside its registers (R423–R429): the HID recorded, the PROBEs in a row without an answer, whether one waits, and the
Beat of the last one, K, RD of a keying, KS, the next FSEQ sent and the last accepted, NEXT_SEQ of its stream, and the NOTICE frames released and not
sent, each with its J. -/
structure HeadUnit where
  hid : List Byte := []
  misses : Nat := 0
  probing : Bool := false
  probeAt : Option Nat := none
  key : List Byte := []
  rd : List Byte := []
  ks : List Byte := []
  tx : Nat := 0
  rx : Option Nat := none
  nextSeq : Nat := 0
  notices : List (Word × List Byte) := []
  deriving DecidableEq, Repr

/-- A contact card port beside its registers (R434–R436): the exchanges, the running one first, its STATUS, CODE and RXLEN once it
has run, whether it is cut or writes no result, and the card's IFSC, WT, Fi and Di. -/
structure ScUnit where
  queue : List PortExch := []
  result : Option (Nat × Nat × Nat) := none
  cut : Bool := false
  silent : Bool := false
  ifsc : Nat := 32
  wt : Nat := 9600
  fi : Nat := 372
  di : Nat := 1
  deriving DecidableEq, Repr

/-! ## Weave -/

/-- An entry of the domain map (R451): STATE, next-hop link, HOPS, PRIO, eligibility, the Beat of its last change, and the UID
that its HELLO gave. -/
structure MapEntry where
  state : Nat := 0
  link : Nat := 0
  hops : Nat := 0
  prio : Nat := 0
  elig : Bool := false
  changed : Nat := 0
  uid : Option Nat := none
  deriving DecidableEq, Repr

/-- A Weave link beside its registers (R448–R450): the last RN sent in a HELLO, the peer's node and RN of the last HELLO received
from an admitted member of the basket, LK, the RN of a REKEY sent, the last FSEQ accepted, the Beat of the last accepted
frame and of the REKEY, the Beats of the last HELLO and KHELLO sent, the Beat and the map change of the last ROUTE (R448–R452), and the
frames that the answer to a REKEY holds up: TYPE, HOPS, SRC, DST and payload. -/
structure WeaveLink where
  rn : List Byte := []
  peer : Option (Nat × List Byte) := none
  lk : List Byte := []
  rekeyRn : List Byte := []
  rx : Option Nat := none
  heard : Nat := 0
  rekeyAt : Nat := 0
  helloAt : Option Nat := none
  khelloAt : Option Nat := none
  routeAt : Option (Nat × Nat) := none
  held : List (Nat × Nat × Nat × Nat × List Byte) := []
  deriving DecidableEq, Repr

/-- The basket beside its registers (R451–R469): BK, the map, the number of its changes, the Beat of the last TIME sent, the links,
BTIME of the last TIME accepted and the marks accepted since it, NEXT_SEQ of the streams by node, and the handovers in progress. -/
structure WeaveUnit where
  bk : List Byte := []
  map : Table MapEntry := []
  changes : Nat := 0
  timeAt : Option Nat := none
  links : Table WeaveLink := []
  btime : Option Nat := none
  marks : Nat := 0
  streams : Table Nat := []
  handovers : List Handover := []
  deriving DecidableEq, Repr

/-! ## The state -/

/-- The state of the block. -/
structure State where
  /-- The registers of the window by offset from 0x4000_0000 (R510): flue table and slots, and every status field that a
  register shows, included. -/
  regs : Table Word := []
  /-- The copies of R515, by offset × 1024 + master. -/
  mregs : Table Word := []
  /-- The holds of R9, by offset × 1024 + master. -/
  holds : Table Word := []
  pairs : Table Pair := []
  /-- Hearth memory by fabric address − 0x8000_0000 (R152). -/
  hmem : Table Byte := []
  /-- The NVM array by offset (R305); the pool of banks 2 and 3 is `ledger.sectors`. -/
  nvm : Table Byte := []
  beat : BeatUnit := {}
  scrub : Table ScrubUnit := []
  /-- The port guards' regions in force (R155): port to BASE and ATTR words by offset in the guard. -/
  guards : Table (Table Word) := []
  pkeArb : Table Arbiter := []
  bankArb : Table Arbiter := []
  nvmArb : Arbiter := {}
  /-- The reads of pairs that wait for a grant, in order of arrival, at most one of a pair (R178, R179). -/
  reads : List PendingRead := []
  /-- The words known to be uncorrectable (R157), until they are written: hearth memory by offset / 4, local memory from 2^24 by
  pair and word, units of the NVM array from 2^26. -/
  flaws : Table Bool := []
  ledger : Ledger := {}
  /-- The event log, oldest first, at most 4,096 entries (R483). -/
  log : List LogEntry := []
  /-- Unsent entries of the management serial port, and the one in transmission (R487). -/
  mgtQueue : List LogEntry := []
  mgtSending : Option LogEntry := none
  /-- Commands taken and not replied to, in the order taken. -/
  taken : List Taken := []
  jobs : List Job := []
  lastJ : Word := 0
  sessions : List Session := []
  nextHandle : Nat := 0
  /-- The pairs whose session has been restored from its record in place and whose record is verified before the next
  job-start notice (R521). -/
  ckVerify : List Nat := []
  policies : Table Policy := []
  hostQueues : Table HostQueue := []
  /-- The queue of each host link that was served last (R195). -/
  hostTurn : Table Nat := []
  /-- The commands whose header waits for a supervisor pair, oldest first (R24, R134). -/
  intake : List Intake := []
  pke : Table PkeEngine := []
  sym : Table SymEngine := []
  keys : KeyUnit := {}
  rng : RngUnit := {}
  refresh : Option NvmRefresh := none
  /-- Sectors of banks 0 and 1 that wait for their refresh (R329), and the Beat the patrol's pass began (R328). -/
  refreshQueue : List Nat := []
  patrolStart : Nat := 0
  /-- The units of banks 0 and 1 programmed since their last erase, by offset / 32 (R305): a unit of ones is not blank by that
  alone. -/
  nvmSpent : Table Bool := []
  /-- Cartridge slots whose insertion or removal has not been acknowledged (CRT.CFG.DET_IE). -/
  cartDet : List Nat := []
  /-- A mirror conflict has not been acknowledged (R469, R517). -/
  mirrorConflict : Bool := false
  /-- BOOTS, the boot count kept in the life-cycle area (R480). -/
  bootCount : Nat := 0
  /-- The supervisor version floor, kept in the life-cycle area (R482). -/
  imageFloor : Nat := 0
  /-- The tag stores: the copies 0 and 1 of a byte at copy × 2^16 + front end × 0x4000 + offset of the window, and the select bit
  of a block at 2^20 + front end × 0x400 + block (R414, R415). -/
  tags : Table Nat := []
  tamper : TamperUnit := {}
  otp : Otp := {}
  dport : DebugUnit := {}
  act : Table ActOutput := []
  crt : Table CrtSlot := []
  rf : Table RfUnit := []
  heads : Table HeadUnit := []
  sc : Table ScUnit := []
  weave : WeaveUnit := {}
  /-- Power-on reset is held because a supply is out of its limits (R498). -/
  porHeld : Bool := false
  /-- A device-level reset that follows the writing of a reply (R214, R341): the reply's stream and TAG, the causes. -/
  resetAfter : Option (Stream × Nat × Word) := none
  /-- What the device has emitted, oldest first. -/
  out : List Output := []
  /-- Free values drawn from Config.freeByte so far (log 1). -/
  free : Nat := 0
  /-- The commands that are waiting, first in, first out. -/
  pending : List Instr := []
  deriving DecidableEq, Repr

/-- The machine right after a power-on reset, before the boot sequence: RSTCAUSE.POR (R471), and LCS.STAT.OPEN as the blank
fuses give it (R354; log 9). -/
def State.reset : State := { regs := [(Reg.SYS_RSTCAUSE, 1#32), (Reg.LCS_STAT, 0x10000000#32)] }

end Sys2Proof.Machine
end

