-- ==== Sys2Proof/Machine/Ops.lean ====
section
/-! DEFINITION. The named operations on the state: registers and their fields, pairs and roles, memories, the event log,
resets, and the exceptions of a pair (R66, R67, R76–R86, R522). -/

namespace Sys2Proof.Machine

/-! ## Registers of the window -/

/-- The register at an offset. -/
def State.reg (s : State) (o : Nat) : Word := s.regs.get resetReg o
/-- The state with the register at an offset set, whatever its access type: the device's own write. -/
def State.setReg (s : State) (o : Nat) (v : Word) : State := { s with regs := s.regs.set resetReg o v }
/-- A field of a register. -/
def State.getF (s : State) (f : FieldAt) : Nat := fld f.hi f.lo (s.reg f.off)
/-- The state with a field of a register set. -/
def State.setF (s : State) (f : FieldAt) (n : Nat) : State := s.setReg f.off (setFld f.hi f.lo n (s.reg f.off))
/-- A one-bit field. -/
def State.flag (s : State) (f : FieldAt) : Bool := s.getF f ≠ 0
/-- A field incremented, saturating at its largest value. -/
def State.incF (s : State) (f : FieldAt) : State := s.setF f (min (2 ^ (f.hi + 1 - f.lo) - 1) (s.getF f + 1))
/-- A register incremented, wrapping modulo 2^32. -/
def State.incWrap (s : State) (o : Nat) (n : Nat) : State := s.setReg o (s.reg o + wd n)
/-- A register incremented, saturating at 2^32 − 1. -/
def State.incSat (s : State) (o : Nat) : State := s.setReg o (if s.reg o = 0xFFFFFFFF#32 then s.reg o else s.reg o + 1)

/-- The key of a master's copy of a register (R515). -/
def mkey (m o : Nat) : Nat := o * 1024 + m
/-- What an unlisted copy reads as: the reset value of its register. -/
def copyReset (k : Nat) : Word := resetReg (k / 1024)
/-- A master's own copy of a register (R515). -/
def State.mreg (s : State) (m o : Nat) : Word := s.mregs.get copyReset (mkey m o)
/-- The state with a master's own copy of a register set. -/
def State.setMreg (s : State) (m o : Nat) (v : Word) : State :=
  { s with mregs := s.mregs.set copyReset (mkey m o) v }
/-- A field of a master's own copy. -/
def State.setMF (s : State) (m : Nat) (f : FieldAt) (n : Nat) : State :=
  s.setMreg m f.off (setFld f.hi f.lo n (s.mreg m f.off))

/-! ## Pairs -/

/-- A pair. -/
def State.pair (s : State) (p : Nat) : Pair := s.pairs.get (fun _ => Pair.reset) p
/-- The state with a pair set. -/
def State.setPair (s : State) (p : Nat) (x : Pair) : State := { s with pairs := s.pairs.set (fun _ => Pair.reset) p x }
/-- The state with a pair changed. -/
def State.updPair (s : State) (p : Nat) (f : Pair → Pair) : State := s.setPair p (f (s.pair p))

/-- The hearth of a pair (R11). -/
def hearthOf (p : Nat) : Nat := p / 32
/-- The pair's index within its hearth. -/
def indexOf (p : Nat) : Nat := p % 32

/-- The values of PST<k>.ROLE (R115). -/
abbrev Role.free : Nat := 0
abbrev Role.loading : Nat := 1
abbrev Role.session : Nat := 2
abbrev Role.spare : Nat := 3
abbrev Role.supervisor : Nat := 4
abbrev Role.selftest : Nat := 5
abbrev Role.retired : Nat := 6

/-- The role of a pair. -/
def State.role (s : State) (p : Nat) : Nat := s.getF (Fld.HRT_PST_ROLE (hearthOf p) (indexOf p))
/-- The state with a pair's role set. -/
def State.setRole (s : State) (p r : Nat) : State := s.setF (Fld.HRT_PST_ROLE (hearthOf p) (indexOf p)) r
/-- The tenant of the session a pair holds. -/
def State.pairTenant (s : State) (p : Nat) : Nat := s.getF (Fld.HRT_PST_TENANT (hearthOf p) (indexOf p))
/-- The pair is in SUPERVISOR. -/
def State.isSupervisor (s : State) (p : Nat) : Bool := p < 512 && s.role p == Role.supervisor
/-- The pairs whose role is `r`. -/
def State.pairsIn (s : State) (r : Nat) : List Nat := (List.range 512).filter (fun p => s.role p == r)

/-- A general register; g0 reads as zero (R57). -/
def Pair.greg (x : Pair) (r : Nat) : Word := if r = 0 then 0 else x.g.get zeroWord r
/-- The pair with a general register written; a write of g0 is discarded (R57). A later instruction reads this value and no longer
waits for an earlier one's (R92). -/
def Pair.setG (x : Pair) (r : Nat) (v : Word) : Pair :=
  if r = 0 then x else { x with g := x.g.set zeroWord r v, ready := x.ready.drop (· == r) }

/-- The numbers of the special registers (R60). -/
abbrev SR.mh : Nat := 0x00
abbrev SR.ml : Nat := 0x01
abbrev SR.dq : Nat := 0x02
abbrev SR.dr : Nat := 0x03
abbrev SR.cnt : Nat := 0x04
abbrev SR.pstat : Nat := 0x08
abbrev SR.epc : Nat := 0x10
abbrev SR.ecause : Nat := 0x11
abbrev SR.eval : Nat := 0x12
abbrev SR.estat : Nat := 0x13
abbrev SR.evec1 : Nat := 0x14
abbrev SR.evec2 : Nat := 0x15
abbrev SR.edel : Nat := 0x16
abbrev SR.xpc : Nat := 0x18
abbrev SR.xstat : Nat := 0x19
abbrev SR.lpc : Nat := 0x20
abbrev SR.lst : Nat := 0x21
abbrev SR.gcall : Nat := 0x22
abbrev SR.gs (ring : Nat) : Nat := 0x28 + ring
abbrev SR.ge (n : Nat) : Nat := 0x30 + n

/-- A special register as stored; pstat here is without IMPP. -/
def Pair.sreg (x : Pair) (n : Nat) : Word := x.sr.get zeroWord n
/-- The pair with a special register stored. -/
def Pair.setS (x : Pair) (n : Nat) (v : Word) : Pair := { x with sr := x.sr.set zeroWord n v }

/-- pstat.RING. -/
def Pair.ring (x : Pair) : Nat := fld 1 0 (x.sreg SR.pstat)
/-- pstat.IE. -/
def Pair.ie (x : Pair) : Bool := bit 2 (x.sreg SR.pstat)
/-- pstat.PM. -/
def Pair.pm (x : Pair) : Bool := bit 3 (x.sreg SR.pstat)
/-- pstat.EXL. -/
def Pair.exl (x : Pair) : Bool := bit 4 (x.sreg SR.pstat)
/-- pstat.DF. -/
def Pair.df (x : Pair) : Bool := bit 5 (x.sreg SR.pstat)
/-- pstat of given fields. -/
def mkPstat (ring : Nat) (ie pm exl df : Bool) : Word :=
  wd (ring % 4 + 4 * b2n ie + 8 * b2n pm + 16 * b2n exl + 32 * b2n df)
/-- The pair with pstat set from its fields. -/
def Pair.setPstat (x : Pair) (ring : Nat) (ie pm exl df : Bool) : Pair := x.setS SR.pstat (mkPstat ring ie pm exl df)
/-- pstat as mfs returns it: with IMPP (R60). -/
def Pair.pstat (x : Pair) : Word := x.sreg SR.pstat ||| wd (256 * b2n x.imp.isSome)

/-! ## Memories -/

/-- The base of hearth memory in the fabric (R152). -/
abbrev fabricBase : Nat := 0x80000000
/-- Bytes of hearth memory from an offset of the 64 MiB. -/
def State.hbytes (s : State) (a n : Nat) : List Byte := s.hmem.bytes zeroByte a n
/-- The state with bytes of hearth memory written; a word written whole has a new check (R156). -/
def State.setHbytes (s : State) (a : Nat) (bs : List Byte) : State :=
  { s with
    hmem := s.hmem.setBytes zeroByte a bs
    flaws := s.flaws.drop (fun k => decide (a ≤ 4 * k ∧ 4 * k + 4 ≤ a + bs.length)) }
/-- The offset in hearth memory of a core address 0x1000_0000 + x of hearth h (R141, R152). -/
def hoff (h a : Nat) : Nat := h * 0x400000 + (a - 0x10000000)
/-- What an unlisted byte of the NVM array reads as: an erased unit reads as all ones (R305; log 7). -/
abbrev nvmByte : Nat → Byte := fun _ => 0xFF#8
/-- Bytes of the NVM array. -/
def State.nbytes (s : State) (a n : Nat) : List Byte := s.nvm.bytes nvmByte a n
/-- The key in `flaws` of a unit of the NVM array (R305). -/
def unitFlaw (o : Nat) : Nat := 2 ^ 26 + o / 32
/-- The state without the flaws of the units that `n` bytes of the NVM array lie in. -/
def State.healUnits (s : State) (a n : Nat) : State :=
  { s with flaws := s.flaws.drop (fun k => decide (unitFlaw a ≤ k ∧ k < unitFlaw (a + n + 31))) }
/-- The state with bytes of the NVM array set. -/
def State.setNbytes (s : State) (a : Nat) (bs : List Byte) : State :=
  { s.healUnits a bs.length with nvm := s.nvm.setBytes nvmByte a bs }
/-- The state with `n` bytes of the NVM array erased. -/
def State.eraseNbytes (s : State) (a n : Nat) : State :=
  { s.healUnits a n with nvm := s.nvm.drop (fun k => decide (a ≤ k ∧ k < a + n)) }

/-- `n` fresh bytes that nothing constrains (log 1). -/
def State.freshBytes (s : State) (n : Nat) : List Byte × State :=
  ((List.range n).map (fun i => Config.freeByte (s.free + i)), { s with free := s.free + n })

/-- The state with an output emitted. -/
def State.emit (s : State) (o : Output) : State := { s with out := s.out ++ [o] }

/-! ## Beat count and event log -/

/-- BEAT.COUNT (R41). -/
def State.beatNow (s : State) : Nat := s.beat.count.toNat
/-- An activity that recurs every `n` Beats is due (R52, R53): it has not been done, or so long ago. -/
def due (now n : Nat) (last : Option Nat) : Bool :=
  match last with
  | some t => decide (t + n ≤ now)
  | none => true

/-- Time is trusted at this Beat (R42). -/
def State.trusted (s : State) : Bool := !s.flag Fld.BEAT_STATUS_FREE
/-- The hearths are released (R476, R514): boot has reached RELEASE. -/
def State.released (s : State) : Bool := 9 ≤ s.getF Fld.SYS_BOOT_STAGE
/-- Boot is in progress: it has neither reached READY nor failed. -/
def State.booting (s : State) : Bool := !s.flag Fld.SYS_BOOT_READY && !s.flag Fld.SYS_BOOT_FAIL

/-- The sources of event-log entries (R484). -/
abbrev Src.pair : Nat := 1
abbrev Src.beat : Nat := 2
abbrev Src.memory : Nat := 3
abbrev Src.flue : Nat := 4
abbrev Src.arbiter : Nat := 5
abbrev Src.host : Nat := 6
abbrev Src.engine : Nat := 7
abbrev Src.ledger : Nat := 8
abbrev Src.nvm : Nat := 9
abbrev Src.lifecycle : Nat := 10
abbrev Src.tamper : Nat := 11
abbrev Src.port : Nat := 12
abbrev Src.boot : Nat := 13
abbrev Src.supervisor : Nat := 14

/-- Port 125 gets an item while it is out of service, in boot (R26, R487): it is no longer drained. Bit 30 of the stored register says
that it held items when it was last looked at: it has drained since then. -/
def State.undrain125 (s : State) : State :=
  let s := if s.flag ⟨Reg.PG_UCTL 125, 30, 30⟩ then s.setF (Fld.PG_UCTL_DRAINEV 125) 1 else s
  s.setF ⟨Reg.PG_UCTL 125, 30, 30⟩ 1

/-- The state with an entry registered in the event log (R483), LOG_OVF counted where it overwrites an entry at or after
the read mark (R485), and the entry offered to the management serial port (R487). -/
def State.logRaw (s : State) (beat flags src code unit : Nat) (arg0 arg1 : Word) (arg2 : Nat) : State :=
  let seq := s.getF Fld.SYS_LOG_STAT_NEXT
  let e : LogEntry := ⟨beat, seq, src, flags + 4 * b2n s.booting, code, unit, arg0, arg1, arg2⟩
  let full := decide (4096 ≤ s.log.length)
  let lost := full && decide ((((seq + 0x10000 - 4096) % 0x10000) + 0x10000 - s.getF Fld.SYS_LOG_MARK_SEQ) % 0x10000 < 0x8000)
  let s := { s with log := (if full then s.log.drop 1 else s.log) ++ [e] }
  let s := s.setF Fld.SYS_LOG_STAT_NEXT ((seq + 1) % 0x10000)
  let s := if lost then s.incSat Reg.SYS_LOG_OVF else s
  let on := s.flag (Fld.PG_UCTL_ENABLE 125)
  if (on || s.booting) && decide (s.mgtQueue.length < 2) then
    if s.mgtSending.isNone then
      { (if on then s else s.undrain125) with mgtSending := some e }
    else { s with mgtQueue := s.mgtQueue ++ [e] }
  else s

/-- The state with an event registered now (R483). -/
def State.logEvent (s : State) (src code unit : Nat) (arg0 arg1 : Word) (arg2 : Nat) : State :=
  s.logRaw s.beatNow (b2n s.trusted) src code unit arg0 arg1 arg2

/-! ## Exceptions of a pair -/

/-- The exception causes (R73). -/
abbrev Cause.interrupt : Nat := 0x01
abbrev Cause.badGate : Nat := 0x02
abbrev Cause.illegal : Nat := 0x03
abbrev Cause.privilege : Nat := 0x04
abbrev Cause.mpuLoad : Nat := 0x05
abbrev Cause.mpuStore : Nat := 0x06
abbrev Cause.mpuFetch : Nat := 0x07
abbrev Cause.misaligned : Nat := 0x08
abbrev Cause.busError : Nat := 0x09
abbrev Cause.overflow : Nat := 0x0A
abbrev Cause.divZero : Nat := 0x0B
abbrev Cause.privRestore : Nat := 0x0C
abbrev Cause.mpuOverlap : Nat := 0x0D
abbrev Cause.deadline : Nat := 0x0E
abbrev Cause.breakpoint : Nat := 0x0F
abbrev Cause.flueFull : Nat := 0x10
abbrev Cause.eraseSuspended : Nat := 0x11

/-- A cause and the value that eval takes (R73). -/
structure Exc where
  code : Nat
  eval : Word
  deriving DecidableEq, Repr

/-- The multiplier results of which the cycles left are at most `n`, written in issue order (R102, R103). -/
def Pair.mulDue (x : Pair) (n : Nat) : Pair :=
  let x' := match (x.mulPend.filter (fun r => decide (r.2.2 ≤ n))).getLast? with
    | some (h, l, _) => (x.setS SR.mh h).setS SR.ml l
    | none => x
  { x' with mulPend := (x.mulPend.filter (fun r => !decide (r.2.2 ≤ n))).map (fun r => (r.1, r.2.1, r.2.2 - n)) }
/-- The divider result written if its cycles left are at most `n` (R102). -/
def Pair.divDue (x : Pair) (n : Nat) : Pair :=
  match x.divPend with
  | some (q, r, k) =>
    if k ≤ n then { (x.setS SR.dq q).setS SR.dr r with divPend := none } else { x with divPend := some (q, r, k - n) }
  | none => x
/-- The registers of which the cycles left are more than `n` (R93). -/
def agedReady (t : Table (Nat × Bool)) (n : Nat) : Table (Nat × Bool) :=
  (t.filter (fun e => decide (n < e.2.1))).map (fun e => (e.1, e.2.1 - n, e.2.2))
/-- `n` core cycles pass at the multiplier, the divider and the registers that wait for a load. -/
def Pair.advance (x : Pair) (n : Nat) : Pair :=
  { (x.mulDue n).divDue n with ready := agedReady x.ready n }
/-- `n` core cycles pass, and as many more as nothing states (R94). -/
def Pair.advanceLoose (x : Pair) (n : Nat) : Pair := { x.advance n with unsteady := true }
/-- Every outstanding multiplier and divider result written (step 1 of R77 and R84, step 2 of R68). -/
def Pair.flushResults (x : Pair) : Pair :=
  let x := match x.mulPend.getLast? with
    | some (h, l, _) => (x.setS SR.mh h).setS SR.ml l
    | none => x
  let x := match x.divPend with
    | some (q, r, _) => (x.setS SR.dq q).setS SR.dr r
    | none => x
  { x with mulPend := [], divPend := none, unsteady := false }

/-- The stack exchange of R67 for a change of ring from c to t. -/
def Pair.exchange (x : Pair) (c t : Nat) : Pair :=
  if c = t then x else (x.setS (SR.gs c) (x.greg 2)).setG 2 ((x.setS (SR.gs c) (x.greg 2)).sreg (SR.gs t))

/-- The written MPU rule set comes into force where the ring changes from c to t (R149). -/
def Pair.applyRules (x : Pair) (c t : Nat) : Pair := if c = t then x else { x with mpuF := x.mpuW, mpuPend := false }

/-- The target ring and the entry PC of an exception with code k raised in ring c (R76). -/
def Pair.excTarget (x : Pair) (k c : Nat) : Nat × Word :=
  if c = 0 then (0, 0xFFFF0080#32)
  else if c = 3 && bit k (x.sreg SR.edel) then (2, x.sreg SR.evec2 &&& ~~~(3#32))
  else (1, x.sreg SR.evec1 &&& ~~~(3#32))

/-- Exception entry (R77) with code k and eval v; `imp` and `multi` go into ecause. epc is the PC of the pair. -/
def Pair.enter (x : Pair) (k : Nat) (v : Word) (imp multi : Bool) : Pair :=
  let c := x.ring
  let x := x.flushResults
  let tgt := x.excTarget k c
  let x := x.setS SR.epc x.pc
  let x := x.setS SR.ecause (wd (k + 2 ^ 29 * b2n multi + 2 ^ 31 * b2n imp))
  let x := x.setS SR.eval v
  let x := x.setS SR.estat (wd (c + 4 * c + 16 * b2n x.ie + 32 * b2n x.pm))
  let x := (x.exchange c tgt.1).applyRules c tgt.1
  { (x.setPstat tgt.1 false x.pm true x.df) with imp := none, pc := tgt.2 }

/-- The double-fault sequence (R84) with the cause k of the second fault and the PC it is reported at; `clearImp` is
step 4 of R522. -/
def Pair.doubleFault (x : Pair) (k : Nat) (xpc : Word) (clearImp : Bool) : Pair :=
  let c := x.ring
  let x := x.flushResults
  let x := x.setS SR.xpc xpc
  let x := x.setS SR.xstat (wd (k + 256 * fld 5 0 (x.sreg SR.ecause) + 2 ^ 14 * c))
  let x := (x.exchange c 0).applyRules c 0
  let x := x.setPstat 0 false x.pm true true
  { x with pc := 0xFFFF0100#32, imp := if clearImp then none else x.imp }

/-- What the Furdauc double-fault handler leaves (R85): ecause.DFLT = 1 and ring 1 at evec1 with DF and EXL still 1. lpc, lst, g11–g18
and g31 stand as they were (DESIGN CHOICE; log 4): the manual does not say what the handler leaves in them. -/
def Pair.handover (x : Pair) : Pair :=
  let x := x.setS SR.ecause (x.sreg SR.ecause ||| 0x40000000#32)
  let x := (x.exchange 0 1).applyRules 0 1
  { (x.setPstat 1 x.ie x.pm x.exl x.df) with pc := x.sreg SR.evec1 &&& ~~~(3#32) }

/-- The pair after a ret.g that is permitted (R69). The PC is lpc as it stands: the manual gives neither a check nor a mask for
low bits that an mts has set (DESIGN CHOICE; log 73). -/
def Pair.leaveGate (x : Pair) : Pair :=
  let c := x.ring
  let r := fld 1 0 (x.sreg SR.lst)
  let x := (x.exchange c r).applyRules c r
  { (x.setPstat r x.ie x.pm x.exl x.df) with pc := x.sreg SR.lpc }

/-- A pair wiped by entry into SELFTEST or by a triple fault: its registers and core-local block at their reset values
(R66, R132, R175). Local memory is kept: only a pass of the self-test zeroes it. -/
def Pair.restart (x : Pair) : Pair := { Pair.reset with lmem := x.lmem, passes := x.passes }

end Sys2Proof.Machine
end

