-- ==== Sys2Proof/Machine/PublicKey.lean ====
section
/-! DEFINITION. The arithmetic of the public-key engines and of the life-cycle controller's verify datapath: modular powers,
curves y² = x³ + ax + b over GF(p), ECDSA (FIPS 186-5), X25519 and X448 (RFC 7748), Miller–Rabin (R230), raw RSA, and the
transforms of FIPS 203 and FIPS 204. -/

namespace Sys2Proof.Machine

/-! ## Integers -/

/-- The number of bits of a natural. -/
def bitLen (n : Nat) : Nat := if n = 0 then 0 else n.log2 + 1

/-- b^e mod m. -/
def powMod (b e m : Nat) : Nat :=
  (List.range (bitLen e)).foldl (fun acc i => let sq := acc * acc % m; if e / 2 ^ (bitLen e - 1 - i) % 2 = 1 then sq * b % m else sq) (1 % m)

/-- The inverse modulo a prime. -/
def invMod (a p : Nat) : Nat := powMod (a % p) (p - 2) p

/-- a − b mod p, for a and b below p. -/
def subMod (a b p : Nat) : Nat := (a + p - b % p) % p

/-- One Miller–Rabin round of an odd n with a base (R230). -/
def millerRabin (n base : Nat) : Bool :=
  let r := (List.range (bitLen n)).foldl (fun (acc : Nat × Nat) _ => if acc.1 % 2 = 0 then (acc.1 / 2, acc.2 + 1) else acc) (n - 1, 0)
  let x := powMod base r.1 n
  x == 1 || x == n - 1 ||
    ((List.range (r.2 - 1)).foldl (fun (acc : Nat × Bool) _ => let y := acc.1 * acc.1 % n; (y, acc.2 || y == n - 1)) (x, false)).2

/-! ## Curves -/

/-- A point: none is the point at infinity. -/
abbrev Point := Option (Nat × Nat)

/-- The point lies on the curve. -/
def Curve.on (c : Curve) (x y : Nat) : Bool := y * y % c.p == (x * x % c.p * x + c.a * x + c.b) % c.p

/-- The sum of two points. -/
def Curve.add (c : Curve) : Point → Point → Point
  | none, q => q
  | p, none => p
  | some (x1, y1), some (x2, y2) =>
    if x1 = x2 ∧ (y1 + y2) % c.p = 0 then none
    else
      let l := if x1 = x2 then (3 * x1 * x1 + c.a) * invMod (2 * y1) c.p % c.p
        else subMod y2 y1 c.p * invMod (subMod x2 x1 c.p) c.p % c.p
      let x3 := subMod (l * l % c.p) ((x1 + x2) % c.p) c.p
      some (x3, subMod (l * subMod x1 x3 c.p % c.p) y1 c.p)

/-- A multiple of a point. -/
def Curve.mul (c : Curve) (k : Nat) (q : Point) : Point :=
  (List.range (bitLen k)).foldl (fun acc i =>
    let d := c.add acc acc
    if k / 2 ^ (bitLen k - 1 - i) % 2 = 1 then c.add d q else d) none

/-- The base point. -/
def Curve.base (c : Curve) : Point := some (c.gx, c.gy)

/-- The field length L in bytes (R222). -/
def Curve.len (c : Curve) : Nat := ceilDiv c.bits 8
/-- The order length N in bytes (R222). -/
def Curve.nLen (c : Curve) : Nat := ceilDiv (bitLen c.n) 8

/-- P-256 (FIPS 186-5), which the life-cycle controller verifies on. -/
def p256 : Curve :=
  { bits := 256, h := 1
    p := 0xFFFFFFFF00000001000000000000000000000000FFFFFFFFFFFFFFFFFFFFFFFF
    a := 0xFFFFFFFF00000001000000000000000000000000FFFFFFFFFFFFFFFFFFFFFFFC
    b := 0x5AC635D8AA3A93E7B3EBBD55769886BC651D06B0CC53B0F63BCE3C3E27D2604B
    gx := 0x6B17D1F2E12C4247F8BCE6E563A440F277037D812DEB33A0F4A13945D898C296
    gy := 0x4FE342E2FE1A7F9B8EE7EB4A7C0F9E162BCE33576B315ECECBB6406837BF51F5
    n := 0xFFFFFFFF00000000FFFFFFFFFFFFFFFFBCE6FAADA7179E84F3B9CAC2FC632551 }

/-- A digest truncated to the bit length of n, its bytes most significant first as FIPS 186-5 reads a hash (R223). -/
def Curve.digest (c : Curve) (d : List Byte) : Nat :=
  let v := ofBe d
  if bitLen c.n < 8 * d.length then v / 2 ^ (8 * d.length - bitLen c.n) else v

/-- ECDSA verification of (r, s) over a digest. -/
def Curve.ecdsaVerify (c : Curve) (q : Point) (d : List Byte) (r s : Nat) : Bool :=
  let w := invMod s c.n
  match c.add (c.mul (c.digest d * w % c.n) c.base) (c.mul (r * w % c.n) q) with
  | some (x, _) => x % c.n == r
  | none => false

/-- ECDSA signature of a digest with private scalar and nonce. -/
def Curve.ecdsaSign (c : Curve) (priv k : Nat) (d : List Byte) : Nat × Nat :=
  match c.mul k c.base with
  | some (x, _) => (x % c.n, invMod k c.n * (c.digest d + x % c.n * priv) % c.n)
  | none => (0, 0)

/-- A point of a slot curve is in range (R228): coordinates below p, on the curve, and n·Q = O. -/
def Curve.pointOk (c : Curve) (x y : Nat) : Bool :=
  decide (x < c.p ∧ y < c.p) && c.on x y && (c.mul c.n (some (x, y))).isNone

/-! ## X25519 and X448 -/

/-- The Montgomery ladder of RFC 7748 over GF(p) with constant a24 and a number of scalar bits. -/
def ladder (p a24 bits k u : Nat) : Nat :=
  let step := fun (acc : (Nat × Nat) × (Nat × Nat) × Bool) (i : Nat) =>
    let kt := k / 2 ^ (bits - 1 - i) % 2 == 1
    let sw := acc.2.2 != kt
    let p2 := if sw then acc.2.1 else acc.1
    let p3 := if sw then acc.1 else acc.2.1
    let a := (p2.1 + p2.2) % p
    let aa := a * a % p
    let b := subMod p2.1 p2.2 p
    let bb := b * b % p
    let e := subMod aa bb p
    let da := subMod p3.1 p3.2 p * a % p
    let cb := (p3.1 + p3.2) * b % p
    let x3 := (da + cb) * (da + cb) % p
    let df := subMod da cb p
    (((aa * bb % p, e * (aa + a24 * e) % p), (x3, u * (df * df % p) % p), kt) : (Nat × Nat) × (Nat × Nat) × Bool)
  let r := (List.range bits).foldl step ((1, 0), (u, 1), false)
  let x := if r.2.2 then r.2.1 else r.1
  x.1 * invMod x.2 p % p

/-- X25519 of a scalar and a u-coordinate of 32 bytes. -/
def x25519 (k u : List Byte) : List Byte :=
  let p := 2 ^ 255 - 19
  let n := ofLe (slice k 0 32)
  leBytes 32 (ladder p 121665 255 (n % 2 ^ 254 / 8 * 8 + 2 ^ 254) (ofLe (slice u 0 32) % 2 ^ 255 % p))

/-- X448 of a scalar and a u-coordinate of 56 bytes. -/
def x448 (k u : List Byte) : List Byte :=
  let p := 2 ^ 448 - 2 ^ 224 - 1
  let n := ofLe (slice k 0 56)
  leBytes 56 (ladder p 39081 448 (n % 2 ^ 447 / 4 * 4 + 2 ^ 447) (ofLe (slice u 0 56) % p))

/-! ## RSA -/

/-- The values of an RSA CRT key of modulus 64m bits: p, q, dP, dQ, qInv, n, e (R280). -/
structure RsaKey where
  p : Nat
  q : Nat
  dp : Nat
  dq : Nat
  qinv : Nat
  n : Nat
  e : Nat
  deriving DecidableEq, Repr

/-- The RSA CRT key of a byte string. -/
def RsaKey.parse (m : Nat) (k : List Byte) : RsaKey :=
  { p := leAt k 0 (4 * m), q := leAt k (4 * m) (4 * m), dp := leAt k (8 * m) (4 * m), dq := leAt k (12 * m) (4 * m)
    qinv := leAt k (16 * m) (4 * m), n := leAt k (20 * m) (8 * m), e := leAt k (28 * m) 8 }

/-- The values are in range (R228). -/
def RsaKey.ok (m : Nat) (k : RsaKey) : Bool :=
  decide (2 ^ (32 * m - 1) ≤ k.p ∧ 2 ^ (32 * m - 1) ≤ k.q ∧ k.p ≠ k.q ∧ k.dp < k.p ∧ k.dq < k.q ∧ k.qinv < k.p)

/-- The raw private operation. -/
def RsaKey.priv (k : RsaKey) (x : Nat) : Nat :=
  let m1 := powMod (x % k.p) k.dp k.p
  let m2 := powMod (x % k.q) k.dq k.q
  m2 + k.q * (k.qinv * subMod m1 (m2 % k.p) k.p % k.p)

/-! ## Number-theoretic transforms -/

/-- The low `n` bits of i reversed. -/
def bitRev (n i : Nat) : Nat := (List.range n).foldl (fun r b => r + i / 2 ^ b % 2 * 2 ^ (n - 1 - b)) 0

/-- One layer of the forward transform of FIPS 203 and 204: blocks of 2·len coefficients, zeta indices from k upward. -/
def nttLayer (q root nbits len k0 : Nat) (f : List Nat) : List Nat :=
  (List.range 256).map (fun j =>
    let blk := j / (2 * len)
    let z := powMod root (bitRev nbits (k0 + blk)) q
    if j % (2 * len) < len then (f.getD j 0 + z * f.getD (j + len) 0) % q
    else subMod (f.getD (j - len) 0) (z * f.getD j 0 % q) q)

/-- One layer of the inverse transform: zeta indices from k downward. -/
def inttLayer (q root nbits len k0 : Nat) (f : List Nat) : List Nat :=
  (List.range 256).map (fun j =>
    let blk := j / (2 * len)
    let z := powMod root (bitRev nbits (k0 - blk)) q
    if j % (2 * len) < len then (f.getD j 0 + f.getD (j + len) 0) % q
    else z * subMod (f.getD j 0) (f.getD (j - len) 0) q % q)

/-- The transform of q = 3,329 (FIPS 203): seven layers, ζ = 17. -/
def ntt3329 (f : List Nat) : List Nat :=
  [(128, 1), (64, 2), (32, 4), (16, 8), (8, 16), (4, 32), (2, 64)].foldl (fun f l => nttLayer 3329 17 7 l.1 l.2 f) f

/-- Its inverse. -/
def intt3329 (f : List Nat) : List Nat :=
  ([(2, 127), (4, 63), (8, 31), (16, 15), (32, 7), (64, 3), (128, 1)].foldl
    (fun f l => inttLayer 3329 17 7 l.1 l.2 f) f).map (fun x => x * 3303 % 3329)

/-- The transform of q = 8,380,417 (FIPS 204): eight layers, ζ = 1753. -/
def nttDsa (f : List Nat) : List Nat :=
  [(128, 1), (64, 2), (32, 4), (16, 8), (8, 16), (4, 32), (2, 64), (1, 128)].foldl
    (fun f l => nttLayer 8380417 1753 8 l.1 l.2 f) f

/-- Its inverse. -/
def inttDsa (f : List Nat) : List Nat :=
  ([(1, 255), (2, 127), (4, 63), (8, 31), (16, 15), (32, 7), (64, 3), (128, 1)].foldl
    (fun f l => inttLayer 8380417 1753 8 l.1 l.2 f) f).map (fun x => x * 8347681 % 8380417)

end Sys2Proof.Machine
end

