-- ==== Sys2Proof/Machine/Sponge.lean ====
section
/-! DEFINITION. The hash functions that the schemes of RFC 8032, FIPS 203 and FIPS 204 use (R222, R223): SHA-512 (FIPS 180-4), and
SHA-3 and SHAKE (FIPS 202), written from the standards (log 22). -/

namespace Sys2Proof.Machine

/-- A 64-bit lane. -/
abbrev Lane := BitVec 64

/-! ## SHA-512 -/

/-- The initial hash value of SHA-512. -/
def sha512Init : List Lane :=
  [0x6A09E667F3BCC908#64, 0xBB67AE8584CAA73B#64, 0x3C6EF372FE94F82B#64, 0xA54FF53A5F1D36F1#64,
   0x510E527FADE682D1#64, 0x9B05688C2B3E6C1F#64, 0x1F83D9ABFB41BD6B#64, 0x5BE0CD19137E2179#64]

/-- The round constants of SHA-512. -/
def sha512K : List Lane :=
  [0x428A2F98D728AE22#64, 0x7137449123EF65CD#64, 0xB5C0FBCFEC4D3B2F#64, 0xE9B5DBA58189DBBC#64,
   0x3956C25BF348B538#64, 0x59F111F1B605D019#64, 0x923F82A4AF194F9B#64, 0xAB1C5ED5DA6D8118#64,
   0xD807AA98A3030242#64, 0x12835B0145706FBE#64, 0x243185BE4EE4B28C#64, 0x550C7DC3D5FFB4E2#64,
   0x72BE5D74F27B896F#64, 0x80DEB1FE3B1696B1#64, 0x9BDC06A725C71235#64, 0xC19BF174CF692694#64,
   0xE49B69C19EF14AD2#64, 0xEFBE4786384F25E3#64, 0x0FC19DC68B8CD5B5#64, 0x240CA1CC77AC9C65#64] ++
  [0x2DE92C6F592B0275#64, 0x4A7484AA6EA6E483#64, 0x5CB0A9DCBD41FBD4#64, 0x76F988DA831153B5#64,
   0x983E5152EE66DFAB#64, 0xA831C66D2DB43210#64, 0xB00327C898FB213F#64, 0xBF597FC7BEEF0EE4#64,
   0xC6E00BF33DA88FC2#64, 0xD5A79147930AA725#64, 0x06CA6351E003826F#64, 0x142929670A0E6E70#64,
   0x27B70A8546D22FFC#64, 0x2E1B21385C26C926#64, 0x4D2C6DFC5AC42AED#64, 0x53380D139D95B3DF#64,
   0x650A73548BAF63DE#64, 0x766A0ABB3C77B2A8#64, 0x81C2C92E47EDAEE6#64, 0x92722C851482353B#64] ++
  [0xA2BFE8A14CF10364#64, 0xA81A664BBC423001#64, 0xC24B8B70D0F89791#64, 0xC76C51A30654BE30#64,
   0xD192E819D6EF5218#64, 0xD69906245565A910#64, 0xF40E35855771202A#64, 0x106AA07032BBD1B8#64,
   0x19A4C116B8D2D0C8#64, 0x1E376C085141AB53#64, 0x2748774CDF8EEB99#64, 0x34B0BCB5E19B48A8#64,
   0x391C0CB3C5C95A63#64, 0x4ED8AA4AE3418ACB#64, 0x5B9CCA4F7763E373#64, 0x682E6FF3D6B2B8A3#64,
   0x748F82EE5DEFB2FC#64, 0x78A5636F43172F60#64, 0x84C87814A1F0AB72#64, 0x8CC702081A6439EC#64] ++
  [0x90BEFFFA23631E28#64, 0xA4506CEBDE82BDE9#64, 0xBEF9A3F7B2C67915#64, 0xC67178F2E372532B#64,
   0xCA273ECEEA26619C#64, 0xD186B8C721C0C207#64, 0xEADA7DD6CDE0EB1E#64, 0xF57D4F7FEE6ED178#64,
   0x06F067AA72176FBA#64, 0x0A637DC5A2C898A6#64, 0x113F9804BEF90DAE#64, 0x1B710B35131C471B#64,
   0x28DB77F523047D84#64, 0x32CAAB7B40C72493#64, 0x3C9EBE0A15C9BEBC#64, 0x431D67C49C100D4C#64,
   0x4CC5D4BECB3E42B6#64, 0x597F299CFC657E2A#64, 0x5FCB6FAB3AD6FAEC#64, 0x6C44198C4A475817#64]

/-- The message schedule grown by `n` lanes, newest first. -/
def sha512Schedule : Nat → List Lane → List Lane
  | 0, w => w
  | n + 1, w =>
    let a := w.getD 1 0
    let b := w.getD 14 0
    sha512Schedule n (((a.rotateRight 19 ^^^ a.rotateRight 61 ^^^ a >>> 6) + w.getD 6 0 +
      (b.rotateRight 1 ^^^ b.rotateRight 8 ^^^ b >>> 7) + w.getD 15 0) :: w)

/-- One round on the eight working variables. -/
def sha512Round (v : List Lane) (kw : Lane) : List Lane :=
  let a := v.getD 0 0
  let b := v.getD 1 0
  let c := v.getD 2 0
  let e := v.getD 4 0
  let t1 := v.getD 7 0 + (e.rotateRight 14 ^^^ e.rotateRight 18 ^^^ e.rotateRight 41) +
    ((e &&& v.getD 5 0) ^^^ (~~~e &&& v.getD 6 0)) + kw
  let t2 := (a.rotateRight 28 ^^^ a.rotateRight 34 ^^^ a.rotateRight 39) + ((a &&& b) ^^^ (a &&& c) ^^^ (b &&& c))
  [t1 + t2, a, b, c, v.getD 3 0 + t1, e, v.getD 5 0, v.getD 6 0]

/-- One 128-byte block. -/
def sha512Block (h : List Lane) (blk : List Byte) : List Lane :=
  let w := (List.range 16).map (fun i => BitVec.ofNat 64 (ofBe (slice blk (8 * i) 8)))
  let ws := (sha512Schedule 64 w.reverse).reverse
  List.zipWith (· + ·) h ((List.zipWith (· + ·) sha512K ws).foldl sha512Round h)

/-- SHA-512: 64 bytes. -/
def sha512 (m : List Byte) : List Byte :=
  let k := (239 - m.length % 128) % 128
  let p := m ++ [0x80#8] ++ zeros k ++ beBytes 16 (8 * m.length)
  ((blocksOf 128 (p.length / 128) p).foldl sha512Block sha512Init).flatMap (fun w => beBytes 8 w.toNat)

/-! ## SHA-3 and SHAKE -/

/-- The round constants of Keccak-f[1600]. -/
def keccakRc : List Lane :=
  [0x0000000000000001#64, 0x0000000000008082#64, 0x800000000000808A#64, 0x8000000080008000#64,
   0x000000000000808B#64, 0x0000000080000001#64, 0x8000000080008081#64, 0x8000000000008009#64,
   0x000000000000008A#64, 0x0000000000000088#64, 0x0000000080008009#64, 0x000000008000000A#64,
   0x000000008000808B#64, 0x800000000000008B#64, 0x8000000000008089#64, 0x8000000000008003#64,
   0x8000000000008002#64, 0x8000000000000080#64, 0x000000000000800A#64, 0x800000008000000A#64] ++
  [0x8000000080008081#64, 0x8000000000008080#64, 0x0000000080000001#64, 0x8000000080008008#64]

/-- The rotation of lane x + 5y. -/
def keccakRot : List Nat :=
  [0, 1, 62, 28, 27, 36, 44, 6, 55, 20, 3, 10, 43, 25, 39, 41, 45, 15, 21, 8, 18, 2, 61, 56, 14]

/-- One round of Keccak-f[1600]: θ, ρ and π, χ, ι. -/
def keccakRound (a : List Lane) (rc : Lane) : List Lane :=
  let c := (List.range 5).map (fun x => a.getD x 0 ^^^ a.getD (x + 5) 0 ^^^ a.getD (x + 10) 0 ^^^ a.getD (x + 15) 0 ^^^ a.getD (x + 20) 0)
  let d := (List.range 5).map (fun x => c.getD ((x + 4) % 5) 0 ^^^ (c.getD ((x + 1) % 5) 0).rotateLeft 1)
  let b := (List.range 25).map (fun j =>
    let i := (j % 5 + 3 * (j / 5)) % 5 + 5 * (j % 5)
    (a.getD i 0 ^^^ d.getD (i % 5) 0).rotateLeft (keccakRot.getD i 0))
  let e := (List.range 25).map (fun j =>
    let r := j / 5 * 5
    b.getD j 0 ^^^ (~~~(b.getD (r + (j + 1) % 5) 0) &&& b.getD (r + (j + 2) % 5) 0))
  (e.headD 0 ^^^ rc) :: e.drop 1

/-- Keccak-f[1600]. -/
def keccakF (a : List Lane) : List Lane := keccakRc.foldl keccakRound a

/-- A block of the rate taken into the state. -/
def keccakAbsorb (a : List Lane) (blk : List Byte) : List Lane :=
  keccakF ((List.range 25).map (fun i => a.getD i 0 ^^^ BitVec.ofNat 64 (ofLe (slice blk (8 * i) 8))))

/-- `n` blocks of `r` bytes of output. -/
def keccakSqueeze (r : Nat) : Nat → List Lane → List Byte
  | 0, _ => []
  | n + 1, a => ((a.flatMap (fun l => leBytes 8 l.toNat)).take r) ++ keccakSqueeze r n (keccakF a)

/-- The sponge of rate `r` bytes: `n` bytes of output over a message closed with a domain byte. -/
def sponge (r : Nat) (dom : Byte) (n : Nat) (m : List Byte) : List Byte :=
  let k := r - m.length % r
  let p := m ++ (if k = 1 then [dom ||| 0x80#8] else dom :: zeros (k - 2) ++ [0x80#8])
  (keccakSqueeze r (ceilDiv n r) ((blocksOf r (p.length / r) p).foldl keccakAbsorb (List.replicate 25 0))).take n

/-- SHA3-256. -/
def sha3x256 (m : List Byte) : List Byte := sponge 136 0x06 32 m
/-- SHA3-512. -/
def sha3x512 (m : List Byte) : List Byte := sponge 72 0x06 64 m
/-- SHAKE128 of `n` bytes. -/
def shake128 (n : Nat) (m : List Byte) : List Byte := sponge 168 0x1F n m
/-- SHAKE256 of `n` bytes. -/
def shake256 (n : Nat) (m : List Byte) : List Byte := sponge 136 0x1F n m

end Sys2Proof.Machine
end

