-- ==== Sys2Proof/Machine/Edwards.lean ====
section
/-! DEFINITION. Ed25519 and Ed448 (RFC 8032) as PureEdDSA with an empty context (R223), with the encodings of that standard
(R222; log 22). -/

namespace Sys2Proof.Machine

/-- A curve a·x² + y² = 1 + d·x²·y² over GF(p) with its base point, of order `l`, the bytes of an encoded point, and the
cofactor. -/
structure Edwards where
  p : Nat
  a : Nat
  d : Nat
  gx : Nat
  gy : Nat
  l : Nat
  bytes : Nat
  cofactor : Nat
  deriving DecidableEq, Repr

/-- The curve of Ed25519. -/
def ed25519 : Edwards :=
  { p := 2 ^ 255 - 19
    a := 2 ^ 255 - 20
    d := 0x52036CEE2B6FFE738CC740797779E89800700A4D4141D8AB75EB4DCA135978A3
    gx := 0x216936D3CD6E53FEC0A4E231FDD6DC5C692CC7609525A7B2C9562D608F25D51A
    gy := 0x6666666666666666666666666666666666666666666666666666666666666658
    l := 2 ^ 252 + 27742317777372353535851937790883648493
    bytes := 32
    cofactor := 8 }

/-- The curve of Ed448. -/
def ed448 : Edwards :=
  { p := 2 ^ 448 - 2 ^ 224 - 1
    a := 1
    d := 2 ^ 448 - 2 ^ 224 - 1 - 39081
    gx := 0x4F1970C66BED0DED221D15A622BF36DA9E146570470F1767EA6DE324A3D3A46412AE1AF72AB66511433B80E18B00938E2626A82BC70CC05E
    gy := 0x693F46716EB6BC248876203756C9C7624BEA73736CA3984087789C1E05A0C2D73AD3FF1CE67C39C4FDBD132C4ED7C8AD9808795BF230FA14
    l := 2 ^ 446 - 0x8335DC163BB124B65129C96FDE933D8D723A70AADC873D6D54A7BB0D
    bytes := 57
    cofactor := 4 }

/-- The curve of an EdDSA PARAM: 0x42 Ed25519, 0x43 Ed448. -/
def edCurve (param : Nat) : Edwards := if param = 0x42 then ed25519 else ed448

/-- The sum of two points; the law is complete, and (0, 1) is the neutral point. -/
def Edwards.add (c : Edwards) (u v : Nat × Nat) : Nat × Nat :=
  let k := c.d * (u.1 * v.1 % c.p) % c.p * (u.2 * v.2 % c.p) % c.p
  ((u.1 * v.2 + v.1 * u.2) % c.p * invMod (1 + k) c.p % c.p,
   subMod (u.2 * v.2 % c.p) (c.a * (u.1 * v.1 % c.p) % c.p) c.p * invMod (subMod 1 k c.p) c.p % c.p)

/-- A multiple of a point. -/
def Edwards.mul (c : Edwards) (k : Nat) (q : Nat × Nat) : Nat × Nat :=
  (List.range (bitLen k)).foldl (fun acc i =>
    let t := c.add acc acc
    if k / 2 ^ (bitLen k - 1 - i) % 2 = 1 then c.add t q else t) (0, 1)

/-- A square root modulo p, where there is one: p is 5 modulo 8 or 3 modulo 4. -/
def sqrtMod (x p : Nat) : Option Nat :=
  let w := if p % 4 = 3 then powMod x ((p + 1) / 4) p else powMod x ((p + 3) / 8) p
  let v := w * powMod 2 ((p - 1) / 4) p % p
  if w * w % p = x % p then some w else if v * v % p = x % p then some v else none

/-- A point as bytes: y, and the low bit of x as the highest bit. -/
def Edwards.encode (c : Edwards) (q : Nat × Nat) : List Byte := leBytes c.bytes (q.2 + q.1 % 2 * 2 ^ (8 * c.bytes - 1))

/-- The point of canonical bytes. -/
def Edwards.decode (c : Edwards) (bs : List Byte) : Option (Nat × Nat) :=
  let v := leAt bs 0 c.bytes
  let sign := v / 2 ^ (8 * c.bytes - 1)
  let y := v % 2 ^ (8 * c.bytes - 1)
  if c.p ≤ y then none
  else
    let yy := y * y % c.p
    match sqrtMod (subMod 1 yy c.p * invMod (subMod c.a (c.d * yy % c.p) c.p) c.p % c.p) c.p with
    | none => none
    | some x =>
      if x = 0 ∧ sign = 1 then none
      else some (if x % 2 = sign then x else c.p - x, y)

/-- The hash of the scheme, with the domain part of Ed448 in front. -/
def edHash (param : Nat) (m : List Byte) : List Byte :=
  if param = 0x42 then sha512 m else shake256 114 ([0x53#8, 0x69#8, 0x67#8, 0x45#8, 0x64#8, 0x34#8, 0x34#8, 0x38#8, 0#8, 0#8] ++ m)

/-- The secret scalar of a private key, and the part of its hash that nonces are made from. -/
def edSecret (param : Nat) (key : List Byte) : Nat × List Byte :=
  if param = 0x42 then
    let h := sha512 (slice key 0 32)
    (ofLe (slice h 0 32) % 2 ^ 254 / 8 * 8 + 2 ^ 254, slice h 32 32)
  else
    let h := shake256 114 (slice key 0 57)
    (ofLe (slice h 0 56) % 2 ^ 447 / 4 * 4 + 2 ^ 447, slice h 57 57)

/-- The public key of a private key. -/
def eddsaPublic (param : Nat) (key : List Byte) : List Byte :=
  let c := edCurve param
  c.encode (c.mul (edSecret param key).1 (c.gx, c.gy))

/-- The signature of a message. -/
def eddsaSign (param : Nat) (key m : List Byte) : List Byte :=
  let c := edCurve param
  let s := edSecret param key
  let r := ofLe (edHash param (s.2 ++ m)) % c.l
  let rb := c.encode (c.mul r (c.gx, c.gy))
  let k := ofLe (edHash param (rb ++ eddsaPublic param key ++ m)) % c.l
  rb ++ leBytes c.bytes ((r + k * s.1) % c.l)

/-- The verdict on a public key, a message and a signature; none where a point or the scalar is out of range (R228). The
equation is the one with the cofactor (log 22). -/
def eddsaVerify (param : Nat) (pk m sig : List Byte) : Option Bool :=
  let c := edCurve param
  let rb := slice sig 0 c.bytes
  let s := leAt sig c.bytes c.bytes
  match c.decode pk, c.decode rb with
  | some a, some r =>
    if c.l ≤ s then none
    else
      let k := ofLe (edHash param (rb ++ slice pk 0 c.bytes ++ m)) % c.l
      some (c.mul c.cofactor (c.mul s (c.gx, c.gy)) == c.mul c.cofactor (c.add r (c.mul k a)))
  | _, _ => none

end Sys2Proof.Machine
end

