-- ==== Sys2Proof/Machine/Image.lean ====
section
/-! DEFINITION. What the log of the ledger holds in the NVM array: the keys of the key tree that its MACs need (R272–R276), the images
of entries (R287, R288), the groups and their commit records (R295), and the bytes of a pool sector (R322–R324). -/

namespace Sys2Proof.Machine

/-! ## Roots and boot keys -/

/-- The device secret S (R272). -/
def deviceSecret : List Byte := (List.range 32).map Config.secretByte
/-- A key derived with context zero (R273, R275). -/
def kdf0 (key : List Byte) (label : List Byte) : List Byte := kdf key label 0 0 0 0 32

/-- The labels of R273, R275 and R283 in ASCII. -/
def Label.rootVendor : List Byte := labelBytes [67, 72, 76, 32, 82, 79, 79, 84, 32, 86, 69, 78, 68, 79, 82]
/-- "CHL ROOT FIELD". -/
def Label.rootField : List Byte := labelBytes [67, 72, 76, 32, 82, 79, 79, 84, 32, 70, 73, 69, 76, 68]
/-- "CHL ROOT DEVELOP". -/
def Label.rootDevelop : List Byte := labelBytes [67, 72, 76, 32, 82, 79, 79, 84, 32, 68, 69, 86, 69, 76, 79, 80]
/-- "CHL ROOT ANALYSIS". -/
def Label.rootAnalysis : List Byte := labelBytes [67, 72, 76, 32, 82, 79, 79, 84, 32, 65, 78, 65, 76, 89, 83, 73, 83]
/-- "CHL BLOB KEK". -/
def Label.kek : List Byte := labelBytes [67, 72, 76, 32, 66, 76, 79, 66, 32, 75, 69, 75]
/-- "CHL BLOB MAC". -/
def Label.bmac : List Byte := labelBytes [67, 72, 76, 32, 66, 76, 79, 66, 32, 77, 65, 67]
/-- "CHL LEDGER MAC". -/
def Label.lmac : List Byte := labelBytes [67, 72, 76, 32, 76, 69, 68, 71, 69, 82, 32, 77, 65, 67]
/-- "CHL ASH DUMP". -/
def Label.dump : List Byte := labelBytes [67, 72, 76, 32, 65, 83, 72, 32, 68, 85, 77, 80]
/-- "CHL TRANSPORT KW". -/
def Label.transKw : List Byte := labelBytes [67, 72, 76, 32, 84, 82, 65, 78, 83, 80, 79, 82, 84, 32, 75, 87]
/-- "CHL TRANSPORT MAC". -/
def Label.transMac : List Byte := labelBytes [67, 72, 76, 32, 84, 82, 65, 78, 83, 80, 79, 82, 84, 32, 77, 65, 67]

/-- The bytes of a root (R273); the field root depends on the backup key register. -/
def State.rootBytes (s : State) (r : Root) : List Byte :=
  match r with
  | .vendor => kdf0 deviceSecret Label.rootVendor
  | .develop => kdf0 deviceSecret Label.rootDevelop
  | .analysis => kdf0 deviceSecret Label.rootAnalysis
  | .field => kdf0 (kdf0 deviceSecret Label.rootField) s.keys.backupKey

/-- The present root's bytes. -/
def State.presentRoot (s : State) : Option (List Byte) := s.keys.root.map s.rootBytes

/-- A boot key (R275), or none where no root is present. -/
def State.bootKey (s : State) (label : List Byte) : Option (List Byte) := s.presentRoot.map (fun r => kdf0 r label)

/-! ## Images -/

/-- TYPE of an entry (R287). -/
def Body.type : Body → Nat
  | .free _ _ => 0
  | .counter _ _ => 1
  | .key _ _ _ _ _ => 2
  | .token _ _ => 3
  | .mirror _ _ _ _ _ => 4

/-- BODY of an entry: 20 bytes (R288). -/
def Body.bytes : Body → List Byte
  | .free nv fl => leBytes 4 nv ++ leBytes 8 fl ++ zeros 8
  | .counter v nv => leBytes 8 v ++ leBytes 4 nv ++ zeros 8
  | .key u l v sl ps => leBytes 6 u ++ leBytes 6 l ++ leBytes 4 v ++ leBytes 2 sl ++ leBytes 2 ps
  | .token r d => leBytes 4 r ++ slice d 0 16
  | .mirror lo n r st h => leBytes 4 lo ++ leBytes 2 n ++ leBytes 4 r ++ leBytes 1 st ++ zeros 1 ++ leBytes 6 h ++ zeros 2

/-- Word 0 of an image (R287). -/
def Entry.word0 (e : Entry) (i : Nat) : Word :=
  wd (2 ^ 24 * (e.owner % 256) + 2 ^ 21 * e.body.type + 2 ^ 20 * b2n e.dev + 2 ^ 19 * b2n e.att + 2 ^ 18 * b2n e.pend +
    2 ^ 17 * b2n e.mir + i % 2 ^ 17)

/-- Image bytes 0x00–0x17 of entry i (R287). -/
def Entry.bytes (e : Entry) (i : Nat) : List Byte := wordBytes (e.word0 i) ++ e.body.bytes

/-- The body of a type with given 20 bytes; `none` for types 5–7, which do not occur. -/
def Body.parse (t : Nat) (b : List Byte) : Option Body :=
  if t = 0 then some (.free (leAt b 0 4) (leAt b 4 8))
  else if t = 1 then some (.counter (leAt b 0 8) (leAt b 8 4))
  else if t = 2 then some (.key (leAt b 0 6) (leAt b 6 6) (leAt b 12 4) (leAt b 16 2) (leAt b 18 2))
  else if t = 3 then some (.token (leAt b 0 4) (slice b 4 16))
  else if t = 4 then some (.mirror (leAt b 0 4) (leAt b 4 2) (leAt b 6 4) (leAt b 10 1) (leAt b 12 6))
  else none

/-- The entry that image bytes 0x00–0x17 of index i spell. -/
def Entry.parse (i : Nat) (b : List Byte) : Option Entry :=
  let w := wd (leAt b 0 4)
  if fld 16 0 w ≠ i then none
  else (Body.parse (fld 23 21 w) (slice b 4 20)).map (fun bd => ⟨fld 31 24 w, bit 20 w, bit 19 w, bit 18 w, bit 17 w, bd⟩)

/-- The directory entry of an index. -/
def State.dirEntry (s : State) (i : Nat) : DirEntry := s.ledger.dir.get dirReset i
/-- The committed entry of an index. -/
def State.entry (s : State) (i : Nat) : Entry := (s.dirEntry i).entry
/-! ## Groups -/

/-- What an update makes of an entry (R292). -/
def Update.apply (u : Update) (e : Entry) : Entry :=
  match u, e.body with
  | .ctrAdd _ n, .counter v nv => { e with body := .counter (v + n) nv }
  | .attAdd _ n _, .counter v nv => { e with body := .counter (v + n) nv }
  | .tokenUse _ _, .token r d => { e with body := .token (r - 1) d }
  | .write _ e', _ => e'
  | .keyUse _ n w, .key us l v sl ps => if v = w then { e with body := .key (us + n) l v sl ps } else e
  | _, _ => e

/-- The mirror entry of a local entry: its index and fields (R288, R464). -/
def Ledger.mirrorOf (l : Ledger) (i : Nat) : Option (Nat × Nat × Nat × Nat × Nat) :=
  l.dir.findSome? (fun e =>
    match e.2.entry.body with
    | .mirror lo node r st h => if lo = i then some (e.1, node, r, st, h) else none
    | _ => none)

/-- The indices a list of sets changes, each once. -/
def setIndices (ts : List JobSet) : List Nat := (ts.flatMap (fun t => t.updates.map (·.index))).dedup

/-- The origin entries that a list of sets changes while they are PAIRED or ORPHAN, each with its mirror entry, NODE, RINDEX and
STATE: their mirror entries are written in the same group (R461; log 29). -/
def Ledger.mirrored (l : Ledger) (ts : List JobSet) : List (Nat × Nat × Nat × Nat × Nat) :=
  (setIndices ts).filterMap (fun i =>
    if !(l.dir.get dirReset i).entry.mir then none
    else match l.mirrorOf i with
      | some (m, node, r, st, _) =>
        if (st = 1 ∨ st = 2) ∧ ¬(setIndices ts).contains m then some (i, m, node, r, st) else none
      | none => none)

/-- The images of a group that holds the given sets. -/
def Ledger.imageCount (l : Ledger) (ts : List JobSet) : Nat := (setIndices ts).length + (l.mirrored ts).length

/-- The sets of the open group: the longest run of waiting sets whose images fit in one group (R295). -/
def openPrefix (l : Ledger) : List JobSet → List JobSet → List JobSet
  | acc, [] => acc
  | acc, t :: ts => if l.imageCount (acc ++ [t]) ≤ 32 then openPrefix l (acc ++ [t]) ts else acc

/-- The sets of the open group. -/
def Ledger.openGroup (l : Ledger) : List JobSet := openPrefix l [] l.openSets

/-- The image that the updates of a list of sets make of an entry, in order. -/
def applySets (ts : List JobSet) (i : Nat) (e : Entry) : Entry :=
  ((ts.flatMap (·.updates)).filter (fun u => u.index == i)).foldl (fun e u => u.apply e) e

/-- The units a group takes in a sector: its images and its commit record (R295). -/
def Group.units (g : Group) : Nat := g.images.length + 1

/-- The units free in a sector for groups: unit 0 is its header and unit 2,047 its retire mark (R324). -/
def LogSector.room (t : LogSector) : Nat := 2046 - ((t.groups ++ t.dead).map (·.units)).sum

/-- The head sector: the one entered last. -/
def Ledger.head (l : Ledger) : Option LogSector := l.sectors.getLast?

/-- An entry as it will be once the group that is being committed is applied. -/
def Ledger.nextEntry (l : Ledger) (i : Nat) : Entry :=
  match (l.closing.map (·.images)).getD [] |>.find? (fun im => im.1 == i) with
  | some im => im.2
  | none => (l.dir.get dirReset i).entry

/-- The images of the open group, as they are programmed (R296, step 3). -/
def Ledger.openImages (l : Ledger) : List (Nat × Entry) :=
  (setIndices l.openGroup).map (fun i => (i, applySets l.openGroup i (l.nextEntry i)))

/-- The open group fits in a sector, with its commit record. -/
def Ledger.openFits (l : Ledger) (t : LogSector) : Bool := decide (l.imageCount l.openGroup + 1 ≤ t.room)

/-! ## Bytes of the log -/

/-- The first 8 bytes of the CMAC under LMAC; zeros without a root. -/
def State.logMac (s : State) (m : List Byte) : List Byte :=
  match s.bootKey Label.lmac with
  | some k => (aesCmac k m).take 8
  | none => zeros 8

/-- The MAC of an image of entry i in the group with an LSN (R287). -/
def State.imageMac (s : State) (i : Nat) (e : Entry) (lsn : Nat) : List Byte := s.logMac (e.bytes i ++ leBytes 6 lsn)

/-- The MAC of an entry image in the directory (R287). -/
def State.entryMac (s : State) (i : Nat) : List Byte := s.imageMac i (s.entry i) (s.dirEntry i).lsn

/-- The unit of an image (R287). -/
def State.imageUnit (s : State) (lsn : Nat) (im : Nat × Entry) : List Byte := im.2.bytes im.1 ++ s.imageMac im.1 im.2 lsn

/-- The commit record of a group (R295). -/
def State.commitRecord (s : State) (g : Group) : List Byte :=
  let b := leBytes 2 0x4C43 ++ leBytes 1 g.images.length ++ [0] ++ leBytes 6 g.lsn ++ zeros 2 ++
    wordBytes (crc32c (g.images.flatMap (s.imageUnit g.lsn))) ++ zeros 8
  b ++ s.logMac b

/-- A unit that is blank. -/
def blankUnit : List Byte := List.replicate 32 0xFF#8

/-- The units of a group: its images, and its commit record where it is programmed (R295). -/
def State.groupUnits (s : State) (g : Group) : List (List Byte) :=
  g.images.map (s.imageUnit g.lsn) ++ [if g.committed then s.commitRecord g else blankUnit]

/-- The header unit of a pool sector (R324). -/
def State.sectorHeader (s : State) (t : LogSector) : List Byte :=
  let b := leBytes 2 0x4C53 ++ leBytes 2 t.p ++ leBytes 4 t.lap ++ leBytes 6 t.firstLsn ++ zeros 10
  b ++ s.logMac b

/-- The groups in a pool sector in order, the discarded ones last, and in the head sector the images of the open group where they
fit. -/
def State.sectorGroups (s : State) (t : LogSector) : List Group :=
  let l := s.ledger
  let open_ : Group := ⟨l.nextLsn, l.openImages, false⟩
  t.groups ++ t.dead ++ (if (l.head.map (·.p)) = some t.p ∧ !open_.images.isEmpty ∧ l.openFits t then [open_] else [])

/-- Unit u of a pool sector that carries log data (R324); the manual gives the retire mark no content (log 1). -/
def State.sectorUnit (s : State) (t : LogSector) (u : Nat) : List Byte :=
  if u = 0 then s.sectorHeader t
  else if u = 2047 then (if t.retired then (List.range 32).map Config.poolByte else blankUnit)
  else (((s.sectorGroups t).flatMap s.groupUnits)[u - 1]?).getD blankUnit

/-- The pool position of an offset of banks 2 and 3 (R322). -/
def poolPos (o : Nat) : Nat := 2 * (o % 0x2000000 / 0x10000) + (o / 0x2000000 - 2)

/-- A byte of banks 2 and 3 (R323, R324). What a sector holds whose erase failed is not in the manual (R325; log 1). -/
def State.poolData (s : State) (o : Nat) : Byte :=
  let l := s.ledger
  match l.sectors.find? (fun t => t.p == poolPos o) with
  | none => if l.bad.contains (poolPos o) then Config.poolByte o else 0xFF#8
  | some t => if t.fails ≠ 0 then Config.poolByte o else (s.sectorUnit t (o % 0x10000 / 32)).getD (o % 32) 0

/-- A byte of the NVM array (R305, R307). -/
def State.arrayByte (s : State) (o : Nat) : Byte := if o < 0x4000000 then s.nvm.get nvmByte o else s.poolData o

end Sys2Proof.Machine
end

