-- ==== Sys2Proof/Machine/Operands.lean ====
section
/-! DEFINITION. What a pair's access names: the core address map (R138, R139), the MPU (R145–R149), the ring rights of the
core-local block (R142), the checks of a load, store and fetch in the order of R74, and the memory a pair sees through its
store buffer (R93, R98). -/

namespace Sys2Proof.Machine

/-! ## The core address map -/

/-- The ranges of R138. -/
inductive Space where
  | loc | control | hearth | nvm | window | romData | romCode | unmapped
  deriving DecidableEq, Repr

/-- The range an address lies in (R138). -/
def spaceOf (a : Nat) : Space :=
  if a < 0x10000 then .loc
  else if a < 0x20000 then .control
  else if 0x10000000 ≤ a ∧ a < 0x10400000 then .hearth
  else if 0x20000000 ≤ a ∧ a < 0x28000000 then .nvm
  else if 0x40000000 ≤ a ∧ a < 0x41000000 then .window
  else if 0xFFFC0000 ≤ a ∧ a < 0xFFFF0000 then .romData
  else if 0xFFFF0000 ≤ a ∧ a < 0x100000000 then .romCode
  else .unmapped

/-- The core address lies in the checkpoint area (R123). -/
def inCheckpoint (a : Nat) : Bool := decide (0x10300000 ≤ a ∧ a < 0x10400000)

/-! ## Regions -/

/-- The kinds of access a region grants (R145). -/
inductive Access where
  | load | store | fetch
  deriving DecidableEq, Repr

/-- MPU_BASE<i> of a rule set (R146). -/
def ruleBase (t : Table Word) (i : Nat) : Word := t.get mpuReset (8 * i)
/-- MPU_ATTR<i> of a rule set. -/
def ruleAttr (t : Table Word) (i : Nat) : Word := t.get mpuReset (8 * i + 4)

/-- The first address of a region of given BASE and SIZE: bits below log2(size) are taken as zero, and SIZE = 32 has
base 0 (R146, R147). -/
def regionStart (base : Word) (size : Nat) : Nat := (base.toNat / 32 * 32) / 2 ^ size * 2 ^ size

/-- A region of given BASE and ATTR is enabled and covers the `n` bytes at `a`. -/
def regionCovers (base attr : Word) (a n : Nat) : Bool :=
  let sz := fld 13 8 attr
  bit 31 attr && decide (regionStart base sz ≤ a ∧ a + n ≤ regionStart base sz + 2 ^ sz)

/-- A region's attributes grant a kind of access: R, W, X; DEV = 1 never permits a fetch (R147). -/
def grants (attr : Word) (k : Access) : Bool :=
  match k with
  | .load => bit 0 attr
  | .store => bit 1 attr
  | .fetch => bit 2 attr && !bit 5 attr

/-- The ATTR of the enabled region that covers an access, if any. -/
def coveringAttr (t : Table Word) (a n : Nat) : Option Word :=
  ((List.range 16).find? (fun i => regionCovers (ruleBase t i) (ruleAttr t i) a n)).map (ruleAttr t)

/-- The MPU permits an access from a ring (R145); ring 0 is not checked. -/
def mpuPermits (t : Table Word) (ring a n : Nat) (k : Access) : Bool :=
  ring == 0 ||
  match coveringAttr t a n with
  | some attr => decide (ring ≤ fld 7 6 attr) && grants attr k
  | none => false

/-- Two regions, both enabled, overlap. -/
def regionsOverlap (b1 a1 b2 a2 : Word) : Bool :=
  bit 31 a1 && bit 31 a2 &&
  decide (regionStart b1 (fld 13 8 a1) < regionStart b2 (fld 13 8 a2) + 2 ^ fld 13 8 a2 ∧
          regionStart b2 (fld 13 8 a2) < regionStart b1 (fld 13 8 a1) + 2 ^ fld 13 8 a1)

/-- Region `i` of a rule set of `n` regions overlaps another enabled region of it (R148, R155). -/
def overlapsAny (base attr : Nat → Word) (n i : Nat) : Bool :=
  (List.range n).any (fun j => j != i && regionsOverlap (base i) (attr i) (base j) (attr j))

/-- The cause of an access that the MPU refuses. -/
def mpuCause : Access → Nat
  | .load => Cause.mpuLoad
  | .store => Cause.mpuStore
  | .fetch => Cause.mpuFetch

/-! ## Core-local control -/

/-- The rings that may make an access in the core-local control block (R142, R175), by offset: the least privileged ring,
`none` where no ring may. An offset with no register may be accessed from every ring. -/
def controlRing (o : Nat) (k : Access) : Option Nat :=
  match k with
  | .load =>
    if o < 0x84 then some 2
    else if 0xC00 ≤ o ∧ o < 0xC04 then some 2
    else if 0xC08 ≤ o ∧ o < 0xC0C then some 2
    else some 3
  | .store =>
    if o < 0x80 then some 1
    else if o < 0x84 then none
    else if 0x400 ≤ o ∧ o < 0x404 then none
    else if 0x800 ≤ o ∧ o < 0x810 then none
    else if 0xC00 ≤ o ∧ o < 0xC04 then some 2
    else if 0xC04 ≤ o ∧ o < 0xC08 then some 3
    else if 0xC08 ≤ o ∧ o < 0xC0C then some 1
    else if 0xC0C ≤ o ∧ o < 0xC10 then some 2
    else if 0xC40 ≤ o ∧ o < 0xC44 then none
    else some 3
  | .fetch => none

/-- A ring may make an access in the core-local control block. -/
def controlPermits (o ring : Nat) (k : Access) : Bool :=
  match controlRing o k with
  | some r => decide (ring ≤ r)
  | none => false

/-! ## The NVM read window -/

/-- The global sector of an NVM offset (R305). -/
def sectorOf (o : Nat) : Nat := o / 0x10000
/-- The bank of an NVM offset. -/
def bankOf (o : Nat) : Nat := o / 0x2000000

/-- An NVM offset that rings 1–3 may not read (R308): the bank 1 system area, the refresh sectors, banks 2 and 3. -/
def nvmClosed (o : Nat) : Bool :=
  decide ((0x2000000 ≤ o ∧ o < 0x2100000) ∨ (0x3FE0000 ≤ o))

/-- BANKST<b>.STATE values (R317). -/
abbrev BankState.idle : Nat := 0
abbrev BankState.program : Nat := 1
abbrev BankState.erasing : Nat := 2
abbrev BankState.suspended : Nat := 3

/-- The sector of bank `b` under erase, as a global sector. -/
def State.eraseSector (s : State) (b : Nat) : Nat := 512 * b + s.getF (Fld.NVMC_BANKST_ESECT b)
/-- An erase runs or is suspended in bank b. -/
def State.eraseActive (s : State) (b : Nat) : Bool :=
  s.getF (Fld.NVMC_BANKST_STATE b) == 2 || s.getF (Fld.NVMC_BANKST_STATE b) == 3 || s.getF (Fld.NVMC_BANKST_STATE b) == 4
/-- A request for bank b suspends a running erase (R318). -/
def State.touchBank (s : State) (b : Nat) : State :=
  if s.getF (Fld.NVMC_BANKST_STATE b) = 2 then s.setF (Fld.NVMC_BANKST_STATE b) 3 else s
/-- Where the bytes of an NVM offset are read: in the spare while the refresh of their sector redirects (R329). -/
def State.nvmSource (s : State) (o : Nat) : Nat :=
  match s.refresh with
  | some r => if r.redirects && r.sector == sectorOf o then 0x3FF0000 + o % 0x10000 else o
  | none => o
/-- The bank that a read of an offset of the NVM array names. -/
def State.readBank (s : State) (o : Nat) : Nat := bankOf (s.nvmSource o)
/-- A sector whose erase is running or suspended (R320). -/
def State.sectorErasing (s : State) (g : Nat) : Bool := s.eraseActive (g / 512) && s.eraseSector (g / 512) == g
/-- A read of the offset would read a sector whose erase is running or suspended (R320). -/
def State.underErase (s : State) (o : Nat) : Bool := s.sectorErasing (sectorOf (s.nvmSource o))
/-- Bank b is data-only (R316). -/
def State.dataOnly (s : State) (b : Nat) : Bool := s.flag (Fld.NVMC_BANKST_DO b)

/-! ## Checks of an access -/

/-- The exception of a fetch at `a` from a ring, if any, in the order of R74 (R139, R145, R308, R316, R320, R518). -/
def State.fetchExc (s : State) (p a : Nat) : Option Exc :=
  let x := s.pair p
  let ring := x.ring
  let bus : Option Exc := some ⟨Cause.busError, wd a⟩
  let mpu : Option Exc := if mpuPermits x.mpuF ring a 4 .fetch then none else some ⟨Cause.mpuFetch, wd a⟩
  match spaceOf a with
  | .loc | .hearth => mpu
  | .control => bus
  | .nvm =>
    let o := a - 0x20000000
    if s.dataOnly (bankOf o) then bus
    else if ring ≠ 0 && nvmClosed o then bus
    else if mpu.isSome then mpu
    else if s.underErase o then some ⟨Cause.eraseSuspended, wd a⟩
    else none
  | .window => if ring ≠ 0 && mpu.isSome then mpu else bus
  | .romData => bus
  | .romCode => if ring = 0 then none else bus
  | .unmapped => if mpu.isSome then mpu else bus

/-- The exception of a load or store of `n` bytes at `a`, if any, before the target itself decides, in the order of R74
(R97, R98, R123, R139, R142, R145, R308, R518): R308 puts bus error before the MPU for loads of the closed ranges, not for
stores. A device access in the window is decided further by the register. -/
def State.dataExc (s : State) (p a n : Nat) (k : Access) : Option Exc :=
  let x := s.pair p
  let ring := x.ring
  let bus : Option Exc := some ⟨Cause.busError, wd a⟩
  let mpu : Option Exc := if mpuPermits x.mpuF ring a n k then none else some ⟨mpuCause k, wd a⟩
  if a % n ≠ 0 then some ⟨Cause.misaligned, wd a⟩
  else match spaceOf a with
    | .loc => mpu
    | .control =>
      if !controlPermits (a - 0x10000) ring k then some ⟨mpuCause k, wd a⟩
      else if n ≠ 4 then bus else none
    | .hearth => if mpu.isSome then mpu else if k == .store && inCheckpoint a then bus else none
    | .nvm =>
      let o := a - 0x20000000
      if ring ≠ 0 && k != .store && nvmClosed o then bus
      else if mpu.isSome then mpu
      else if k == .store then bus
      else if s.underErase o then some ⟨Cause.eraseSuspended, wd a⟩
      else none
    | .window => if mpu.isSome then mpu else if n ≠ 4 then bus else if !inBlock (a - 0x40000000) then bus else none
    | .romData | .romCode => if ring = 0 && k == .load then none else bus
    | .unmapped => if mpu.isSome then mpu else bus

/-- The access is a device access (R151): in the register window, the core-local block, or a DEV region. -/
def State.isDevice (s : State) (p a n : Nat) : Bool :=
  match spaceOf a with
  | .window | .control => true
  | _ => match coveringAttr (s.pair p).mpuF a n with
    | some attr => bit 5 attr
    | none => false

/-- The region of an access orders strongly (R150); local memory always does (R140). -/
def State.isStrong (s : State) (p a n : Nat) : Bool :=
  spaceOf a == .loc ||
  match coveringAttr (s.pair p).mpuF a n with
  | some attr => bit 4 attr
  | none => false

/-! ## Memory as a pair sees it -/

/-- One byte of local, hearth or NVM memory at a core address of pair p, as memory holds it. ROM content is not in the
manual: its bytes are free values by address (log 3). -/
def State.memByte (s : State) (p a : Nat) : Byte :=
  match spaceOf a with
  | .loc => (s.pair p).lmem.get zeroByte a
  | .hearth => s.hmem.get zeroByte (hoff (hearthOf p) a)
  | .nvm => s.arrayByte (s.nvmSource (a - 0x20000000))
  | .romData | .romCode => Config.romByte a
  | _ => 0

/-- One byte as a load of pair p sees it where memory holds `b`: the youngest store in the store buffer that covers it, else `b`
(R98). -/
def Pair.overlay (x : Pair) (a : Nat) (b : Byte) : Byte :=
  match x.stores.reverse.find? (fun t => decide (t.addr ≤ a ∧ a < t.addr + t.size)) with
  | some t => BitVec.ofNat 8 (t.value.toNat / 2 ^ (8 * (a - t.addr)))
  | none => b

/-- One byte as a load of pair p sees it (R98). -/
def State.viewByte (s : State) (p a : Nat) : Byte := (s.pair p).overlay a (s.memByte p a)

/-- The `n` bytes at `a` as a load of pair p sees them. -/
def State.viewBytes (s : State) (p a n : Nat) : List Byte := (List.range n).map (fun i => s.viewByte p (a + i))

/-- The state with bytes written to local or hearth memory of pair p at a core address. -/
def State.writeMem (s : State) (p a : Nat) (bs : List Byte) : State :=
  match spaceOf a with
  | .loc =>
    { s.updPair p (fun x => { x with lmem := x.lmem.setBytes zeroByte a bs }) with
      flaws := s.flaws.drop (fun k => decide (2 ^ 24 + p * 2 ^ 14 ≤ k ∧ k < 2 ^ 24 + (p + 1) * 2 ^ 14 ∧
        a ≤ 4 * (k % 2 ^ 14) ∧ 4 * (k % 2 ^ 14) + 4 ≤ a + bs.length)) }
  | .hearth => s.setHbytes (hoff (hearthOf p) a) bs
  | _ => s

/-- The word at an address as memory holds it. -/
def State.memWord (s : State) (p a : Nat) : Word := wd (ofLe ((List.range 4).map (fun i => s.memByte p (a + i))))

/-- The word that a fetch at `a` returns: what memory holds, but for a word the pair has stored to since its last fence.p,
which a fetch sees only after the fence.p (R110). -/
def State.fetchWord (s : State) (p a : Nat) : Word :=
  match (s.pair p).unfenced.find? (fun e => e.1 == a) with
  | some e => e.2
  | none => s.memWord p a

/-- The state with the words that the `n` bytes at `a` touch noted as stored to since the last fence.p (R110). -/
def State.noteStore (s : State) (p a n : Nat) : State :=
  (List.range ((a + n - 1) / 4 - a / 4 + 1)).foldl (fun s i =>
    let w := (a / 4 + i) * 4
    if (s.pair p).unfenced.any (fun e => e.1 == w) then s
    else s.updPair p (fun x => { x with unfenced := (w, s.memWord p w) :: x.unfenced })) s

/-- The bytes of local or hearth memory or the NVM window that memory holds at a core address. -/
def State.memBytes (s : State) (p a n : Nat) : List Byte := (List.range n).map (fun i => s.memByte p (a + i))

/-! ## Words that are uncorrectable -/

/-- The key in `flaws` of the word at a core address of pair p, or in the NVM window of the unit that holds it (R156, R305). -/
def State.flawKey (s : State) (p a : Nat) : Nat :=
  match spaceOf a with
  | .loc => 2 ^ 24 + p * 2 ^ 14 + a / 4
  | .hearth => hoff (hearthOf p) a / 4
  | .nvm => unitFlaw (s.nvmSource (a - 0x20000000))
  | _ => 2 ^ 27
/-- A word is known to be uncorrectable. -/
def State.hasFlaw (s : State) (k : Nat) : Bool := s.flaws.get (fun _ => false) k
/-- The word at a core address of pair p is known to be uncorrectable. -/
def State.flawed (s : State) (p a : Nat) : Bool := s.hasFlaw (s.flawKey p a)
/-- A word of the `n` bytes at an offset of hearth memory is known to be uncorrectable. -/
def State.hflawed (s : State) (o n : Nat) : Bool := s.flaws.any (fun e => decide (o < 4 * e.1 + 4 ∧ 4 * e.1 < o + n ∧ e.1 < 2 ^ 24))
/-- A unit of the `n` bytes at an offset of the NVM array is known to be uncorrectable. -/
def State.nflawed (s : State) (o n : Nat) : Bool := s.flaws.any (fun e => decide (unitFlaw o ≤ e.1 ∧ e.1 < unitFlaw (o + n + 31) ∧ e.1 < 2 ^ 27))
/-- A read has found a word uncorrectable (R157): it stays so until it is written (log 70). -/
def State.markFlaw (s : State) (k : Nat) : State := { s with flaws := s.flaws.set (fun _ => false) k true }

/-! ## The instruction buffer -/

/-- The region of a fetch at `a` has C = 1 (R143). -/
def Pair.cached (x : Pair) (a : Nat) : Bool :=
  match coveringAttr x.mpuF a 4 with
  | some attr => bit 3 attr
  | none => false
/-- The line of the buffer that an address chooses, and its tag (R143). -/
def ibufLine (a : Nat) : Nat := a / 32 % 512
/-- The tag of an address, plus one. -/
def ibufTag (a : Nat) : Nat := a / 16384 + 1
/-- A fetch at `a` hits the instruction buffer. -/
def Pair.ibufHit (x : Pair) (a : Nat) : Bool := x.cached a && x.ibuf.get (fun _ => 0) (ibufLine a) == ibufTag a
/-- The buffer after a fetch at `a` that missed (R144): the line that holds the instruction is filled, where the region has C = 1. -/
def Pair.ibufFill (x : Pair) (a : Nat) : Pair :=
  if x.cached a then { x with ibuf := x.ibuf.set (fun _ => 0) (ibufLine a) (ibufTag a), ibufMiss := x.ibufMiss + 1 } else x

end Sys2Proof.Machine
end

