-- ==== Sys2Proof/Machine/Grant.lean ====
section
/-! DEFINITION. The one arbiter design (R178–R185, R189): the next grant by rank, round robin or fallback, waiting, starvation and
hints, emergency use, and the requests of each kind of resource. -/

namespace Sys2Proof.Machine

/-! ## The arbiters of the device -/

/-- A public-key arbiter. -/
def State.pkeArbOf (s : State) (h : Nat) : Arbiter := s.pkeArb.get (fun _ => {}) h
/-- The state with a public-key arbiter set. -/
def State.setPkeArb (s : State) (h : Nat) (a : Arbiter) : State := { s with pkeArb := s.pkeArb.set (fun _ => {}) h a }
/-- The arbiter of a bank. -/
def State.bankArbOf (s : State) (h b : Nat) : Arbiter := s.bankArb.get (fun _ => {}) (16 * h + b)
/-- The state with the arbiter of a bank set. -/
def State.setBankArb (s : State) (h b : Nat) (a : Arbiter) : State :=
  { s with bankArb := s.bankArb.set (fun _ => {}) (16 * h + b) a }

/-- The CFG register of an arbiter (R189). -/
def arbCfgOf : ArbId → Nat
  | .pke h => Reg.HRT_PKE_ARB_CFG h.val
  | .bank h _ => Reg.HRT_BANK_ARB_CFG h.val
  | .nvm => Reg.NVMC_ARB_CFG
/-- The STAT register of an arbiter. -/
def arbStatOf : ArbId → Nat
  | .pke h => Reg.HRT_PKE_ARB_STAT h.val
  | .bank h _ => Reg.HRT_BANK_ARB_STAT h.val
  | .nvm => Reg.NVMC_ARB_STAT
/-- The GRANTS register of an arbiter. -/
def arbGrantsOf : ArbId → Nat
  | .pke h => Reg.HRT_PKE_ARB_GRANTS h.val
  | .bank h _ => Reg.HRT_BANK_ARB_GRANTS h.val
  | .nvm => Reg.NVMC_ARB_GRANTS
/-- The unit of an arbiter in an event-log entry (R484): its hearth, or 16 for the NVM controller. -/
def arbUnit : ArbId → Nat
  | .pke h => h.val
  | .bank h _ => h.val
  | .nvm => 16
/-- The bank number that STAT records. -/
def arbBankNo : ArbId → Nat
  | .bank _ b => b.val
  | _ => 0

/-- An arbiter. -/
def State.arb (s : State) : ArbId → Arbiter
  | .pke h => s.pkeArbOf h.val
  | .bank h b => s.bankArbOf h.val b.val
  | .nvm => s.nvmArb
/-- The state with an arbiter set. -/
def State.setArb (s : State) (i : ArbId) (a : Arbiter) : State :=
  match i with
  | .pke h => s.setPkeArb h.val a
  | .bank h b => s.setBankArb h.val b.val a
  | .nvm => { s with nvmArb := a }

/-- The class of a requester (R178): at an engine a pair in SUPERVISOR is 1; at a bank pairs, engines, fabric inbound and the commit
unit are 0 to 3; at the NVM controller read ports, ledger, operation queue and image DMA are. -/
def State.classAt (s : State) (i : ArbId) (idx : Nat) : Nat :=
  match i with
  | .pke h => if idx < 32 then b2n (s.isSupervisor (32 * h.val + idx)) else 1
  | .bank _ _ => if idx < 32 then 0 else if idx < 37 then 1 else idx - 35
  | .nvm => if idx < 16 then 0 else idx - 15

/-- ARB_CFG.FB_EN. -/
def fbEn (cfg : Word) : Bool := bit 31 cfg
/-- ARB_CFG.FB_N. -/
def fbN (cfg : Word) : Nat := fld 30 24 cfg
/-- ARB_CFG.STARVE_LIMIT. -/
def starveLimit (cfg : Word) : Nat := fld 23 12 cfg
/-- The rank of a class. -/
def rankOf (cfg : Word) (cls : Nat) : Nat := fld (2 * cls + 1) (2 * cls) cfg

/-! ## The next grant -/

/-- The distance of an index from the one granted last, counting upward and wrapping (R180). -/
def turnAfter (last idx : Nat) : Nat := (idx + 64 - (last + 1) % 64) % 64

/-- The first of a list by a measure, the earlier one where two measure the same. -/
def firstBy (f : Waiter → Nat) : List Waiter → Option Waiter
  | [] => none
  | w :: ws =>
    match firstBy f ws with
    | some v => if f v < f w then some v else some w
    | none => some w

/-- The main path (R180): the highest rank, and among it the first index after the one granted last. -/
def Arbiter.mainPick (a : Arbiter) (cfg : Word) : Option Waiter :=
  let top := a.waiting.foldl (fun m w => max m (rankOf cfg w.cls)) 0
  firstBy (fun w => turnAfter a.last w.idx) (a.waiting.filter (fun w => rankOf cfg w.cls == top))

/-- The requester that the next grant goes to: the one whose grant an emergency use took back (R185), the one that has
waited longest on a reserved grant (R181), else the main path. -/
def Arbiter.pick (a : Arbiter) (cfg : Word) : Option Waiter :=
  match a.revoked.bind (fun i => a.waiting.find? (fun w => w.idx == i)) with
  | some w => some w
  | none =>
    if fbEn cfg && (a.fallback + 1) % fbN cfg == 0 then a.waiting.head? else a.mainPick cfg

/-- The arbiter after a grant to `w`: the others have waited through one more grant. -/
def Arbiter.granted (a : Arbiter) (w : Waiter) (fb : Bool) : Arbiter :=
  { a with
    waiting := (a.waiting.eraseP (fun v => v.idx == w.idx)).map (fun v => { v with waited := v.waited + 1 })
    inUse := some w.idx, last := w.idx, fallback := if fb then a.fallback + 1 else 0, revoked := none,
    emergency := false }

/-- The hint of a waiting requester (R184): the grants made before its own if the waiting set does not change. -/
def Arbiter.ahead (cfg : Word) (idx : Nat) : Nat → Arbiter → Nat
  | 0, _ => 0
  | n + 1, a =>
    match a.pick cfg with
    | none => 0
    | some w => if w.idx = idx then 0 else 1 + Arbiter.ahead cfg idx n (a.granted w (fbEn cfg))

/-- Each request that lost the arbitration has its hint (R184). -/
def Arbiter.hinted (a : Arbiter) (cfg : Word) : Arbiter :=
  { a with waiting := a.waiting.map (fun v => { v with hint := some (Arbiter.ahead cfg v.idx 64 a) }) }

/-- The requests that have now waited through more than STARVE_LIMIT grants and have not yet raised the flag (R182). -/
def Arbiter.starving (a : Arbiter) (cfg : Word) : List Waiter :=
  a.waiting.filter (fun w => !w.flagged && decide (starveLimit cfg < w.waited))

/-- The starvation flag and its event-log entry for one request (R182, R189). -/
def State.starve (s : State) (i : ArbId) (w : Waiter) : State :=
  let st := s.reg (arbStatOf i)
  let s := if bit 31 st then s
    else s.setReg (arbStatOf i) (setFld 27 24 (arbBankNo i) (setFld 21 16 w.idx (setFld 31 31 1 st)))
  s.logEvent Src.arbiter 1 (arbUnit i) (wd w.idx) (wd (arbBankNo i)) 0

/-- A grant made: `a` is the arbiter after it, in which the others have waited through it; `waited` is the wait of the one granted.
ARB_GRANTS, MAXWAIT, the hints and the starvation flags (R182, R184, R189). -/
def State.afterGrant (s : State) (i : ArbId) (a : Arbiter) (waited : Nat) : State :=
  let cfg := s.reg (arbCfgOf i)
  let starved := a.starving cfg
  let a : Arbiter := { a with waiting := a.waiting.map (fun v => { v with flagged := v.flagged || decide (starveLimit cfg < v.waited) }) }
  let s := (s.setArb i (a.hinted cfg)).incWrap (arbGrantsOf i) 1
  let longest := a.waiting.foldl (fun m v => max m v.waited) waited
  let s := s.setReg (arbStatOf i) (setFld 15 8 (min 255 (max longest (fld 15 8 (s.reg (arbStatOf i))))) (s.reg (arbStatOf i)))
  starved.foldl (fun s v => s.starve i v) s

/-- The state after the next grant of an arbiter; unchanged while a grant is in use; where nobody waits, an
emergency use ends (R178, R180–R182, R185). -/
def State.grant (s : State) (i : ArbId) : State :=
  let a := s.arb i
  let cfg := s.reg (arbCfgOf i)
  if a.inUse.isSome && !a.emergency then s
  else match ({ a with inUse := none } : Arbiter).pick cfg with
    | none => s.setArb i { a with inUse := none, emergency := false }
    | some w => s.afterGrant i (a.granted w (fbEn cfg)) w.waited

/-! ## Requests -/

/-- A requester waits at an arbiter. -/
def Arbiter.waits (a : Arbiter) (idx : Nat) : Bool := a.waiting.any (fun w => w.idx == idx)
/-- A requester holds the grant in use. -/
def Arbiter.holds (a : Arbiter) (idx : Nat) : Bool := a.inUse == some idx && !a.emergency

/-- The state with a request made at an arbiter, where the requester has none there (R178). -/
def State.ask (s : State) (i : ArbId) (idx : Nat) : State :=
  let a := s.arb i
  if a.waits idx || a.holds idx then s
  else s.setArb i { a with waiting := a.waiting ++ [⟨idx, s.classAt i idx, 0, false, none⟩] }

/-- The use of an arbiter's grant ended. -/
def State.endUse (s : State) (i : ArbId) : State := s.setArb i { s.arb i with inUse := none }

/-- An access of a requester that may have to wait: it goes on where the resource is the requester's already, or where nobody uses it
and nobody else waits, so that it is granted in the same cycle; else its request waits (R178). The Bool says whether it
goes on. -/
def State.tryUse (s : State) (i : ArbId) (idx : Nat) : State × Bool :=
  let a := s.arb i
  if a.holds idx then (s.endUse i, true)
  else if a.inUse.isNone && a.waiting.all (fun w => w.idx == idx) then (((s.ask i idx).grant i).endUse i, true)
  else (s.ask i idx, false)

/-- A requester's request at an arbiter ended: it no longer waits and no longer holds the resource (R183). -/
def Arbiter.leave (a : Arbiter) (idx : Nat) : Arbiter :=
  { a with
    waiting := a.waiting.eraseP (fun w => w.idx == idx)
    inUse := if a.inUse = some idx then none else a.inUse
    revoked := if a.revoked = some idx then none else a.revoked }

/-! ## Emergency use -/

/-- An emergency requester is granted at once and takes back a grant in use, whose requester is granted first afterwards (R185);
the grant counts in ARB_GRANTS and as one that the others wait through, not towards the FB_N-th (DESIGN CHOICE; log 71). -/
def State.takeEmergency (s : State) (i : ArbId) : State :=
  let x := s.arb i
  let held := if x.emergency then none else x.inUse
  let back := held.toList.map (fun j => (⟨j, s.classAt i j, 0, false, none⟩ : Waiter))
  let s := if held.isSome then s.setReg (arbStatOf i) (setFld 29 29 1 (s.reg (arbStatOf i))) else s
  s.afterGrant i { x with
    inUse := some 63, emergency := true, revoked := held.or x.revoked
    waiting := back ++ x.waiting.map (fun v => { v with waited := v.waited + 1 }) } 0

end Sys2Proof.Machine
end

