-- ==== Sys2Proof/Machine/Buffer.lean ====
section
/-! DEFINITION. How the accesses of pairs and units reach the banks of hearth memory and the NVM controller: the store buffer (R93,
R98, R109, R150), reads that wait for their grant (R178, R179), the uses of the other requesters (R178), withdrawal (R183), and
what a word check finds (R157). -/

namespace Sys2Proof.Machine

/-- The bank of hearth memory that a core address lies in (R141). -/
def hearthBank (a : Nat) : Nat := (a - 0x10000000) / 0x40000
/-- The arbiter of bank b of hearth h. -/
def bankId (h b : Nat) : ArbId := .bank (Fin.ofNat 16 h) (Fin.ofNat 16 b)
/-- The arbiter of the bank that holds a core address of pair p. -/
def bankAt (p a : Nat) : ArbId := bankId (hearthOf p) (hearthBank a)

/-! ## Word checks -/

/-- A read of an uncorrectable word by a pair (R157, R163): the address is recorded and the word counted, in NVM as a unit
(R331). -/
def State.memUncorrectable (s : State) (p a : Nat) : State :=
  let h := hearthOf p
  let s := (s.markFlaw (s.flawKey p a)).setReg (Reg.HRT_MEMERR_ADDR h) (wd a)
  match spaceOf a with
  | .loc | .hearth => s.incF (Fld.HRT_MEMERR_UNCORR h)
  | .nvm => (s.incF Fld.NVMC_ECC_UNCORR).setReg Reg.NVMC_ECC_ADDR (wd ((a - 0x20000000) / 32 * 32))
  | _ => s

/-- A corrected word (R157, R162): counted, and a word of hearth memory queued for write-back; local memory is written back
at once (R140), and a unit of NVM is counted (R331). -/
def State.memCorrected (s : State) (p a : Nat) : State :=
  let h := hearthOf p
  match spaceOf a with
  | .loc => s.incF (Fld.HRT_MEMERR_CORR h)
  | .hearth =>
    let u := s.scrub.get (fun _ => {}) h
    (({ s with scrub := s.scrub.set (fun _ => {}) h { u with writeBack := u.writeBack ++ [(a - 0x10000000) / 4 * 4] } } :
      State)).incF (Fld.HRT_MEMERR_CORR h)
  | .nvm => s.incF Fld.NVMC_ECC_CORR
  | _ => s

/-! ## The store buffer -/

/-- Two posted stores must be performed in order (R98, R140, R150): they share a byte, both are to local memory, or both are
strong. -/
def mustOrder (a b : PostedStore) : Bool :=
  decide (a.addr < b.addr + b.size ∧ b.addr < a.addr + a.size) || (spaceOf a.addr == .loc && spaceOf b.addr == .loc) ||
  (a.strong && b.strong)

/-- The posted store of index i waits for no earlier one of the buffer. -/
def Pair.storeFree (x : Pair) (i : Nat) : Bool :=
  match x.stores[i]? with
  | some t => !(x.stores.take i).any (fun u => mustOrder u t)
  | none => false

/-- The words of the write-back queue of a hearth that a foreground write of `n` bytes at an offset of its memory covers in part are
dropped (R162). -/
def State.dropWriteBack (s : State) (h o n : Nat) : State :=
  let u := s.scrub.get (fun _ => {}) h
  if u.writeBack.any (fun w => decide (o < w + 4 ∧ w < o + n)) then
    { s with scrub := s.scrub.set (fun _ => {}) h { u with writeBack := u.writeBack.filter (fun w => !decide (o < w + 4 ∧ w < o + n)) } }
  else s

/-- A posted store performed in memory, and its use of the bank ended. -/
def State.performStore (s : State) (p : Nat) (t : PostedStore) : State :=
  let s := s.writeMem p t.addr (leBytes t.size t.value.toNat)
  if spaceOf t.addr = .hearth then
    let s := s.dropWriteBack (hearthOf p) (t.addr - 0x10000000) t.size
    s.setArb (bankAt p t.addr) ((s.arb (bankAt p t.addr)).leave (indexOf p))
  else s

/-- The pair's requests at the banks of its posted stores in hearth memory that wait for no earlier store (R178). -/
def State.askStores (s : State) (p : Nat) : State :=
  let x := s.pair p
  (List.range x.stores.length).foldl (fun s i =>
    match x.stores[i]? with
    | some t => if x.storeFree i && spaceOf t.addr == .hearth then s.ask (bankAt p t.addr) (indexOf p) else s
    | none => s) s

/-- The i-th oldest posted store of the pair performed, and what it held back requests its bank. -/
def State.performAt (s : State) (p i : Nat) : State :=
  match (s.pair p).stores[i]? with
  | some t => ((s.performStore p t).updPair p (fun x => { x with stores := x.stores.eraseIdx i })).askStores p
  | none => s

/-! ## Reads that wait -/

/-- The read of a pair that waits for its grant, or that has been read and not taken up. -/
def State.readOf (s : State) (p : Nat) : Option PendingRead := s.reads.find? (fun r => r.pair == p)
/-- The state without the read of a pair. -/
def State.dropRead (s : State) (p : Nat) : State := { s with reads := s.reads.filter (fun r => r.pair != p) }
/-- The line that the read of a pair has waited for is read. -/
def State.latchRead (s : State) (p : Nat) : State :=
  { s with reads := s.reads.map (fun r =>
      if r.pair == p && r.data.isNone then { r with data := some (s.memBytes p r.line 32) } else r) }
/-- The read that the read port of hearth h presents to the NVM controller: the first to arrive (R179). -/
def State.portHead (s : State) (h : Nat) : Option PendingRead :=
  s.reads.find? (fun r => hearthOf r.pair == h && spaceOf r.line == .nvm && r.data.isNone)
/-- The read port of hearth h presents its next request, where it has one (R179). -/
def State.presentPort (s : State) (h : Nat) : State := if (s.portHead h).isSome then s.ask .nvm h else s

/-! ## The end of a use -/

/-- The use of the grant in progress at a bank or at the NVM controller comes to its end (R178): the line that a pair's read waits for
is read; else the pair's first posted store there that waits for no other is performed. -/
def State.finishUse (s : State) (i : ArbId) : State :=
  let a := s.arb i
  match a.inUse with
  | none => s
  | some idx =>
    let s := s.setArb i { a with inUse := none, emergency := false }
    if a.emergency then s
    else match i with
      | .bank h b =>
        if 32 ≤ idx then s
        else
          let p := 32 * h.val + idx
          let here := fun (x : Nat) => spaceOf x == .hearth && hearthBank x == b.val
          if s.reads.any (fun r => r.pair == p && r.data.isNone && here r.line) then (s.latchRead p).askStores p
          else
            match (List.range (s.pair p).stores.length).find? (fun k =>
                (s.pair p).storeFree k && (((s.pair p).stores[k]?).map (fun t => here t.addr)).getD false) with
            | some k => s.performAt p k
            | none => s
      | .nvm =>
        if 16 ≤ idx then s
        else match s.portHead idx with
          | some r => (s.latchRead r.pair).presentPort idx
          | none => s
      | .pke _ => s

/-- Uses end and grants are made until the requester holds the resource, `n` grants at the most. -/
def State.win (s : State) (i : ArbId) (idx : Nat) : Nat → State
  | 0 => s
  | n + 1 => if (s.arb i).holds idx then s else State.win (((s.ask i idx).finishUse i).grant i) i idx n

/-- One use of a resource by a requester that waits for its grant within the command (log 72). -/
def State.use (s : State) (i : ArbId) (idx : Nat) : State := (s.win i idx 256).endUse i

/-- Every posted store of the pair performed in order, each with its grant (R109, R151). -/
def State.drainStores (s : State) (p : Nat) : State :=
  (List.range (s.pair p).stores.length).foldl (fun s _ =>
    match (s.pair p).stores.head? with
    | some t => (if spaceOf t.addr = .hearth then s.win (bankAt p t.addr) (indexOf p) 256 else s).performAt p 0
    | none => s) s

/-! ## Uses of the other requesters -/

/-- The requester index of a master that is no pair of the hearth at a bank of hearth h (R178): its public-key engine, its symmetric
engines, and for all others fabric inbound. -/
def bankIndex (m h : Nat) : Nat :=
  if m = 704 + h then 32 else if 640 + 4 * h ≤ m ∧ m < 644 + 4 * h then 33 + (m - 640 - 4 * h) else 37
/-- The requester index of the commit unit. -/
abbrev commitIndex : Nat := 38

/-- The grants of a transfer of `n` bytes at an offset of hearth memory, one for each 32 bytes (R178). -/
def State.useBanks (s : State) (idx o n : Nat) : State :=
  (List.range (ceilDiv n 32)).foldl (fun s k =>
    let x := o + 32 * k
    s.use (bankId (x / 0x400000) (x % 0x400000 / 0x40000)) idx) s

/-- A write by a unit other than a pair to hearth memory: its grants, the bytes, and the write-backs that it overtakes (R162). -/
def State.busWrite (s : State) (idx o : Nat) (bs : List Byte) : State :=
  if bs.isEmpty then s
  else ((s.useBanks idx o bs.length).setHbytes o bs).dropWriteBack (o / 0x400000) (o % 0x400000) bs.length

/-- The NVM controller's uses by the ledger (16), the operation queue (17), or image DMA and the debug port (18), each of up to 32
bytes (R178), at bank b, whose erase they suspend (R318). -/
def State.useNvm (s : State) (idx b n : Nat) : State :=
  (List.range n).foldl (fun s _ => s.use .nvm idx) (s.touchBank b)

/-! ## Reads of pairs -/

/-- What a read of a pair comes to. -/
inductive Read where
  /-- It has been performed and returns these bytes. -/
  | done (s : State) (bs : List Byte)
  /-- Its request waits for a grant, and the pair with it. -/
  | waits (s : State)
  deriving DecidableEq, Repr

/-- The read of pair p of a line entered among those that wait, where the pair has none. -/
def State.addRead (s : State) (p line : Nat) (fetch : Bool) : State :=
  if (s.readOf p).isSome then s else { s with reads := s.reads ++ [⟨p, line, fetch, none⟩] }

/-- A read of `n` bytes of hearth memory or the NVM window, within one line, by pair p (R178, R179): it takes up the line that its
waiting request has read, or uses its grant, or waits. A request for an NVM bank suspends a running erase there (R318). -/
def State.pairRead (s : State) (p a n : Nat) (fetch : Bool) : Read :=
  let line := a / 32 * 32
  match (s.readOf p).bind (·.data) with
  | some bs => .done (s.dropRead p) (slice bs (a - line) n)
  | none =>
    if spaceOf a = .hearth then
      match s.tryUse (bankAt p a) (indexOf p) with
      | (t, true) => let t := (t.dropRead p).askStores p; .done t (t.memBytes p a n)
      | (t, false) => .waits (t.addRead p line fetch)
    else
      let h := hearthOf p
      let s := (s.touchBank (s.readBank (a - 0x20000000))).addRead p line fetch
      if ((s.portHead h).map (·.pair)) = some p then
        match s.tryUse .nvm h with
        | (t, true) => let t := (t.dropRead p).presentPort h; .done t (t.memBytes p a n)
        | (t, false) => .waits t
      else .waits s

/-- A pair's accesses that have not been performed are discarded (R114, R183): its posted stores, its read, and its requests at the
banks and, with its read, at the NVM controller. A withdrawn grant has been the requester's turn. -/
def State.dropAccesses (s : State) (p : Nat) : State :=
  let h := hearthOf p
  let head := ((s.portHead h).map (·.pair)) == some p
  let s := (s.dropRead p).updPair p (fun x => { x with stores := [] })
  let s := (List.range 16).foldl (fun s b =>
    let a := s.bankArbOf h b
    if a.waits (indexOf p) || a.inUse == some (indexOf p) || a.revoked == some (indexOf p) then s.setBankArb h b (a.leave (indexOf p))
    else s) s
  if head then ({ s with nvmArb := s.nvmArb.leave h } : State).presentPort h else s

end Sys2Proof.Machine
end

