-- ==== Sys2Proof/Machine/Sessions.lean ====
section
/-! DEFINITION. Sessions as their pairs hold them (R117, R119, R123, R124): the image in bank 0, its segments in local memory, the
checkpoint buffers, and restoring a session from its record (R50, R128, R133, R366, R521). -/

namespace Sys2Proof.Machine

/-- The session that a pair holds or is loading. -/
def State.sessionOn (s : State) (p : Nat) : Option Session := s.sessions.find? (fun x => x.pair == p)

/-- The state with a session replaced by its new record. -/
def State.setSession (s : State) (x : Session) : State :=
  { s with sessions := s.sessions.map (fun y => if y.handle = x.handle then x else y) }

/-! ## Images -/

/-- The header of the applet image of a session: 256 bytes at its first sector of bank 0 (R117). -/
def State.imageHeader (s : State) (x : Session) : List Byte := s.nbytes (x.sector * 0x10000) 256
/-- SESSION_BASE of a session's image. -/
def State.sessionBase (s : State) (x : Session) : Nat := leAt (s.imageHeader x) 0x14 4
/-- SESSION_SIZE of a session's image. -/
def State.sessionSize (s : State) (x : Session) : Nat := leAt (s.imageHeader x) 0x18 4

/-- SEG[i] of an image: base, size, payload offset, attributes (R117). -/
def imgSeg (h : List Byte) (i : Nat) : Nat × Nat × Nat × Word :=
  let o := 0x30 + 16 * i
  (leAt h o 4, leAt h (o + 4) 4, leAt h (o + 8) 4, wd (leAt h (o + 12) 4))

/-- The content of a segment (R119 step 2): payload bytes, and zero beyond IMAGE_SIZE. -/
def State.segBytes (s : State) (x : Session) (g : Nat × Nat × Nat × Word) : List Byte :=
  let size := leAt (s.imageHeader x) 0x10 4
  let have' := min g.2.1 (size - g.2.2.1)
  s.nbytes (x.sector * 0x10000 + 256 + g.2.2.1) have' ++ zeros (g.2.1 - have')

/-- BASE and ATTR of the MPU region of a segment (R117, R118): its ring, R, and W and X as its attributes say. -/
def segRule (g : Nat × Nat × Nat × Word) : Word × Word :=
  (wd g.1, wd (2 ^ 31 + 256 * g.2.1.log2 + 64 * fld 1 0 g.2.2.2 + 4 * b2n (bit 9 g.2.2.2) + 2 * b2n (bit 8 g.2.2.2) + 1))

/-- The image of a session loaded on a pair (R119 steps 2 and 3): the segments filled, the rest of local memory above 0x1000 zero,
region k of the MPU for segment k (DESIGN CHOICE; log 75), gs2 and gs3 from the header. -/
def State.loadImage (s : State) (p : Nat) (x : Session) : State :=
  let h := s.imageHeader x
  let segs := (List.range (leAt h 0x0B 1)).map (imgSeg h)
  let s := { s with flaws := s.flaws.drop (fun k => decide (2 ^ 24 + p * 2 ^ 14 + 0x400 ≤ k ∧ k < 2 ^ 24 + (p + 1) * 2 ^ 14)) }
  s.updPair p (fun y =>
    let m := segs.foldl (fun m g => m.setBytes zeroByte g.1 (s.segBytes x g)) (y.lmem.drop (fun a => decide (0x1000 ≤ a)))
    let w := segs.zipIdx.foldl (fun w g =>
      (w.set mpuReset (8 * g.2) (segRule g.1).1).set mpuReset (8 * g.2 + 4) (segRule g.1).2) y.mpuW
    ({ y with lmem := m, mpuW := w, mpuPend := true }.setS (SR.gs 2) (wd (leAt h 0x20 4))).setS (SR.gs 3) (wd (leAt h 0x1C 4)))

/-! ## Checkpoint buffers -/

/-- The current buffer of a pair: its bit of CKSEL (R124). -/
def State.cksel (s : State) (p : Nat) : Nat := b2n (bit (indexOf p) (s.reg (Reg.HRT_CKSEL (hearthOf p))))
/-- The offset in hearth memory of buffer b of a pair (R123). -/
def ckOff (p b : Nat) : Nat := hearthOf p * 0x400000 + 0x300000 + indexOf p * 0x8000 + b * 0x4000
/-- The state with a pair's bit of CKSEL flipped. -/
def State.flipCksel (s : State) (p : Nat) : State :=
  s.setReg (Reg.HRT_CKSEL (hearthOf p)) (s.reg (Reg.HRT_CKSEL (hearthOf p)) ^^^ wd (2 ^ indexOf p))

/-- The session region of a pair as local memory holds it. -/
def State.region (s : State) (p : Nat) (x : Session) : List Byte :=
  (s.pair p).lmem.bytes zeroByte (s.sessionBase x) (s.sessionSize x)
/-- A word of the session region of a pair is known to be uncorrectable. -/
def State.regionFlawed (s : State) (p : Nat) (x : Session) : Bool :=
  (List.range (s.sessionSize x / 4)).any (fun i => s.flawed p (s.sessionBase x + 4 * i))

/-- The session region restored from the record that CKSEL names (R50, R128, R133). -/
def State.restoreRegion (s : State) (p : Nat) (x : Session) : State :=
  let bs := s.hbytes (ckOff p (s.cksel p) + 32) (s.sessionSize x)
  s.writeMem p (s.sessionBase x) bs

/-- The session of a pair restored in place from its last checkpoint, to be verified before the next job starts (R521). -/
def State.restoreInPlace (s : State) (p : Nat) : State :=
  match s.sessionOn p with
  | some x =>
    if x.state = .loaded then
      { (s.restoreRegion p x) with ckVerify := if s.ckVerify.contains p then s.ckVerify else s.ckVerify ++ [p] }
    else s
  | none => s

/-- A pair that was reset alone and keeps its session (R133): the image reloaded and the checkpoint restored. -/
def State.reloadInPlace (s : State) (p : Nat) : State :=
  match s.sessionOn p with
  | some x => if x.state = .loaded then (s.loadImage p x).restoreInPlace p else s
  | none => s

end Sys2Proof.Machine
end

