-- ==== Sys2Proof/Machine/Status.lean ====
section
/-! DEFINITION. The status codes of R206. -/

namespace Sys2Proof.Machine

abbrev St.ok : Nat := 0x0000
abbrev St.okReplayed : Nat := 0x0001
abbrev St.busy : Nat := 0x0100
abbrev St.queueFull : Nat := 0x0101
abbrev St.deadline : Nat := 0x0200
abbrev St.refusedDeadline : Nat := 0x0201
abbrev St.param : Nat := 0x0300
abbrev St.range : Nat := 0x0301
abbrev St.curve : Nat := 0x0302
abbrev St.keyExhausted : Nat := 0x0400
abbrev St.keyAbsent : Nat := 0x0401
abbrev St.keyReplacing : Nat := 0x0402
abbrev St.policy : Nat := 0x0500
abbrev St.lifecycle : Nat := 0x0501
abbrev St.faultHw : Nat := 0x0600
abbrev St.faultSw : Nat := 0x0601
abbrev St.portDisabled : Nat := 0x0700
abbrev St.portAbsent : Nat := 0x0701
abbrev St.bankBusy : Nat := 0x0702
abbrev St.tampered : Nat := 0x0800

end Sys2Proof.Machine
end

