-- ==== Sys2Proof/Machine/Jobs.lean ====
section
/-! DEFINITION. Jobs and their end: the job armed on a pair, the release of a reply, what abandoning an attempt discards
(R114, R122, R174, R237, R260), the triple fault (R86, R133, R135), and raising an exception (R77, R83–R86, R522). -/

namespace Sys2Proof.Machine

/-! ## Jobs -/

/-- The job armed on a pair. -/
def State.armedJob (s : State) (p : Nat) : Option Job := s.jobs.find? (fun j => j.pair == p && j.phase == .running)

/-- Two records name the same command. -/
def sameCmd (a b : Job) : Bool := a.src == b.src && a.tag == b.tag && a.j == b.j && a.pair == b.pair

/-- The state with a job replaced by its new record. -/
def State.setJob (s : State) (j j' : Job) : State :=
  { s with jobs := s.jobs.map (fun k => if sameCmd k j then j' else k) }
/-- A session whose close did not commit is open again (R519). -/
def reopened (j : Job) (x : Session) : Session :=
  if j.opcode = 0x203 ∧ x.handle = leAt j.params 0 2 ∧ x.tenant = j.tenant then { x with closing := false } else x
/-- The state without a job. -/
def State.dropJob (s : State) (j : Job) : State :=
  { s with jobs := s.jobs.filter (fun k => !sameCmd k j), sessions := s.sessions.map (reopened j) }
/-- The state with the job armed on a pair changed. -/
def State.updArmed (s : State) (p : Nat) (f : Job → Job) : State :=
  match s.armedJob p with
  | some j => s.setJob j (f j)
  | none => s

/-- Any Beat from a command's arrival until now was untrusted (R42). -/
def State.untrustedSince (s : State) (t : Nat) : Bool :=
  !s.trusted || (match s.beat.lastUntrusted with
    | some u => decide (t ≤ u)
    | none => false)

/-- A reply without data. -/
def mkReply (status sub : Nat) : Reply := ⟨status, sub, [], [], false, false, 0, 0, 0⟩

/-- The port that a reply of a stream leaves by as a frame: a head port (R428). -/
def headPort : Stream → Option Nat
  | .head h => some (10 + h.val)
  | _ => none

/-- The REPLY frames of a head that are released and not sent end with PORT_DISABLED, as its port is out of service (R28): each is
logged with its J, and is to be discarded and counted. -/
def State.refuseReplies (s : State) (src : Stream) : State :=
  match (headPort src) with
  | none => s
  | some n =>
    let mine := fun (t : Taken) => t.src == src && t.reply.isSome && !t.lost
    let s := (s.taken.filter mine).foldl (fun s t => s.logEvent Src.port St.portDisabled n t.j 0 0) s
    { s with taken := s.taken.map (fun t => if mine t then { t with lost := true } else t) }

/-- A command's reply released (R205), wherever it goes: stamped with the Beat, J and the detail bits of R42 and R130. It is held if an
earlier ordered command of its queue has not been written (R208). `off` are the ports out of service at its commit. -/
def State.releaseReply (s : State) (src : Stream) (tag : Nat) (r : Reply) (j : Word) (degraded : Bool) (off : Option (List Nat)) :
    State :=
  { s with taken := s.taken.mapIdx (fun i t =>
      if t.src == src && t.tag == tag && t.j == j && t.reply.isNone then
        { t with
          off := off
          reply := some { r with beat := s.beatNow, j := j, degraded := degraded || r.degraded, untrusted := s.untrustedSince t.tArr }
          held := !t.unordered && (s.taken.take i).any (fun u => u.src == src && !u.unordered && !u.lost) }
      else t) }

/-- A command's reply released: a frame to a head port out of service is refused there (R28). -/
def State.release (s : State) (src : Stream) (tag : Nat) (r : Reply) (j : Word) (degraded : Bool) : State :=
  let t := s.releaseReply src tag r j degraded none
  if ((headPort src).map (fun n => !s.flag (Fld.PG_UCTL_ENABLE n))).getD false then t.refuseReplies src else t

/-- The reply of a committed job released: clearing the ENABLE of its port after the commit store was performed does not stop it
(R29). -/
def State.releaseCommitted (s : State) (j : Job) (r : Reply) (degraded : Bool) : State :=
  let t := s.releaseReply j.src j.tag r j.j degraded (some j.portsOff)
  if ((headPort j.src).map (fun n => j.portsOff.contains n && !s.flag (Fld.PG_UCTL_ENABLE n))).getD false then t.refuseReplies j.src else t

/-- The pair runs away from its session's home hearth (R130). -/
def State.xh (s : State) (p : Nat) : Bool := s.flag (Fld.HRT_PST_XH (hearthOf p) (indexOf p))

/-- A pair's slot timer disarmed and PST.JOB cleared. -/
def State.disarm (s : State) (p : Nat) : State :=
  let s := s.updPair p (fun x => { x with slot := { x.slot with armed := false } })
  let s := s.setF (Fld.HRT_PST_JOB (hearthOf p) (indexOf p)) 0
  s.setF (Fld.HRT_PST_REPLAY (hearthOf p) (indexOf p)) 0

/-! ## Engines of an abandoned job -/

/-- A public-key engine. -/
def State.pkeOf (s : State) (h : Nat) : PkeEngine := s.pke.get (fun _ => {}) h
/-- The state with a public-key engine set. -/
def State.setPke (s : State) (h : Nat) (e : PkeEngine) : State := { s with pke := s.pke.set (fun _ => {}) h e }
/-- A symmetric engine, by global index. -/
def State.symOf (s : State) (i : Nat) : SymEngine := s.sym.get (fun _ => {}) i
/-- The state with a symmetric engine set. -/
def State.setSym (s : State) (i : Nat) (e : SymEngine) : State := { s with sym := s.sym.set (fun _ => {}) i e }

/-- A reservation of uses returned (R226, R250): its updates leave the attempt that staged them, where that attempt still runs. -/
def State.returnUses (s : State) (run : EngRun) : State :=
  s.updArmed run.req.pair (fun j =>
    if run.att = (j.j, j.attempt) then { j with updates := run.reserved.foldl (fun us u => us.erase u) j.updates } else j)

/-- The requests of a pair at one public-key engine withdrawn, and its running job cancelled: its reservation is returned, the engine
is wiped, and no result is written (R237, R183, R236). -/
def State.cancelPke (s : State) (p h : Nat) : State :=
  let e := s.pkeOf h
  let gone := e.reqs.filter (fun r => r.pair == p)
  let s := s.setPkeArb h (gone.foldl (fun a r => { a with waiting := a.waiting.eraseP (fun w => w.idx == r.idx) }) (s.pkeArbOf h))
  let s := s.setPke h { e with reqs := e.reqs.filter (fun r => r.pair != p) }
  match e.run with
  | some r =>
    if r.req.pair == p then
      let s := (s.returnUses r).setPke h { s.pkeOf h with run := none }
      let s := s.setPkeArb h { s.pkeArbOf h with inUse := none }
      let s := (s.setF (Fld.PKE_STAT_BUSY h) 0).setF (Fld.PKE_STAT_SELFTEST h) 0
      s.incWrap (Reg.PKE_JOBS h) 1
    else s
  | none => s

/-- The OP of a descriptor's words. -/
def descOp (ws : List Word) : Nat := fld 7 0 (ws.getD 0 0)
/-- The descriptor words of a request, as they stand in hearth memory. -/
def State.descWords (s : State) (r : EngReq) : List Word := toWords (s.hbytes r.desc 64)

/-- HRT<n>.UCTL.ENABLE. -/
def State.hearthEnabled (s : State) (h : Nat) : Bool := s.flag (Fld.HRT_UCTL_ENABLE h)

/-- A symmetric engine starts no descriptors (R243). -/
def State.symClosed (s : State) (i : Nat) : Bool :=
  !s.flag (Fld.SYM_UCTL_ENABLE (i / 4) (i % 4)) || !s.hearthEnabled (i / 4) || s.flag (Fld.SYM_STAT_FAILED (i / 4) (i % 4))

/-- STAT.QLEN and STAT.COPY brought up to date. -/
def State.symStat (s : State) (i : Nat) : State :=
  let e := s.symOf i
  let copying := e.copy.isSome || (match e.run with
    | some r => descOp r.words == 0x07
    | none => false)
  (s.setF (Fld.SYM_STAT_QLEN (i / 4) (i % 4)) e.queue.length).setF (Fld.SYM_STAT_COPY (i / 4) (i % 4)) (b2n copying)

/-- The next descriptor starts where the engine is free and open (R241): a waiting COPY_CKPT first. The engine has its words; its
checks come next. -/
def State.symNext (s : State) (i : Nat) : State :=
  let e := s.symOf i
  if e.run.isSome || s.symClosed i || s.flag (Fld.SYM_STAT_SELFTEST (i / 4) (i % 4)) then s
  else
    let next := match e.copy with
      | some r => some (r, { e with copy := none })
      | none => match e.queue with
        | r :: rs => some (r, { e with queue := rs })
        | [] => none
    match next with
    | none => s
    | some (r, e') =>
      let s := (s.setF (Fld.SYM_STAT_BUSY (i / 4) (i % 4)) 1).setF (Fld.SYM_STAT_CUR (i / 4) (i % 4)) r.idx
      (s.setSym i { e' with run := some { req := r, words := s.descWords r } }).symStat i

/-- The waiting descriptors of a pair at one symmetric engine removed, and its running job cancelled and wiped, with its reservation
returned and no result record (R260, R259); COPY_CKPT stays where a job is abandoned and the pair keeps its role. The next
descriptor then starts. -/
def State.cancelSym (s : State) (p i : Nat) (leaves : Bool) : State :=
  let e := s.symOf i
  let other := fun (r : EngReq) => r.pair != p
  let s := s.setSym i { e with queue := e.queue.filter other, copy := if leaves then e.copy.filter other else e.copy }
  let s := s.symStat i
  match e.run with
  | some r =>
    if r.req.pair == p && (leaves || descOp r.words != 0x07) then
      let s := (s.returnUses r).setSym i { s.symOf i with run := none }
      ((s.setF (Fld.SYM_STAT_BUSY (i / 4) (i % 4)) 0).symStat i).symNext i
    else s
  | none => s

/-- A front end. -/
def State.rfOf (s : State) (f : Nat) : RfUnit := s.rf.get (fun _ => {}) f
/-- The state with a front end set. -/
def State.setRf (s : State) (f : Nat) (u : RfUnit) : State := { s with rf := s.rf.set (fun _ => {}) f u }
/-- A contact card port. -/
def State.scOf (s : State) (n : Nat) : ScUnit := s.sc.get (fun _ => {}) n
/-- The state with a contact card port set. -/
def State.setSc (s : State) (n : Nat) (u : ScUnit) : State := { s with sc := s.sc.set (fun _ => {}) n u }

/-- What abandonment leaves of a queue of exchanges whose first one may be running (R405): the queued ones of the pair are
removed, the running one stays; and whether the running one is of that pair. -/
def keepExch (q : List PortExch) (running : Bool) (p : Nat) : List PortExch × Bool :=
  let own := fun (x : PortExch) => x.req.pair == p
  if running then (q.take 1 ++ (q.drop 1).filter (fun x => !own x), (q.take 1).any own) else (q.filter (fun x => !own x), false)

/-- The exchanges of a pair whose job is abandoned or whose role ends: queued ones are removed, a running one will write no
result (R405; log 30). -/
def State.cancelExchanges (s : State) (p : Nat) : State :=
  let s := (List.range 4).foldl (fun s f =>
    let u := s.rfOf f
    let k := keepExch u.queue u.result.isSome p
    (s.setRf f { u with queue := k.1, silent := u.silent || k.2 }).setF (Fld.RF_STAT_XQ f) k.1.length) s
  (List.range 2).foldl (fun s n =>
    let u := s.scOf n
    let k := keepExch u.queue u.result.isSome p
    (s.setSc n { u with queue := k.1, silent := u.silent || k.2 }).setF (Fld.SC_STAT_XQ n) k.1.length) s

/-- The engine requests of a pair whose job is abandoned, or which leaves its role (R237, R260, R405; log 83). -/
def State.cancelEngines (s : State) (p : Nat) (leaves : Bool) : State :=
  let s := (List.range 16).foldl (fun s h => s.cancelPke p h) s
  let s := (List.range 64).foldl (fun s i => s.cancelSym p i leaves) s
  s.cancelExchanges p

/-! ## The end of a job -/

/-- A session that a job was opening and will not: its record, its load job and its pair are given back (R115, R119). -/
def State.dropOpened (s : State) (e : Effect) : State :=
  match e with
  | .openSession h =>
    match s.sessions.find? (fun x => x.handle == h) with
    | some x =>
      let loads := s.jobs.any (fun j => j.pair == x.pair && j.src == Stream.load)
      let s := { s with
        sessions := s.sessions.filter (fun y => y.handle != h)
        jobs := s.jobs.filter (fun j => !(j.pair == x.pair && j.src == Stream.load)) }
      if loads || x.state == .loaded then
        ((s.disarm x.pair).setRole x.pair Role.free).cancelEngines x.pair true
      else s
    | none => s
  | _ => s

/-- A job ended without commit by a reply: its staged items go with its record, and where it is the job armed on its pair the slot timer
is disarmed and PST.JOB cleared. A deadline exception that is pending stays so (R81). -/
def State.endJobWith (s : State) (j : Job) (r : Reply) : State :=
  let s := s.release j.src j.tag r j.j (s.xh j.pair)
  let s := j.effects.foldl State.dropOpened (s.dropJob j)
  if j.phase = .running then s.disarm j.pair else s

/-- A job ended without commit with a status. -/
def State.endJob (s : State) (j : Job) (status sub : Nat) : State := s.endJobWith j (mkReply status sub)

/-! ## Flues of a pair that stops -/

/-- Word `i` of the slot of channel c (R168). -/
abbrev slotOff (c i : Nat) : Nat := 0x20000 + 32 * c + 4 * i
/-- The slot of a channel zeroed. -/
def State.zeroSlot (s : State) (c : Nat) : State :=
  { s with regs := s.regs.drop (fun k => decide (slotOff c 0 ≤ k ∧ k < slotOff c 8)) }
/-- The channel's slot is full. -/
def State.flueIsFull (s : State) (c : Nat) : Bool := s.flag (Fld.CHAN_W0_FULL c)

/-- Flue control at the entry of a pair into SELFTEST or its triple fault (R174). -/
def State.flueStop (s : State) (p : Nat) : State :=
  (List.range 2048).foldl (fun s c =>
    if !s.flag (Fld.CHAN_W0_EN c) then s
    else if s.flueIsFull c then
      if s.getF (Fld.CHAN_W0_RECV c) = p then
        ((s.setF (Fld.CHAN_W0_FULL c) 0).zeroSlot c).incSat Reg.FLUE_DROP_CNT
      else s
    else if s.getF (Fld.CHAN_W0_SEND c) = p then s.zeroSlot c
    else s) s

/-- A pair's copies under R515 cleared. -/
def State.clearCopies (s : State) (p : Nat) : State :=
  { s with mregs := s.mregs.drop (fun k => k % 1024 == p), holds := s.holds.drop (fun k => k % 1024 == p) }

/-! ## Reset of a pair -/

/-- What Furdauc programs on a pair: gs0 (R67), and the gate registers 0–3 and CALL0–CALL3 (R72): they enter ring 0 at entries that
the manual does not give, and are callable from ring 1 (log 4). -/
def Pair.programGates (x : Pair) : Pair :=
  let x := (List.range 4).foldl (fun x n => x.setS (SR.ge n) (0xFFFF0000#32 + (Config.gateEntry n).setWidth 32 <<< 2)) x
  (x.setS SR.gcall 0x55#32).setS (SR.gs 0) Config.monitorStack

/-- `n` instructions of Furdauc have retired (R63): how many is not in the manual (log 4). -/
def Pair.ran (x : Pair) (n : Word) : Pair := x.setS SR.cnt (x.sreg SR.cnt + n)

/-- An MPU ATTR word. -/
def mkAttr (size minring : Nat) (dev x w r : Bool) : Word :=
  wd (2 ^ 31 + 256 * size + 64 * minring + 32 * b2n dev + 4 * b2n x + 2 * b2n w + b2n r)

/-- The three MPU regions of R479. -/
def supervisorRules : Table Word :=
  [(0x00, 0x10000000#32), (0x04, mkAttr 22 1 false true true true), (0x08, 0x40000000#32),
   (0x0C, mkAttr 24 1 true false true true), (0x14, mkAttr 16 1 false false true true)]

/-- The offset in bank 0 of the supervisor image in use (R478, BOOT.IMG). -/
def State.imageBase (s : State) : Nat := if s.flag Fld.SYS_BOOT_IMG then 0x100000 else 0

/-- A supervisor pair entered into its image in ring 1 at ENTRY, with g2 = 0 and g3 as given (R135, R479): Furdauc, on its own stack,
leaves ring 0 by ret.g, with the exchange of R67 and the new rules of R149. -/
def State.enterSupervisor (s : State) (x : Pair) (g3 : Word) : Pair :=
  let entry := wd (leAt (s.nbytes s.imageBase 64) 0x14 4)
  let x := { (x.setG 2 Config.monitorStack) with mpuW := supervisorRules, pc := entry }
  let x := (x.exchange 0 1).applyRules 0 1
  ((x.setPstat 1 false false false false).setG 2 0).setG 3 g3

/-- A supervisor pair enters its image, after as many instructions of Furdauc as the manual does not say (log 4). -/
def State.startSupervisor (s : State) (p : Nat) (x : Pair) (g3 : Word) : State :=
  let r := s.freshBytes 4
  r.2.setPair p (s.enterSupervisor (x.ran (wd (ofLe r.1))) g3)

/-- A pair reset alone after a triple fault: its core registers and core-local block at their reset values, the gates as
Furdauc programs them, a supervisor pair restarted in its image, and a session reloaded and restored (R133, R135). -/
def State.restartPair (s : State) (p : Nat) : State :=
  let x := (s.pair p).restart.programGates
  if s.isSupervisor p && s.flag Fld.SYS_BOOT_READY then s.startSupervisor p x 2 else (s.setPair p x).reloadInPlace p

/-- A triple fault (R86, R133, R135): the job ends with FAULT_SW, engines and flues act under R237 and R174, the pair's
copies are cleared, and the pair resets alone. -/
def State.tripleFault (s : State) (p : Nat) : State :=
  let j := s.armedJob p
  let s := s.logEvent Src.pair 0x05 p ((j.map (·.j)).getD 0) (wd ((j.map (·.opcode)).getD 0)) 0
  let s := match j with
    | some j => s.endJob j 0x0601 0
    | none => s
  let s := ((s.cancelEngines p false).flueStop p).dropAccesses p
  (s.clearCopies p).restartPair p

/-! ## Raising an exception -/

/-- The double-fault sequence and the handler of Furdauc (R84, R85): the pair enters ring 1 with DF and EXL set, cnt advanced by the
handler's instructions (R63; log 4), and an event-log entry holds xpc and xstat. -/
def State.doubleFault (s : State) (p k : Nat) (xpc : Word) (clearImp : Bool) : State :=
  let r := s.freshBytes 4
  let x := (((s.pair p).doubleFault k xpc clearImp).ran (wd (ofLe r.1))).handover
  (r.2.setPair p x).logEvent Src.pair 0x04 p xpc (x.sreg SR.xstat) 0

/-- The deadline exception is pending no more once it is taken (R81). -/
def Pair.took (x : Pair) (e : Exc) : Pair := if e.code = Cause.deadline then { x with deadline := none } else x

/-- An exception with code k and eval v raised at the pair's PC (R77, R84, R86). A read of a running erase's sector first
suspends the erase (R320). -/
def State.raise (s : State) (p : Nat) (e : Exc) : State :=
  let s := if e.code = Cause.eraseSuspended then s.touchBank (s.readBank (e.eval.toNat - 0x20000000)) else s
  let x := s.pair p
  if x.df then s.tripleFault p
  else if x.exl then s.doubleFault p e.code x.pc false
  else s.setPair p ((x.enter e.code e.eval false false).took e)

/-- The pending imprecise arithmetic exception taken before the instruction at the pair's PC (R83, R522). -/
def State.takeImprecise (s : State) (p : Nat) (i : Imprecise) : State :=
  let x := s.pair p
  if x.df then s.tripleFault p
  else if x.exl then s.doubleFault p i.code i.pc true
  else s.setPair p (x.enter i.code i.pc true i.multi)

/-! ## Device interrupt -/

/-- A unit's drain interrupt is pending (R26): DRAINEV and DRAIN_IE of the UCTL at an offset. -/
def State.drainIrq (s : State) (o : Nat) : Bool := bit 2 (s.reg o) && bit 1 (s.reg o)

/-- HRT<n> has a pending interrupt (R517): mismatch, arbiter starvation, engine FAILED, drain of the hearth or its
engines. -/
def State.hearthIrq (s : State) (n : Nat) : Bool :=
  s.flag (Fld.HRT_MISM_VALID n) || s.flag (Fld.HRT_PKE_ARB_STAT_STARVE n) || s.flag (Fld.HRT_BANK_ARB_STAT_STARVE n) ||
  s.flag (Fld.PKE_STAT_FAILED n) || (List.range 4).any (fun k => s.flag (Fld.SYM_STAT_FAILED n k)) ||
  s.drainIrq (Reg.HRT_UCTL n) || s.drainIrq (Reg.PKE_UCTL n) || (List.range 4).any (fun k => s.drainIrq (Reg.SYM_UCTL n k))

/-- SYS.IRQ_SRC (R517): each bit reads 1 while its unit has a pending interrupt that its enable field permits. -/
def State.irqSrc (s : State) : Word :=
  let hearths := (List.range 16).foldl (fun v n => v + b2n (s.hearthIrq n) * 2 ^ (16 + n)) 0
  let pg := (List.range 128).any (fun n => s.drainIrq (Reg.PG_UCTL n))
  let rf := (List.range 4).any (fun f => s.flag (Fld.RF_STAT_FLDCHG f) && s.flag (Fld.RF_CFG_FLD_IE f))
  let crt := (List.range 8).any (fun k => (s.flag (Fld.CRT_JSTAT_JREQ k) && s.flag (Fld.CRT_CFG_JREQ_IE k)) ||
    (s.cartDet.contains k && s.flag (Fld.CRT_CFG_DET_IE k)))
  let weave := s.flag Fld.WEAVE_BSTAT_MASTER_CHG || s.flag Fld.WEAVE_BSTAT_CONFLICT || s.mirrorConflict
  let host := (List.range 2).any (fun l => s.flag (Fld.HOST_LSTAT_RETRAIN l) ||
    (s.flag (Fld.HOST_LCTL_ERR_IE l) && s.flag (Fld.HOST_LSTAT_QERR l)))
  let ledg := s.flag Fld.LEDG_CTRL_ERR_IE && (s.flag Fld.LEDG_STAT_DIRERR || s.flag Fld.LEDG_STAT_TORNEV)
  let nvmc := (s.flag Fld.NVMC_OPSTAT_DONE && s.flag Fld.NVMC_CTRL_OP_IE) ||
    (s.flag Fld.NVMC_REFRESH_DONE && s.flag Fld.NVMC_CTRL_REF_IE) || s.flag Fld.NVMC_ARB_STAT_STARVE
  let rng := s.flag Fld.RNG_CTRL_FAIL_IE && s.getF Fld.RNG_STAT_SRC_FAIL != 0
  let tamp := s.flag Fld.TAMP_ALARM_VALID || s.flag Fld.TAMP_STAT_GATED
  let beat := (s.flag Fld.BEAT_STATUS_LOSS && s.flag Fld.BEAT_CTRL_LOSS_IE) ||
    (s.flag Fld.BEAT_STATUS_SWITCH && s.flag Fld.BEAT_CTRL_SWITCH_IE)
  wd (hearths + 512 * b2n pg + 256 * b2n rf + 128 * b2n crt + 64 * b2n weave + 32 * b2n host + 16 * b2n ledg +
    8 * b2n nvmc + 4 * b2n rng + 2 * b2n tamp + b2n beat)

/-- The device interrupt condition (R517). -/
def State.deviceIrq (s : State) : Bool := (s.irqSrc &&& s.reg Reg.SYS_IRQ_EN) != 0

end Sys2Proof.Machine
end

