-- ==== Sys2Proof/Machine/Lattice.lean ====
section
/-! DEFINITION. ML-KEM (FIPS 203) and ML-DSA (FIPS 204), which R222 and R223 name, with the encodings of those standards (log 22).
A polynomial is the list of its 256 coefficients, each below q. -/

namespace Sys2Proof.Machine

/-! ## Polynomials -/

/-- A polynomial. -/
abbrev Poly := List Nat

/-- The zero polynomial. -/
def polyZero : Poly := List.replicate 256 0
/-- The sum modulo q. -/
def polyAdd (q : Nat) (a b : Poly) : Poly := List.zipWith (fun x y => (x + y) % q) a b
/-- The difference. -/
def polySub (q : Nat) (a b : Poly) : Poly := List.zipWith (fun x y => subMod x y q) a b
/-- The product coefficient by coefficient. -/
def polyPoint (q : Nat) (a b : Poly) : Poly := List.zipWith (fun x y => x * y % q) a b

/-- The bytes of coefficients of `d` bits each, in order. -/
def polyBytes (d : Nat) (f : Poly) : List Byte := leBytes (ceilDiv (d * f.length) 8) (f.foldr (fun x acc => x % 2 ^ d + 2 ^ d * acc) 0)

/-- `n` values of `d` bits each, taken from a natural. -/
def splitBits (d : Nat) : Nat → Nat → List Nat
  | 0, _ => []
  | n + 1, v => v % 2 ^ d :: splitBits d n (v / 2 ^ d)

/-- 256 values of `d` bits each. -/
def polyOf (d : Nat) (bs : List Byte) : Poly := splitBits d 256 (ofLe bs)

/-- Consecutive parts of `n` bytes. -/
def partsOf (n k : Nat) (bs : List Byte) : List (List Byte) := (List.range k).map (fun i => slice bs (n * i) n)

/-- The first 256 of a list of samples, filled with zeros where the stream held fewer (log 22). -/
def first256 (xs : List Nat) : Poly := let t := xs.take 256; t ++ List.replicate (256 - t.length) 0

/-- The product of a matrix, given by its rows, and a vector, under a product and a sum of polynomials. -/
def matVec (mul add : Poly → Poly → Poly) (rows : List (List Poly)) (v : List Poly) : List Poly :=
  rows.map (fun r => (List.zipWith mul r v).foldl add polyZero)

/-! ## ML-KEM -/

/-- η1, du and dv of a parameter k; η2 is 2. -/
def kemEta1 (k : Nat) : Nat := if k = 2 then 3 else 2
/-- The bits of a compressed coefficient of u. -/
def kemDu (k : Nat) : Nat := if k = 4 then 11 else 10
/-- The bits of a compressed coefficient of v. -/
def kemDv (k : Nat) : Nat := if k = 4 then 5 else 4

/-- Compression of a polynomial to `d` bits a coefficient. -/
def kemCompress (d : Nat) (f : Poly) : Poly := f.map (fun x => (2 ^ d * x + 1664) / 3329 % 2 ^ d)
/-- Decompression. -/
def kemDecompress (d : Nat) (f : Poly) : Poly := f.map (fun x => (3329 * x + 2 ^ (d - 1)) / 2 ^ d)

/-- The product of two transforms: pairs of coefficients modulo X² − ζ^(2·BitRev7(i) + 1). -/
def kemMul (a b : Poly) : Poly :=
  (List.range 128).flatMap (fun i =>
    let a0 := a.getD (2 * i) 0
    let a1 := a.getD (2 * i + 1) 0
    let b0 := b.getD (2 * i) 0
    let b1 := b.getD (2 * i + 1) 0
    [(a0 * b0 + a1 * b1 % 3329 * powMod 17 (2 * bitRev 7 i + 1) 3329) % 3329, (a0 * b1 + a1 * b0) % 3329])

/-- The values below q in a stream of 12-bit candidates, two in three bytes. -/
def kemReject (bs : List Byte) : List Nat := (splitBits 12 (bs.length / 3 * 2) (ofLe bs)).filter (fun x => decide (x < 3329))

/-- A uniform transform of a seed. -/
def kemUniform (seed : List Byte) : Poly := first256 (kemReject (shake128 1344 seed))

/-- A polynomial of the centred binomial distribution from 64·η bytes. -/
def kemBinomial (eta : Nat) (bs : List Byte) : Poly :=
  (splitBits (2 * eta) 256 (ofLe bs)).map (fun v =>
    let ones := fun (x : Nat) => (List.range eta).countP (fun j => x / 2 ^ j % 2 == 1)
    subMod (ones (v % 2 ^ eta)) (ones (v / 2 ^ eta)) 3329)

/-- The polynomial of the distribution from a seed and a number. -/
def kemNoise (eta : Nat) (seed : List Byte) (n : Nat) : Poly := kemBinomial eta (shake256 (64 * eta) (seed ++ [byte n]))

/-- The matrix of a seed, by rows. -/
def kemMatrix (k : Nat) (rho : List Byte) : List (List Poly) :=
  (List.range k).map (fun i => (List.range k).map (fun j => kemUniform (rho ++ [byte j, byte i])))

/-- The transpose of a square matrix of polynomials. -/
def transposed (k : Nat) (m : List (List Poly)) : List (List Poly) :=
  (List.range k).map (fun i => (List.range k).map (fun j => (m.getD j []).getD i []))

/-- Key generation of the encryption scheme: encryption key and decryption key. -/
def kemPkeKeys (k : Nat) (d : List Byte) : List Byte × List Byte :=
  let g := sha3x512 (d ++ [byte k])
  let s := (List.range k).map (fun i => ntt3329 (kemNoise (kemEta1 k) (g.drop 32) i))
  let e := (List.range k).map (fun i => ntt3329 (kemNoise (kemEta1 k) (g.drop 32) (k + i)))
  let t := List.zipWith (polyAdd 3329) (matVec kemMul (polyAdd 3329) (kemMatrix k (g.take 32)) s) e
  (t.flatMap (polyBytes 12) ++ g.take 32, s.flatMap (polyBytes 12))

/-- Encryption of 32 bytes with 32 bytes of randomness. -/
def kemPkeEncrypt (k : Nat) (ek m r : List Byte) : List Byte :=
  let t := (partsOf 384 k ek).map (fun b => (polyOf 12 b).map (· % 3329))
  let y := (List.range k).map (fun i => ntt3329 (kemNoise (kemEta1 k) r i))
  let e1 := (List.range k).map (fun i => kemNoise 2 r (k + i))
  let tr := transposed k (kemMatrix k (slice ek (384 * k) 32))
  let u := List.zipWith (polyAdd 3329) ((matVec kemMul (polyAdd 3329) tr y).map intt3329) e1
  let ty := intt3329 ((List.zipWith kemMul t y).foldl (polyAdd 3329) polyZero)
  let v := polyAdd 3329 (polyAdd 3329 ty (kemNoise 2 r (2 * k))) (kemDecompress 1 (polyOf 1 m))
  u.flatMap (fun f => polyBytes (kemDu k) (kemCompress (kemDu k) f)) ++ polyBytes (kemDv k) (kemCompress (kemDv k) v)

/-- Decryption. -/
def kemPkeDecrypt (k : Nat) (dk c : List Byte) : List Byte :=
  let u := (partsOf (32 * kemDu k) k c).map (fun b => kemDecompress (kemDu k) (polyOf (kemDu k) b))
  let v := kemDecompress (kemDv k) (polyOf (kemDv k) (c.drop (32 * kemDu k * k)))
  let s := (partsOf 384 k dk).map (polyOf 12)
  polyBytes 1 (kemCompress 1 (polySub 3329 v
    (intt3329 ((List.zipWith kemMul s (u.map ntt3329)).foldl (polyAdd 3329) polyZero))))

/-- ML-KEM key generation: the encapsulation key of a seed d ‖ z (R223). -/
def mlkemPublic (k : Nat) (seed : List Byte) : List Byte := (kemPkeKeys k (slice seed 0 32)).1

/-- The modulus check: every coefficient of an encapsulation key is below q (R228). -/
def mlkemKeyOk (k : Nat) (ek : List Byte) : Bool :=
  (partsOf 384 k ek).all (fun b => (polyOf 12 b).all (fun x => decide (x < 3329)))

/-- Encapsulation with 32 random bytes: ciphertext and shared key. -/
def mlkemEncap (k : Nat) (ek m : List Byte) : List Byte × List Byte :=
  let g := sha3x512 (m ++ sha3x256 ek)
  (kemPkeEncrypt k ek m (g.drop 32), g.take 32)

/-- Decapsulation under a seed d ‖ z: the shared key, or the rejection key where re-encryption differs (R223). -/
def mlkemDecap (k : Nat) (seed c : List Byte) : List Byte :=
  let keys := kemPkeKeys k (slice seed 0 32)
  let m := kemPkeDecrypt k keys.2 c
  let g := sha3x512 (m ++ sha3x256 keys.1)
  if kemPkeEncrypt k keys.1 m (g.drop 32) = c then g.take 32 else shake256 32 (slice seed 32 32 ++ c)

/-! ## ML-DSA -/

/-- The modulus of ML-DSA. -/
def dsaQ : Nat := 8380417

/-- The parameters of ML-DSA: k, l, η, τ, the bytes of the challenge, γ1, γ2 and ω. -/
structure Dsa where
  k : Nat
  l : Nat
  eta : Nat
  tau : Nat
  chal : Nat
  g1 : Nat
  g2 : Nat
  om : Nat
  deriving DecidableEq, Repr

/-- The parameters of a PARAM (R223): ML-DSA-44, -65 or -87. -/
def dsaOf (param : Nat) : Dsa :=
  if param = 2 then { k := 4, l := 4, eta := 2, tau := 39, chal := 32, g1 := 131072, g2 := 95232, om := 80 }
  else if param = 3 then { k := 6, l := 5, eta := 4, tau := 49, chal := 48, g1 := 524288, g2 := 261888, om := 55 }
  else { k := 8, l := 7, eta := 2, tau := 60, chal := 64, g1 := 524288, g2 := 261888, om := 75 }

/-- β. -/
def Dsa.beta (c : Dsa) : Nat := c.tau * c.eta

/-- The magnitude of the centred residue of a value below q. -/
def dsaMag (x : Nat) : Nat := min x (dsaQ - x)

/-- The largest magnitude of a vector. -/
def dsaNorm (v : List Poly) : Nat := v.foldl (fun n f => f.foldl (fun n x => max n (dsaMag x)) n) 0

/-- Coefficients b − v of values v of `d` bits. -/
def dsaUnpack (d b : Nat) (bs : List Byte) : Poly := (polyOf d bs).map (fun v => subMod (b % dsaQ) v dsaQ)
/-- The bytes of coefficients of at most b, as values b − x of `d` bits. -/
def dsaPack (d b : Nat) (f : Poly) : List Byte := polyBytes d (f.map (fun x => subMod b x dsaQ))

/-- The bits of a coefficient of z. -/
def Dsa.zBits (c : Dsa) : Nat := bitLen (c.g1 - 1) + 1

/-- A uniform transform of a seed: values of 23 bits below q. -/
def dsaUniform (seed : List Byte) : Poly :=
  first256 (((splitBits 24 448 (ofLe (shake128 1344 seed))).map (· % 2 ^ 23)).filter (fun x => decide (x < dsaQ)))

/-- A polynomial with coefficients between −η and η from a seed. -/
def dsaShort (eta : Nat) (seed : List Byte) : Poly :=
  first256 ((splitBits 4 2176 (ofLe (shake256 1088 seed))).filterMap (fun b =>
    if eta = 2 then (if b < 15 then some (subMod 2 (b % 5) dsaQ) else none)
    else (if b < 9 then some (subMod 4 b dsaQ) else none)))

/-- The matrix of a seed, by rows. -/
def dsaMatrix (c : Dsa) (rho : List Byte) : List (List Poly) :=
  (List.range c.k).map (fun r => (List.range c.l).map (fun s => dsaUniform (rho ++ [byte s, byte r])))

/-- The mask of a seed and a counter. -/
def dsaMask (c : Dsa) (rho : List Byte) (n : Nat) : List Poly :=
  (List.range c.l).map (fun i => dsaUnpack c.zBits c.g1 (shake256 (32 * c.zBits) (rho ++ leBytes 2 (n + i))))

/-- The high part of a coefficient in steps of 2^13, and what is left of it modulo q. -/
def dsaPower (r : Nat) : Nat × Nat :=
  let hi := (r + 4095) / 8192
  (hi, subMod r (hi * 8192) dsaQ)

/-- The high and the low part of a coefficient in steps of 2·γ2, the low part modulo q. -/
def dsaParts (g2 r : Nat) : Nat × Nat :=
  let hi := (r + g2 - 1) / (2 * g2)
  if hi * (2 * g2) = dsaQ - 1 then (0, subMod r (dsaQ - 1) dsaQ |> fun x => subMod x 1 dsaQ)
  else (hi, subMod r (hi * (2 * g2)) dsaQ)

/-- The high part moved by a hint. -/
def dsaUseHint (g2 h r : Nat) : Nat :=
  let m := (dsaQ - 1) / (2 * g2)
  let p := dsaParts g2 r
  if h = 0 then p.1
  else if 0 < p.2 ∧ p.2 ≤ g2 then (p.1 + 1) % m
  else (p.1 + m - 1) % m

/-- One step of the challenge: the next byte that is at most i names the coefficient that moves to place i. -/
def dsaPlace (a : Poly) (st : List Byte) (i sign : Nat) : Poly × List Byte :=
  match st.dropWhile (fun b => decide (i < b.toNat)) with
  | [] => (a, [])
  | b :: st => ((a.set i (a.getD b.toNat 0)).set b.toNat (if sign = 1 then dsaQ - 1 else 1), st)

/-- The challenge polynomial of a seed: τ coefficients are 1 or −1. -/
def dsaBall (c : Dsa) (seed : List Byte) : Poly :=
  let st := shake256 1088 seed
  let signs := leAt st 0 8
  ((List.range c.tau).foldl (fun (acc : Poly × List Byte) n =>
    dsaPlace acc.1 acc.2 (256 - c.tau + n) (signs / 2 ^ n % 2)) (polyZero, st.drop 8)).1

/-- The bytes of the high parts of a vector. -/
def dsaHighBytes (c : Dsa) (w : List Poly) : List Byte := w.flatMap (polyBytes (bitLen ((dsaQ - 1) / (2 * c.g2) - 1)))

/-- The product of a matrix of transforms and a vector of transforms. -/
def dsaMatVec (a : List (List Poly)) (v : List Poly) : List Poly := matVec (polyPoint dsaQ) (polyAdd dsaQ) a v

/-- What a seed expands to: public key, key of the private randomness, hash of the public key, matrix, and the transforms of
s1, s2 and t0. -/
structure DsaKey where
  pk : List Byte
  k : List Byte
  tr : List Byte
  a : List (List Poly)
  s1 : List Poly
  s2 : List Poly
  t0 : List Poly
  deriving DecidableEq, Repr

/-- The expansion of a seed. -/
def dsaKey (c : Dsa) (xi : List Byte) : DsaKey :=
  let h := shake256 128 (slice xi 0 32 ++ [byte c.k, byte c.l])
  let rho := h.take 32
  let a := dsaMatrix c rho
  let s := (List.range (c.l + c.k)).map (fun i => dsaShort c.eta (slice h 32 64 ++ leBytes 2 i))
  let s1 := (s.take c.l).map nttDsa
  let t := List.zipWith (polyAdd dsaQ) ((dsaMatVec a s1).map inttDsa) (s.drop c.l)
  let pk := rho ++ t.flatMap (fun f => polyBytes 10 (f.map (fun x => (dsaPower x).1)))
  { pk := pk, k := h.drop 96, tr := shake256 64 pk, a := a, s1 := s1, s2 := (s.drop c.l).map nttDsa
    t0 := t.map (fun f => nttDsa (f.map (fun x => (dsaPower x).2))) }

/-- The public key of a seed ξ. -/
def mldsaPublic (param : Nat) (xi : List Byte) : List Byte := (dsaKey (dsaOf param) xi).pk

/-- The bytes of a hint: the places of its ones, row by row, and the count up to each row. -/
def dsaHintBytes (c : Dsa) (h : List Poly) : List Byte :=
  let idx := h.map (fun f => (List.range 256).filter (fun j => f.getD j 0 == 1))
  let places := idx.flatten
  places.map byte ++ zeros (c.om - places.length) ++
    (List.range c.k).map (fun i => byte ((idx.take (i + 1)).flatten.length))

/-- One attempt at a signature, or none. -/
def dsaTry (c : Dsa) (key : DsaKey) (mu rho : List Byte) (n : Nat) : Option (List Byte) :=
  let y := dsaMask c rho (n * c.l)
  let w := (dsaMatVec key.a (y.map nttDsa)).map inttDsa
  let w1 := w.map (fun f => f.map (fun x => (dsaParts c.g2 x).1))
  let ch := shake256 c.chal (mu ++ dsaHighBytes c w1)
  let ct := nttDsa (dsaBall c ch)
  let times := fun (f : Poly) => inttDsa (polyPoint dsaQ ct f)
  let z := List.zipWith (polyAdd dsaQ) y (key.s1.map times)
  let r := List.zipWith (polySub dsaQ) w (key.s2.map times)
  let r0 := r.map (fun f => f.map (fun x => (dsaParts c.g2 x).2))
  if c.g1 - c.beta ≤ dsaNorm z ∨ c.g2 - c.beta ≤ dsaNorm r0 then none
  else
    let ct0 := key.t0.map times
    let h := List.zipWith (fun f g => List.zipWith (fun x y =>
      if (dsaParts c.g2 ((x + y) % dsaQ)).1 = (dsaParts c.g2 x).1 then 0 else 1) f g) r ct0
    if c.g2 ≤ dsaNorm ct0 ∨ c.om < (h.map List.sum).sum then none
    else some (ch ++ z.flatMap (dsaPack c.zBits c.g1) ++ dsaHintBytes c h)

/-- The first attempt that succeeds among `fuel` from number n on, with the attempts made. -/
def dsaAttempts (c : Dsa) (key : DsaKey) (mu rho : List Byte) : Nat → Nat → List Byte × Nat
  | 0, n => ([], n + 1)
  | fuel + 1, n =>
    match dsaTry c key mu rho n with
    | some sig => (sig, n + 1)
    | none => dsaAttempts c key mu rho fuel (n + 1)

/-- The signature of a context with its length and a message, under 32 random bytes, with the iterations it took; more than
255, the largest ITER_MAX (R234), stand for every larger count. -/
def mldsaSign (param : Nat) (xi m rnd : List Byte) : List Byte × Nat :=
  let c := dsaOf param
  let key := dsaKey c xi
  let mu := shake256 64 (key.tr ++ [0#8] ++ m)
  dsaAttempts c key mu (shake256 64 (key.k ++ rnd ++ mu)) 255 0

/-- The places of a hint in order, or none where they are not strictly rising. -/
def dsaRising : List Nat → Bool
  | a :: b :: r => decide (a < b) && dsaRising (b :: r)
  | _ => true

/-- The hint of its bytes, or none where they are malformed (R228). -/
def dsaHint (c : Dsa) (bs : List Byte) : Option (List Poly) :=
  let ends := (List.range c.k).map (fun i => (bs.getD (c.om + i) 0).toNat)
  let starts := 0 :: ends
  let rows := (List.range c.k).map (fun i =>
    ((bs.take (c.om)).drop (starts.getD i 0)).take (ends.getD i 0 - starts.getD i 0) |>.map BitVec.toNat)
  let total := ends.getLastD 0
  if !(List.range c.k).all (fun i => decide (starts.getD i 0 ≤ ends.getD i 0 ∧ ends.getD i 0 ≤ c.om)) then none
  else if !rows.all dsaRising || !((bs.take c.om).drop total).all (· == 0) then none
  else some (rows.map (fun r => (List.range 256).map (fun j => if r.contains j then 1 else 0)))

/-- The verdict on a public key, a context with its length and a message, and a signature; none where the hint is malformed
(R228). -/
def mldsaVerify (param : Nat) (pk m sig : List Byte) : Option Bool :=
  let c := dsaOf param
  let ch := slice sig 0 c.chal
  let z := (partsOf (32 * c.zBits) c.l (sig.drop c.chal)).map (dsaUnpack c.zBits c.g1)
  match dsaHint c (slice sig (c.chal + 32 * c.zBits * c.l) (c.om + c.k)) with
  | none => none
  | some h =>
    let mu := shake256 64 (shake256 64 pk ++ [0#8] ++ m)
    let ct := nttDsa (dsaBall c ch)
    let t1 := (partsOf 320 c.k (pk.drop 32)).map (fun b => nttDsa ((polyOf 10 b).map (fun x => x * 8192 % dsaQ)))
    let w := List.zipWith (fun f g => inttDsa (polySub dsaQ f (polyPoint dsaQ ct g)))
      (dsaMatVec (dsaMatrix c (slice pk 0 32)) (z.map nttDsa)) t1
    let w1 := List.zipWith (fun f g => List.zipWith (dsaUseHint c.g2) f g) h w
    some (decide (dsaNorm z < c.g1 - c.beta) && ch == shake256 c.chal (mu ++ dsaHighBytes c w1))

end Sys2Proof.Machine
end

