-- ==== Sys2Proof/Machine/Flue.lean ====
section
/-! DEFINITION. Flue control (R164–R177): the channel table, the slots and their deliveries and releases, doorbells, and how
an access that a unit decides ends for the pair that makes it (R98, R168). -/

namespace Sys2Proof.Machine

/-- How a unit decides an access: it is performed, or it ends in an exception at the pair that made it, in a state where
only what records the refusal has changed. -/
inductive Resp where
  | ok (s : State)
  | fail (s : State) (e : Exc)
  deriving DecidableEq, Repr

/-- The access ends in bus error (0x09) at an offset of the window. -/
def busAt (s : State) (o : Nat) : Resp := .fail s ⟨Cause.busError, wd (0x40000000 + o)⟩

/-- The state that an access leaves, whatever its outcome. -/
def Resp.state : Resp → State
  | .ok s => s
  | .fail s _ => s

/-- The exception that an access ends in. -/
def Resp.exc : Resp → Option Exc
  | .ok _ => none
  | .fail _ e => some e

/-! ## Instruction boundary -/

/-- The pair may execute: the hearths are released, it is neither in self-test nor out of use, it is not halted, and it
does not wait. -/
def State.runs (s : State) (p : Nat) : Bool :=
  s.released && s.role p != Role.selftest && s.role p != Role.retired && !(s.pair p).halted && !(s.pair p).waiting

/-- A precise exception of a pair at its boundary; a pending imprecise arithmetic exception goes before it (R75). -/
def State.raiseAt (s : State) (p : Nat) (e : Exc) : State :=
  match (s.pair p).imp with
  | some i => s.takeImprecise p i
  | none => s.raise p e

/-- What a pair's word access to offset o of the window comes to, given the unit's decision on the state in which the pair's posted
stores have been performed (R98, R151): the checks of R74 come first, the MPU's among them (R145), and a store to the window
is a reporting point (R83). -/
def State.pairAccess (s : State) (p o : Nat) (k : Access) (f : State → Resp) : State :=
  if !s.runs p then s
  else match (s.pair p).imp.filter (fun i => k == .store || decide (7 ≤ i.after)) with
    | some i => s.takeImprecise p i
    | none =>
      match s.dataExc p (0x40000000 + o) 4 k with
      | some e => s.raiseAt p e
      | none =>
        match f (s.drainStores p) with
        | .ok t => t
        | .fail t e => t.raiseAt p e

/-- A pair has the write rights of R512: it is in SUPERVISOR, or it runs ring 0 code, which carries identity 722 (R165). -/
def State.mayWrite (s : State) (p : Nat) : Bool := s.isSupervisor p || (s.pair p).ring == 0

/-- A register-access command of any master (R512, R513): a pair's access ends in bus error unless the pair has the write
rights, a host link's is dropped and counted in its MALF_CNT, and no other master but 722 writes registers. -/
def State.masterWrite (s : State) (m o : Nat) (f : State → Resp) : State :=
  if m < 512 then s.pairAccess m o .store (fun s => if s.mayWrite m then f s else busAt s o)
  else if m = 722 then (f s).state
  else if m = 512 ∨ m = 513 then s.incSat (Reg.HOST_MALF_CNT (m - 512))
  else s

/-! ## Identities -/

/-- The identity under which a master's copies, holds and flue decisions stand (R165): ring 0 code carries its own pair's. A command
of master 722 names no pair and is taken as ring 0 code of pair 0, the pair that boot runs on (DESIGN CHOICE; log 82). -/
def identOf (m : Nat) : Nat := if m = 722 then 0 else m

/-! ## Channels -/

/-- The master is a receiver of channel c (R167): RECV names it, or it is in SUPERVISOR and RECV is the alias; the sender
never is. -/
def State.isReceiver (s : State) (c m : Nat) : Bool :=
  let r := s.getF (Fld.CHAN_W0_RECV c)
  m != s.getF (Fld.CHAN_W0_SEND c) && (r == m || (r == 1023 && s.isSupervisor m))

/-- The master is the sender of channel c. -/
def State.isSender (s : State) (c m : Nat) : Bool := s.getF (Fld.CHAN_W0_SEND c) == m

/-- The channel is in use. -/
def State.flueEnabled (s : State) (c : Nat) : Bool := s.flag (Fld.CHAN_W0_EN c)

/-- A refusal recorded (R170): REFUSE, the count of its kind, and for a full slot or an unbound master an event-log
entry. `full` is KIND. -/
def State.flueRefuse (s : State) (c m : Nat) (full log : Bool) : State :=
  let s := s.setReg Reg.FLUE_REFUSE (wd (2 ^ 31 + 2 ^ 30 * b2n full + 2 ^ 16 * c + m))
  let s := s.incSat (if full then Reg.FLUE_FULL_CNT else Reg.FLUE_UNBOUND_CNT)
  if log then s.logEvent Src.flue (if full then 1 else 2) c (wd m) 0 0 else s

/-- A doorbell bit set at a pair (R172, R176). -/
def State.ring (s : State) (p b : Nat) : State :=
  s.updPair p (fun x =>
    if b < 32 then { x with dbPend0 := x.dbPend0 ||| wd (2 ^ b) } else { x with dbPend1 := x.dbPend1 ||| wd (2 ^ (b - 32)) })

/-- The pairs that receive on channel c. -/
def State.flueReceivers (s : State) (c : Nat) : List Nat :=
  let r := s.getF (Fld.CHAN_W0_RECV c)
  if r < 512 then (if s.getF (Fld.CHAN_W0_SEND c) = r then [] else [r])
  else if r = 1023 then (s.pairsIn Role.supervisor).filter (fun p => p != s.getF (Fld.CHAN_W0_SEND c))
  else []

/-- A delivery on channel c (R168, R172): FULL, SEQ + 1, and the doorbell at every receiving pair where DB = 1. -/
def State.deliver (s : State) (c : Nat) : State :=
  let s := s.setF (Fld.CHAN_W0_FULL c) 1
  let s := s.setF (Fld.CHAN_W1_SEQ c) (s.getF (Fld.CHAN_W1_SEQ c) + 1)
  if s.flag (Fld.CHAN_W1_DB c) then
    (s.flueReceivers c).foldl (fun s p => s.ring p (s.getF (Fld.CHAN_W1_DBIT c))) s
  else s

/-- A release of channel c: FULL cleared and all eight words zeroed (R168). -/
def State.releaseFlue (s : State) (c : Nat) : State := (s.setF (Fld.CHAN_W0_FULL c) 0).zeroSlot c

/-- The decision on a store of master m to word i of the slot of channel c (R168). -/
def State.slotStore (s : State) (c i m : Nat) (v : Word) : Resp :=
  let a := wd (0x40000000 + slotOff c i)
  if !s.flueEnabled c || !(s.isSender c m || s.isReceiver c m) then
    .fail (s.flueRefuse c m false true) ⟨Cause.busError, a⟩
  else if s.isSender c m then
    if s.flueIsFull c then .fail (s.flueRefuse c m true true) ⟨Cause.flueFull, a⟩
    else
      let s := s.setReg (slotOff c i) v
      .ok (if i = 7 then s.deliver c else s)
  else if i = 7 then .ok (if s.flueIsFull c then s.releaseFlue c else s)
  else .fail (s.flueRefuse c m false true) ⟨Cause.busError, a⟩

/-- The decision on a load of master m from word i of the slot of channel c, with the word (R168). A bound master's access that the
table refuses, a load by the sender or a store by a receiver to words 0–6, is recorded and logged as an unbound master's is
(DESIGN CHOICE; log 74: the manual names no kind for it). -/
def State.slotLoad (s : State) (c i m : Nat) : Resp × Word :=
  let a := wd (0x40000000 + slotOff c i)
  if !s.flueEnabled c || !(s.isSender c m || s.isReceiver c m) then
    (.fail (s.flueRefuse c m false true) ⟨Cause.busError, a⟩, 0)
  else if s.isSender c m then (.fail (s.flueRefuse c m false true) ⟨Cause.busError, a⟩, 0)
  else (.ok s, if s.flueIsFull c then s.reg (slotOff c i) else 0)

/-- A whole message written by a master other than a pair (R169): delivered atomically, or refused as a whole. The Bool says
whether it was delivered. -/
def State.fabricMessage (s : State) (c m : Nat) (ws : List Word) : State × Bool :=
  if !s.flueEnabled c || !s.isSender c m then (s.flueRefuse c m false true, false)
  else if s.flueIsFull c then (s.flueRefuse c m true true, false)
  else ((((List.range 8).foldl (fun s i => s.setReg (slotOff c i) (ws.getD i 0)) s).deliver c), true)

/-- A write to word 0 of the entry of channel c (R166, R167): ignored where EN = 1 with SEND = RECV or SEND = 1,023, and
after the lock; else FULL is cleared, the slot zeroed and SEQ set to 0. -/
def State.channelWrite (s : State) (c : Nat) (v : Word) : State :=
  if s.flag Fld.FLUE_CTRL_LOCK then s
  else if bit 31 v && (fld 9 0 v == fld 25 16 v || fld 9 0 v == 1023) then s
  else
    let s := s.setReg (Reg.CHAN_W0 c) (wd (2 ^ 31 * b2n (bit 31 v) + 2 ^ 16 * fld 25 16 v + fld 9 0 v))
    (s.zeroSlot c).setF (Fld.CHAN_W1_SEQ c) 0

/-- A flue register that is read from the table: FLUE.FULL<w> (R177). -/
def State.flueFullWord (s : State) (w : Nat) : Word :=
  wd ((List.range 32).foldl (fun v i => v + b2n (s.flueIsFull (32 * w + i)) * 2 ^ i) 0)

/-! ## Commands -/

/-- CHANNEL_WRITE (R167), by a master that may write the table: ring 0 code or a pair in SUPERVISOR (R512). -/
def execChannelWrite (m : Master) (c : Fin 2048) (v : Word) (s : State) : Host.Outcome State Fault Refusal :=
  .next (s.masterWrite m.val (Reg.CHAN_W0 c.val) (fun s => .ok (s.channelWrite c.val v)))

/-- FLUE_STORE (R168): a pair's store to slot words 0–6. -/
def execFlueStore (p : PairId) (c : Fin 2048) (i : Fin 7) (v : Word) (s : State) : Host.Outcome State Fault Refusal :=
  .next (s.pairAccess p.val (slotOff c.val i.val) .store (fun s => s.slotStore c.val i.val p.val v))

/-- FLUE_DELIVER (R168): the sender's store to word 7; of any other pair it is no delivery, and the command does
nothing. -/
def execFlueDeliver (p : PairId) (c : Fin 2048) (v : Word) (s : State) : Host.Outcome State Fault Refusal :=
  .next (if s.isReceiver c.val p.val && s.flueEnabled c.val then s
    else s.pairAccess p.val (slotOff c.val 7) .store (fun s => s.slotStore c.val 7 p.val v))

/-- FLUE_RELEASE (R168): a receiver's store to word 7; the sender's store is a delivery, and the command does nothing. -/
def execFlueRelease (p : PairId) (c : Fin 2048) (v : Word) (s : State) : Host.Outcome State Fault Refusal :=
  .next (if s.isSender c.val p.val && s.flueEnabled c.val then s
    else s.pairAccess p.val (slotOff c.val 7) .store (fun s => s.slotStore c.val 7 p.val v))

/-- FLUE_FABRIC_WRITE (R169): a whole message by a master that is no pair. -/
def execFlueFabricWrite (m : Master) (c : Fin 2048) (ws : List Word) (s : State) :
    Host.Outcome State Fault Refusal :=
  .next (if m.val < 512 ∨ ws.length ≠ 8 then s else (s.fabricMessage c.val m.val ws).1)

end Sys2Proof.Machine
end

