-- ==== Sys2Proof/Machine/Ledger.lean ====
section
/-! DEFINITION. The ledger (R287–R304) and its log (R322–R326): images, staging, groups, the commit point, rotation and the
rebuild at a start. -/

namespace Sys2Proof.Machine

/-! ## Entries -/

/-- The state with a committed entry set, held by the group with LSN `lsn`; write-backs of words of its image are dropped (R162). -/
def State.setEntry (s : State) (i : Nat) (e : Entry) (lsn : Nat) : State :=
  let s : State := { s with ledger := { s.ledger with dir := s.ledger.dir.set dirReset i ⟨e, lsn⟩ } }
  let u := s.scrub.get (fun _ => {}) 16
  if u.writeBack.any (fun w => w / 32 == i) then
    { s with scrub := s.scrub.set (fun _ => {}) 16 { u with writeBack := u.writeBack.filter (fun w => w / 32 != i) } }
  else s

/-- The ledger is sealed (R302). -/
def State.isSealed (s : State) : Bool := s.flag Fld.LEDG_STAT_SEALED

/-- The whole 32-byte image of an entry as a read returns it; the MAC of it under LMAC is given by the caller. -/
def State.imageOf (s : State) (i : Nat) (mac : List Byte) : List Byte := (s.entry i).bytes i ++ slice mac 0 8

/-- An update locks its entry (R292). -/
def Update.locks : Update → Bool
  | .keyUse _ _ _ => false
  | _ => true

/-! ## Mirror entries that a staging meets -/

/-- The mirror entry of a local entry. -/
def State.mirrorOf (s : State) (i : Nat) : Option (Nat × Nat × Nat × Nat × Nat) := s.ledger.mirrorOf i

/-- STATE of the mirror entry of a local entry; 0 without one (R459). -/
def State.mirrorState (s : State) (i : Nat) : Nat :=
  if (s.entry i).mir then ((s.mirrorOf i).map (fun m => m.2.2.2.1)).getD 0 else 0

/-! ## Locks and staging -/

/-- The entries locked by the staged sets of other jobs: of running jobs, and of committed jobs until their set is applied
(R293). -/
def State.lockedByOthers (s : State) (p : Nat) : List Nat :=
  ((s.jobs.filter (fun j => !(j.pair == p && j.phase == .running))).flatMap (fun j => j.updates.filter (·.locks))).map (·.index)
    ++ ((s.ledger.openSets ++ s.ledger.closingSets).flatMap (fun t => t.updates.filter (·.locks))).map (·.index)

/-- LEDG.STAT.LOCKED as it reads: entries now locked (R304). -/
def State.lockedCount (s : State) : Nat :=
  ((((s.jobs.filter (fun j => j.phase == .running)).flatMap (fun j => j.updates)) ++
    (s.ledger.openSets ++ s.ledger.closingSets).flatMap (fun t => t.updates)).filter (·.locks) |>.map (·.index)).dedup.length

/-- The status of a staging, and where it is OK the update and the value the entry will have (R292–R294). -/
structure Staged where
  status : Nat
  sub : Nat
  update : Option Update
  value : Nat
  digest : List Byte
  deriving DecidableEq, Repr

/-- A staging refused. -/
def stagedBad (st sub : Nat) : Staged := ⟨st, sub, none, 0, []⟩

/-- The statement of an attested increment (R301). -/
def attStatement (i owner value : Nat) (nonce : List Byte) (boots : Nat) : List Byte :=
  [0x43#8, 0x48#8, 0x4C#8, 0x41#8, 0x54#8, 0x54#8, 0x30#8, 0x31#8] ++
    ((List.range 16).map Config.uidByte) ++ leBytes 4 i ++ leBytes 1 owner ++ zeros 3 ++
    leBytes 8 value ++ slice nonce 0 32 ++ leBytes 4 boots

/-- The boot count BOOTS (R480), as SYS.BOOT shows its low half and entry 1 the whole. -/
def State.boots (s : State) : Nat := s.bootCount

/-- A counter increment staged on a counter with ATT as the operation asks (R292). -/
def State.stageCounter (s : State) (i amount : Nat) (att : Bool) (data : List Byte) : Staged :=
  let e := s.entry i
  match e.body with
  | .counter v _ =>
    if e.att ≠ att then stagedBad St.param 8
    else if amount = 0 ∨ 2 ^ 64 ≤ v + amount then stagedBad St.range 0
    else ⟨St.ok, 0, some (if att then .attAdd i amount data else .ctrAdd i amount), v + amount,
      if att then sha256 (attStatement i e.owner (v + amount) data s.boots) else []⟩
  | _ => stagedBad St.param 8

/-- A token use staged with its proof (R292, R296). -/
def State.stageToken (s : State) (i : Nat) (data : List Byte) : Staged :=
  match (s.entry i).body with
  | .token r d =>
    if (sha256 data).take 16 ≠ d then stagedBad St.policy 6
    else if r = 0 then stagedBad St.policy 5
    else ⟨St.ok, 0, some (.tokenUse i data), r - 1, []⟩
  | _ => stagedBad St.param 8

/-- A whole image staged by a supervisor pair (R292). -/
def stageWrite (i : Nat) (data : List Byte) : Staged :=
  match Entry.parse i (data.take 24) with
  | some e => ⟨St.ok, 0, some (.write i e), (match e.body with
      | .counter v _ => v
      | .token r _ => r
      | _ => 0), []⟩
  | none => stagedBad St.param 8

/-- The answer to a staging record of 64 bytes by the job `j` (R291–R294, R302, R459). -/
def State.stageRecord (s : State) (j : Job) (rec : List Byte) : Staged :=
  let op := leAt rec 0 1
  let i := leAt rec 4 4
  let amount := leAt rec 8 8
  let data := slice rec 0x10 32
  let m := s.mirrorState i
  if s.isSealed then stagedBad St.tampered 0
  else if op = 0 ∨ 4 < op ∨ leAt rec 1 3 ≠ 0 ∨ leAt rec 0x30 16 ≠ 0 then stagedBad St.param 8
  else if 131071 < i then stagedBad St.range 0
  else if (op = 3 ∨ op = 4) ∧ !s.isSupervisor j.pair then stagedBad St.policy 2
  else if i < 16 ∨ (op ≠ 3 ∧ (s.entry i).owner ≠ j.tenant) then stagedBad St.policy 4
  else if (s.lockedByOthers j.pair).contains i ∨ m = 3 then stagedBad St.busy 0
  else if op ≠ 3 ∧ (m = 5 ∨ m = 6) then stagedBad St.busy 0
  else if op ≠ 3 ∧ m = 4 then stagedBad St.param 8
  else if ((j.updates.filter (·.locks)).map (·.index)).any (fun k => decide (i ≤ k)) then stagedBad St.param 8
  else if op = 1 then s.stageCounter i amount false data
  else if op = 2 then s.stageToken i data
  else if op = 3 then stageWrite i data
  else s.stageCounter i amount true data

/-- The staging set of a master: 64 bytes of its STG words (R291). -/
def State.stgRecord (s : State) (p : Nat) : List Byte :=
  wordsBytes ((List.range 16).map (fun w => s.mreg p (Reg.LEDG_STG w)))

/-- The STG words of a master zeroed. -/
def State.clearStg (s : State) (p : Nat) : State :=
  (List.range 16).foldl (fun s w => s.setMreg p (Reg.LEDG_STG w) 0) s

/-- The result registers of a staging (R294, R304): on OK STG_VAL, and for an attested increment STG_DIG. STAGED is computed as
it is read. -/
def State.stgResult (s : State) (p : Nat) (r : Staged) : State :=
  let s := s.setMreg p Reg.LEDG_STG_RES (wd (2 ^ 16 * r.status + 2 ^ 8 * r.sub))
  let s := match r.update with
    | some _ => (s.setMreg p (Reg.LEDG_STG_VAL 0) (wd (r.value % 2 ^ 32))).setMreg p (Reg.LEDG_STG_VAL 1) (wd (r.value / 2 ^ 32))
    | none => s
  if r.digest.isEmpty then s
  else (List.range 8).foldl (fun s w => s.setMreg p (Reg.LEDG_STG_DIG w) (wd (leAt r.digest (4 * w) 4))) s

/-- A store to LEDG.STG<w> by a pair (R121, R291): taken on the store to STG<15>; bus error from a pair with no armed job,
from a load job, and beyond 16 updates. -/
def State.stgStore (s : State) (p w : Nat) (v : Word) : Resp :=
  match s.armedJob p with
  | none => busAt s (Reg.LEDG_STG w)
  | some j =>
    if j.src == Stream.load ∨ (w = 15 ∧ 16 ≤ j.updates.length) then busAt s (Reg.LEDG_STG w)
    else
      let s := s.setMreg p (Reg.LEDG_STG w) v
      if w ≠ 15 then .ok s
      else
        let r := s.stageRecord j (s.stgRecord p)
        let us := match r.update with
          | some u => j.updates ++ [u]
          | none => j.updates
        let s := (s.clearStg p).updArmed p (fun k => { k with updates := us })
        .ok (s.stgResult p r)

/-! ## Groups -/

/-- LEDG.STAT.OPEN as it reads: images in the open group. -/
def Ledger.openCount (l : Ledger) : Nat := l.imageCount l.openGroup

/-- The next usable ring position after p (R322). -/
def Ledger.nextPos (l : Ledger) (p : Nat) : Nat :=
  match (List.range 1024).find? (fun k => !l.bad.contains ((p + 1 + k) % 1024)) with
  | some k => (p + 1 + k) % 1024
  | none => p

/-- The position `n` usable positions after p. -/
def Ledger.posAfter (l : Ledger) : Nat → Nat → Nat
  | 0, p => p
  | n + 1, p => l.posAfter n (l.nextPos p)

/-- The ledger with a sector of the log replaced. -/
def Ledger.setSector (l : Ledger) (t : LogSector) : Ledger :=
  { l with sectors := l.sectors.map (fun u => if u.p = t.p then t else u) }

/-- The ledger with a new head sector whose first group will have LSN nextLsn. -/
def Ledger.enterSector (l : Ledger) (p : Nat) : Ledger :=
  let lap := l.laps.get (fun _ => 0) p + 1
  { l with
    laps := l.laps.set (fun _ => 0) p lap
    sectors := l.sectors.filter (fun u => u.p != p) ++ [{ p := p, lap := lap, firstLsn := l.nextLsn, groups := [], retired := false }] }

/-- A group programmed in the head sector. -/
def Ledger.program (l : Ledger) (g : Group) : Ledger :=
  match l.head with
  | some t => l.setSector { t with groups := t.groups ++ [g] }
  | none => l

/-- The images of a sector that are still the newest of their index and are not the established free image (R323), as the committed
directory holds them (R326). -/
def Ledger.carried (l : Ledger) (t : LogSector) : List (Nat × Entry) :=
  ((t.groups.filter (·.committed)).flatMap (fun g => g.images.map (fun im => (im.1, l.dir.get dirReset im.1, g.lsn)))).filterMap (fun x =>
    if x.2.1.lsn == x.2.2 && decide (x.2.1.entry ≠ Entry.established x.1) then some (x.1, x.2.1.entry) else none)

/-- Images programmed as ordinary committed groups of up to 32 at the head, with new LSNs (R323). -/
def Ledger.carryGroups : Nat → List (Nat × Entry) → Ledger → Ledger
  | 0, _, l => l
  | n + 1, ims, l =>
    if ims.isEmpty then l
    else
      let now := ims.take 32
      let g : Group := ⟨l.nextLsn, now, true⟩
      let l := { (l.program g) with
        nextLsn := l.nextLsn + 1
        dir := now.foldl (fun d im => d.set dirReset im.1 ⟨im.2, g.lsn⟩) l.dir }
      Ledger.carryGroups n (ims.drop 32) l

/-- A rotation step (R323): the head moves on, and the new far end of the window is carried and given its retire mark; it is
erased by ERASE_COMPLETE. -/
def Ledger.rotate (l : Ledger) : Ledger :=
  match l.head with
  | none => l.enterSector (l.posAfter 0 (if l.bad.contains 0 then l.nextPos 0 else 0))
  | some h =>
    let l := l.enterSector (l.nextPos h.p)
    let far := l.posAfter 64 h.p
    match l.sectors.find? (fun t => t.p == far && !t.retired) with
    | none => l
    | some t =>
      let l := Ledger.carryGroups 64 (l.carried t) l
      l.setSector { t with retired := true }

/-- The global sector of a pool position (R322). -/
def poolSector (p : Nat) : Nat := 512 * (2 + p % 2) + p / 2

/-- The erases of retired pool sectors that may run: one in each bank (R317, R323). -/
def State.poolErase (s : State) : State :=
  (List.range 2).foldl (fun s k =>
    let b := 2 + k
    if s.getF (Fld.NVMC_BANKST_STATE b) ≠ 0 then s
    else match s.ledger.sectors.find? (fun t => t.retired && t.p % 2 == k) with
      | some t => (s.setF (Fld.NVMC_BANKST_STATE b) 2).setF (Fld.NVMC_BANKST_ESECT b) (t.p / 2)
      | none => s) s

/-- A program in the head sector's bank suspends an erase that runs there (R318). -/
def State.touchHead (s : State) : State :=
  match s.ledger.head with
  | some t => s.touchBank (2 + t.p % 2)
  | none => s

/-- A rotation step (R323) with POOL.HEAD and POOL_STEPS, and the erase that it brings. -/
def State.rotateLog (s : State) : State :=
  let l := s.ledger.rotate
  let s := ({ s with ledger := l }).incWrap Reg.NVMC_POOL_STEPS 1
  (s.setF Fld.NVMC_POOL_HEAD ((l.head.map (·.p)).getD 0)).touchHead.poolErase

/-- The head can move on: the next position has been erased (R323). -/
def Ledger.nextErased (l : Ledger) : Bool :=
  match l.head with
  | some h => !l.sectors.any (fun t => t.p == l.nextPos h.p)
  | none => true

/-- The head advanced, one step after another, until no pool sector in need of refresh is live (R327): a step waits while a commit
record is being programmed, so that groups reach their commit points in LSN order, and while the sector ahead is not erased. -/
def State.retireWeak : Nat → State → State
  | 0, s => s
  | n + 1, s =>
    if s.ledger.sectors.any (fun t => t.weak && !t.retired) && s.ledger.nextErased && s.ledger.closing.isNone then
      State.retireWeak n s.rotateLog
    else s

/-- What a staging of an entry returns as its value: VALUE of a counter, REMAIN of a token (R294). -/
def Entry.value (e : Entry) : Nat :=
  match e.body with
  | .counter v _ => v
  | .token r _ => r
  | _ => 0

/-- The proof of a token use fails where its set is applied (R296, step 2): STATUS and SUB. -/
def State.proofFails (s : State) (us : List Update) : Option (Nat × Nat) :=
  us.findSome? (fun u => match u, (s.entry u.index).body with
    | .tokenUse _ data, .token r d => if (sha256 data).take 16 ≠ d then some (St.policy, 6) else if r = 0 then some (St.policy, 5) else none
    | _, _ => none)

/-- LSN registers of the last committed group (R304). -/
def State.setLsn (s : State) (lsn : Nat) : State :=
  (s.setReg Reg.LEDG_LSN_LO (wd (lsn % 2 ^ 32))).setReg Reg.LEDG_LSN_HI (wd (lsn / 2 ^ 32 % 2 ^ 16))

/-- The group being closed with the mirror entries of its origins: the new HLSN, and STATE ORPHAN where the MACK is missing
(R461). -/
def Ledger.finalGroup (l : Ledger) (g : Group) : Group :=
  { g with images := g.images ++ (l.mirrored l.closingSets).map (fun x =>
      let e := (l.dir.get dirReset x.2.1).entry
      (x.2.1, { e with body := .mirror x.1 x.2.2.1 x.2.2.2.1 (if l.expired.contains x.1 then 2 else x.2.2.2.2) g.lsn })) }

/-- The open group closed (R296): its images are programmed with its LSN in the head sector, after a rotation step where
they do not fit; the group waits while the sector ahead is not yet erased (R323). -/
def State.closeGroup (s : State) : State :=
  let ts := s.ledger.openGroup
  let ims := s.ledger.openImages
  let full := !((s.ledger.head.map s.ledger.openFits).getD false)
  if full && !s.ledger.nextErased then s
  else
    let s := if full then s.rotateLog else s.touchHead
    let l := s.ledger
    let g : Group := ⟨l.nextLsn, ims, false⟩
    let mir := ((l.mirrored ts).filter (fun x => x.2.2.2.2 == 1)).map (·.1)
    { s with ledger := { (l.program g) with
        closing := some g, closingSets := ts, openSets := l.openSets.drop ts.length, nextLsn := l.nextLsn + 1
        unacked := mir, expired := [], resent := [] } }

/-- The directory with the images of a committed group. -/
def State.commitImages (s : State) (g : Group) : State :=
  g.images.foldl (fun s im => s.setEntry im.1 im.2 g.lsn) s

/-- The log as a reset leaves it: the group being closed and the open one stand in the head sector without a commit record,
and every staged set is lost (R298), with the notes of R216. -/
def Ledger.cut (l : Ledger) : Ledger :=
  let l := if l.openSets.isEmpty || !((l.head.map l.openFits).getD false) then l else l.program ⟨l.nextLsn, l.openImages, false⟩
  { l with openSets := [], closing := none, closingSets := [], unacked := [], expired := [], resent := [], applied := [], lastJ := [] }

/-- The offset of a unit of a pool sector (R305, R322). -/
def poolUnit (p u : Nat) : Nat := poolSector p * 0x10000 + 32 * u

/-- The groups that a rebuild accepts in a sector, from unit `u` on and with LSNs from `lsn` on (R298, step 2): their commit record is
present, each LSN is one above the previous group's, and no unit of theirs is uncorrectable. MAGIC, CRC and the MACs verify
of every group that the ledger programmed under the present LMAC, since all of its units are as they were programmed. -/
def goodGroups (bad : Nat → Bool) (p : Nat) : Nat → Nat → List Group → List Group
  | _, _, [] => []
  | u, lsn, g :: gs =>
    if g.committed && g.lsn == lsn && (List.range g.units).all (fun k => !bad (poolUnit p (u + k))) then
      g :: goodGroups bad p (u + g.units) (lsn + 1) gs
    else []

/-- A sector whose groups after the first `n` are discarded (R298, step 3). -/
def LogSector.keep (t : LogSector) (n : Nat) : LogSector := { t with groups := t.groups.take n, dead := t.groups.drop n ++ t.dead }

/-- The live sectors in FIRST_LSN order with what the rebuild accepts in each, from the LSN after `last`, and the number of groups
discarded after the last one accepted (R298, step 3). -/
def acceptSectors (bad : Nat → Bool) : List LogSector → Option Nat → List LogSector × Nat
  | [], _ => ([], 0)
  | t :: ts, last =>
    if last.any (fun n => t.firstLsn != n + 1) then ((t :: ts).map (·.keep 0), ((t :: ts).map (fun u => u.groups.length)).sum)
    else
      let good := goodGroups bad t.p 1 t.firstLsn t.groups
      let r := acceptSectors bad ts (match good.getLast? with
        | some g => some g.lsn
        | none => last)
      (t.keep good.length :: r.1, if r.1.any (fun u => !u.groups.isEmpty) then r.2 else r.2 + (t.groups.length - good.length))

/-- Insertion of a sector in FIRST_LSN order. -/
def insertSector (t : LogSector) : List LogSector → List LogSector
  | [] => [t]
  | u :: us => if t.firstLsn ≤ u.firstLsn then t :: u :: us else u :: insertSector t us

/-- The live sectors in FIRST_LSN order (R324): those without a retire mark whose header reads. One of which everything has been
discarded is never read again (R298). -/
def Ledger.liveSectors (bad : Nat → Bool) (l : Ledger) : List LogSector :=
  (l.sectors.filter (fun t => !t.retired && !bad (poolUnit t.p 0) && (t.dead.isEmpty || !t.groups.isEmpty))).foldr insertSector []

/-- The ledger rebuilt at a start (R298, R325), where `bad` are the units that are uncorrectable: the directory from the accepted
groups, the discarded ones counted, and the log resumed in a new head sector. -/
def Ledger.rebuild (bad : Nat → Bool) (l : Ledger) : Ledger × Nat :=
  let r := acceptSectors bad (l.liveSectors bad) none
  let groups : List Group := r.1.flatMap (fun t => t.groups)
  let l := { l with
    dir := groups.foldl (fun d (g : Group) => g.images.foldl (fun d (im : Nat × Entry) => Table.set dirReset d im.1 ⟨im.2, g.lsn⟩) d) []
    nextLsn := (groups.getLast?.map (fun (g : Group) => g.lsn)).getD 0 + 1
    sectors := l.sectors.map (fun (t : LogSector) => (r.1.find? (fun (u : LogSector) => u.p == t.p)).getD t) }
  (l.rotate, r.2)

/-- A read through RIDX by a master (R299, R302): the image of a committed entry, or zeros with DENIED while the ledger is
sealed or does not exist, or for another tenant's entry read by a pair that is not a supervisor pair. -/
def State.ridxRead (s : State) (m : Nat) (v : Word) (mac : List Byte) : State :=
  let i := fld 16 0 v
  let own := m < 512 && !s.isSupervisor m && (s.entry i).owner != s.pairTenant m && decide (1 < i)
  let denied := s.isSealed || !s.ledger.established || own
  let s' := (s.setMreg m Reg.LEDG_RIDX (wd i)).setMreg m Reg.LEDG_RSTAT (if denied then 0xC0000000#32 else 0x80000000#32)
  let img := s.imageOf i mac
  (List.range 8).foldl (fun s w => s.setMreg m (Reg.LEDG_RDATA w) (if denied then 0 else wd (leAt img (4 * w) 4))) s'

end Sys2Proof.Machine
end

