-- ==== Sys2Proof/Machine/Arbiter.lean ====
section
/-! DEFINITION. Commands of arbiters: emergency use and configuration (R185, R188, R189). The grants are ARB_GRANT's (Pke.lean). -/

namespace Sys2Proof.Machine

/-- A debug halt right is in force (R350, R352): in the open states, or granted by the certificate accepted. -/
def State.haltRight (s : State) : Bool := s.flag Fld.LCS_STAT_HALTRIGHT

/-- EMERGENCY_GRANT (R185): the emergency requester is granted at once and takes back a grant in use. The public-key
engines have no emergency requester (R178), the banks only a debug port that holds a halt right. -/
def execEmergencyGrant (a : ArbId) (r : EmergencyUser) (s : State) : Host.Outcome State Fault Refusal :=
  let allowed := match a, r with
    | .pke _, _ => false
    | .bank _ _, .nvmRefresh => false
    | .nvm, .nvmRefresh => s.refresh.isSome
    | _, .debugHalt => s.haltRight
  .next (if allowed then s.takeEmergency a else s)

/-- A write of ARB_CFG (R188, R189): ignored as a whole with FB_N outside 4–64; grants are counted from the write that sets
FB_EN (R181). -/
def State.arbCfg (s : State) (a : ArbId) (v : Word) : State :=
  if fbN v < 4 ∨ 64 < fbN v then s
  else
    let fresh := !fbEn (s.reg (arbCfgOf a))
    let s := s.setReg (arbCfgOf a) (v &&& ~~~(fieldMask 11 8))
    if fresh then
      match a with
      | .bank h _ =>
        (List.range 16).foldl (fun s b => s.setBankArb h.val b { s.bankArbOf h.val b with fallback := 0 }) s
      | _ => s.setArb a { s.arb a with fallback := 0 }
    else s

/-- ARB_CFG_WRITE (R188), by ring 0 code or a pair in SUPERVISOR (R512). -/
def execArbCfgWrite (m : Master) (a : ArbId) (v : Word) (s : State) : Host.Outcome State Fault Refusal :=
  .next (s.masterWrite m.val (arbCfgOf a) (fun s => .ok (s.arbCfg a v)))

end Sys2Proof.Machine
end

