-- ==== Sys2Proof/Machine/Memory.lean ====
section
/-! DEFINITION. Scrub (R160–R163) and the port guards (R152–R155). -/

namespace Sys2Proof.Machine

/-! ## Scrub -/

/-- A scrub unit: 0–15 of a hearth, 16 of the ledger directory. -/
def State.scrubUnit (s : State) (u : Nat) : ScrubUnit := s.scrub.get (fun _ => {}) u
/-- The state with a scrub unit set. -/
def State.setScrub (s : State) (u : Nat) (x : ScrubUnit) : State := { s with scrub := s.scrub.set (fun _ => {}) u x }

/-- The lines read in a bank in this pass. -/
def ScrubUnit.lines (x : ScrubUnit) (b : Nat) : Nat := x.pos.get (fun _ => 0) b

/-- A bank's lines due at a Beat: one every 732 Beats of the pass, 8,192 in all (R160). -/
def ScrubUnit.due (x : ScrubUnit) (now : Nat) : Nat := min 8192 ((now - x.passStart) / 732)

/-- Every line of the pass has been read. -/
def ScrubUnit.done (x : ScrubUnit) : Bool := (List.range 16).all (fun b => x.lines b == 8192)

/-- A line of some bank is past due: SCRUB.LATE (R163). -/
def ScrubUnit.late (x : ScrubUnit) (now : Nat) : Bool := (List.range 16).any (fun b => x.lines b < x.due now)

/-- The SCRUB register of a unit. -/
def scrubReg (u : Nat) : Nat := if u = 16 then Reg.LEDG_DSCRUB else Reg.HRT_SCRUB u
/-- The error counters of a unit. -/
def memErrReg (u : Nat) : Nat := if u = 16 then Reg.LEDG_DERR else Reg.HRT_MEMERR u

/-- A foreground access claims the bank (R161). -/
def State.bankBusy (s : State) (u b : Nat) : Bool :=
  u != 16 && ((s.bankArbOf u b).inUse.isSome || !(s.bankArbOf u b).waiting.isEmpty)

/-- What the check of one word of the line finds (R157): a corrected word is counted and queued, an uncorrectable one counted
and logged, and stays so (log 70); in the directory the word is replaced and the entry of its eight words named (R299). -/
def State.scrubWord (s : State) (u addr : Nat) (chk : WordCheck) : State :=
  let r := memErrReg u
  let key := (u * 0x400000 + addr) / 4
  match (if u ≠ 16 ∧ s.hasFlaw key then .uncorrectable else chk : WordCheck) with
  | .clean => s
  | .corrected =>
    let x := s.scrubUnit u
    (s.setScrub u { x with writeBack := x.writeBack ++ [addr] }).setF ⟨r, 15, 0⟩ (min 65535 (fld 15 0 (s.reg r) + 1))
  | .uncorrectable =>
    let s := s.setF ⟨r, 31, 16⟩ (min 65535 (fld 31 16 (s.reg r) + 1))
    let s := s.logEvent Src.memory 1 u (wd addr) 0 0
    if u = 16 then
      ((s.setReg Reg.LEDG_DERR_IDX (wd (addr / 32))).setF Fld.LEDG_STAT_DIRERR 1).logEvent Src.memory 3 16 (wd (addr / 32)) 0 0
    else s.markFlaw key

/-- What the word checks of a 32-byte line find (R160), bit k for word k: the words read uncorrectable, and of the others those that were
corrected. -/
def lineCheck (corrected uncorrectable : BitVec 8) (k : Fin 8) : WordCheck :=
  if uncorrectable.getLsbD k then .uncorrectable else if corrected.getLsbD k then .corrected else .clean

/-- SCRUB_LINE (R160, R161): the next due line of a bank is read in a free bank cycle; the masks say what the checks of its words find
(`lineCheck`), but that a word known to be uncorrectable stays so. The last line of the pass ends it, and the next begins then or 6,000,000 Beats
after the start of this one (R160). -/
def execScrubLine (unit : Fin 17) (bank : Fin 16) (corrected uncorrectable : BitVec 8) (s : State) :
    Host.Outcome State Fault Refusal :=
  let u := unit.val
  let x := s.scrubUnit u
  let i := x.lines bank.val
  if s.beatNow < x.passStart ∨ x.due s.beatNow ≤ i ∨ s.bankBusy u bank.val then .next s
  else
    let addr := bank.val * 0x40000 + i * 32
    let s := (List.finRange 8).foldl (fun s (k : Fin 8) => s.scrubWord u (addr + 4 * k.val) (lineCheck corrected uncorrectable k)) s
    let x := s.scrubUnit u
    let x := { x with pos := x.pos.set (fun _ => 0) bank.val (i + 1) }
    let s := if u ≠ 16 ∧ bank.val = 0 then s.setReg (Reg.HRT_SCRUB_POS u) (wd addr) else s
    .next (if x.done then
        (s.setScrub u { x with pos := [], overran := false, passStart := max s.beatNow (x.passStart + 6000000) }).setF
          ⟨scrubReg u, 23, 0⟩ (min 0xFFFFFF (fld 23 0 (s.reg (scrubReg u)) + 1))
      else s.setScrub u x)

/-- SCRUB_WRITEBACK (R162): a queued corrected word is written back in a free bank cycle. The memory of this model holds the
corrected data already. -/
def execScrubWriteback (unit : Fin 17) (addr : Nat) (s : State) : Host.Outcome State Fault Refusal :=
  let x := s.scrubUnit unit.val
  .next (if s.bankBusy unit.val (addr / 0x40000) then s
    else s.setScrub unit.val { x with writeBack := x.writeBack.erase addr })

/-- SCRUB_OVERRUN (R163): a line of the pass is still unread 6,000,000 Beats after it began. -/
def execScrubOverrun (unit : Fin 17) (s : State) : Host.Outcome State Fault Refusal :=
  let u := unit.val
  let x := s.scrubUnit u
  .next (if s.beatNow < x.passStart + 6000000 ∨ x.done ∨ x.overran then s
    else ((s.setScrub u { x with overran := true }).setF ⟨scrubReg u, 31, 31⟩ 1).logEvent Src.memory 2 u 0 0 0)

/-! ## Port guards -/

/-- The offset of a region word of port guard n: BASE<i> for r = 2i, ATTR<i> for r = 2i + 1 (R154). -/
def pgWord (n r : Nat) : Nat := Reg.PG_UCTL n + 0x20 + 4 * r

/-- BASE and ATTR of region i in the written set of a port guard. -/
def State.pgBase (s : State) (n i : Nat) : Word := s.reg (pgWord n (2 * i))
/-- ATTR of region i in the written set of a port guard. -/
def State.pgAttr (s : State) (n i : Nat) : Word := s.reg (pgWord n (2 * i + 1))

/-- The written region words of a port guard, by r. -/
def State.pgWritten (s : State) (n : Nat) : Table Word :=
  (List.range 16).foldl (fun t r => t.set mpuReset (4 * r) (s.reg (pgWord n r))) []

/-- The regions of a port guard in force. -/
def State.pgForce (s : State) (n : Nat) : Table Word := s.guards.get (fun _ => []) n

/-- The bits of a region word of a port guard that a write stores (R154): MINRING, DEV, STRONG, C and X are reserved. -/
def pgBits (r : Nat) (v : Word) : Word := if r % 2 = 0 then v &&& 0xFFFFFFE0#32 else v &&& 0x80003F03#32

/-- A region write of a port guard (R147, R155): ignored with SIZE outside 5–32, ignored with OVL set where two enabled
regions of the written set would overlap. -/
def State.pgStore (s : State) (n r : Nat) (v : Word) : State :=
  if r % 2 = 1 ∧ (fld 13 8 v < 5 ∨ 32 < fld 13 8 v) then s
  else
    let t := s.setReg (pgWord n r) (pgBits r v)
    if overlapsAny (t.pgBase n) (t.pgAttr n) 8 (r / 2) then s.setF (Fld.PG_PGSTAT_OVL n) 1 else t

/-- The written regions of a port guard brought into force (R155): no burst is in progress between commands. -/
def State.pgApplyNow (s : State) (n : Nat) : State :=
  { s with guards := s.guards.set (fun _ => []) n (s.pgWritten n) }

/-- PGSTAT as it reads (R154): PEND, OVL, ACTIVE. -/
def State.pgStat (s : State) (n : Nat) : Word :=
  let act := (List.range 8).foldl (fun v i => v + b2n (bit 31 (ruleAttr (s.pgForce n) i)) * 2 ^ i) 0
  wd (2 ^ 31 * b2n (decide (s.pgWritten n ≠ s.pgForce n)) + 2 ^ 30 * b2n (s.flag (Fld.PG_PGSTAT_OVL n)) + act)

/-- The fabric addresses lie in hearth memory and outside every checkpoint area (R152). -/
def fabricOk (a n : Nat) : Bool :=
  decide (fabricBase ≤ a ∧ a + n ≤ fabricBase + 0x4000000 ∧ 1 ≤ n) &&
  decide ((a - fabricBase) / 0x400000 = (a + n - 1 - fabricBase) / 0x400000 ∧
    (a + n - 1 - fabricBase) % 0x400000 < 0x300000)

/-- The guard of port n passes a burst over `n` bytes (R153). -/
def State.pgPermits (s : State) (n a len : Nat) (wr : Bool) : Bool :=
  fabricOk a len &&
  match (List.range 8).find? (fun i => regionCovers (ruleBase (s.pgForce n) i) (ruleAttr (s.pgForce n) i) a len) with
  | some i => if wr then bit 1 (ruleAttr (s.pgForce n) i) else bit 0 (ruleAttr (s.pgForce n) i)
  | none => false

/-- A burst of port n (R153): moved and counted, or refused with nothing moved; a burst that reads an uncorrectable word moves nothing
(R157). What it ends its item with: none where it passed; the manual gives no CODE for an uncorrectable word, and 0x30 stands, as at
the engines (DESIGN CHOICE; log 86). -/
def State.burst (s : State) (n : Nat) (wr : Bool) (a : Nat) (data : List Byte) : State × Option (Nat × Nat) :=
  let len := data.length
  if s.pgPermits n a len wr then
    let o := a - fabricBase
    if !wr && s.hflawed o len then (s.useBanks 37 o len, some (St.faultHw, 0x30))
    else
      let s := if wr then s.busWrite 37 o data else s.useBanks 37 o len
      (s.incWrap (Reg.PG_XFER_CNT n) 1, none)
  else
    let s := s.setReg (Reg.PG_FAULT_ADDR n) (wd a)
    let s := s.setReg (Reg.PG_FAULT_INFO n) (wd (2 ^ 31 + 2 ^ 9 * b2n wr + len % 512))
    (s.incSat (Reg.PG_REFUSE_CNT n), some (St.param, 0x02))

/-- PG_REGION_WRITE (R155), by ring 0 code or a pair in SUPERVISOR (R512). -/
def execPgRegionWrite (m : Master) (n : PortId) (r : Fin 16) (v : Word) (s : State) :
    Host.Outcome State Fault Refusal :=
  .next (s.masterWrite m.val (pgWord n.val r.val) (fun s => .ok (s.pgStore n.val r.val v)))

/-- PG_APPLY (R155), by ring 0 code or a pair in SUPERVISOR (R512). -/
def execPgApply (m : Master) (n : PortId) (v : Word) (s : State) : Host.Outcome State Fault Refusal :=
  .next (s.masterWrite m.val (Reg.PG_PGCTL n.val) (fun s => .ok (if bit 0 v then s.pgApplyNow n.val else s)))

/-- PORT_BURST (R153). -/
def execPortBurst (n : PortId) (wr : Bool) (addr : Nat) (data : List Byte) (s : State) :
    Host.Outcome State Fault Refusal :=
  .next (if data.length = 0 ∨ 256 < data.length then s else (s.burst n.val wr addr data).1)

end Sys2Proof.Machine
end

