-- ==== Sys2Proof/Machine/Random.lean ====
section
/-! DEFINITION. Random bytes (R263, R266–R268): the conditioners, the expander and its queue, and the draws of the hardware. -/

namespace Sys2Proof.Machine

/-- The 16-byte UID (R336). -/
def deviceUid : List Byte := (List.range 16).map Config.uidByte

/-! ## Conditioning (R263) -/

/-- The XOR of each non-overlapping pair of raw bits. -/
def condXor : List Bool → List Bool
  | a :: b :: r => (a != b) :: condXor r
  | _ => []

/-- The first bit of each unequal pair of raw bits. -/
def condNeumann : List Bool → List Bool
  | a :: b :: r => if a != b then a :: condNeumann r else condNeumann r
  | _ => []

/-- The first `n` bits of bytes, bit 0 of byte 0 first. -/
def bitsOf (bs : List Byte) (n : Nat) : List Bool := (List.range n).map (fun i => (bs.getD (i / 8) 0).getLsbD (i % 8))

/-- Bits packed from bit 0 into 64 bytes. -/
def packBits (bs : List Bool) : List Byte :=
  (List.range 64).map (fun k => byte ((List.range 8).foldl (fun v i => v + b2n (bs.getD (8 * k + i) false) * 2 ^ i) 0))

/-- 512 fresh conditioned bits (R263): under XOR those of 1,024 raw bits; under von Neumann the first bits of the next 512 unequal
pairs. What the sources deliver is a free value (log 1). -/
def State.conditioned (s : State) : List Byte × State :=
  if s.flag Fld.RNG_CTRL_COND then s.freshBytes 64
  else
    let r := s.freshBytes 128
    (packBits (condXor (bitsOf r.1 1024)), r.2)

/-! ## The expander (R267) -/

/-- The RNG is healthy (R266). -/
def State.rngHealthy (s : State) : Bool := s.flag Fld.RNG_STAT_HEALTHY

/-- The counter V moved on by `n` blocks. -/
def addBlock (v : List Byte) (n : Nat) : List Byte := beBytes 16 ((ofBe v + n) % 2 ^ 128)

/-- Bytes `start` to `start + n` of the output of a request that begins with Key and V. -/
def drbgSpan (key v : List Byte) (start n : Nat) : List Byte :=
  slice ((List.range (start % 16 + n)).flatMap (fun b =>
    if 16 * b < start % 16 + n then aesEnc key (addBlock v (start / 16 + b + 1)) else [])) (start % 16) n

/-- The queue's bytes. -/
def RngUnit.level (u : RngUnit) : Nat := (u.queue.map (·.count)).sum

/-- A reseed from 512 fresh conditioned bits. -/
def State.reseed (s : State) : State :=
  let e := s.conditioned
  let kv := drbgUpdate (e.2.rng.key, e.2.rng.v) (drbgDf e.1)
  { (e.2.incSat Reg.RNG_RESEEDS) with rng := { e.2.rng with key := kv.1, v := kv.2, made := 0 } }

/-- The next `n` bytes of the request, which ends with 65,536. -/
def RngUnit.produce (u : RngUnit) (n : Nat) : RngUnit :=
  let q := u.queue ++ [⟨u.key, u.v, u.made, n⟩]
  if u.made + n < 65536 then { u with made := u.made + n, queue := q }
  else
    let kv := drbgUpdate (u.key, addBlock u.v 4096) (zeros 48)
    { u with key := kv.1, v := kv.2, made := 65536, queue := q }

/-- The queue filled as room frees: a new request begins with a reseed. -/
def State.rngFill (s : State) : State :=
  let room := 4096 - s.rng.level
  if room = 0 ∨ !s.rngHealthy then s
  else
    let s := if 65536 ≤ s.rng.made then s.reseed else s
    { s with rng := s.rng.produce (min room (65536 - s.rng.made)) }

/-- The expander instantiated at boot: 512 conditioned bits, and the UID with the boot count as personalisation string. -/
def State.instantiate (s : State) : State :=
  let e := s.conditioned
  let kv := drbgInit (e.1 ++ deviceUid ++ leBytes 4 s.bootCount)
  { e.2 with rng := { e.2.rng with key := kv.1, v := kv.2, made := 65536, queue := [] } }

/-! ## Draws (R268) -/

/-- At most `n` bytes off the front of the queue: each goes to one consumer. -/
def takeRuns : Nat → List DrbgRun → List Byte × List DrbgRun
  | _, [] => ([], [])
  | n, r :: rs =>
    if n = 0 then ([], r :: rs)
    else if n < r.count then (drbgSpan r.key r.v r.start n, { r with start := r.start + n, count := r.count - n } :: rs)
    else
      let x := takeRuns (n - r.count) rs
      (drbgSpan r.key r.v r.start r.count ++ x.1, x.2)

/-- At most `n` bytes of the queue. -/
def State.takeRandom (s : State) (n : Nat) : List Byte × State :=
  let x := takeRuns n s.rng.queue
  (x.1, { s with rng := { s.rng with queue := x.2 } })

/-- `n` bytes drawn as the queue is filled, in at most `fuel` goes. -/
def State.drawFuel : Nat → Nat → State → List Byte × State
  | 0, n, s => s.freshBytes n
  | fuel + 1, n, s =>
    let have_ := min n s.rng.level
    let x := s.takeRandom have_
    if have_ = n then x
    else
      let y := State.drawFuel fuel (n - have_) x.2.rngFill
      (x.1 ++ y.1, y.2)

/-- `n` bytes drawn at hardware priority, from the whole queue. Its callers see to it that the RNG is healthy: two goes fill the queue
at least once. -/
def State.drawHw (s : State) (n : Nat) : List Byte × State := s.drawFuel (n / 2048 + 4) n

end Sys2Proof.Machine
end

