-- ==== Sys2Proof/Machine/Keys.lean ====
section
/-! DEFINITION. The key unit (R272–R275), blobs and their checks (R278–R284), and the use of keys by engines (R225, R226, R249,
R250). -/

namespace Sys2Proof.Machine

/-! ## Roots and boot keys -/

/-- The root that a life-cycle state selects (R273). -/
def rootOf (st : Nat) : Option Root :=
  if st ≤ 1 then some .vendor
  else if st = 3 then some .develop
  else if st = 6 then some .analysis
  else if st = 7 then none
  else some .field

/-- The check value of a root (R274). -/
def State.rootCheck (s : State) (r : Root) : List Byte := (aesCmac (s.rootBytes r) (zeros 16)).take 8

/-- The stored check value of a root (R274). -/
def KeyUnit.checkOf (k : KeyUnit) (r : Root) : Option (List Byte) := (k.checks.find? (fun e => e.1 == r)).map (·.2)
/-- The key unit with the check value of a root stored. -/
def KeyUnit.setCheck (k : KeyUnit) (r : Root) (v : List Byte) : KeyUnit :=
  { k with checks := k.checks.filter (fun e => e.1 != r) ++ [(r, v)] }

/-- The key of a fabric (R158): of hearth n for n below 16, and of the device-level fabric for 16. Traffic is decrypted by the unit that
receives it, so that nothing else of the machine depends on them. -/
def State.fabricKey (s : State) (n : Fin 17) : List Byte := slice s.keys.bootKeys (272 + 16 * n.val) 16

/-! ## Blob headers -/

/-- ALG of a blob header (R278). -/
def hdrAlg (h : List Byte) : Nat := leAt h 2 2
/-- USAGE of a blob header. -/
def hdrUsage (h : List Byte) : Word := wd (leAt h 4 2)
/-- TENANT of a blob header. -/
def hdrTenant (h : List Byte) : Nat := leAt h 6 1
/-- INDEX of a blob header. -/
def hdrIndex (h : List Byte) : Nat := leAt h 8 4
/-- VERSION of a blob header. -/
def hdrVersion (h : List Byte) : Nat := leAt h 0xC 4
/-- WRAPPER of a blob header. -/
def hdrWrapper (h : List Byte) : Nat := leAt h 0x10 4
/-- DEPTH of a blob header. -/
def hdrDepth (h : List Byte) : Nat := leAt h 1 1
/-- LIMIT of a blob header. -/
def hdrLimit (h : List Byte) : Nat := leAt h 0x18 6

/-- `n` bytes of a header replaced at offset o. -/
def putBytes (h : List Byte) (o : Nat) (bs : List Byte) : List Byte := h.take o ++ bs ++ h.drop (o + bs.length)

/-- The key length of ALG (R280), with the field length of a slot; none where ALG is not in the table. A generic secret has
the length given. -/
def algKeyLen (alg slotLen generic : Nat) : Option Nat :=
  if alg = 1 then some 16 else if alg = 2 then some 24 else if alg = 3 then some 32
  else if alg = 0x10 then some 16 else if alg = 0x11 then some 24
  else if 0x100 ≤ alg ∧ alg < 0x120 then some slotLen
  else if alg = 0x140 ∨ alg = 0x142 then some 32
  else if alg = 0x141 then some 56 else if alg = 0x143 then some 57
  else if 0x210 ≤ alg ∧ alg ≤ 0x240 ∧ alg % 2 = 0 then some (28 * (alg - 0x200) + 8)
  else if 0x302 ≤ alg ∧ alg ≤ 0x304 then some 64
  else if alg = 0x382 ∨ alg = 0x383 ∨ alg = 0x385 then some 32
  else if alg = 0x400 ∧ 1 ≤ generic ∧ generic ≤ 64 then some generic
  else none

/-- ALG is an AES key. -/
def isAes (alg : Nat) : Bool := alg == 1 || alg == 2 || alg == 3
/-- ALG is a TDEA key. -/
def isTdea (alg : Nat) : Bool := alg == 0x10 || alg == 0x11

/-- A blob built from a header and a plain key under KEK and BMAC (R278, R279). -/
def makeBlob (kek bmac hdr key : List Byte) : List Byte :=
  let body := hdr ++ kwpWrap kek key
  body ++ (aesCmac bmac body).take 8

/-- The plain key of a blob under a wrapping and a MAC key, or none where the MAC or the KWP integrity fails (R282). -/
def openBlob (kek bmac blob : List Byte) : Option (List Byte) :=
  if blob.length < 56 then none
  else
    let body := blob.take (blob.length - 8)
    if (aesCmac bmac body).take 8 = blob.drop (blob.length - 8) then kwpUnwrap kek (body.drop 32) else none

/-- A device blob made under the boot keys, or none without a root. -/
def State.wrapKey (s : State) (hdr key : List Byte) : Option (List Byte) :=
  match s.bootKey Label.kek, s.bootKey Label.bmac with
  | some k, some m => some (makeBlob k m (putBytes hdr 0x10 [0xFF#8, 0xFF#8, 0xFF#8, 0xFF#8]) key)
  | _, _ => none

/-- The plain key of a device blob as an engine unwraps it (R282): HVER = 1, WRAPPER = 0xFFFF_FFFF, MAC and KWP integrity. -/
def State.unwrapKey (s : State) (blob : List Byte) : Option (List Byte) :=
  if leAt blob 0 1 ≠ 1 ∨ hdrWrapper blob ≠ 0xFFFFFFFF then none
  else match s.bootKey Label.kek, s.bootKey Label.bmac with
    | some k, some m => openBlob k m blob
    | _, _ => none

/-! ## Key entries and their uses -/

/-- The key fields of an entry: uses, limit, version, slot, pending slot. -/
def Entry.asKey (e : Entry) : Option (Nat × Nat × Nat × Nat × Nat) :=
  match e.body with
  | .key u l v sl ps => some (u, l, v, sl, ps)
  | _ => none

/-- The uses of an entry that updates of a list reserve, in the version given. -/
def usesIn (us : List Update) (i v : Nat) : Nat :=
  (us.map (fun u => match u with
    | .keyUse j c w => if j = i ∧ w = v then c else 0
    | _ => 0)).sum

/-- The uses of an entry reserved, staged or waiting for their commit (R226). -/
def State.usesPending (s : State) (i v : Nat) : Nat :=
  (s.jobs.map (fun j => usesIn j.updates i v)).sum +
  ((s.ledger.openSets ++ s.ledger.closingSets).map (fun t => usesIn t.updates i v)).sum

/-- What the check of a blob against its entry gives: STATUS and CODE, or the header and the plain key (R225 steps 1–3, R249,
R282). `pendOk` admits the next version of a pending replacement. -/
def State.checkBlob (s : State) (blob : List Byte) (index p : Nat) (sup pendOk : Bool) : Except (Nat × Nat) (List Byte) :=
  match s.unwrapKey blob with
  | none => .error (St.param, 0x0E)
  | some key =>
    let e := s.entry index
    match e.asKey with
    | none => .error (St.keyAbsent, 0x09)
    | some (_, _, v, _, _) =>
      let version := hdrVersion blob
      if hdrIndex blob ≠ index ∨ hdrTenant blob ≠ e.owner ∨ ¬(version = v ∨ (pendOk ∧ e.pend ∧ version = v + 1)) then
        .error (St.keyAbsent, 0x09)
      else if !sup && e.owner != s.pairTenant p then .error (St.policy, 0x0C)
      else .ok key

/-- The reservation of uses at grant (R226, R250): the updates staged in the pair's armed job, or STATUS and CODE. -/
def State.reserveUses (s : State) (p : Nat) (uses : List (Nat × Nat)) : Except (Nat × Nat) (State × List Update) :=
  match s.armedJob p with
  | none => .error (St.policy, 0x0C)
  | some j =>
    if 16 < j.updates.length + uses.length then .error (St.policy, 0x0D)
    else
      let ups := uses.map (fun u => Update.keyUse u.1 u.2 (match (s.entry u.1).asKey with
        | some (_, _, v, _, _) => v
        | none => 0))
      let past := uses.any (fun u => match (s.entry u.1).asKey with
        | some (used, limit, v, _, _) => decide (limit < used + s.usesPending u.1 v + usesIn ups u.1 v)
        | none => true)
      if past then .error (St.keyExhausted, 0x0A)
      else .ok (s.setJob j { j with updates := j.updates ++ ups }, ups)

/-- J and attempt of the job armed on a pair, under which its engine jobs stage their uses (R226). -/
def State.attemptOf (s : State) (p : Nat) : Word × Nat := ((s.armedJob p).map (fun j => (j.j, j.attempt))).getD (0, 0)

/-- A blob header template fits a requester and a result (R283, R277): STATUS and CODE of its refusal, none where it fits. -/
def State.templateBad (s : State) (t : List Byte) (p : Nat) (sup : Bool) (target : Option Nat) (algOk : Nat → Bool)
    (depth : Nat) : Option (Nat × Nat) :=
  if t.length ≠ 32 then some (St.param, 0x01)
  else if !sup && hdrTenant t != s.pairTenant p then some (St.policy, 0x0C)
  else if (match target with
    | some i => hdrIndex t != i
    | none => false) || !algOk (hdrAlg t) || hdrDepth t != depth || leAt t 0 1 != 1 || leAt t 7 1 != 0 then some (St.param, 0x01)
  else none

/-! ## Engine memory -/

/-- Address and length of range k of a descriptor (R221, R244): the last of the five is the output. -/
def engRange (ws : List Word) (k : Nat) : Nat × Nat := ((ws.getD (4 + 2 * k) 0).toNat, (ws.getD (5 + 2 * k) 0).toNat)

/-- The bytes of a range that the engine of master m reads from hearth memory, and its grants of the banks (R178). -/
def State.engRead (s : State) (m a n : Nat) : List Byte × State :=
  let o := a - fabricBase
  let t := s.useBanks (bankIndex m (o / 0x400000)) o n
  (t.hbytes o n, t)

/-- A word of a descriptor or of one of its first `n` ranges that the engine of a request reads is uncorrectable (R157, R159). -/
def State.engFlawed (s : State) (r : EngReq) (ws : List Word) (n : Nat) : Bool :=
  s.hflawed r.desc 64 || (List.range n).any (fun k => s.hflawed ((engRange ws k).1 - fabricBase) (engRange ws k).2)

/-- The bytes of range k of a descriptor as the engine of master m reads them into its memory. -/
def State.engTake (s : State) (m : Nat) (ws : List Word) (k : Nat) : List Byte × State :=
  s.engRead m (engRange ws k).1 (engRange ws k).2

/-- The state with bytes written to hearth memory by the engine of master m. -/
def State.engWrite (s : State) (m a : Nat) (bs : List Byte) : State :=
  let o := a - fabricBase
  s.busWrite (bankIndex m (o / 0x400000)) o bs

/-- A pair's requester index at an engine of hearth h (R178): its index in its own hearth, or 32 and 33 for the supervisor
pairs of hearth 0 elsewhere. -/
def State.requesterIdx (s : State) (p h : Nat) : Nat :=
  if hearthOf p = h then indexOf p
  else if (s.pairsIn Role.supervisor).any (fun q => decide (q < p)) then 33 else 32

/-- The core address, in its own hearth, of a fabric address (R152). -/
def coreAddr (a : Nat) : Nat := 0x10000000 + (a - fabricBase) % 0x400000

/-- A requester's rights over a range of a descriptor (R218, R220): supervisor requesters reach hearth memory of any hearth,
others what their MPU rules grant in their own; checkpoint areas are never reached. -/
def EngReq.allows (r : EngReq) (a n : Nat) (k : Access) : Bool :=
  fabricOk a n &&
  (r.sup || (decide ((a - fabricBase) / 0x400000 = hearthOf r.pair) && mpuPermits r.rules r.ring (coreAddr a) n k))

/-- A store to a SUBMIT register (R218, R240): the request it makes, or none where it is refused. `busy` says that the
requester may not add one. -/
def State.submission (s : State) (p h : Nat) (v : Word) (busy : Bool) : Option EngReq :=
  let x := s.pair p
  let req : EngReq := ⟨p, s.requesterIdx p h, s.isSupervisor p, x.ring, v.toNat - fabricBase, x.mpuF⟩
  if (hearthOf p ≠ h ∧ ¬req.sup) ∨ busy ∨ v.toNat % 64 ≠ 0 then none
  else if req.allows v.toNat 64 .load && req.allows v.toNat 64 .store then some req
  else none

/-- The doorbell of a descriptor at the requesting pair, where DB = 1 and the ring may name it (R221, R238). -/
def State.descBell (s : State) (r : EngReq) (ws : List Word) : State :=
  let w1 := ws.getD 1 0
  if bit 0 w1 && !(r.ring == 3 && decide (fld 6 1 w1 < 32)) then s.ring r.pair (fld 6 1 w1) else s

end Sys2Proof.Machine
end

