-- ==== Sys2Proof/Machine/Gates.lean ====
section
/-! DEFINITION. The services of gates 0–3 (R59, R72, R310): a ring 0 routine performed as one command at the gate's entry, with its
results in g3 upward and its return (log 4). -/

namespace Sys2Proof.Machine

/-- Pair p stands in ring 0 at the entry of gate n, which it entered by a gate instruction (R68, R72). -/
def State.atGate (s : State) (p n : Nat) : Bool :=
  let x := s.pair p
  s.runs p && x.ring == 0 && fld 11 8 (x.sreg SR.lst) == n && x.pc == x.sreg (SR.ge n) &&& ~~~(3#32)

/-- An argument of a gate service: g3 is the function number. -/
def State.gateArg (s : State) (p r : Nat) : Nat := ((s.pair p).greg r).toNat

/-- The return of a gate service: its results from g3 on, the other argument registers and the temporaries of R59 zero, cnt advanced
by the routine's instructions, which are not in the manual (log 4), and ret.g. -/
def State.gateReturn (s : State) (p : Nat) (res : List Nat) : State :=
  let r := s.freshBytes 4
  r.2.updPair p (fun x =>
    let x := (List.range 8).foldl (fun x k => x.setG (3 + k) (wd (res.getD k 0))) x
    let x := (List.range 8).foldl (fun x k => x.setG (11 + k) 0) x
    let x := (x.setG 31 0).setS SR.cnt (x.sreg SR.cnt + wd (ofLe r.1))
    x.leaveGate)

/-- A command of gate n, function f of `last`: a function number outside 1 to `last` is unknown and refused (R311, check 1;
R482; R353); the number of another function is another command. -/
def State.gateService (s : State) (p n f last : Nat) (body : State → State) : State :=
  if !s.atGate p n then s
  else if s.gateArg p 3 = f then body s
  else if s.gateArg p 3 = 0 ∨ last < s.gateArg p 3 then s.gateReturn p [St.param, 1]
  else s

end Sys2Proof.Machine
end

