-- ==== Sys2Proof/Machine/Nvm.lean ====
section
/-! DEFINITION. The NVM controller (R305–R331): its routines through gate 1, erases and their suspension, the patrol, the refresh
and the erases of the ledger's rotation. -/

namespace Sys2Proof.Machine

/-! ## Units, sectors, banks -/

/-- The bytes of an erased range are blank and its units unspent. -/
def State.nvmErase (s : State) (o n : Nat) : State :=
  let s := s.eraseNbytes o n
  { s with nvmSpent := s.nvmSpent.drop (fun k => decide (o / 32 ≤ k ∧ k < (o + n) / 32)) }

/-- Every unit of a range is blank (R305). -/
def State.nvmBlank (s : State) (o n : Nat) : Bool :=
  (List.range (n / 32)).all (fun k => !s.nvmSpent.get (fun _ => false) (o / 32 + k)) &&
  (s.nbytes o n).all (fun b => b == 0xFF#8)

/-- Bytes programmed at an offset, with their units spent. -/
def State.nvmProgram (s : State) (o : Nat) (bs : List Byte) : State :=
  let s := s.setNbytes o bs
  { s with nvmSpent := (List.range (bs.length / 32)).foldl (fun t k => t.set (fun _ => false) (o / 32 + k) true) s.nvmSpent }

/-- The address of a line of the instruction buffer (R143). -/
def lineAddr (line tag : Nat) : Nat := (tag - 1) * 16384 + line * 32

/-- A pair's instruction buffer without the lines of a sector. -/
def Pair.dropLines (x : Pair) (g : Nat) : Pair :=
  { x with ibuf := x.ibuf.filter (fun l => lineAddr l.1 l.2 / 0x10000 != 0x2000 + g) }

/-- The lines of a sector invalidated in every instruction buffer (R144). -/
def State.dropLines (s : State) (g : Nat) : State :=
  { s with pairs := (s.pairs.map (fun e => (e.1, e.2.dropLines g))).filter (fun e => decide (e.2 ≠ Pair.reset)) }

/-- A region of a rule set can execute from bank b (R315). -/
def rulesExecute (t : Table Word) (b : Nat) : Bool :=
  (List.range 16).any (fun i =>
    let a := ruleAttr t i
    let st := regionStart (ruleBase t i) (fld 13 8 a)
    bit 31 a && bit 2 a && !bit 5 a &&
      decide (st < 0x20000000 + 0x2000000 * (b + 1) ∧ 0x20000000 + 0x2000000 * b < st + 2 ^ fld 13 8 a))

/-- Bank b is executing (R315): not data-only, and executable under the rules in force or the written rules of some pair. -/
def State.executing (s : State) (b : Nat) : Bool :=
  !s.dataOnly b && s.pairs.any (fun e => rulesExecute e.2.mpuF b || rulesExecute e.2.mpuW b)

/-- The routines may program and erase at an NVM offset (R307). -/
def routineRange (o : Nat) : Bool := decide (o < 0x2000000 ∨ (0x2100000 ≤ o ∧ o < 0x3FE0000))

/-- A sector is under erase, or under refresh (R311, check 8). -/
def State.sectorBusy (s : State) (g : Nat) : Bool :=
  s.sectorErasing g ||
  match s.refresh with
  | some r => r.sector == g
  | none => false

/-! ## Refresh -/

/-- Bank b has no erase, running or suspended, and no program (R317). -/
def State.bankFree (s : State) (b : Nat) : Bool := s.getF (Fld.NVMC_BANKST_STATE b) == 0 || s.getF (Fld.NVMC_BANKST_STATE b) == 5
/-- STATE of a bank set. -/
def State.bankState (s : State) (b st : Nat) : State := s.setF (Fld.NVMC_BANKST_STATE b) st
/-- A refresh's work in a bank ends. -/
def State.bankRest (s : State) (b : Nat) : State := if s.getF (Fld.NVMC_BANKST_STATE b) = 5 then s.bankState b 0 else s
/-- The erase of a sector of bank b begins (R317). -/
def State.beginErase (s : State) (g : Nat) : State :=
  let b := g / 512
  (s.setReg (Reg.NVMC_BANKST b) (setFld 31 28 2 (setFld 27 27 0 (setFld 8 0 (g % 512) (s.reg (Reg.NVMC_BANKST b)))))).dropLines g

/-- The refresh of the next sector that waits begins (R329, step 1), where none runs and its bank and bank 1 have no erase. -/
def State.startRefresh (s : State) : State :=
  match s.refresh, s.refreshQueue with
  | none, g :: rest =>
    if !s.bankFree (g / 512) || !s.bankFree 1 then s
    else
      let s := { s with refresh := some ⟨g, .copy⟩, refreshQueue := rest }
      (((s.bankState (g / 512) 5).bankState 1 5).setF Fld.NVMC_REFRESH_ACTIVE 1).setF Fld.NVMC_REFRESH_SECTOR g
  | _, _ => s

/-- The spare holds the sector, and the journal the record that redirects its reads (R329, steps 1 and 2); the erase of the sector
begins (step 3). -/
def State.refreshCopied (s : State) (g : Nat) : State :=
  let s := (s.nvmErase 0x3FF0000 0x10000).nvmProgram 0x3FF0000 (s.nbytes (g * 0x10000) 0x10000)
  let crc := crc32c (s.nbytes 0x3FF0000 0x10000)
  let rec_ := leBytes 4 g ++ wordBytes crc
  let s := s.nvmProgram 0x3FE0000 (slice (rec_ ++ s.logMac rec_) 0 32)
  (({ s with refresh := some ⟨g, .erase⟩ }.bankRest (g / 512)).bankRest 1).beginErase g

/-- The sector is programmed from the spare and the redirection ends; the erase of the journal begins (R329, steps 4 and 5). -/
def State.refreshProgrammed (s : State) (g : Nat) : State :=
  let s := (s.nvmProgram (g * 0x10000) (s.nbytes 0x3FF0000 0x10000)).dropLines g
  (({ s with refresh := some ⟨g, .journal⟩ }.bankRest (g / 512)).bankRest 1).beginErase 1022

/-- The end of a refresh (R329, step 5). -/
def State.refreshOver (s : State) (g : Nat) : State :=
  let s := ({ s with refresh := none }.setF Fld.NVMC_REFRESH_ACTIVE 0).incF Fld.NVMC_REFRESH_COUNT
  (s.setF Fld.NVMC_REFRESH_DONE 1).logEvent Src.nvm 2 g 0 0 0

/-- The copying and the programming of a refresh end, and its next erase begins, where that bank has no other erase (R317). That a
Beat ends them is the model's choice (log 90). -/
def State.refreshBeat (s : State) : State :=
  match s.refresh with
  | some ⟨g, .copy⟩ => if s.bankFree (g / 512) then s.refreshCopied g else s
  | some ⟨g, .program⟩ => if s.bankFree 1 then s.refreshProgrammed g else s
  | _ => s

/-- The erase of a sector by the refresh has succeeded: its next step. -/
def State.refreshErased (s : State) (g : Nat) : State :=
  match s.refresh with
  | some ⟨r, .erase⟩ => if g = r then { s with refresh := some ⟨r, .program⟩ }.bankState (r / 512) 5 else s
  | some ⟨r, .journal⟩ => if g = 1022 then { s with refresh := some ⟨r, .spare⟩ }.beginErase 1023 else s
  | some ⟨r, .spare⟩ => if g = 1023 then s.refreshOver r else s
  | _ => s

/-- An erase of the refresh whose verify failed is made again (log 90). -/
def State.eraseAgain (s : State) (g : Nat) : State :=
  match s.refresh with
  | some ⟨r, .erase⟩ => if g = r then s.beginErase g else s
  | some ⟨_, .journal⟩ => if g = 1022 then s.beginErase g else s
  | some ⟨_, .spare⟩ => if g = 1023 then s.beginErase g else s
  | _ => s

/-- An erase of the refresh runs in a bank. -/
def State.refreshErasing (s : State) (b : Nat) : Bool :=
  match s.refresh with
  | some ⟨g, .erase⟩ => b == g / 512
  | some ⟨_, .journal⟩ | some ⟨_, .spare⟩ => b == 1
  | _ => false

/-- A bank may take the erases of the refresh: no other erase is active there (R317). -/
def State.refreshMay (s : State) (b : Nat) : Bool := s.bankFree b || s.refreshErasing b

/-- The bytes of an erased sector of the refresh, with OPSTAT as its completion leaves it (R313). -/
def State.sectorErased (s : State) (g : Nat) : State :=
  ((s.nvmErase (g * 0x10000) 0x10000).bankState (g / 512) 0).setReg Reg.NVMC_OPSTAT (wd (2 ^ 31 + g * 2 ^ 16))

/-- All that is left of the refresh in progress, at once. -/
def State.endRefresh (s : State) : State :=
  match s.refresh with
  | none => s
  | some r =>
    let g := r.sector
    let s := if r.phase = .copy then s.refreshCopied g else s
    let s := if r.phase = .copy ∨ r.phase = .erase then (s.sectorErased g).refreshErased g else s
    let s := if r.phase = .copy ∨ r.phase = .erase ∨ r.phase = .program then s.refreshProgrammed g else s
    let s := if r.phase = .spare then s else (s.sectorErased 1022).refreshErased 1022
    (s.sectorErased 1023).refreshErased 1023

/-- The refresh that a reset cut, at a start (R329): with a valid journal record steps 3–5 are repeated, else step 5 alone. -/
def State.recoverRefresh (s : State) : State :=
  match s.refresh with
  | none => s
  | some ⟨g, .copy⟩ => { s with refresh := some ⟨g, .journal⟩ }.endRefresh
  | some ⟨g, .program⟩ => { s with refresh := some ⟨g, .erase⟩ }.endRefresh
  | some _ => s.endRefresh

/-! ## Routines -/

/-- A refusal of R311. -/
def State.nvmRefuse (s : State) (p st code : Nat) : State := s.gateReturn p [st, code]

/-- The end of PROGRAM once nothing refuses it (R312). -/
def State.doProgram (s : State) (p o src len : Nat) (chk : WordCheck) (readback : Bool) : State :=
  if chk = .uncorrectable ∨ (List.range (len / 4)).any (fun k => s.flawed p (src + 4 * k)) then s.nvmRefuse p St.faultHw 0x0A
  else
    let data := s.viewBytes p src len
    let s := (s.useNvm 17 (bankOf o) 1).dropLines (sectorOf o)
    if readback then (s.nvmProgram o data).gateReturn p [St.ok, (crc32c data).toNat]
    else
      let r := s.freshBytes len
      ((r.2.nvmProgram o r.1).incF Fld.NVMC_ERASES_PFAILS).nvmRefuse p St.faultHw 0x0B

/-- NVM_PROGRAM (R310–R312): gate 1, function 1. -/
def execNvmProgram (p : PairId) (chk : WordCheck) (readback : Bool) (s : State) : Host.Outcome State Fault Refusal :=
  let q := p.val
  .next (s.gateService q 1 1 6 (fun s =>
    let o := s.gateArg q 4
    let src := s.gateArg q 5
    let len := s.gateArg q 6
    let own := (spaceOf src == .loc || (spaceOf src == .hearth && !inCheckpoint src && !inCheckpoint (src + len - 1))) &&
      spaceOf (src + len - 1) == spaceOf src
    if o % 32 ≠ 0 ∨ src % 4 ≠ 0 ∨ len < 32 ∨ 256 < len ∨ len % 32 ≠ 0 ∨ 256 < o % 256 + len then s.nvmRefuse q St.param 0x02
    else if 0x8000000 < o + len then s.nvmRefuse q St.range 0x03
    else if !routineRange o then s.nvmRefuse q St.policy 0x04
    else if !own || !mpuPermits (s.pair q).mpuF 1 src len .load then s.nvmRefuse q St.param 0x05
    else if s.executing (bankOf o) then s.nvmRefuse q St.bankBusy 0x06
    else if s.sectorBusy (sectorOf o) then s.nvmRefuse q St.bankBusy 0x08
    else if !s.nvmBlank o len then s.nvmRefuse q St.param 0x09
    else s.doProgram q o src len chk readback))

/-- NVM_ERASE (R310, R311): gate 1, function 2. -/
def execNvmErase (p : PairId) (s : State) : Host.Outcome State Fault Refusal :=
  let q := p.val
  .next (s.gateService q 1 2 6 (fun s =>
    let g := s.gateArg q 4
    let b := g / 512
    if 2048 ≤ g then s.nvmRefuse q St.range 0x03
    else if !routineRange (g * 0x10000) then s.nvmRefuse q St.policy 0x04
    else if s.executing b then s.nvmRefuse q St.bankBusy 0x06
    else if s.eraseActive b then s.nvmRefuse q St.bankBusy 0x07
    else if s.sectorBusy g then s.nvmRefuse q St.bankBusy 0x08
    else
      ((s.beginErase g).use .nvm 17).gateReturn q [St.ok]))

/-- NVM_SUSPEND (R311, R318): gate 1, function 3. -/
def execNvmSuspend (p : PairId) (s : State) : Host.Outcome State Fault Refusal :=
  let q := p.val
  .next (s.gateService q 1 3 6 (fun s =>
    let b := s.gateArg q 4
    if 4 ≤ b then s.nvmRefuse q St.range 0x03
    else if !s.eraseActive b then s.nvmRefuse q St.param 0x0C
    else (((s.touchBank b).setF (Fld.NVMC_BANKST_XSUSP b) 1)).gateReturn q [St.ok]))

/-- NVM_RESUME (R311, R318): gate 1, function 4. -/
def execNvmResume (p : PairId) (s : State) : Host.Outcome State Fault Refusal :=
  let q := p.val
  .next (s.gateService q 1 4 6 (fun s =>
    let b := s.gateArg q 4
    if 4 ≤ b then s.nvmRefuse q St.range 0x03
    else if !(s.eraseActive b && s.flag (Fld.NVMC_BANKST_XSUSP b)) then s.nvmRefuse q St.param 0x0C
    else (((s.setF (Fld.NVMC_BANKST_XSUSP b) 0).setF (Fld.NVMC_BANKST_STATE b) 2).startRefresh).gateReturn q [St.ok]))

/-- Bank 0 is data-only as DO0 says (R316). -/
def State.syncDo0 (s : State) : State := s.setF (Fld.NVMC_BANKST_DO 0) (s.getF Fld.NVMC_CTRL_DO0)

/-- NVM_CONFIG (R310, R311, R316): gate 1, function 5. With LOCK set, a change of DO0 is refused (log 26). -/
def execNvmConfig (p : PairId) (s : State) : Host.Outcome State Fault Refusal :=
  let q := p.val
  .next (s.gateService q 1 5 6 (fun s =>
    let v := wd (s.gateArg q 4)
    if fld 31 4 v ≠ 0 then s.nvmRefuse q St.param 0x01
    else if s.flag Fld.NVMC_CTRL_LOCK ∧ fld 0 0 v ≠ s.getF Fld.NVMC_CTRL_DO0 then s.nvmRefuse q St.policy 0x04
    else
      let s := s.setReg Reg.NVMC_CTRL ((s.reg Reg.NVMC_CTRL &&& 0x80000000#32) ||| wd (fld 2 0 v + 2 ^ 31 * b2n (bit 3 v && !s.flag Fld.NVMC_CTRL_LOCK)))
      s.syncDo0.gateReturn q [St.ok]))

/-- NVM_ACK (R310, R311): gate 1, function 6. -/
def execNvmAck (p : PairId) (s : State) : Host.Outcome State Fault Refusal :=
  let q := p.val
  .next (s.gateService q 1 6 6 (fun s =>
    let v := wd (s.gateArg q 4)
    if fld 31 3 v ≠ 0 then s.nvmRefuse q St.param 0x01
    else
      let s := if bit 0 v then s.setF Fld.NVMC_OPSTAT_DONE 0 else s
      let s := if bit 1 v then s.setF Fld.NVMC_REFRESH_DONE 0 else s
      let s := if bit 2 v then s.setF Fld.NVMC_PATROL_OVERRUN 0 else s
      s.gateReturn q [St.ok]))

/-! ## Erases -/

/-- ERASE_AUTO_RESUME (R318): an erase not held by SUSPEND resumes. -/
def execEraseAutoResume (b : Fin 4) (s : State) : Host.Outcome State Fault Refusal :=
  .next (if s.getF (Fld.NVMC_BANKST_STATE b.val) ≠ 3 ∨ s.flag (Fld.NVMC_BANKST_XSUSP b.val) then s
    else (s.setF (Fld.NVMC_BANKST_STATE b.val) 2).startRefresh)

/-- A pool sector whose erase has ended (R323, R325): erased, or to be erased again, or marked bad at its second failure. -/
def State.poolErased (s : State) (q : Nat) (ok : Bool) : State :=
  let l := s.ledger
  let gone := l.sectors.filter (fun t => t.p != q)
  if ok then { s with ledger := { l with sectors := gone } }
  else match l.sectors.find? (fun t => t.p == q) with
    | none => s
    | some t =>
      if t.fails = 0 then { s with ledger := l.setSector { t with fails := 1 } }
      else
        let s := { s with ledger := { l with sectors := gone, bad := l.bad ++ [q] } }
        (s.setF Fld.NVMC_POOL_BAD s.ledger.bad.length).logEvent Src.nvm 3 (poolSector q) 0 0 0

/-- ERASE_COMPLETE (R313): a running erase ends; where its blank verify fails, the sector's content is undefined (log 1) and none of
its units can be programmed until an erase succeeds. -/
def execEraseComplete (b : Fin 4) (verify : Bool) (s : State) : Host.Outcome State Fault Refusal :=
  let n := b.val
  .next (if s.getF (Fld.NVMC_BANKST_STATE n) ≠ 2 then s
    else
      let g := s.eraseSector n
      let s := s.setF (Fld.NVMC_BANKST_STATE n) 0
      let s := s.setReg Reg.NVMC_OPSTAT (wd (2 ^ 31 + g * 2 ^ 16 + (if verify then St.ok else St.faultHw)))
      let s := if verify then s else (s.incF Fld.NVMC_ERASES_FAILS).logEvent Src.nvm 1 g 0 0 0
      let s := if 2 ≤ n then s.poolErased (2 * (g % 512) + n % 2) verify
        else
          let s := s.nvmErase (g * 0x10000) 0x10000
          if verify then s.refreshErased g
          else
            let r := s.freshBytes 0x10000
            (r.2.nvmProgram (g * 0x10000) r.1).eraseAgain g
      (State.retireWeak 1024 s.poolErase).startRefresh)

/-! ## Patrol -/

/-- A pool sector found in need of refresh (R327). -/
def State.poolWeak (s : State) (q : Nat) : State :=
  { s with ledger := { s.ledger with sectors := s.ledger.sectors.map (fun t => if t.p = q ∧ !t.retired then { t with weak := true } else t) } }

/-- PATROL_SECTOR (R328): the sector due is read with margin; `weak` says that it needs refresh. The pass is overrun where a
sector is read after its 864,000,000 Beats. -/
def execPatrolSector (weak : Bool) (s : State) : Host.Outcome State Fault Refusal :=
  let g := s.getF Fld.NVMC_PATROL_SECTOR
  .next (if s.beatNow < s.patrolStart + g * 421875 then s
    else
      let s := if s.patrolStart + 864000000 ≤ s.beatNow then s.setF Fld.NVMC_PATROL_OVERRUN 1 else s
      let s := if !weak then s
        else if 1024 ≤ g then State.retireWeak 1024 (s.poolWeak (2 * (g % 512) + g / 512 % 2))
        else if s.refreshQueue.contains g || (s.refresh.map (fun r => r.sector == g)).getD false || 1022 ≤ g then s
        else ({ s with refreshQueue := s.refreshQueue ++ [g] }).startRefresh
      if g + 1 < 2048 then s.setF Fld.NVMC_PATROL_SECTOR (g + 1)
      else
        { (s.setF Fld.NVMC_PATROL_SECTOR 0).incF Fld.NVMC_PATROL_PASSES with
          patrolStart := max s.beatNow (s.patrolStart + 864000000) })

/-- REFRESH_DONE (R329): the refresh runs to its end, where no other erase is active in its banks. -/
def execRefreshDone (s : State) : Host.Outcome State Fault Refusal :=
  .next (match s.refresh with
    | none => s
    | some r =>
      if s.refreshMay (r.sector / 512) && s.refreshMay 1 then s.endRefresh.startRefresh else s)

end Sys2Proof.Machine
end

