-- ==== Sys2Proof/Machine/Control.lean ====
section
/-! DEFINITION. The core-local control block (R142): MPU registers (R146–R149), IBUF_MISS, the slot timer (R47), doorbells
and PKE_HINT (R175, R184). -/

namespace Sys2Proof.Machine

/-- MPU_STAT (R146): PEND, and the regions enabled in the rules in force. -/
def Pair.mpuStat (x : Pair) : Word :=
  wd (2 ^ 31 * b2n x.mpuPend + (List.range 16).foldl (fun v i => v + b2n (bit 31 (ruleAttr x.mpuF i)) * 2 ^ i) 0)

/-- PKE_HINT of a pair (R175, R184): the hint of the last arbitration that its request lost; AHEAD is 0 while it has lost none. -/
def State.pkeHint (s : State) (p : Nat) : Word :=
  match (s.pkeArbOf (hearthOf p)).waiting.find? (fun w => w.idx == indexOf p) with
  | some w => wd (2 ^ 31 + min 255 (w.hint.getD 0))
  | none => 0

/-- A load from an offset of the core-local control block; an offset with no register reads as zero (R7). -/
def State.ctlLoad (s : State) (p o : Nat) : Word :=
  let x := s.pair p
  if o < 0x80 then x.mpuW.get mpuReset o
  else if o = 0x80 then x.mpuStat
  else if o = 0x400 then x.ibufMiss
  else if o = 0x800 then wd (x.slot.a % 2 ^ 32)
  else if o = 0x804 then wd (x.slot.a / 2 ^ 32 % 2 ^ 16)
  else if o = 0x808 then wd (x.slot.w % 2 ^ 24)
  else if o = 0x80C then wd (4 * b2n x.slot.overrun + 2 * b2n x.slot.nodl + b2n x.slot.armed)
  else if o = 0xC00 then x.dbPend0
  else if o = 0xC04 then x.dbPend1
  else if o = 0xC08 then x.dbMask0
  else if o = 0xC0C then x.dbMask1
  else if o = 0xC40 then s.pkeHint p
  else 0

/-- The bits of an MPU register that a write stores (R146); the others read as zero. -/
def mpuBits (o : Nat) (v : Word) : Word := if o % 8 = 0 then v &&& 0xFFFFFFE0#32 else v &&& 0x80003FFF#32

/-- A write of an MPU register (R147, R148): ignored with SIZE outside 5–32; MPU overlap where two enabled regions of the
written set would overlap. -/
def State.mpuStore (s : State) (p o : Nat) (v : Word) : Resp :=
  if o % 8 = 4 ∧ (fld 13 8 v < 5 ∨ 32 < fld 13 8 v) then .ok s
  else
    let t := (s.pair p).mpuW.set mpuReset o (mpuBits o v)
    if overlapsAny (ruleBase t) (ruleAttr t) 16 (o / 8) then .fail s ⟨Cause.mpuOverlap, wd (o / 8)⟩
    else .ok (s.updPair p (fun x => { x with mpuW := t, mpuPend := true }))

/-- A store of a word to an offset of the core-local control block, from a ring that R142 admits. -/
def State.ctlStore (s : State) (p o : Nat) (v : Word) : Resp :=
  if o < 0x80 then s.mpuStore p o v
  else if o = 0xC00 then .ok (s.updPair p (fun x => { x with dbPend0 := x.dbPend0 &&& ~~~v }))
  else if o = 0xC04 then .ok (s.updPair p (fun x => { x with dbPend1 := x.dbPend1 &&& ~~~v }))
  else if o = 0xC08 then .ok (s.updPair p (fun x => { x with dbMask0 := v }))
  else if o = 0xC0C then .ok (s.updPair p (fun x => { x with dbMask1 := v }))
  else .ok s

/-- MPU_WRITE (R148): a write of MPU_BASE<i> (even r) or MPU_ATTR<i> (odd r) of a pair in ring 0 or 1 (R142); it is not a
reporting point of R83. -/
def execMpuWrite (p : PairId) (r : Fin 32) (v : Word) (s : State) : Host.Outcome State Fault Refusal :=
  .next (
    if !s.runs p.val then s
    else if !controlPermits (4 * r.val) (s.pair p.val).ring .store then
      s.raiseAt p.val ⟨Cause.mpuStore, wd (0x10000 + 4 * r.val)⟩
    else match (s.drainStores p.val).mpuStore p.val (4 * r.val) v with
      | .ok t => t
      | .fail t e => t.raiseAt p.val e)

end Sys2Proof.Machine
end

