-- ==== Sys2Proof/Machine/Pairs.lean ====
section
/-! DEFINITION. Pair roles, sessions and checkpoints (R115–R119, R123, R124, R521), the slot timer (R47, R48), the deadline
(R50), a mismatch (R114, R128–R131, R134) and the self-test (R132). -/

namespace Sys2Proof.Machine

/-! ## Sessions and checkpoints -/

/-- The checkpoint key of a hearth, generated at each boot and readable by no master (R124). -/
def State.ckKey (s : State) (h : Nat) : List Byte := slice s.keys.bootKeys (16 * h) 16

/-- The 64-bit CMAC of a record without its CMAC field (R124). -/
def State.ckMac (s : State) (h : Nat) (hdr region : List Byte) : List Byte := (aesCmac (s.ckKey h) (hdr.take 0x18 ++ region)).take 8

/-- A checkpoint record (R124): the 32-byte header and the copy of the session region. -/
def State.ckRecord (s : State) (h : Nat) (j attempt tenant : Nat) (region : List Byte) : List Byte :=
  let hdr := leBytes 4 j ++ leBytes 1 attempt ++ leBytes 1 tenant ++ zeros 2 ++ leBytes 4 region.length ++ zeros 12
  hdr ++ s.ckMac h hdr region ++ region

/-- Step 2 of R125: the record written into the buffer that CKSEL does not name. -/
def State.writeCheckpoint (s : State) (p : Nat) (x : Session) (j attempt : Nat) : State :=
  s.busWrite commitIndex (ckOff p (1 - s.cksel p)) (s.ckRecord (hearthOf p) j attempt x.tenant (s.region p x))

/-- The CMAC of the record in a buffer verifies (R521). -/
def State.ckVerifies (s : State) (h off size : Nat) : Bool :=
  let hdr := s.hbytes off 32
  let region := s.hbytes (off + 32) size
  s.ckMac h hdr region == slice hdr 0x18 8

/-! ## Roles -/

/-- PST.JOB: a job is armed on the pair. -/
def State.jobBit (s : State) (p : Nat) : Bool := s.flag (Fld.HRT_PST_JOB (hearthOf p) (indexOf p))

/-- The transitions of a supervisor write of PST<k> (R115). -/
def State.roleAllowed (s : State) (p new : Nat) : Bool :=
  let cur := s.role p
  if cur = Role.free then new == Role.loading || new == Role.spare || new == Role.retired
  else if cur = Role.spare then
    new == Role.loading || new == Role.free || new == Role.retired ||
    (new == Role.supervisor && hearthOf p == 0 && decide ((s.pairsIn Role.supervisor).length < 2))
  else if cur = Role.loading then new == Role.free
  else if cur = Role.session then new == Role.free && !s.jobBit p
  else false

/-- A load job (R119): J = 0, attempt 0, no worst case, no deadline. -/
def loadJob (p tenant now : Nat) : Job :=
  { j := 0, attempt := 0, pair := p, src := .load, tag := p, opcode := 0, tenant := tenant, params := [], a := none, w := 0
    tArr := now, phase := .running, session := none, updates := [], pulses := [], frames := [], reply := none, effects := []
    portsOff := [] }

/-- A session waits for a pair to be restored on (R128, R131). -/
def State.awaitsPair (s : State) (x : Session) : Bool := x.state != .loaded && s.role x.pair != Role.loading

/-- The heads bound to the session of pair q bound to pair p, to which the session moves (R429). -/
def State.moveHeads (s : State) (q p : Nat) : State :=
  (List.range 32).foldl (fun s h =>
    if s.flag (Fld.HEAD_CFG_BOUND h) && s.getF (Fld.HEAD_CFG_BPAIR h) == q then s.setF (Fld.HEAD_CFG_BPAIR h) p else s) s

/-- A session bound to the pair that it is to be restored on, with its jobs that have not committed and its heads (R128, R429). -/
def State.bindSession (s : State) (p : Nat) (x : Session) : State :=
  let s := (s.setSession { x with pair := p, state := .loading }).moveHeads x.pair p
  { s with jobs := s.jobs.map (fun j => if j.session = some x.handle ∧ j.phase ≠ .committing then { j with pair := p } else j) }

/-- The load job of a pair armed (R119, R128), on an enabled hearth only (R31): with RESTORE = 1, a session of that TENANT and HOME
that waits to be restored is bound to the pair, with its jobs; the first of them to be opened where several wait (DESIGN CHOICE;
log 76: the manual does not say which). -/
def State.armLoad (s : State) (p : Nat) (v : Word) : State :=
  let tenant := fld 23 16 v
  if !s.hearthEnabled (hearthOf p) then s
  else
    let s := if bit 3 v then
      match s.sessions.find? (fun x => x.tenant == tenant && x.home == fld 15 12 v && s.awaitsPair x) with
      | some x => s.bindSession p x
      | none => s
    else s
    let s := { s with jobs := s.jobs ++ [loadJob p tenant s.beatNow] }
    let s := s.updPair p (fun x => { x with slot := ⟨0, 0, true, true, false, s.beatNow⟩ })
    s.setF (Fld.HRT_PST_JOB (hearthOf p) (indexOf p)) 1

/-- The load job of a pair disarmed (R115, R119). -/
def State.disarmLoad (s : State) (p : Nat) : State :=
  ({ s with jobs := s.jobs.filter (fun j => !(j.pair == p && j.src == Stream.load)) }).disarm p

/-- A write of PST<k> (R115, R116): a transition that R115 does not list changes nothing. A pair that becomes SUPERVISOR (R134) starts
in the supervisor image, as at a first start (DESIGN CHOICE; log 77: the manual does not say with which g3). -/
def State.pstWrite (s : State) (p : Nat) (v : Word) : State :=
  let new := fld 31 28 v
  if !s.roleAllowed p new then s
  else
    let h := hearthOf p
    let o := Reg.HRT_PST h (indexOf p)
    let old := s.role p
    let w := setFld 31 28 new (setFld 23 16 (fld 23 16 v) (setFld 15 12 (fld 15 12 v) (setFld 3 3 (fld 3 3 v)
      (setFld 2 2 (b2n (fld 15 12 v ≠ h)) (s.reg o)))))
    let s := s.setReg o w
    if new = Role.loading then s.armLoad p v
    else if new = Role.supervisor then s.startSupervisor p (s.pair p).restart.programGates 0
    else if new = Role.free then
      let s := if old = Role.loading then s.disarmLoad p else s
      s.cancelEngines p true
    else s

/-- A PST write by a master (R512): bus error at a pair that is not in SUPERVISOR; a write that names another role than the
command's is not this command. -/
def State.roleCommand (s : State) (m p : Nat) (v : Word) (role : Nat) : State :=
  if fld 31 28 v ≠ role then s
  else s.masterWrite m (Reg.HRT_PST (hearthOf p) (indexOf p)) (fun s => .ok (s.pstWrite p v))

/-- ROLE_LOADING (R119). -/
def execRoleLoading (m : Master) (p : PairId) (v : Word) (s : State) : Host.Outcome State Fault Refusal :=
  .next (s.roleCommand m.val p.val v Role.loading)
/-- ROLE_FREE (R115). -/
def execRoleFree (m : Master) (p : PairId) (v : Word) (s : State) : Host.Outcome State Fault Refusal :=
  .next (s.roleCommand m.val p.val v Role.free)
/-- ROLE_SPARE (R115). -/
def execRoleSpare (m : Master) (p : PairId) (v : Word) (s : State) : Host.Outcome State Fault Refusal :=
  .next (s.roleCommand m.val p.val v Role.spare)
/-- ROLE_RETIRED (R115). -/
def execRoleRetired (m : Master) (p : PairId) (v : Word) (s : State) : Host.Outcome State Fault Refusal :=
  .next (s.roleCommand m.val p.val v Role.retired)
/-- ROLE_SUPERVISOR (R115). -/
def execRoleSupervisor (m : Master) (p : PairId) (v : Word) (s : State) : Host.Outcome State Fault Refusal :=
  .next (s.roleCommand m.val p.val v Role.supervisor)

/-! ## Job start, overrun, deadline -/

/-- A session lost (R521): its job ends with FAULT_HW, its pair becomes FREE, and its handle names no session. -/
def State.loseSession (s : State) (p : Nat) (x : Session) : State :=
  let s := (s.jobs.filter (fun j => j.session == some x.handle && j.phase != .committing)).foldl (fun s j => s.endJob j St.faultHw 0) s
  let s := { s with sessions := s.sessions.filter (fun y => y.handle != x.handle), ckVerify := s.ckVerify.filter (· != p) }
  let s := if s.role p = Role.loading then s.disarmLoad p else s
  ((s.setRole p Role.free).cancelEngines p true).logEvent Src.pair 8 p 0 0 0

/-- A tamper response of class 2 or above is in force (R365). -/
def State.quarantined (s : State) : Bool := s.flag Fld.TAMP_STAT_QUAR || decide (2 ≤ s.getF Fld.TAMP_STAT_CLASS)

/-- The job whose notice a pair in SESSION or SUPERVISOR waits for: admitted, or abandoned and to be rerun on it. -/
def State.startable (s : State) (p : Nat) : Option Job :=
  if s.role p = Role.session ∨ s.role p = Role.supervisor then
    s.jobs.find? (fun j => j.pair == p && (j.phase == .admitted || j.phase == .abandoned))
  else none

/-- The job armed on its pair (R47, R120): A and W in the slot timer, PST.JOB, REPLAY for a rerun; the results of the set
applied before are dropped (R297). -/
def State.armJob (s : State) (p : Nat) (j : Job) : State :=
  let attempt := if j.phase = .abandoned then j.attempt + 1 else j.attempt
  let s := s.setJob j { j with phase := .running, attempt := attempt }
  let s := s.updPair p (fun x => { x with slot := ⟨j.a.getD 0, j.w, j.a.isNone, true, false, s.beatNow⟩ })
  let s := s.setF (Fld.HRT_PST_JOB (hearthOf p) (indexOf p)) 1
  let s := s.setF (Fld.HRT_PST_REPLAY (hearthOf p) (indexOf p)) (b2n (attempt ≠ 0))
  { s with ledger := { s.ledger with applied := s.ledger.applied.drop (· == p) } }

/-- A commit of the pair is between the commit store and step 5 of R125: its record is not yet the current one, so that the next
job of the pair does not start (log 45). -/
def State.commitsOn (s : State) (p : Nat) : Bool := s.jobs.any (fun k => k.pair == p && k.phase == .committing)

/-- JOB_START (R47): the notice of a job reaches its pair. No new job starts on a disabled hearth (R31), to a pair
that is no supervisor during a quarantine (R365), or while one is armed; a record restored in place is verified first (R521). -/
def execJobStart (p : PairId) (s : State) : Host.Outcome State Fault Refusal :=
  .next (match s.startable p.val with
    | none => s
    | some j =>
      if s.jobBit p.val || (s.quarantined && !s.isSupervisor p.val) || s.commitsOn p.val ||
          (j.phase == .admitted && !s.hearthEnabled (hearthOf p.val)) then s
      else match s.sessionOn p.val with
        | some x =>
          if s.ckVerify.contains p.val then
            if s.ckVerifies (hearthOf p.val) (ckOff p.val (s.cksel p.val)) (s.sessionSize x) then
              ({ s with ckVerify := s.ckVerify.filter (· != p.val) }).armJob p.val j
            else s.loseSession p.val x
          else s.armJob p.val j
        | none => s.armJob p.val j)

/-- SLOT_OVERRUN (R48): W Beats have passed since the job started, without a commit; W = 0 never overruns. -/
def execSlotOverrun (p : PairId) (s : State) : Host.Outcome State Fault Refusal :=
  let t := (s.pair p.val).slot
  .next (if !t.armed || t.overrun || t.w == 0 || decide (s.beatNow < t.start + t.w) then s
    else
      let j := s.armedJob p.val
      (s.updPair p.val (fun x => { x with slot := { x.slot with overrun := true } })).logEvent Src.pair 7 p.val
        ((j.map (·.j)).getD 0) (wd ((j.map (·.opcode)).getD 0)) 0)

/-- The event-log entry of a deadline (R50, R483): the pair, J, the opcode with STATUS.ACTIVE, the source state, in bits [31:16] of ARG1
(DESIGN CHOICE; log 78: the manual gives no field for it), and A. -/
def State.logDeadline (s : State) (p : Nat) (j : Job) (a : Nat) : State :=
  s.logEvent Src.pair 6 p j.j (wd (j.opcode + 2 ^ 16 * s.getF Fld.BEAT_STATUS_ACTIVE)) a

/-- The job of a pair abandoned at its deadline (R50): everything it staged is discarded, the session is restored, the reply
carries DEADLINE, and the deadline exception is pending. -/
def State.abandonAtDeadline (s : State) (p : Nat) (j : Job) (a : Nat) : State :=
  let s := s.endJob j St.deadline 0
  let s := (s.cancelEngines p false).restoreInPlace p
  (s.updPair p (fun x => { x with deadline := some (wd (a % 2 ^ 32)) })).logDeadline p j a

/-- A is reached (R50). -/
def Job.due (j : Job) (now : Nat) : Option Nat := j.a.filter (fun a => decide (a ≤ now))

/-- DEADLINE_REACHED (R50, R129): BEAT.COUNT has reached A of the armed job, or else of a job whose rerun has not started. -/
def execDeadlineReached (p : PairId) (s : State) : Host.Outcome State Fault Refusal :=
  let first := fun (ph : JobPhase) => s.jobs.find? (fun j => j.pair == p.val && j.phase == ph && (j.due s.beatNow).isSome)
  .next (match first .running with
    | some j => s.abandonAtDeadline p.val j ((j.due s.beatNow).getD 0)
    | none =>
      match first .abandoned with
      | some j => (s.endJob j St.deadline 0).logDeadline p.val j ((j.due s.beatNow).getD 0)
      | none => s)

/-! ## Mismatch and self-test -/

/-- A spare pair of an enabled hearth exists that no other session waits for (R128, R130, R131). -/
def State.spareFor (s : State) (handle : Option Nat) : Bool :=
  decide (s.sessions.countP (fun x => x.state == .loading && some x.handle != handle && s.role x.pair != Role.loading) <
    (s.pairsIn Role.spare).countP (fun p => s.hearthEnabled (hearthOf p)))

/-- MISM and MISM_PC of a hearth (R114, R116): a further mismatch while VALID = 1 sets OVER only. -/
def State.recordMismatch (s : State) (p kind : Nat) (pc : Word) : State :=
  let h := hearthOf p
  if s.flag (Fld.HRT_MISM_VALID h) then s.setF (Fld.HRT_MISM_OVER h) 1
  else
    (s.setReg (Reg.HRT_MISM h) (setFld 31 31 1 (setFld 29 27 kind (setFld 20 16 (indexOf p) (s.reg (Reg.HRT_MISM h)))))).setReg
      (Reg.HRT_MISM_PC h) pc

/-- A session of a pair that mismatches (R128, R131): it waits for a spare, or is parked where none is left; one that is being opened
waits for its load to start again. -/
def State.unseat (s : State) (p : Nat) (spare : Bool) : State :=
  match s.sessionOn p with
  | some x =>
    let opening := s.jobs.any (fun j => j.effects.contains (.openSession x.handle))
    s.setSession { x with state := if spare || opening then .loading else .parked }
  | none => s

/-- The jobs of a session whose rerun no pair is left for (R131): they end with FAULT_HW. -/
def State.endReruns (s : State) (handle : Option Nat) : State :=
  (s.jobs.filter (fun j => j.phase == .abandoned && j.session == handle && handle.isSome)).foldl (fun s j => s.endJob j St.faultHw 0) s

/-- What becomes of the jobs of a pair that mismatches before its commit store (R114, R128–R131, R134): a first attempt is
rerun, by the other supervisor pair, which takes over all work, where the pair is a supervisor; where no spare exists it ends
with FAULT_HW and its session is parked; a rerun and a load job end. -/
def State.mismatchJob (s : State) (p : Nat) (sup : Bool) : State :=
  let handle := (s.sessionOn p).map (·.handle)
  let spare := s.spareFor handle
  let s := s.unseat p spare
  let q := if sup then ((s.pairsIn Role.supervisor).head?).getD p else p
  let s := match s.armedJob p with
    | none => s
    | some j =>
      if j.src == Stream.load then s.disarmLoad p
      else if j.attempt ≠ 0 || (!sup && !spare) then s.endJob j St.faultHw 0
      else
        let s := j.effects.foldl State.dropOpened s
        (s.setJob j { j with phase := .abandoned, updates := [], pulses := [], frames := [], reply := none, effects := [] }).disarm p
  let s := if spare then s else s.endReruns handle
  { s with jobs := s.jobs.map (fun j => if j.pair = p ∧ j.phase ≠ .committing then { j with pair := q } else j) }

/-- A mismatch of a pair (R114): both cores stop; what the pair has not performed and what its attempt staged is discarded. -/
def State.mismatch (s : State) (q kind : Nat) (pc : Word) : State :=
  if s.role q = Role.selftest ∨ s.role q = Role.retired then s
  else
    let sup := s.isSupervisor q
    let s := (s.recordMismatch q kind pc).setRole q Role.selftest
    let s := s.mismatchJob q sup
    let s := (((s.cancelEngines q true).flueStop q).clearCopies q).dropAccesses q
    let s := s.updPair q (fun x => { x with
      dbPend0 := 0, dbPend1 := 0, dbMask0 := 0, dbMask1 := 0, deadline := none, imp := none, waiting := false
      haltReq := false, stepping := false, slot := { x.slot with armed := false } })
    s.logEvent Src.pair 1 q pc (wd kind) 0

/-- LOCKSTEP_MISMATCH (R112–R114): a comparison of the lead core with the trail core has failed. The trail core holds the complement of
what the lead core holds and is never visible (R56), so that only the failing comparison, its kind and the lead core's PC
come from outside the model (log 79). -/
def execLockstepMismatch (p : PairId) (kind : Fin 4) (pc : Word) (s : State) : Host.Outcome State Fault Refusal :=
  .next (s.mismatch p.val kind.val pc)

/-- SELFTEST_DONE (R132): a pass makes the pair SPARE, wiped, with its gates programmed (R72), unless it is the LIMIT-th pass within
WINDOW Beats; else the pair is RETIRED. A pass exactly WINDOW Beats ago counts no more (DESIGN CHOICE; log 80: the manual does not
say). -/
def execSelftestDone (p : PairId) (pass : Bool) (s : State) : Host.Outcome State Fault Refusal :=
  let q := p.val
  let h := hearthOf q
  if s.role q ≠ Role.selftest then .next s
  else if !pass then .next ((s.setRole q Role.retired).logEvent Src.pair 3 q 0 0 0)
  else
    let now := s.beatNow
    let recent := now :: (s.pair q).passes.filter (fun t => decide (now < t + s.getF (Fld.HRT_RPOL_WINDOW h)))
    let limit := s.getF (Fld.HRT_RPOL_LIMIT h)
    let s := s.incF (Fld.HRT_PST_TRANSIENTS h (indexOf q))
    let s := { s with flaws := s.flaws.drop (fun k => decide (2 ^ 24 + q * 2 ^ 14 ≤ k ∧ k < 2 ^ 24 + (q + 1) * 2 ^ 14)) }
    let s := s.setPair q { Pair.reset.programGates with passes := recent }
    .next (if limit ≠ 0 ∧ limit ≤ recent.length then (s.setRole q Role.retired).logEvent Src.pair 3 q 0 0 0
      else (s.setRole q Role.spare).logEvent Src.pair 2 q 0 0 0)

end Sys2Proof.Machine
end

