-- ==== Sys2Proof/Machine/Reset.lean ====
section
/-! DEFINITION. Device-level reset: what it clears and what survives it (R471–R474, R516), and the readings of the fuses that
a reset leaves in LCS.STAT (R333, R335, R354). -/

namespace Sys2Proof.Machine

/-! ## Fuses and OTP -/

/-- The value of one copy of the fuse counter: the highest fuse blown; bit k of the word is F_k (R333). -/
def fuseReading (w : Word) : Nat := ((List.range 8).filter (fun k => k != 0 && bit k w)).foldl max 0

/-- The value read by at least two of three readings, else the highest (R333). -/
def majority3 (a b c : Nat) : Nat := if a = b then a else if a = c then a else if b = c then b else max a (max b c)

/-- The fuse counter (R333). -/
def Otp.counter (o : Otp) : Nat :=
  majority3 (fuseReading (o.fuses.get zeroWord 0)) (fuseReading (o.fuses.get zeroWord 1)) (fuseReading (o.fuses.get zeroWord 2))

/-- Mark M_m of record r, by majority of its three copies (R340). -/
def Otp.mark (o : Otp) (r m : Nat) : Bool :=
  let n := (List.range 3).countP (fun c => bit m (o.marks.get zeroWord (16 * c + r)))
  decide (2 ≤ n)

/-- The OTP with mark M_m of record r set in its three copies. -/
def Otp.setMark (o : Otp) (r m : Nat) : Otp :=
  { o with marks := (List.range 3).foldl (fun t c =>
      t.set zeroWord (16 * c + r) (t.get zeroWord (16 * c + r) ||| wd (2 ^ m))) o.marks }

/-- The OTP with fuse F_k blown in the three copies (R333). -/
def Otp.blow (o : Otp) (k : Nat) : Otp :=
  { o with fuses := (List.range 3).foldl (fun t c => t.set zeroWord c (t.get zeroWord c ||| wd (2 ^ k))) o.fuses }

/-- The marks of a record as a number, M0 in bit 0. -/
def Otp.marksOf (o : Otp) (r : Nat) : Nat := (List.range 8).foldl (fun v m => v + b2n (o.mark r m) * 2 ^ m) 0

/-- The record with M0 set and M7 clear (R342): the transition records first. -/
def Otp.pendingRecord (o : Otp) : Option Nat := (List.range 16).find? (fun r => r != 0 && o.mark r 0 && !o.mark r 7)

/-- The re-provision records used (R340). -/
def Otp.reprovUsed (o : Otp) : Nat := (List.range 8).countP (fun i => o.mark (8 + i) 0)

/-- The legacy mirror bits that a counter value sets (R335). -/
def legacyOf (v : Nat) : Nat := b2n (1 ≤ v) + 2 * b2n (2 ≤ v) + 4 * b2n (4 ≤ v) + 8 * b2n (6 ≤ v)

/-- A state opens debug (R332): every one but ISSUED, FIELD and SCRAP. -/
def opensDebug (st : Nat) : Bool := st != 4 && st != 5 && st != 7

/-- The fields of LCS.STAT that hold fused values (R354). -/
def Otp.stat (o : Otp) : Word :=
  wd (2 ^ 28 * b2n (opensDebug o.counter) + 2 ^ 8 * o.reprovUsed + 2 ^ 4 * o.legacy + o.counter)

/-! ## What survives -/

/-- Registers of the backup domain that no STAT field shares (R375, R376). -/
def inBackupDomain (o : Nat) : Bool :=
  o == Reg.TAMP_BKCFG || o == Reg.TAMP_BKTICK || o == Reg.TAMP_BKLOG_PTR || o == Reg.TAMP_BKARM0 || o == Reg.TAMP_BKARM1 ||
  decide (Reg.TAMP_BKLOG_W0 0 ≤ o ∧ o < Reg.TAMP_BKLOG_W0 64) ||
  decide (Reg.WALE_WCFG 0 ≤ o ∧ o < Reg.WALE_WCFG 48) || o == Reg.WALE_PERIOD || o == Reg.WALE_CASECFG

/-- Registers of the power-on domain (R516). -/
def inPowerDomain (o : Nat) : Bool :=
  o == Reg.SYS_RSTHIST || o == Reg.SYS_LOG_STAT || o == Reg.SYS_LOG_OVF || o == Reg.SYS_LOG_MARK

/-- The backup fields of TAMP.STAT: LATCH, ZEROISED, ONBAT (R375). -/
abbrev backupStat : Word := 0x34000000#32

/-- The causes of a device-level reset by their bit of RSTCAUSE (R471). -/
abbrev RstBit.por : Nat := 0
abbrev RstBit.pin : Nat := 1
abbrev RstBit.soft : Nat := 2
abbrev RstBit.wdog : Nat := 3
abbrev RstBit.tamper : Nat := 4
abbrev RstBit.lc : Nat := 5
abbrev RstBit.fw : Nat := 6

/-- The NVM array as a reset leaves it: a sector of bank 0 or 1 whose erase is cut has undefined content (R314; log 1). -/
def State.cutErases (s : State) : State :=
  (List.range 2).foldl (fun s b =>
    if s.eraseActive b then
      let r := s.freshBytes 65536
      let t := r.2.setNbytes (s.eraseSector b * 65536) r.1
      { t with nvmSpent := t.nvmSpent.drop (fun k => k / 2048 == s.eraseSector b) }
    else s) s

/-- A device-level reset has begun and its boot has not (R473): stage RESET is the first that a boot passes. -/
def State.inReset (s : State) : Bool := s.getF Fld.SYS_BOOT_STAGE == 0

/-- A device-level reset with its causes, which a reset that has not ended adds to (R473). What it clears (R472): every register, the local memories and hearth memory at their reset values;
NVM, OTP, the backup domain, the event log and the power-on domain stand. -/
def State.deviceReset (s : State) (causes : Word) : State :=
  let s := s.cutErases
  let regs := s.regs.filter (fun e => inBackupDomain e.1 || inPowerDomain e.1)
  let t : State := { ({} : State) with
    regs := regs, nvm := s.nvm, nvmSpent := s.nvmSpent, ledger := s.ledger.cut, log := s.log, tags := s.tags, otp := s.otp, refresh := s.refresh, flaws := s.flaws.drop (fun k => decide (k < 2 ^ 26))
    bootCount := s.bootCount, imageFloor := s.imageFloor
    keys := { ({} : KeyUnit) with backupKey := s.keys.backupKey, checks := s.keys.checks }
    tamper := { ({} : TamperUnit) with
      runs := s.tamper.runs, lfsr := s.tamper.lfsr, onBattery := s.tamper.onBattery, bkCount := s.tamper.bkCount,
      bkFresh := s.tamper.bkFresh }
    out := s.out, free := s.free, pending := s.pending }
  let t := t.setReg Reg.TAMP_STAT (s.reg Reg.TAMP_STAT &&& backupStat)
  let t := t.setReg Reg.LCS_STAT s.otp.stat
  let t := t.setReg Reg.SYS_RSTCAUSE (if s.inReset then s.reg Reg.SYS_RSTCAUSE ||| causes else causes)
  if s.inReset then t else t.incSat Reg.SYS_RSTHIST

/-- A power-on reset (R472, R516): the event log, the tag stores and the power-on domain are cleared too. -/
def State.powerOnReset (s : State) : State :=
  let t := s.deviceReset 1
  { t with regs := t.regs.filter (fun e => !inPowerDomain e.1), log := [], tags := [] }

end Sys2Proof.Machine
end

