-- ==== Sys2Proof/Machine/Tamper.lean ====
section
/-! DEFINITION. The tamper controller and the backup domain (R355–R376): samples and events, windows, alarms and their
classes, quarantine, zeroisation, the backup log, and the end of debug rights that a response brings (R349). -/

namespace Sys2Proof.Machine

/-! ## Debug rights -/

/-- The debug rights ended (R349): every halted pair resumes. -/
def State.endRights (s : State) : State :=
  let s := (s.setReg Reg.LCS_DBG_RIGHTS 0).setReg Reg.LCS_DBG_SERIAL 0
  let s := s.setReg Reg.LCS_DBG_LEFT 0
  let s := (s.setF Fld.LCS_STAT_DEBUG 0).setF Fld.LCS_STAT_HALTRIGHT 0
  let s := (List.range 16).foldl (fun s w => s.setReg (Reg.LCS_HALTED w) 0) s
  let pairs := s.pairs.map (fun e => (e.1, { e.2 with halted := false, haltReq := false, stepping := false }))
  { s with pairs := pairs.filter (fun e => decide (e.2 ≠ Pair.reset)), dport := { s.dport with ranges := [] } }

/-! ## Monitors -/

/-- The lowest class that MCFG<m>.CLASS accepts (R355). -/
def monFloor (m : Nat) : Nat :=
  if m < 52 then 1
  else if m = 52 ∨ m = 54 ∨ m = 56 ∨ m = 58 then 2
  else if m = 53 ∨ m = 55 ∨ m = 57 ∨ m = 59 ∨ m = 84 then 3
  else if 60 ≤ m ∧ m ≤ 75 then 2
  else if 76 ≤ m ∧ m ≤ 83 then 0
  else 1

/-- A wale or case switch is armed (R359). -/
def State.armed (s : State) (m : Nat) : Bool :=
  if m < 32 then bit m (s.reg Reg.TAMP_BKARM0)
  else if m < 48 then bit (m - 32) (s.reg Reg.TAMP_BKARM1)
  else if m < 52 then bit (16 + (m - 48)) (s.reg Reg.TAMP_BKARM1)
  else false

/-- The state with the arming of a wale or case switch set. -/
def State.setArmed (s : State) (m : Nat) (b : Bool) : State :=
  if m < 32 then s.setF ⟨Reg.TAMP_BKARM0, m, m⟩ (b2n b)
  else if m < 48 then s.setF ⟨Reg.TAMP_BKARM1, m - 32, m - 32⟩ (b2n b)
  else if m < 52 then s.setF ⟨Reg.TAMP_BKARM1, m - 32, m - 32⟩ (b2n b)
  else s

/-- The LFSR of a wale. -/
def State.lfsrOf (s : State) (n : Nat) : Nat := s.tamper.lfsr.get (fun _ => 0) n
/-- The state with the LFSR of a wale set. -/
def State.setLfsr (s : State) (n v : Nat) : State :=
  { s with tamper := { s.tamper with lfsr := s.tamper.lfsr.set (fun _ => 0) n v } }

/-- One step of the 31-bit LFSR with polynomial x^31 + x^28 + 1: the new bit is the sum of the bits 31 and 28 positions
back, and bit 0 is the oldest (R357; log 17). -/
def lfsrStep (v : Nat) : Nat := v / 2 + ((v + v / 8) % 2) * 2 ^ 30

/-- The bit that a sample drives (R357). -/
def State.drivenBit (s : State) (n : Nat) : Bool :=
  match s.getF (Fld.WALE_WCFG_MODE n) with
  | 0 => true
  | 1 => false
  | _ => s.lfsrOf n % 2 == 1

/-- The LFSR of a pattern wale steps after a sample (R357). -/
def State.stepLfsr (s : State) (n : Nat) : State :=
  if n < 48 ∧ s.getF (Fld.WALE_WCFG_MODE n) = 2 then s.setLfsr n (lfsrStep (s.lfsrOf n)) else s

/-- A sample of a wale or case switch is an event (R357, R358). -/
def State.sampleEvent (s : State) (m : Nat) (level : Bool) : Bool :=
  if m < 48 then level != s.drivenBit m
  else level != bit (m - 48) (s.reg Reg.WALE_CASECFG)

/-! ## Alarms -/

/-- An entry of the backup log (R372). -/
def State.backupLog (s : State) (m cls : Nat) (onBattery cleared : Bool) : State :=
  let i := s.getF Fld.TAMP_BKLOG_PTR_NEXT
  let s := if 64 ≤ s.tamper.bkCount then s.setF Fld.TAMP_BKLOG_PTR_OVF (min 65535 (s.getF Fld.TAMP_BKLOG_PTR_OVF + 1)) else s
  let s := s.setReg (Reg.TAMP_BKLOG_W0 i) (s.reg Reg.TAMP_BKTICK)
  let s := s.setReg (Reg.TAMP_BKLOG_W1 i) (wd (2 ^ 16 * (b2n onBattery + 2 * b2n cleared) + 2 ^ 8 * cls + m))
  let s := s.setF Fld.TAMP_BKLOG_PTR_NEXT ((i + 1) % 64)
  { s with tamper := { s.tamper with bkCount := min 64 (s.tamper.bkCount + 1), bkFresh := min 64 (s.tamper.bkFresh + 1) } }

/-- The field of a reader switched off (R398): the active card is lost. -/
def State.fieldOff (s : State) (f : Nat) : State := (s.setF (Fld.RF_STAT_FON f) 0).setRf f { s.rfOf f with active := none }

/-- The actions of quarantine at t_a (R365): STAT.QUAR, the debug rights end until the next reset (R349), and reader fields with no
frame started switch off (R399). -/
def State.quarantine (s : State) : State :=
  let s := (s.setF Fld.TAMP_STAT_QUAR 1).endRights
  let s := (List.range 4).foldl (fun s f => if (s.rfOf f).result.isSome then s else s.fieldOff f) s
  { s with dport := { s.dport with ended := true } }

/-- An actuation output. -/
def State.actOf (s : State) (n : Nat) : ActOutput := s.act.get (fun _ => {}) n
/-- The state with an actuation output set. -/
def State.setAct (s : State) (n : Nat) (a : ActOutput) : State := { s with act := s.act.set (fun _ => {}) n a }

/-- The level of ACT<n> that POL calls inactive. -/
def State.actInactive (s : State) (n : Nat) : Bool := !s.flag (Fld.ACT_CFG_POL n)

/-- Every actuation output driven inactive and its pulse cut, a pulse in progress logged with its J (R368). -/
def State.cutPulses (s : State) : State :=
  (List.range 16).foldl (fun s n =>
    let a := s.actOf n
    let s := match a.queue, a.rose, a.fell with
      | (j, _) :: _, some _, none =>
        (s.logEvent Src.tamper 4 (85 + n) j (wd n) 0).emit (.pin (56 + n) (s.actInactive n))
      | _, _, _ => s
    let s := (s.setF (Fld.ACT_STAT_ACTIVE n) 0).setF (Fld.ACT_STAT_Q n) 0
    s.setAct n { a with queue := [], rose := none, fell := none }) s

/-- Every engine job cancelled and wiped, and every request withdrawn (R368, R236, R259). -/
def State.wipeEngines (s : State) : State :=
  let s := { s with pke := s.pke.map (fun e => (e.1, { e.2 with reqs := [], run := none })), pkeArb := [], sym := [] }
  let s := (List.range 16).foldl (fun s h => (s.setF (Fld.PKE_STAT_BUSY h) 0).setF (Fld.PKE_STAT_SELFTEST h) 0) s
  (List.range 64).foldl (fun s i => (s.setF (Fld.SYM_STAT_BUSY (i / 4) (i % 4)) 0).symStat i) s

/-- The commit record whose programming has begun completes (R368): its group is committed in the log, and nothing is
released. -/
def Ledger.finishClosing (l : Ledger) : Ledger :=
  match l.closing with
  | some g =>
    if l.unacked.isEmpty then
      { l with sectors := l.sectors.map (fun t => { t with groups := t.groups.map (fun h => if h.lsn = g.lsn then { l.finalGroup g with committed := true } else h) }) }
    else l
  | none => l

/-- The tag stores zeroed, with TPWD and K of each front end (R414). -/
def State.zeroTags (s : State) : State :=
  let s := { s with tags := [] }
  (List.range 4).foldl (fun s f =>
    let s := (s.setReg (Reg.RF_TPWD f) 0).setF (Fld.RF_TKEYIDX_LOADED f) 0
    s.setRf f { s.rfOf f with key := [] }) s

/-- The outbound items that have not begun are dropped (R368): NOTICE frames of heads, held frames of the links, and released writes
of the cartridge slots; they are never made. -/
def State.dropReleases (s : State) : State :=
  { s with
    heads := (s.heads.map (fun e => (e.1, { e.2 with notices := [] }))).filter (fun e => decide (e.2 ≠ {}))
    crt := (s.crt.map (fun e => (e.1,
      { e.2 with writes := if e.2.phase = .writing ∨ e.2.phase = .busy then e.2.writes.take 1 else [] }))).filter (fun e => decide (e.2 ≠ {}))
    weave := { s.weave with links := (s.weave.links.map (fun e => (e.1, { e.2 with held := [] }))).filter (fun e => decide (e.2 ≠ {})) } }

/-- Zeroisation (R368): quarantine, the ledger sealed with every staged set discarded (R302), outputs cut, the backup key register and the keys cleared, the engines
wiped; the reset follows unless the device reports TAMPERED (R369). -/
def State.zeroise (s : State) (m cls : Nat) : State :=
  let s := (s.quarantine.setF Fld.LEDG_STAT_SEALED 1).cutPulses.dropReleases
  let l := { s.ledger.finishClosing with openSets := [], closing := none, closingSets := [], unacked := [], expired := [], resent := [] }
  let s := { s with ledger := l, jobs := s.jobs.map (fun (j : Job) => { j with updates := [], cut := j.cut || !j.updates.isEmpty }) }
  let s := s.backupLog m cls false true
  let s := s.setF Fld.TAMP_STAT_ZEROISED 1
  let s := s.zeroTags
  let s := { s with keys := { s.keys with root := none, backupKey := [], bootKeys := [] } }.wipeEngines
  let s := if cls = 4 then s.setF Fld.TAMP_STAT_LATCH 1 else s
  if s.flag Fld.TAMP_STAT_TAMPERED then s else { s with tamper := { s.tamper with resetPending := true } }

/-- A response applied: STAT.CLASS and FIRST, and the actions of its class (R363, R364). -/
def State.respond (s : State) (m cls : Nat) : State :=
  let s := (s.setF Fld.TAMP_STAT_CLASS cls).setF Fld.TAMP_STAT_FIRST m
  if cls = 2 then s.quarantine
  else if 3 ≤ cls then s.zeroise m cls
  else s

/-- An alarm of monitor m on main power (R363, R364). Its event-log entry has ARG0 = class and ARG1 = the class applied
(log 18). -/
def State.alarm (s : State) (m : Nat) : State :=
  let cls := s.getF (Fld.TAMP_MCFG_CLASS m)
  let inForce := s.getF Fld.TAMP_STAT_CLASS
  let applied := if inForce < cls then cls else 0
  let s := s.incF (Fld.TAMP_MSTAT_ALARMS m)
  let s := s.logEvent Src.tamper 2 m (wd cls) (wd applied) 0
  let s := if 1 ≤ cls ∧ ¬s.flag Fld.TAMP_ALARM_VALID then
      s.setReg Reg.TAMP_ALARM (wd (2 ^ 31 + 2 ^ 8 * cls + m))
    else s
  let s := if cls = 4 ∧ applied = 0 then s.setF Fld.TAMP_STAT_LATCH 1 else s
  let s := if 3 ≤ cls ∧ applied = 0 then s.backupLog m cls false false else s
  if applied = 0 then s else s.respond m applied

/-- The Beats of the events in a monitor's window. -/
def State.windowOf (s : State) (m : Nat) : List Nat := s.tamper.windows.get (fun _ => []) m
/-- The state with the window of a monitor set, and MSTAT.INWIN with it. -/
def State.setWindow (s : State) (m : Nat) (w : List Nat) : State :=
  ({ s with tamper := { s.tamper with windows := s.tamper.windows.set (fun _ => []) m w } }).setF
    (Fld.TAMP_MSTAT_INWIN m) (min 255 w.length)

/-- An event of monitor m on main power (R361): counted, and an alarm where N fall within W Beats. -/
def State.monitorEvent (s : State) (m : Nat) : State :=
  let s := s.incF (Fld.TAMP_MSTAT_EVENTS m)
  let w := s.beatNow :: (s.windowOf m).filter (fun t => decide (s.beatNow < t + s.getF (Fld.TAMP_MCFG_W m)))
  if s.getF (Fld.TAMP_MCFG_N m) ≤ w.length then (s.setWindow m []).alarm m else s.setWindow m w

/-- The device runs from main power (R370). -/
def State.onMain (s : State) : Bool := !s.tamper.onBattery && !s.porHeld

/-- The monitor is under stimulation (R362). -/
def State.stimulated (s : State) (m : Nat) : Bool := s.tamper.bistMon == some m

/-! ## Commands -/

/-- WALE_SAMPLE (R356–R358): the reading of an armed wale's SNS, or of CASE[k], on main power. The stimulated sample of R362
counts no event. -/
def execWaleSample (n : Fin 52) (level : Bool) (s : State) : Host.Outcome State Fault Refusal :=
  let m := n.val
  .next (if !s.onMain || !s.armed m then s
    else
      let ev := s.sampleEvent m level
      let s := if m < 48 then
          let s := s.setF (Fld.WALE_WSTAT_LAST m) (b2n level)
          if s.stimulated m then s
          else
            let s := s.setF (Fld.WALE_WSTAT_FAULT m) (b2n ev)
            if ev then s.incF (Fld.WALE_WSTAT_MISMATCH m) else s
        else s.setF ⟨Reg.WALE_CASESTAT, m - 48, m - 48⟩ (b2n ev)
      let s := s.stepLfsr m
      if ev && !s.stimulated m then s.monitorEvent m else s)

/-- The monitor runs while the backup domain is supplied from VBAT (R355). -/
def runsOnBattery (m : Nat) : Bool := decide (m < 52) || m == 56 || m == 57

/-- The state with the consecutive samples with an event of a monitor set (R371). -/
def State.setRun (s : State) (m n : Nat) : State :=
  { s with tamper := { s.tamper with runs := s.tamper.runs.set (fun _ => 0) m n } }

/-- An alarm on battery (R371): for a class of 2 or above the backup key register is cleared, and the log says so. -/
def State.batteryAlarm (s : State) (m : Nat) : State :=
  let cls := s.getF (Fld.TAMP_MCFG_CLASS m)
  if cls < 2 then s
  else
    let s := { s with keys := { s.keys with backupKey := [] } }.setF Fld.TAMP_STAT_ZEROISED 1
    let s := if cls = 4 then s.setF Fld.TAMP_STAT_LATCH 1 else s
    s.backupLog m cls true true

/-- BATTERY_SAMPLE (R356, R371): a sample on battery. For monitors 56 and 57, `level` says that the sample has an event. -/
def execBatterySample (mon : Fin 101) (level : Bool) (s : State) : Host.Outcome State Fault Refusal :=
  let m := mon.val
  .next (if !s.tamper.onBattery || !runsOnBattery m || (decide (m < 52) && !s.armed m) then s
    else
      let ev := if m < 52 then s.sampleEvent m level else level
      let s := s.stepLfsr m
      if !ev then s.setRun m 0
      else
        let s := s.backupLog m (s.getF (Fld.TAMP_MCFG_CLASS m)) true false
        let run := s.tamper.runs.get (fun _ => 0) m + 1
        if m = 57 ∨ s.getF Fld.TAMP_BKCFG_BKN + 1 ≤ run then (s.setRun m 0).batteryAlarm m
        else s.setRun m run)

/-- MONITOR_EVENT (R361): an event of monitors 52–100 on main power; monitor 56 has events on battery only (R371), and the
samples of monitors 0–51 are commands of their own. -/
def execMonitorEvent (mon : Fin 101) (s : State) : Host.Outcome State Fault Refusal :=
  let m := mon.val
  .next (if !s.onMain || m < 52 || m == 56 || s.stimulated m then s else s.monitorEvent m)

/-- TAMPER_RESET (R368): the reset that ends zeroisation. -/
def execTamperReset (s : State) : Host.Outcome State Fault Refusal :=
  .next (if s.tamper.resetPending then s.deviceReset (wd (2 ^ RstBit.tamper)) else s)

/-- VBAT_LOW (R371). -/
def execVbatLow (s : State) : Host.Outcome State Fault Refusal :=
  .next (if !s.onMain || s.flag Fld.TAMP_STAT_BKLOW then s
    else (s.setF Fld.TAMP_STAT_BKLOW 1).logEvent Src.tamper 5 56 0 0 0)

/-- VBAT_LOW_END (R371). -/
def execVbatLowEnd (s : State) : Host.Outcome State Fault Refusal :=
  .next (if s.onMain then s.setF Fld.TAMP_STAT_BKLOW 0 else s)

/-- The window counts discarded at a change of supply (R361). -/
def State.discardWindows (s : State) : State :=
  let s := (List.range 101).foldl (fun s m => s.setF (Fld.TAMP_MSTAT_INWIN m) 0) s
  { s with tamper := { s.tamper with windows := [], runs := [] } }

/-- The backup domain changed over to VBAT or back (R370, R361). -/
def State.changeover (s : State) (toBattery : Bool) : State :=
  if s.tamper.onBattery = toBattery then s
  else
    let s := s.discardWindows
    let s := if toBattery then s.setF Fld.TAMP_STAT_ONBAT 1 else s
    { s with tamper := { s.tamper with onBattery := toBattery } }

/-- BACKUP_CHANGEOVER (R370, R361). -/
def execBackupChangeover (toBattery : Bool) (s : State) : Host.Outcome State Fault Refusal := .next (s.changeover toBattery)

/-- BACKUP_DOMAIN_RESET (R370): VBAT and VDDIO_33 both absent, so main power is absent too. -/
def execBackupDomainReset (s : State) : Host.Outcome State Fault Refusal :=
  .next (if s.onMain then s
    else
      let s := { s with regs := s.regs.filter (fun e => !inBackupDomain e.1) }
      let s := s.setReg Reg.TAMP_STAT (s.reg Reg.TAMP_STAT &&& ~~~backupStat)
      { s with
        tamper := { s.tamper with windows := [], runs := [], lfsr := [], bkCount := 0, bkFresh := 0 }
        keys := { s.keys with backupKey := [] } })

/-- BACKUP_TICK (R375): the 64 Hz tick of the backup oscillator. -/
def execBackupTick (s : State) : Host.Outcome State Fault Refusal := .next (s.incWrap Reg.TAMP_BKTICK 1)

/-- A write of TAMP.QUAR (R367): the quarantine of class 2 lifted. -/
def State.quarStore (s : State) (v : Word) : State :=
  if v = 0x00009A11#32 ∧ s.getF Fld.TAMP_STAT_CLASS = 2 ∧ ¬s.flag Fld.TAMP_STAT_TAMPERED then
    ((s.setF Fld.TAMP_STAT_QUAR 0).setF Fld.TAMP_STAT_CLASS 0).setF Fld.TAMP_STAT_FIRST 0
  else s

/-- QUAR_LIFT (R367). -/
def execQuarLift (m : Master) (v : Word) (s : State) : Host.Outcome State Fault Refusal :=
  .next (s.masterWrite m.val Reg.TAMP_QUAR (fun s => .ok (s.quarStore v)))

/-- A write of MCFG<m> (R360, R361): ignored as a whole with N = 0, W = 0, or a CLASS below the floor or above 4. -/
def State.mcfgStore (s : State) (m : Nat) (v : Word) : State :=
  if s.flag Fld.TAMP_CTRL_LOCK ∨ fld 11 8 v = 0 ∨ fld 31 16 v = 0 ∨ fld 2 0 v < monFloor m ∨ 4 < fld 2 0 v then s
  else s.setReg (Reg.TAMP_MCFG m) (v &&& 0xFFFF0F07#32)

/-- MCFG_WRITE (R361). -/
def execMcfgWrite (m : Master) (mon : Fin 101) (v : Word) (s : State) : Host.Outcome State Fault Refusal :=
  .next (s.masterWrite m.val (Reg.TAMP_MCFG mon.val) (fun s => .ok (s.mcfgStore mon.val v)))

/-- A write of TAMP.BIST (R362): MON within 0–100, DONE, and START where no test runs, on main power, with no response of
class 2 or above in force and the device not TAMPERED. -/
def State.bistStore (s : State) (v : Word) : State :=
  let s := if fld 6 0 v ≤ 100 then s.setF Fld.TAMP_BIST_MON (fld 6 0 v) else s
  let s := if bit 29 v then s.setF Fld.TAMP_BIST_DONE 0 else s
  if bit 8 v && !s.flag Fld.TAMP_BIST_BUSY && s.onMain && !s.quarantined && !s.flag Fld.TAMP_STAT_TAMPERED then
    { (s.setF Fld.TAMP_BIST_BUSY 1) with tamper := { s.tamper with bistMon := some (s.getF Fld.TAMP_BIST_MON) } }
  else s

/-- BIST_START (R362). -/
def execBistStart (m : Master) (v : Word) (s : State) : Host.Outcome State Fault Refusal :=
  .next (s.masterWrite m.val Reg.TAMP_BIST (fun s => .ok (s.bistStore v)))

/-- BIST_DONE (R362). -/
def execBistDone (detected : Bool) (s : State) : Host.Outcome State Fault Refusal :=
  .next (if !s.flag Fld.TAMP_BIST_BUSY then s
    else
      let s := ((s.setF Fld.TAMP_BIST_BUSY 0).setF Fld.TAMP_BIST_PASS (b2n detected)).setF Fld.TAMP_BIST_DONE 1
      { s with tamper := { s.tamper with bistMon := none } })

/-- A write of WCFG<n> (R357, R360): MODE where it is not locked, and a seed requested by RESEED or by a change to pattern. -/
def State.wcfgStore (s : State) (n : Nat) (v : Word) : State :=
  let mode := fld 31 30 v
  let old := s.getF (Fld.WALE_WCFG_MODE n)
  let new := if s.flag Fld.TAMP_CTRL_LOCK ∨ mode = 3 then old else mode
  let s := s.setF (Fld.WALE_WCFG_MODE n) new
  if bit 0 v || (new == 2 && old != 2) then s.setF (Fld.WALE_WCFG_RESEED n) 1 else s

/-- WALE_RESEED (R357). -/
def execWaleReseed (m : Master) (n : Fin 48) (v : Word) (s : State) : Host.Outcome State Fault Refusal :=
  .next (s.masterWrite m.val (Reg.WALE_WCFG n.val) (fun s => .ok (s.wcfgStore n.val v)))

/-- WALE_SEED_LOADED (R357): a requested seed is drawn once main power is present and the RNG is healthy: 31 random bits that
are not all zero. -/
def execWaleSeedLoaded (n : Fin 48) (s : State) : Host.Outcome State Fault Refusal :=
  .next (if !s.onMain || !s.rngHealthy || !s.flag (Fld.WALE_WCFG_RESEED n.val) then s
    else
      let r := s.drawHw 4
      (r.2.setLfsr n.val (ofLe r.1 % (2 ^ 31 - 1) + 1)).setF (Fld.WALE_WCFG_RESEED n.val) 0)

/-- The level of ALARM_OUT while main power is present (R374). -/
def State.alarmOut (s : State) : Bool :=
  s.flag Fld.TAMP_STAT_LATCH || (s.flag (Fld.PG_UCTL_ENABLE 127) && (s.quarantined || s.flag Fld.TAMP_STAT_TAMPERED))

end Sys2Proof.Machine
end

