-- ==== Sys2Proof/Machine/Ports.lean ====
section
/-! DEFINITION. What the port class blocks share: enables and the quarantine (R26–R28, R365), descriptors that pairs submit
(R387, R400, R435), frames staged by a job (R121) and the log entries of their items (R484). -/

namespace Sys2Proof.Machine

/-- A register after a write of v, field by field (R6, R8): reserved bits and fields that ignore the write keep their value. -/
def applyFields (fs : List Field) (old v : Word) (locked : Bool) : Word :=
  fs.foldl (fun w f =>
    let n := fld f.hi f.lo v
    let fits := decide (f.min ≤ n ∧ n ≤ f.max)
    match f.acc with
    | .rw => if fits then setFld f.hi f.lo n w else w
    | .rwl => if fits && !locked then setFld f.hi f.lo n w else w
    | .w1c => w &&& ~~~(setFld f.hi f.lo n 0)
    | .w1s => w ||| setFld f.hi f.lo n 0
    | .ro => w
    | .wo => w) old

/-- The RWL fields of a register are locked. -/
def State.locked (s : State) (o : Nat) : Bool := ((lockOf o).map (fun f => s.flag f)).getD false

/-- The register at an offset written as its field types say (R6, R8), without any further effect. -/
def State.writeReg (s : State) (o : Nat) (v : Word) : State := s.setReg o (applyFields (fieldsAt o) (s.reg o) v (s.locked o))

/-- A pair in SUPERVISOR, or in SESSION with the given tenant. -/
def State.ownsTenant (s : State) (p tenant : Nat) : Bool :=
  s.isSupervisor p || (s.role p == Role.session && s.pairTenant p == tenant)

/-- PG<n>.UCTL.ENABLE. -/
def State.portOn (s : State) (n : Nat) : Bool := s.flag (Fld.PG_UCTL_ENABLE n)
/-- A port of 2–71 may start a new item (R28, R365). -/
def State.portStarts (s : State) (n : Nat) : Bool := s.portOn n && !s.quarantined

/-- An event-log entry for an item of a port that ends abnormally (R484). -/
def State.portLog (s : State) (n status code : Nat) (j : Word) : State := s.logEvent Src.port status n j (wd code) 0

/-- A store of the address of a descriptor of `n` bytes, aligned to them, to a port's SUBMIT or STAGE register: the request it
makes, or none where the refusals of R218 and R220 hold. -/
def State.portSubmission (s : State) (p n : Nat) (v : Word) (busy : Bool) : Option EngReq :=
  let x := s.pair p
  let req : EngReq := ⟨p, indexOf p, s.isSupervisor p, x.ring, v.toNat - fabricBase, x.mpuF⟩
  if busy ∨ v.toNat % n ≠ 0 then none
  else if req.allows v.toNat n .load && req.allows v.toNat n .store then some req
  else none

/-- The words of a descriptor of `n` bytes. -/
def State.portWords (s : State) (r : EngReq) (n : Nat) : List Word := toWords (s.hbytes r.desc n)

/-- The result word w of a descriptor written, with zero in the next one, and its doorbell set; `db` is the word with DB and
DBIT (R221). -/
def State.portResult (s : State) (r : EngReq) (w status code : Nat) (extra db : Word) : State :=
  let s := s.setHbytes (r.desc + 4 * w) (wordBytes (wd (status * 2 ^ 16 + code * 2 ^ 8 + 1)) ++ wordBytes extra)
  if bit 0 db && !(r.ring == 3 && decide (fld 6 1 db < 32)) then s.ring r.pair (fld 6 1 db) else s

/-- Data moved into hearth memory by a port in bursts of up to 256 bytes (R153); the Bool says whether every burst passed. -/
def State.portWrite : Nat → State → Nat → Nat → List Byte → State × Bool
  | 0, s, _, _, _ => (s, true)
  | k + 1, s, n, a, bs =>
    if bs.isEmpty then (s, true)
    else
      let r := s.burst n true a (bs.take 256)
      if r.2.isNone then State.portWrite k r.1 n (a + 256) (bs.drop 256) else (r.1, false)

/-- Data read from hearth memory by a port in bursts of up to 256 bytes (R153), or STATUS and CODE of the burst that stops it. -/
def State.portRead : Nat → State → Nat → Nat → Nat → State × Except (Nat × Nat) (List Byte)
  | 0, s, _, _, _ => (s, .ok [])
  | k + 1, s, n, a, len =>
    if len = 0 then (s, .ok [])
    else
      let m := min len 256
      let r := s.burst n false a (s.hbytes (a - fabricBase) m)
      match r.2 with
      | some e => (r.1, .error e)
      | none =>
        match State.portRead k r.1 n (a + 256) (len - m) with
        | (t, .ok bs) => (t, .ok (s.hbytes (a - fabricBase) m ++ bs))
        | x => x

/-- What a port holds of a blob that a supervisor pair names by its fabric address (R411, R424): the plain key and the state with one
use staged for the pair's job, or STATUS and CODE under R225 and R226. `algOk` is the ALG asked for. -/
def State.portKey (s : State) (p addr index tenant : Nat) (algOk : Nat → Bool) : Except (Nat × Nat) (List Byte × State) :=
  let hdr := s.hbytes (addr - fabricBase) 32
  let len := 40 + (((algKeyLen (hdrAlg hdr) 0 0).map (fun k => 8 * ceilDiv k 8 + 8)).getD 24)
  if !fabricOk addr len then .error (St.param, 0x02)
  else match s.checkBlob (s.hbytes (addr - fabricBase) len) index p true false with
    | .error e => .error e
    | .ok key =>
      if (s.entry index).owner ≠ tenant then .error (St.policy, 0x0C)
      else if !algOk (hdrAlg hdr) then .error (St.keyAbsent, 0x09)
      else if fld 1 0 (hdrUsage hdr) ≠ 3 then .error (St.policy, 0x0B)
      else match s.reserveUses p [(index, 1)] with
        | .error e => .error e
        | .ok (t, _) => .ok (key, t)

/-- A frame may be added to those a job has staged: at most 8, of 8 KiB together (R121). -/
def Job.frameRoom (j : Job) (n : Nat) : Bool :=
  decide (j.frames.length < 8 ∧ (j.frames.map (fun f => f.data.length)).sum + n ≤ 8192)

/-- The frames staged for a port by all jobs. -/
def State.stagedFor (s : State) (n : Nat) : List Frame := s.jobs.flatMap (fun j => j.frames.filter (fun f => f.port == n))

/-- A frame staged by the armed job of a pair. -/
def State.stageFrame (s : State) (p : Nat) (f : Frame) : State := s.updArmed p (fun j => { j with frames := j.frames ++ [f] })

end Sys2Proof.Machine
end

