-- ==== Sys2Proof/Machine/Beat.lean ====
section
/-! DEFINITION. The Beat unit (R35–R46, R54, R55): sources and their measurement, the selection of the disciplining source, the
nominal rate and the watchdog. Times are crystal cycles since the last device-level reset. -/

namespace Sys2Proof.Machine

/-- The crystal in Hz (R36). -/
abbrev xtalHz : Nat := 25000000
/-- BEAT.NOMINAL.HZ. -/
def State.nominal (s : State) : Nat := s.getF Fld.BEAT_NOMINAL_HZ

/-! ## Sources -/

/-- The measurement of a source. -/
def State.measOf (s : State) : BeatSource → SourceMeas
  | .pin => s.beat.pin
  | .basket => s.beat.basket
/-- The state with the measurement of a source set. -/
def State.setMeas (s : State) (src : BeatSource) (m : SourceMeas) : State :=
  match src with
  | .pin => { s with beat := { s.beat with pin := m } }
  | .basket => { s with beat := { s.beat with basket := m } }
/-- The QUAL bit of a source. -/
def qualOf : BeatSource → FieldAt
  | .pin => Fld.BEAT_STATUS_PIN_QUAL
  | .basket => Fld.BEAT_STATUS_BASKET_QUAL
/-- The code of a source in STATUS.ACTIVE. -/
def activeCode : BeatSource → Nat
  | .pin => 0
  | .basket => 1

/-- The sources that SRC permits, highest priority first (R37). -/
def srcList (n : Nat) : List BeatSource := if n = 0 then [.pin, .basket] else if n = 1 then [.pin] else if n = 2 then [.basket] else []

/-- The source that disciplines the generator under R37. -/
def State.wanted (s : State) : Option BeatSource :=
  (srcList (fld 1 0 (s.reg Reg.BEAT_CTRL))).find? (fun x => s.flag (qualOf x))

/-- PERIOD_MEAS as R55 defines it. -/
def State.syncMeas (s : State) : State :=
  s.setF Fld.BEAT_PERIOD_MEAS_XTAL (if s.trusted then min 0xFFFFF s.beat.period else 0)

/-- The source chosen anew (R37, R38): a change sets SWITCH and is logged. The generator aligns to a new source, whose last measured
period is the one in use from then on; without one it is in free beat from the next Beat on, and where `lost` says that the loss of
a source has brought that, it goes on at the period in use. -/
def State.reselect (s : State) (lost : Bool := false) : State :=
  let want := s.wanted
  let code := (want.map activeCode).getD 2
  if code = s.getF Fld.BEAT_STATUS_ACTIVE then s
  else
    let s := (s.setF Fld.BEAT_STATUS_ACTIVE code).setF Fld.BEAT_STATUS_SWITCH 1
    let period := match want with
      | some src => (s.measOf src).period
      | none => s.beat.period
    let s := { s with beat := { s.beat with aligning := want, period := period, holdover := lost && want.isNone } }
    (s.logEvent Src.beat 2 0 0 0 0).syncMeas

/-- A source declared lost (R36, R39). -/
def State.loseSource (s : State) (src : BeatSource) : State :=
  let s := ((s.setF (qualOf src) 0).setF Fld.BEAT_STATUS_LOSS 1).setMeas src {}
  (s.logEvent Src.beat 1 0 0 0 0).reselect true

/-- The position of an edge `dt` cycles after the last good one (R36): in window k of the four, or outside them, failing the period
before whose window it comes. -/
def edgeAt (nominal dt : Nat) : Nat × Bool :=
  let a := 100 * dt * nominal + 2 * xtalHz
  let k := a / (100 * xtalHz)
  if 1 ≤ k ∧ k ≤ 4 ∧ a % (100 * xtalHz) ≤ 4 * xtalHz then (k, true) else (k + 1, false)

/-- An edge of a source that is not qualified: 16 good periods in a row qualify it (R36). -/
def State.qualify (s : State) (src : BeatSource) (t : Nat) : State :=
  let m := s.measOf src
  let good := match m.lastEdge with
    | some e => if edgeAt s.nominal (t - e) = (1, true) then m.good + 1 else 0
    | none => 0
  let s := s.setMeas src { m with lastEdge := some t, good := good }
  if good < 16 then s
  else
    let meas : SourceMeas := { lastGood := some t, lastEdge := some t, failed := [], good := good, period := t - m.lastEdge.getD t }
    ((s.setMeas src meas).setF (qualOf src) 1).reselect

/-- Window 4 has ended since the last good edge: periods 1 to 4 have failed, since a good edge would have restarted the count
(R36). -/
def State.lossDue (s : State) (src : BeatSource) (t : Nat) : Bool :=
  match s.flag (qualOf src), (s.measOf src).lastGood with
  | true, some g => decide (402 * xtalHz ≤ 100 * (t - g) * s.nominal)
  | _, _ => false

/-- An edge of a qualified source (R36): a good edge restarts the count, another fails its period. One that comes after window 4 finds
the source lost, and is the first edge of a new qualification. -/
def State.trackEdge (s : State) (src : BeatSource) (t g : Nat) : State :=
  let m := s.measOf src
  let w := edgeAt s.nominal (t - g)
  if w.2 && !m.failed.contains w.1 then
    let p := (t - g) / w.1
    let s := s.setMeas src { m with lastGood := some t, lastEdge := some t, failed := [], period := p }
    if s.getF Fld.BEAT_STATUS_ACTIVE = activeCode src then ({ s with beat := { s.beat with period := p } }).syncMeas else s
  else if s.lossDue src t then (s.loseSource src).qualify src t
  else s.setMeas src { m with lastEdge := some t, failed := if w.2 then m.failed else w.1 :: m.failed }

/-- An edge of a source. -/
def State.sourceEdge (s : State) (src : BeatSource) (t : Nat) : State :=
  match s.flag (qualOf src), (s.measOf src).lastGood with
  | true, some g => s.trackEdge src t g
  | _, _ => s.qualify src t

/-- PIN_EDGE (R36, R39): ignored while PG126 is disabled. -/
def execPinEdge (t : Nat) (s : State) : Host.Outcome State Fault Refusal :=
  .next (if s.portOn 126 then s.sourceEdge .pin t else s)

/-- SOURCE_LOST (R36). -/
def execSourceLost (src : BeatSource) (t : Nat) (s : State) : Host.Outcome State Fault Refusal :=
  .next (if s.lossDue src t then s.loseSource src else s)

/-- PG126.UCTL.ENABLE cleared (R39). -/
def State.disablePin (s : State) : State :=
  if s.flag Fld.BEAT_STATUS_PIN_QUAL then s.loseSource .pin else s.setMeas .pin {}

/-! ## Registers -/

/-- CPB_MIN of a nominal rate (R45). -/
def cpbMin (n : Nat) : Nat := 470000000 * 98 / (100 * n)
/-- MARGIN of a nominal rate (R45). -/
def marginOf (n : Nat) : Nat := max 20 (ceilDiv 920000 (cpbMin n))

/-- A write to BEAT.NOMINAL (R40, R45). -/
def State.nominalStore (s : State) (v : Word) : State :=
  let n := fld 16 0 v
  if s.flag Fld.BEAT_CTRL_LOCK || decide (n < 1000) || decide (100000 < n) then s
  else ((s.setF Fld.BEAT_NOMINAL_HZ n).setF Fld.BEAT_CPB_MIN_CYCLES (cpbMin n)).setF Fld.BEAT_MARGIN_BEATS (marginOf n)

/-- NOMINAL_WRITE (R45). -/
def execNominalWrite (m : Master) (v : Word) (s : State) : Host.Outcome State Fault Refusal :=
  .next (s.masterWrite m.val Reg.BEAT_NOMINAL (fun s => .ok (s.nominalStore v)))

/-- A write to BEAT.CTRL (R37, R40). -/
def State.beatCtrlStore (s : State) (v : Word) : State := (s.writeReg Reg.BEAT_CTRL v).reselect

/-- The watchdog's count set. -/
def State.setWdog (s : State) (n : Nat) : State := { s with beat := { s.beat with wdogCount := n } }

/-- A write to BEAT.WDOG (R54): LIMIT first, then EN, which stays 0 with a LIMIT of 0. -/
def State.wdogStore (s : State) (v : Word) : State :=
  if s.flag Fld.BEAT_WDOG_EN then s
  else
    let s := s.setF Fld.BEAT_WDOG_LIMIT (fld 23 0 v)
    if bit 31 v && fld 23 0 v != 0 then (s.setF Fld.BEAT_WDOG_EN 1).setWdog 0 else s

/-- WDOG_WRITE (R54). -/
def execWdogWrite (m : Master) (v : Word) (s : State) : Host.Outcome State Fault Refusal :=
  .next (s.masterWrite m.val Reg.BEAT_WDOG (fun s => .ok (s.wdogStore v)))

/-- A write to BEAT.WDOG_KICK (R54). -/
def State.kickStore (s : State) (v : Word) : State := if v = 0xB3A7#32 then s.setWdog 0 else s

/-- WDOG_KICK (R54). -/
def execWdogKick (m : Master) (v : Word) (s : State) : Host.Outcome State Fault Refusal :=
  .next (s.masterWrite m.val Reg.BEAT_WDOG_KICK (fun s => .ok (s.kickStore v)))

/-- WDOG_EXPIRE (R54, R471): the count has reached LIMIT. -/
def execWdogExpire (s : State) : Host.Outcome State Fault Refusal :=
  .next (if s.flag Fld.BEAT_WDOG_EN && decide (s.getF Fld.BEAT_WDOG_LIMIT ≤ s.beat.wdogCount) then
      s.deviceReset (wd (2 ^ RstBit.wdog))
    else s)

/-! ## The generator -/

/-- A Beat may last `n` crystal cycles (R35): between 0.98 and 1.02 nominal periods. -/
def State.lengthOk (s : State) (n : Nat) : Bool := decide (98 * xtalHz ≤ 100 * n * s.nominal ∧ 100 * n * s.nominal ≤ 102 * xtalHz)

/-- A Beat may end at t (R35, R38): in holdover it lasts the last measured period, and while the phase is being aligned it differs from
the period in use by at most 1 % of the nominal one. A period that the nominal rate written since does not admit gives way to R35. -/
def State.beatInRange (s : State) (t : Nat) : Bool :=
  let n := t - s.beat.lastT
  let p := s.beat.period
  decide (s.beat.lastT ≤ t) && s.lengthOk n &&
    (!s.lengthOk p || ((!s.beat.holdover || n == p) &&
      (s.beat.aligning.isNone || decide (100 * (max n p - min n p) * s.nominal ≤ xtalHz))))

/-- The generator's phase is that of the source it aligns to, within one crystal cycle (R38; log 43). -/
def State.aligned (s : State) (src : BeatSource) (t : Nat) : Bool :=
  match (s.measOf src).lastGood with
  | some g =>
    let r := (t - g) % (max 1 s.beat.period)
    decide (r ≤ 1) || decide (max 1 s.beat.period ≤ r + 1)
  | none => false

/-- Free beat at a Beat (R38): it begins with the first Beat after a loss, and ends with the first one at which alignment is
complete. -/
def State.freeStep (s : State) (t : Nat) : State :=
  if s.getF Fld.BEAT_STATUS_ACTIVE = 2 then s.setF Fld.BEAT_STATUS_FREE 1
  else match s.beat.aligning with
    | some src =>
      if s.aligned src t then ({ s with beat := { s.beat with aligning := none } }).setF Fld.BEAT_STATUS_FREE 0 else s
    | none => s

/-- The Beat counter and what is counted with it (R41, R42, R54, R55). -/
def State.countBeat (s : State) (t : Nat) : State :=
  let s := if s.trusted then s else s.incSat Reg.BEAT_FREE_BEATS
  let s := s.freeStep t
  let c := s.beat.count + 1
  let s := { s with beat := { s.beat with
    count := c, lastT := t, lastUntrusted := if s.trusted then s.beat.lastUntrusted else some c.toNat } }
  let s := if s.flag Fld.BEAT_WDOG_EN then s.setWdog (s.beat.wdogCount + 1) else s
  s.syncMeas

end Sys2Proof.Machine
end

