-- ==== Sys2Proof/Machine/Lifecycle.lean ====
section
/-! DEFINITION. The life-cycle controller (R332–R341, R345–R349, R353): nonces, requests and their checks, debug certificates,
and the functions of gate 2. -/

namespace Sys2Proof.Machine

/-! ## Authorities and signatures -/

/-- LCS.STAT.STATE. -/
def State.lcState (s : State) : Nat := s.getF Fld.LCS_STAT_STATE
/-- The device reports TAMPERED (R373). -/
def State.tampered (s : State) : Bool := s.flag Fld.TAMP_STAT_TAMPERED

/-- A digest fused or held in ROM (R337; log 20): 0 of T1, 1 of T2, 2 of the vendor authority. -/
def fixedDigest (k : Nat) : List Byte := (List.range 32).map (Config.digestByte k)

/-- Key and signature lengths of an ALG of R338; none where it is no ALG. -/
def lcAlgLens (alg : Nat) : Option (Nat × Nat) :=
  if alg = 1 then some (64, 64) else if alg = 3 then some (1952, 3309) else none

/-- A signature over a digest verifies in the controller's own datapath (R338, R339). -/
def lcVerify (alg : Nat) (pk sig digest : List Byte) : Bool :=
  if alg = 1 then
    let x := leAt pk 0 32
    let y := leAt pk 32 32
    let r := leAt sig 0 32
    let t := leAt sig 32 32
    p256.pointOk x y && r != 0 && decide (r < p256.n) && t != 0 && decide (t < p256.n) && p256.ecdsaVerify (some (x, y)) digest r t
  else mldsaVerify 3 pk (0#8 :: digest) sig == some true

/-- ASCII text as bytes. -/
def ascii (cs : List Nat) : List Byte := cs.map byte
/-- "CHLLCT01". -/
def magicToken : List Byte := ascii [67, 72, 76, 76, 67, 84, 48, 49]
/-- "CHLLCR01". -/
def magicRequest : List Byte := ascii [67, 72, 76, 76, 67, 82, 48, 49]
/-- "CHLDBG01". -/
def magicCert : List Byte := ascii [67, 72, 76, 68, 66, 71, 48, 49]

/-- LCS.LASTREF records a refusal (R339, R348). -/
def State.lastRef (s : State) (reason : Nat) : State := s.setReg Reg.LCS_LASTREF (wd (2 ^ 31 + reason))

/-! ## Requests -/

/-- A signer's block (R338). -/
structure Signer where
  alg : Nat
  pk : List Byte
  sig : List Byte
  deriving DecidableEq, Repr

/-- The signer blocks at the front of a byte list, and what follows them; none where one is malformed. -/
def parseSigners : Nat → List Byte → Option (List Signer × List Byte)
  | 0, bs => some ([], bs)
  | n + 1, bs =>
    match lcAlgLens (leAt bs 0 2) with
    | none => none
    | some (p, g) =>
      if bs.length < 8 + p + g ∨ leAt bs 2 2 ≠ p ∨ leAt bs 4 2 ≠ g ∨ leAt bs 6 2 ≠ 0 then none
      else
        (parseSigners n (bs.drop (8 + p + g))).map (fun r =>
          (⟨leAt bs 0 2, slice bs 8 p, slice bs (8 + p) g⟩ :: r.1, r.2))

/-- A request (R338): the token form with its token and owner key, or the signed form. -/
inductive LcForm where
  | token (tok : List Byte) (owner : Option (List Byte))
  | signed (kind target src signers : Nat) (uid nonce stmt : List Byte) (blocks : List Signer)
  deriving DecidableEq, Repr

/-- A request as R338 lays it out; none where the form is malformed (check 1 of R339). -/
def parseRequest (target : Nat) (b : List Byte) : Option LcForm :=
  if b.take 8 = magicToken then
    if target = 2 then
      match lcAlgLens (leAt b 40 2) with
      | some (p, _) => if leAt b 42 2 = p ∧ b.length = 44 + p then some (.token (slice b 8 32) (some (slice b 44 p))) else none
      | none => none
    else if b.length = 40 then some (.token (slice b 8 32) none)
    else none
  else if b.take 8 = magicRequest ∧ 64 ≤ b.length then
    let kind := leAt b 8 1
    let sg := leAt b 0x0B 1
    if (kind ≠ 1 ∧ kind ≠ 2) ∨ 3 < sg ∨ leAt b 0x0C 4 ≠ 0 then none
    else match parseSigners (sg % 2 + sg / 2) (b.drop 64) with
      | some (bl, []) => some (.signed kind (leAt b 9 1) (leAt b 0x0A 1) sg (slice b 0x10 16) (slice b 0x20 32) (b.take 64) bl)
      | _ => none
  else none

/-- What R334 asks of a transition: nothing of it exists; a token; or signers, each bit of the first mask and some bit of the
second. -/
inductive LcAuth where
  | absent
  | token (k : Nat)
  | signers (all any : Nat)
  deriving DecidableEq, Repr

/-- The table of R334; `reprov` for a request of KIND 2. -/
def lcAuthority (src target : Nat) (reprov : Bool) : LcAuth :=
  if reprov then (if src = 2 ∨ src = 4 ∨ src = 5 then .signers 1 1 else .absent)
  else if src = 0 ∧ target = 1 then .token 0
  else if src = 1 ∧ target = 2 then .token 1
  else if src = 2 ∧ (target = 3 ∨ target = 4) then .signers 1 1
  else if src = 3 ∧ target = 4 then .signers 1 1
  else if src = 4 ∧ target = 5 then .signers 1 1
  else if 2 ≤ src ∧ src ≤ 5 ∧ target = 6 then .signers 3 3
  else if (src ≤ 1 ∨ src = 6) ∧ target = 7 then .signers 2 2
  else if 2 ≤ src ∧ src ≤ 5 ∧ target = 7 then .signers 0 3
  else .absent

/-- The digest of the authority of signer k: 0 owner, 1 vendor. -/
def State.authorityDigest (s : State) (k : Nat) : Option (List Byte) :=
  if k = 0 then s.otp.ownerDigest else some (fixedDigest 2)

/-- The first free re-provision record (R340). -/
def Otp.freeReprov (o : Otp) : Option Nat := ((List.range 8).find? (fun i => !o.mark (8 + i) 0)).map (· + 8)

/-- A refusal of R339: STATUS, SUB and REASON. -/
def lcBad (reason : Nat) : Except (Nat × Nat × Nat) (Nat × Option (List Byte)) :=
  .error (if reason = 1 then (St.param, 8, 1) else (St.lifecycle, 0, reason))

/-- The checks of R339 in order on a request for a target: the record to be marked and the owner digest to be programmed, or
STATUS, SUB and REASON. A token form where R334 names signers fails check 6, a signed form where it names a token fails
check 7, and a target that differs from the statement's fails check 2 (log 27). -/
def State.lcCheck (s : State) (target : Nat) (auth : List Byte) : Except (Nat × Nat × Nat) (Nat × Option (List Byte)) :=
  let st := s.lcState
  match parseRequest target auth with
  | none => lcBad 1
  | some (.token tok owner) =>
    match lcAuthority st target false with
    | .absent => lcBad 2
    | .signers _ _ => if s.tampered then lcBad 0x0B else lcBad 5
    | .token k =>
      if s.tampered then lcBad 0x0B
      else if sha256 tok ≠ fixedDigest k then lcBad 5
      else match owner with
        | none => .ok (target, none)
        | some pk =>
          if s.otp.ownerDigest.isSome ∧ s.otp.ownerDigest ≠ some (sha256 pk) then lcBad 6 else .ok (target, some (sha256 pk))
  | some (.signed kind tgt src sg uid nonce stmt blocks) =>
    let re := kind == 2
    let need := lcAuthority st tgt re
    if need = .absent ∨ src ≠ st ∨ tgt ≠ target ∨ (re ∧ tgt ≠ st) then lcBad 2
    else if s.tampered ∧ ¬(re ∨ tgt = 6 ∨ tgt = 7) then lcBad 0x0B
    else if uid ≠ deviceUid then lcBad 3
    else if s.dport.nonce ≠ some nonce then lcBad 4
    else
      let who := (if sg % 2 = 1 then [0] else []) ++ (if sg / 2 = 1 then [1] else [])
      let ok := match need with
        | .signers all any => sg &&& all == all && (sg &&& any) != 0
        | _ => false
      if !ok then lcBad 8
      else if who.contains 0 ∧ s.otp.ownerDigest = none then lcBad 9
      else if (who.zip blocks).any (fun e => s.authorityDigest e.1 != some (sha256 e.2.pk)) then lcBad 6
      else if blocks.any (fun b => !lcVerify b.alg b.pk b.sig (sha256 stmt)) then lcBad 7
      else if re then (match s.otp.freeReprov with
        | some r => .ok (r, none)
        | none => lcBad 0x0A)
      else .ok (tgt, none)

/-- A request presented (R336, R339): the nonce is spent whatever the outcome, and a refusal is recorded. -/
def State.lcPresent (s : State) (target : Nat) (auth : List Byte) : Except (Nat × Nat) (Nat × Option (List Byte)) × State :=
  let r := s.lcCheck target auth
  let s := { s with dport := { s.dport with nonce := none } }
  match r with
  | .ok x => (.ok x, s)
  | .error (st, sub, reason) => (.error (st, sub), s.lastRef reason)

/-- A request that passed recorded (R341): the owner digest programmed, then M0 of the record set. -/
def State.lcRecord (s : State) (r : Nat) (owner : Option (List Byte)) : State :=
  let o := match owner with
    | some d => { s.otp with ownerDigest := some d }
    | none => s.otp
  { s with otp := o.setMark r 0 }

/-- A new device nonce (R336): 32 bytes of the RNG. -/
def State.newNonce (s : State) : List Byte × State :=
  let r := s.drawHw 32
  (r.1, { r.2 with dport := { r.2.dport with nonce := some r.1 } })

/-! ## Certificates -/

/-- The ranges of a certificate: BASE, LOG2, ACC. -/
def certRanges (b : List Byte) : List (Nat × Nat × Nat) :=
  (List.range (leAt b 0x2C 1)).map (fun i => (leAt b (0x30 + 8 * i) 4, leAt b (0x34 + 8 * i) 1, leAt b (0x35 + 8 * i) 1))

/-- A certificate is well formed (R347, R348). -/
def certFormOk (b : List Byte) : Bool :=
  let n := leAt b 0x2C 1
  let o := 0x30 + 8 * n
  decide (o + 4 ≤ b.length) && b.take 8 == magicCert && decide (leAt b 0x1C 4 ≤ leAt b 0x20 4) && leAt b 0x24 4 != 0 &&
  leAt b 0x2A 1 &&& 0xF1 == 0 && leAt b 0x2B 1 &&& 0xF8 == 0 && decide (n ≤ 8) && leAt b 0x2E 2 == 0 &&
  (List.range n).all (fun i => leAt b (0x36 + 8 * i) 2 == 0 && leAt b (0x35 + 8 * i) 1 &&& 0xFC == 0) &&
  (certRanges b).all (fun r => decide (5 ≤ r.2.1 ∧ r.2.1 ≤ 32 ∧ r.1 % 2 ^ r.2.1 = 0)) &&
  match lcAlgLens (leAt b 0x2D 1) with
  | some (p, g) => leAt b o 2 == p && leAt b (o + 2) 2 == g && b.length == o + 4 + p + g
  | none => false

/-- The REASON of a certificate's refusal (R348), none where it is accepted. -/
def State.certReason (s : State) (b : List Byte) : Option Nat :=
  let o := 0x30 + 8 * leAt b 0x2C 1
  let pk := slice b (o + 4) (leAt b o 2)
  let sig := slice b (o + 4 + leAt b o 2) (leAt b (o + 2) 2)
  if !certFormOk b then some 0x14
  else if s.lcState ≠ 4 ∧ s.lcState ≠ 5 then some 0x13
  else if slice b 8 16 ≠ deviceUid then some 0x10
  else if s.boots < leAt b 0x1C 4 ∨ leAt b 0x20 4 < s.boots then some 0x11
  else if s.otp.ownerDigest ≠ some (sha256 pk) ∨ ¬lcVerify (leAt b 0x2D 1) pk sig (sha256 (b.take o)) then some 0x12
  else none

/-- A certificate presented (R348, R349): accepted, its rights replace those in force; refused, REASON is recorded. The Bool says
whether it was accepted. -/
def State.certPresent (s : State) (b : List Byte) : State × Bool :=
  match s.certReason b with
  | some r => (s.lastRef r, false)
  | none =>
    let s := s.endRights
    let fl := leAt b 0x2B 1
    let s := s.setReg Reg.LCS_DBG_RIGHTS (wd (2 ^ 23 * (fl / 2 % 2) + 2 ^ 22 * (fl / 4 % 2) + 2 ^ 21 * (fl % 2) +
      2 ^ 16 * (leAt b 0x2A 1 % 16) + leAt b 0x28 2))
    let s := (s.setReg Reg.LCS_DBG_SERIAL (wd (leAt b 0x18 4))).setReg Reg.LCS_DBG_LEFT (wd (leAt b 0x24 4))
    let s := (s.setF Fld.LCS_STAT_DEBUG 1).setF Fld.LCS_STAT_HALTRIGHT (fl % 2)
    let s := { s with dport := { s.dport with ranges := certRanges b } }
    (s.logEvent Src.lifecycle 1 0 (wd (leAt b 0x18 4)) 0 0, true)

/-- The debug rights closed (R349): in the open states they end only at reset and at a tamper response. -/
def State.closeRights (s : State) : State := if s.flag Fld.LCS_STAT_OPEN then s else s.endRights

/-! ## Gate 2 -/

/-- The caller's buffer of gate 2 lies in its hearth memory, within what ring 1 may access (R353; log 27). -/
def State.gateBuffer (s : State) (p a n : Nat) (k : Access) : Bool :=
  spaceOf a == .hearth && decide (1 ≤ n) && spaceOf (a + n - 1) == .hearth && !inCheckpoint (a + n - 1) &&
  mpuPermits (s.pair p).mpuF 1 a n k

/-- GATE2_NONCE (R353, R336): function 1. -/
def execGate2Nonce (p : PairId) (s : State) : Host.Outcome State Fault Refusal :=
  let q := p.val
  .next (s.gateService q 2 1 4 (fun s =>
    let a := s.gateArg q 4
    if s.gateArg q 5 < 32 || !s.gateBuffer q a 32 .store then s.gateReturn q [St.param, 5]
    else if !s.rngHealthy then s.gateReturn q [St.faultHw]
    else
      let r := s.newNonce
      (r.2.writeMem q a r.1).gateReturn q [St.ok]))

/-- The target of a request presented through gate 2, which carries no TARGET of its own (R353; log 27): the statement's, or
for a token the next state. -/
def State.gateTarget (s : State) (b : List Byte) : Nat := if b.take 8 = magicToken then s.lcState + 1 else leAt b 9 1

/-- The reset of an accepted request: after the reply of the job armed on the pair, or at once where it runs none (R341, R353). -/
def State.lcReset (s : State) (p : Nat) : State :=
  match s.armedJob p with
  | some j => { s with resetAfter := some (j.src, j.tag, wd (2 ^ RstBit.lc)) }
  | none => s.deviceReset (wd (2 ^ RstBit.lc))

/-- GATE2_TRANSITION (R353, R339, R341): function 2. -/
def execGate2Transition (p : PairId) (s : State) : Host.Outcome State Fault Refusal :=
  let q := p.val
  .next (s.gateService q 2 2 4 (fun s =>
    let a := s.gateArg q 4
    let n := s.gateArg q 5
    if !s.gateBuffer q a n .load then s.gateReturn q [St.param, 5]
    else
      let b := s.viewBytes q a n
      match s.lcPresent (s.gateTarget b) b with
      | (.error (st, sub), t) => t.gateReturn q [st, sub]
      | (.ok (r, owner), t) => ((t.lcRecord r owner).gateReturn q [St.ok]).lcReset q))

/-- GATE2_CERT (R353, R348): function 3. -/
def execGate2Cert (p : PairId) (s : State) : Host.Outcome State Fault Refusal :=
  let q := p.val
  .next (s.gateService q 2 3 4 (fun s =>
    let a := s.gateArg q 4
    let n := s.gateArg q 5
    if !s.gateBuffer q a n .load then s.gateReturn q [St.param, 5]
    else
      let r := s.certPresent (s.viewBytes q a n)
      r.1.gateReturn q [if r.2 then St.ok else St.lifecycle, (r.1.reg Reg.LCS_DBG_RIGHTS).toNat]))

/-- GATE2_CLOSE (R353, R349): function 4. -/
def execGate2Close (p : PairId) (s : State) : Host.Outcome State Fault Refusal :=
  .next (s.gateService p.val 2 4 4 (fun s => s.closeRights.gateReturn p.val [St.ok]))

end Sys2Proof.Machine
end

