-- ==== Sys2Proof/Machine/Dispatcher.lean ====
section
/-! DEFINITION. The path of a command (R24, R25): the header checks of a class block (R200), and the dispatcher: opcodes (R212),
tenant policy, the life-cycle gate (R332, R373), admission (R46) and the creation of the job (R120). -/

namespace Sys2Proof.Machine

/-! ## Headers -/

/-- A field of a command header (R199). -/
def hdrF (h : List Word) (w hi lo : Nat) : Nat := fld hi lo (h.getD w 0)
/-- OPCODE. -/
def hdrOpcode (h : List Word) : Nat := hdrF h 0 15 0
/-- TENANT. -/
def cmdTenant (h : List Word) : Nat := hdrF h 1 31 24
/-- TAG. -/
def hdrTag (h : List Word) : Nat := hdrF h 1 15 0
/-- QUEUE. -/
def hdrQueue (h : List Word) : Nat := hdrF h 1 21 16
/-- SEQ. -/
def hdrSeq (h : List Word) : Nat := hdrF h 3 15 0
/-- LENGTH. -/
def hdrLen (h : List Word) : Nat := (h.getD 4 0).toNat
/-- DEADLINE. -/
def hdrDeadline (h : List Word) : Nat := hdrF h 2 23 0

/-- HVER, QUEUE and the reserved fields are as R199 says. -/
def hdrWellFormed (h : List Word) (queue : Nat) : Bool :=
  hdrF h 2 31 24 == 1 && hdrQueue h == queue && hdrF h 0 31 19 == 0 && hdrF h 1 23 22 == 0 && hdrF h 3 31 16 == 0 &&
  h.getD 6 0 == 0 && h.getD 7 0 == 0 && (hdrF h 0 18 18 == 1 || h.getD 5 0 == 0)

/-- The CRC of a command whose FLAGS.CRC is 1 is right. -/
def hdrCrcOk (h : List Word) (params : List Byte) : Bool :=
  hdrF h 0 18 18 == 0 || h.getD 5 0 == crc32c (wordsBytes (h.set 5 0) ++ params)

/-! ## Opcodes -/

/-- An opcode (R212): its value, whether it is marked A, the bytes of its fixed fields, and whether a variable field follows. -/
structure OpInfo where
  code : Nat
  admin : Bool
  fixed : Nat
  more : Bool
  deriving DecidableEq, Repr

/-- The opcodes of families 0x01 to 0x03 (R212). -/
def opTable1 : List OpInfo :=
  [⟨0x100, false, 0, false⟩, ⟨0x101, false, 0, false⟩, ⟨0x102, true, 24, false⟩, ⟨0x103, true, 4, false⟩, ⟨0x104, true, 4, false⟩,
   ⟨0x105, true, 12, false⟩, ⟨0x106, true, 4, false⟩, ⟨0x107, false, 0, false⟩, ⟨0x200, true, 20, false⟩, ⟨0x201, true, 4, false⟩,
   ⟨0x202, false, 4, false⟩, ⟨0x203, false, 4, false⟩, ⟨0x204, false, 4, true⟩, ⟨0x205, false, 4, false⟩, ⟨0x206, false, 4, false⟩,
   ⟨0x300, false, 4, true⟩, ⟨0x301, false, 40, false⟩, ⟨0x302, false, 16, false⟩, ⟨0x303, false, 4, true⟩, ⟨0x304, false, 8, false⟩,
   ⟨0x305, false, 4, false⟩, ⟨0x306, false, 4, false⟩, ⟨0x307, false, 4, false⟩]
/-- The opcodes of families 0x04 to 0x06. -/
def opTable2 : List OpInfo :=
  [⟨0x400, false, 4, false⟩, ⟨0x401, false, 16, false⟩, ⟨0x402, false, 48, false⟩, ⟨0x403, false, 40, false⟩, ⟨0x404, false, 44, false⟩,
   ⟨0x405, false, 4, false⟩, ⟨0x406, false, 4, false⟩, ⟨0x407, true, 8, false⟩, ⟨0x500, false, 56, true⟩, ⟨0x501, false, 40, false⟩,
   ⟨0x502, false, 38, false⟩, ⟨0x503, false, 8, true⟩, ⟨0x504, false, 8, true⟩, ⟨0x505, false, 8, true⟩, ⟨0x506, false, 4, false⟩,
   ⟨0x507, true, 4, true⟩, ⟨0x600, true, 4, false⟩, ⟨0x601, false, 4, false⟩, ⟨0x602, false, 0, false⟩, ⟨0x603, true, 4, false⟩,
   ⟨0x604, true, 4, false⟩, ⟨0x605, false, 20, false⟩, ⟨0x606, false, 4, true⟩]
/-- The opcodes of families 0x07 to 0x09. -/
def opTable3 : List OpInfo :=
  [⟨0x700, false, 0, false⟩, ⟨0x701, true, 0, true⟩, ⟨0x702, true, 0, false⟩, ⟨0x703, true, 4, false⟩, ⟨0x800, false, 0, false⟩,
   ⟨0x801, true, 0, false⟩, ⟨0x802, true, 4, true⟩, ⟨0x803, true, 0, true⟩, ⟨0x804, true, 0, false⟩, ⟨0x900, false, 4, false⟩,
   ⟨0x901, true, 20, false⟩, ⟨0x902, true, 0, false⟩, ⟨0x903, true, 20, false⟩, ⟨0x904, true, 4, false⟩]
/-- What an opcode is, none where it is not assigned. -/
def opInfo (op : Nat) : Option OpInfo := (opTable1 ++ opTable2 ++ opTable3).find? (fun o => o.code == op)

/-- LENGTH fits the parameters of an opcode (R203). -/
def OpInfo.fits (o : OpInfo) (n : Nat) : Bool := if o.more then decide (o.fixed ≤ n) else n == o.fixed

/-- The families that a life-cycle state permits (R332). -/
def lcPermits (st op : Nat) : Bool :=
  let f := op / 0x100
  if st ≤ 1 ∨ st = 6 then f == 1 || f == 8 || f == 9 else st ≤ 5

/-- The commands that the gate passes while the device reports TAMPERED (R373). -/
def tamperedPermits (op : Nat) : Bool :=
  op == 0x100 || op == 0x101 || op == 0x107 || (decide (0x800 ≤ op ∧ op ≤ 0x802)) || decide (0x900 ≤ op ∧ op ≤ 0x904)

/-- The commands that are admitted during a quarantine (R366). -/
def quarantinePermits (op : Nat) : Bool :=
  op == 0x100 || op == 0x101 || op == 0x107 || op == 0x800 || decide (0x900 ≤ op ∧ op ≤ 0x902)

/-- A tenant's policy (log 8). -/
def State.policyOf (s : State) (t : Nat) : Policy := s.policies.get (fun _ => ⟨0, 0⟩) t

/-! ## Header checks -/

/-- The checks of R200 as a class block makes them: the largest LENGTH, QUEUE, NEXT_SEQ, the stream, the tenant that check 6 asks
for, and the opcodes that check 8 admits. STATUS and SUB of the first that fails. -/
def State.headerCheck (s : State) (h : List Word) (params : List Byte) (maxLen queue nextSeq : Nat) (src : Stream)
    (tenantOk : Bool) (opOk : OpInfo → Bool) : Option (Nat × Nat) :=
  if maxLen < hdrLen h then some (St.param, 3)
  else if !hdrWellFormed h queue then some (St.param, 2)
  else if !hdrCrcOk h params then some (St.param, 6)
  else if hdrSeq h ≠ nextSeq then some (St.param, 5)
  else if s.taken.any (fun t => t.src == src && t.tag == hdrTag h && !t.lost) then some (St.param, 4)
  else if !tenantOk then some (St.policy, 1)
  else match opInfo (hdrOpcode h) with
    | none => some (St.param, 1)
    | some o => if opOk o then none else some (St.policy, 2)

/-- A command taken (R200): its place in the reply order of its stream. -/
def State.takeCommand (s : State) (src : Stream) (h : List Word) : State :=
  { s with taken := s.taken ++ [{ src := src, tag := hdrTag h, j := 0, lost := false, seq := hdrSeq h, opcode := hdrOpcode h
                                  tenant := cmdTenant h, unordered := hdrF h 0 16 16 == 1, noint := hdrF h 0 17 17 == 1
                                  tArr := s.beatNow, reply := none, held := false }] }

/-- A command ended before it is a job: its reply is released with J = 0 (R205). -/
def State.refuseCommand (s : State) (src : Stream) (tag st sub : Nat) : State := s.release src tag (mkReply st sub) 0 false

/-! ## The dispatcher -/

/-- The channel by which a port's class block posts headers to the dispatcher (R24 step 1, R167): its sender is the port and its
receiver the supervisor alias. -/
def State.intakeOf (s : State) (port : Nat) : Option Nat :=
  (List.range 2048).find? (fun c => s.flueEnabled c && s.getF (Fld.CHAN_W0_SEND c) == 512 + port && s.getF (Fld.CHAN_W0_RECV c) == 1023)

/-- A header posted to the dispatcher; none where its slot is full (R24 step 1; log 33). The header of a port that supervisor firmware has
given no enabled intake channel goes on to the dispatcher without a message, as the manual does not say what becomes of it (DESIGN
CHOICE; log 88). -/
def State.postHeader (s : State) (port : Nat) (h : List Word) : Option State :=
  match s.intakeOf port with
  | none => some s
  | some c =>
    let r := s.fabricMessage c (512 + port) h
    if r.2 then some r.1 else none

/-- The dispatcher takes the header that a port has posted. -/
def State.takeHeader (s : State) (port : Nat) : State :=
  match s.intakeOf port with
  | none => s
  | some c => s.releaseFlue c

/-- A session by its handle, as commands of a tenant name it (R519). -/
def State.sessionFor (s : State) (handle tenant : Nat) : Option Session :=
  s.sessions.find? (fun x => x.handle == handle && x.tenant == tenant && !x.closing)

/-- The opcode names a session by HANDLE in its first two bytes. -/
def namesSession (op : Nat) : Bool := decide (0x203 ≤ op ∧ op ≤ 0x206)

/-- The entry point e of a session's image: PC and worst-case cycles; none above ENTRY_COUNT (R117). -/
def State.entryPoint (s : State) (x : Session) (e : Nat) : Option (Nat × Nat) :=
  let h := s.imageHeader x
  if e < leAt h 0x0A 1 then some (leAt h (0x70 + 8 * e) 4, leAt h (0x74 + 8 * e) 4) else none

/-- The next J (R120, R491): modulo 2^32 without 0. -/
def State.nextJ (s : State) : Word := if s.lastJ + 1 = 0 then 1 else s.lastJ + 1

/-- The supervisor pair that a command is assigned to (R25): the one that supervisor firmware names, else the first. -/
def State.jobPair (s : State) (adm : Admission) : Option Nat :=
  if s.isSupervisor adm.pair.val then some adm.pair.val else (s.pairsIn Role.supervisor).head?

/-- T_arr of the command that a stream has under a TAG without a job or a reply (R43). -/
def State.arrival (s : State) (src : Stream) (tag : Nat) : Nat :=
  ((s.taken.find? (fun t => t.src == src && t.tag == tag && t.j == 0 && t.reply.isNone)).map (·.tArr)).getD s.beatNow

/-- W of a job of C cycles (R46), with the Beats that it waits for other jobs first. -/
def State.worstCase (s : State) (c extra : Nat) : Nat :=
  let cpb := s.getF Fld.BEAT_CPB_MIN_CYCLES
  (if cpb = 0 then c else ceilDiv c cpb) + extra

/-- Admission of a job of W Beats with the relative deadline D that arrived at a Beat (R43, R44, R46). -/
def State.admits (s : State) (w d tArr : Nat) : Bool :=
  d == 0 || decide (s.beatNow + 2 * w + s.getF Fld.BEAT_MARGIN_BEATS ≤ tArr + d)

/-- A job created for a command (R24 step 6, R120). -/
def State.createJob (s : State) (src : Stream) (h : List Word) (params : List Byte) (pair w : Nat) (session : Option Nat) (buf : Nat) :
    State :=
  let j := s.nextJ
  let d := hdrDeadline h
  let tArr := s.arrival src (hdrTag h)
  let job : Job := { j := j, attempt := 0, pair := pair, src := src, tag := hdrTag h, opcode := hdrOpcode h, tenant := cmdTenant h
                     params := params, a := if d = 0 then none else some (tArr + d), w := w, tArr := tArr
                     phase := .admitted, session := session, updates := [], pulses := [], frames := [], reply := none, effects := []
                     portsOff := [], buf := buf }
  let taken := s.taken.map (fun t => if t.src == src && t.tag == hdrTag h && t.j == 0 && t.reply.isNone then { t with j := j } else t)
  { s with jobs := s.jobs ++ [job], lastJ := j, taken := taken }

/-- A close admitted (R519): from now on the handle names no session for later commands. -/
def State.closeAdmitted (s : State) (x : Session) : State := s.setSession { x with closing := true }

/-- What the dispatcher does with a command: the executing pair (R25), its worst case, and the session that it names. The job of a session
runs on the pair that holds it. -/
structure Target where
  pair : Option Nat
  w : Nat
  session : Option Session
  /-- The job runs on the pair of its session, as a job of it. -/
  held : Bool
  deriving DecidableEq, Repr

/-- The longest W of the jobs of a session that its close waits for (R519). -/
def State.longestOf (s : State) (x : Session) : Nat :=
  ((s.jobs.filter (fun j => j.session == some x.handle)).map (·.w)).foldl max 0

/-- What the dispatcher does with a command: STATUS and SUB of a refusal that its session brings (R519), or its target. -/
def State.sessionTarget (s : State) (h : List Word) (params : List Byte) (adm : Admission) : Except (Nat × Nat) Target :=
  let op := hdrOpcode h
  if !namesSession op then .ok ⟨s.jobPair adm, s.worstCase adm.wc 0, none, false⟩
  else match s.sessionFor (leAt params 0 2) (cmdTenant h) with
    | none => .error (St.policy, 4)
    | some x =>
      if op = 0x203 then
        if x.state ≠ .loaded then .error (St.busy, 0) else .ok ⟨s.jobPair adm, s.worstCase adm.wc (s.longestOf x), some x, false⟩
      else if op ≠ 0x204 then
        .ok ⟨if x.state = .loaded then some x.pair else s.jobPair adm, s.worstCase adm.wc 0, some x, x.state == .loaded⟩
      else if leAt params 3 1 ≠ 0 then .error (St.param, 8)
      else if x.state ≠ .loaded then .error (St.busy, 0)
      else match s.entryPoint x (leAt params 2 1) with
        | none => .error (St.param, 8)
        | some (_, c) => .ok ⟨some x.pair, s.worstCase c 0, some x, true⟩

/-- Steps 5 and 6 of R24 for a command with its target: admission, the hearth of the executing pair, and the job. -/
def State.admitTo (s : State) (src : Stream) (h : List Word) (params : List Byte) (adm : Admission) (x : Target) : State :=
  if !s.admits x.w (hdrDeadline h) (s.arrival src (hdrTag h)) then s.refuseCommand src (hdrTag h) St.refusedDeadline 0
  else match x.pair with
    | none => s
    | some p =>
      if !s.hearthEnabled (hearthOf p) then s.refuseCommand src (hdrTag h) St.portDisabled 0
      else
        let s := s.createJob src h params p x.w (if x.held then x.session.map (·.handle) else none) adm.buf
        match x.session with
        | some y => if hdrOpcode h = 0x203 then s.closeAdmitted y else s
        | none => s

/-- Steps 3 to 6 of R24 at the dispatcher for a command that has passed its header checks: refused, or admitted as a job. -/
def State.dispatch (s : State) (src : Stream) (h : List Word) (params : List Byte) (adm : Admission) : State :=
  let op := hdrOpcode h
  let bad := fun (e : Nat × Nat) => s.refuseCommand src (hdrTag h) e.1 e.2
  match opInfo op with
  | none => bad (St.param, 1)
  | some o =>
    if !o.fits params.length then bad (St.param, 3)
    else if !o.admin && !bit (op / 0x100) (s.policyOf (cmdTenant h)).families then bad (St.policy, 3)
    else if !lcPermits s.lcState op then bad (St.lifecycle, 0)
    else if s.tampered && !tamperedPermits op then bad (St.tampered, 0)
    else if s.quarantined && !quarantinePermits op then bad (St.tampered, 0)
    else match s.sessionTarget h params adm with
      | .error e => bad e
      | .ok x => s.admitTo src h params adm x

/-- The dispatcher's turn at a command whose header its port has posted; a command whose stream has ended meanwhile has none. -/
def State.serveIntake (s : State) (x : Intake) : State :=
  let s := s.takeHeader x.port
  if s.taken.any (fun t => t.src == x.src && t.tag == hdrTag x.hdr && t.seq == hdrSeq x.hdr && t.j == 0 && t.reply.isNone) then
    s.dispatch x.src x.hdr x.params x.adm
  else s

/-- The commands that have waited for a pair in SUPERVISOR are taken up, the oldest first; while there is none no dispatch takes place
(R134). -/
def State.takeIntake (s : State) : State :=
  if (s.pairsIn Role.supervisor).isEmpty then s
  else s.intake.foldl (fun s x => s.serveIntake x) { s with intake := [] }

/-- A command posted by the class block of a port (R24): its header to the dispatcher (step 1), its parameters through the port's guard
into the buffer named for them (step 2), and the dispatcher's turn. -/
def State.postCommand (s : State) (port : Nat) (src : Stream) (h : List Word) (params : List Byte) (adm : Admission) : State :=
  match s.postHeader port h with
  | none => s.refuseCommand src (hdrTag h) St.queueFull 0
  | some t =>
    let r := State.portWrite 16 t port adm.buf params
    if r.2 then ({ r.1 with intake := r.1.intake ++ [(⟨port, src, h, params, adm⟩ : Intake)] }).takeIntake
    else (r.1.takeHeader port).refuseCommand src (hdrTag h) St.param 7

/-- NEXT_SEQ after a command (R201). -/
def nextSeqOf (h : List Word) : Nat := (hdrSeq h + 1) % 0x10000

end Sys2Proof.Machine
end

