-- ==== Sys2Proof/Machine/Entries.lean ====
section
/-! DEFINITION. Entries allocated, freed and paired (R289, R290, R464): the free image of an entry, the lowest index that may be
allocated, mirror entries, and the ledger's own sets. -/

namespace Sys2Proof.Machine

/-- The first of `n` naturals from `a` on that satisfies a predicate. -/
def findFrom (ok : Nat → Bool) : Nat → Nat → Option Nat
  | 0, _ => none
  | n + 1, a => if ok a then some a else findFrom ok n (a + 1)

/-- The free image that an entry leaves (R290). The last VERSION of a key whose replacement is pending is the staged one's (log 59). -/
def Entry.freed (e : Entry) : Entry :=
  ⟨0, e.dev, false, false, false, match e.body with
    | .free nv fl => .free nv fl
    | .counter v nv => .free nv v
    | .key _ _ ver _ _ => .free (ver + (if e.pend then 2 else 1)) 0
    | .token _ _ => .free 1 0
    | .mirror _ _ _ _ _ => .free 1 0⟩

/-- The entry is free. -/
def Entry.isFree (e : Entry) : Bool := e.body.type == 0

/-- A free entry may be allocated as a type (R290): 1 counter, 2 key, 3 token, 4 mirror. -/
def Entry.admitsType (e : Entry) (ty : Nat) : Bool :=
  match e.body with
  | .free nv fl => ty == 1 || (ty == 2 && fl == 0) || ((ty == 3 || ty == 4) && nv == 1 && fl == 0)
  | _ => false

/-- The mirror entry that a job's commit will pair (R464). -/
def Effect.mirror : Effect → Option Nat
  | .handover h => some h.mirror
  | _ => none

/-- The entries that a staged or waiting set names. -/
def State.namedEntries (s : State) : List Nat :=
  (s.jobs.flatMap (fun j => j.updates.map (·.index) ++ j.effects.filterMap Effect.mirror)) ++ setIndices (s.ledger.openSets ++ s.ledger.closingSets)

/-- The lowest index from 16 upward that may be allocated as a type (R290), other than those given. -/
def State.allocIndex (s : State) (ty : Nat) (but : List Nat) : Option Nat :=
  let named := s.namedEntries ++ but
  findFrom (fun i => (s.entry i).admitsType ty && !named.contains i) 131056 16

/-- A mirror entry's image (R288). -/
def mirrorEntry (owner loc node rindex st hlsn : Nat) : Entry := ⟨owner, false, false, false, false, .mirror loc node rindex st hlsn⟩

/-- The updates that free a copy or unpair an origin: its mirror entry is freed. -/
def State.freeMirror (s : State) (m : Nat) : Update := .write m (s.entry m).freed

/-- The fields of an entry of type mirror: LOCAL, NODE, RINDEX, STATE, HLSN. -/
def Entry.asMirror (e : Entry) : Option (Nat × Nat × Nat × Nat × Nat) :=
  match e.body with
  | .mirror lo node r st h => some (lo, node, r, st, h)
  | _ => none

/-- The mirror entries whose NODE is n: index, LOCAL, RINDEX, STATE, HLSN. -/
def State.mirrorsWith (s : State) (n : Nat) : List (Nat × Nat × Nat × Nat × Nat) :=
  s.ledger.dir.filterMap (fun e => match e.2.entry.asMirror with
    | some (lo, node, r, st, h) => if node = n then some (e.1, lo, r, st, h) else none
    | none => none)

/-- A mirror entry with another STATE. -/
def State.mirrorInState (s : State) (m st : Nat) : Update :=
  .write m (match (s.entry m).asMirror with
    | some (lo, node, r, _, h) => { s.entry m with body := .mirror lo node r st h }
    | none => s.entry m)

/-- The index of the state's own sets in place of a pair (R460). -/
abbrev ownPair : Nat := 512

/-- A set of the ledger's own, for a mirror (R460, R465), waiting for the open group. -/
def State.ownSet (s : State) (j : Word) (us : List Update) (after : List MirrorFrame) : State :=
  if s.isSealed || !s.ledger.established then s
  else { s with ledger := { s.ledger with openSets := s.ledger.openSets ++ [⟨j, ownPair, us, after⟩] } }

/-- The copy of entry `loc` and its mirror entry freed (R465, R467), with the log entry of a dropped copy. -/
def State.dropCopy (s : State) (loc m : Nat) : State :=
  (s.ownSet 0 [.write loc (s.entry loc).freed, s.freeMirror m] []).logEvent Src.ledger 4 loc 0 0 0

end Sys2Proof.Machine
end

