-- ==== Sys2Proof/Machine/Rng.lean ====
section
/-! DEFINITION. The random number generator (R264–R271): sources and their health, DATA, and the known-answer tests. -/

namespace Sys2Proof.Machine

/-- An enabled source is not failed and the expander has passed its test since reset (R266). -/
def State.rngFit (s : State) : Bool :=
  s.rng.expanderOk && (List.range 4).any (fun i => bit i (s.reg Reg.RNG_CTRL) && !bit (16 + i) (s.reg Reg.RNG_STAT))

/-- STAT.HEALTHY as R266 defines it; where the RNG stops being healthy, FAIL is set and the queue emptied. -/
def State.rngUpdate (s : State) : State :=
  if s.rngFit then s.setF Fld.RNG_STAT_HEALTHY 1
  else if s.rngHealthy then { ((s.setF Fld.RNG_STAT_HEALTHY 0).setF Fld.RNG_STAT_FAIL 1) with rng := { s.rng with queue := [] } }
  else s

/-- A source marked failed by a test (R265). -/
def State.failSource (s : State) (i : Nat) (test : HealthTest) : State :=
  let s := match test with
    | .repetition => s.incF (Fld.RNG_SHC_RCT_FAILS i)
    | .proportion => s.incF (Fld.RNG_SHC_APT_FAILS i)
  let s := s.setF ⟨Reg.RNG_STAT, 16 + i, 16 + i⟩ 1
  (s.logEvent Src.engine 2 i 0 0 0).rngUpdate

/-- RNG_SOURCE_FAIL (R265). UNIT of the log entry is the source: the generator has no master identity (log 25). -/
def execRngSourceFail (i : Fin 4) (test : HealthTest) (s : State) : Host.Outcome State Fault Refusal :=
  .next (if s.porHeld then s else s.failSource i.val test)

/-- RNG_RESTART (R265): bit i starts the start-up test of source i. -/
def execRngRestart (m : Master) (v : Word) (s : State) : Host.Outcome State Fault Refusal :=
  .next (s.masterWrite m.val Reg.RNG_RESTART (fun s => .ok (s.setReg Reg.RNG_RESTART (s.reg Reg.RNG_RESTART ||| (v &&& 15#32)))))

/-- The start-up test of a source failed (R264, R265): a test failure, and which of the two tests failed is a free value (log 1). -/
def State.failStartup (s : State) (i : Nat) : State :=
  let r := s.freshBytes 1
  r.2.failSource i (if (r.1.getD 0 0).getLsbD 0 then .repetition else .proportion)

/-- The last windows of the enabled sources (R264, R271): ONES and EQ over 32,768 raw bits that the sources deliver, free values
(log 1). -/
def State.rngWindows (s : State) : State :=
  ((List.range 4).filter (fun i => bit i (s.reg Reg.RNG_CTRL))).foldl (fun s i =>
    let r := s.freshBytes 4
    r.2.setReg (Reg.RNG_SRC i) (wd (2 ^ 16 * (leAt r.1 0 2 % 32769) + leAt r.1 2 2 % 32768))) s

/-- RNG_STARTUP_DONE (R265): a pass returns the source to service. -/
def execRngStartupDone (i : Fin 4) (pass : Bool) (s : State) : Host.Outcome State Fault Refusal :=
  .next (if !bit i.val (s.reg Reg.RNG_RESTART) then s
    else
      let s := s.setF ⟨Reg.RNG_RESTART, i.val, i.val⟩ 0
      if pass then (s.setF ⟨Reg.RNG_STAT, 16 + i.val, 16 + i.val⟩ 0).rngUpdate
      else s.failStartup i.val)

/-- RNG_RESEED (R267): output enters the queue as room frees, after a reseed where a new request begins. -/
def execRngReseed (s : State) : Host.Outcome State Fault Refusal := .next s.rngFill

/-- A load of RNG.DATA (R268, R269): 4 bytes from the queue, where they are available to cores; else, and while the RNG is not
healthy, bus error with SHORT: the wait of 2,000 cycles has ended without them. -/
def State.rngLoad (s : State) : Resp × Word :=
  if !s.rngHealthy || decide (s.rng.level < s.getF Fld.RNG_RESERVE_BYTES + 4) then (busAt (s.setF Fld.RNG_STAT_SHORT 1) Reg.RNG_DATA, 0)
  else
    let r := s.takeRandom 4
    (.ok r.2, wd (ofLe r.1))

/-- RNG_DATA_READ (R269): the pair's load, whose instruction brings the word to a register. -/
def execRngDataRead (p : PairId) (s : State) : Host.Outcome State Fault Refusal :=
  .next (s.pairAccess p.val Reg.RNG_DATA .load (fun s => s.rngLoad.1))

/-- A write of KAT_CTL (R270): TARGET 3 is ignored, START while BUSY is ignored. -/
def State.katStore (s : State) (v : Word) : State :=
  let s := if fld 1 0 v = 3 then s else s.setF Fld.RNG_KAT_CTL_TARGET (fld 1 0 v)
  if bit 8 v then s.setF Fld.RNG_KAT_CTL_BUSY 1 else s

/-- RNG_KAT_START (R270). -/
def execRngKatStart (m : Master) (v : Word) (s : State) : Host.Outcome State Fault Refusal :=
  .next (s.masterWrite m.val Reg.RNG_KAT_CTL (fun s => .ok (s.katStore v)))

/-- The raw bits of KAT_IN, bit 0 of word 0 first. -/
def katBits (inp : List Byte) : List Bool := bitsOf inp 512

/-- KAT_OUT and BITS of a test on an input (R270). -/
def katResult (target : Nat) (inp : List Byte) : List Byte × Nat :=
  if target = 0 then (packBits (condXor (katBits inp)), 256)
  else if target = 1 then
    let c := condNeumann (katBits inp)
    (packBits c, c.length)
  else
    let kv := drbgInit (inp.take 48)
    ((drbgGen (drbgGen kv 4).2 4).1, 0)

/-- KAT_IN as bytes. -/
def State.katIn (s : State) : List Byte := wordsBytes ((List.range 16).map (fun w => s.reg (Reg.RNG_KAT_IN w)))

/-- RNG_KAT_DONE (R270): PASS reads 1 only for the fixed vectors that boot uses, which the manual does not print
(log 25). -/
def execRngKatDone (s : State) : Host.Outcome State Fault Refusal :=
  .next (if !s.flag Fld.RNG_KAT_CTL_BUSY then s
    else
      let t := s.getF Fld.RNG_KAT_CTL_TARGET
      let inp := s.katIn
      let r := katResult t inp
      let s := (List.range 16).foldl (fun s w => s.setReg (Reg.RNG_KAT_OUT w) (wd (leAt r.1 (4 * w) 4))) s
      let s := (s.setF Fld.RNG_KAT_CTL_BITS r.2).setF Fld.RNG_KAT_CTL_BUSY 0
      s.setF Fld.RNG_KAT_CTL_PASS (b2n (inp == (List.range 64).map (Config.katInput t))))

end Sys2Proof.Machine
end

