-- ==== Sys2Proof/Machine/Weave.lean ====
section
/-! DEFINITION. Weave links and the basket (R443–R458, R470): frames, link keys, the domain map, routing, basket time, and commands
of other members. -/

namespace Sys2Proof.Machine

/-- One byte of the reflected CRC-32 of IEEE 802.3. -/
def crc32Byte (c : Word) (b : Byte) : Word :=
  (List.range 8).foldl (fun c _ => if c.getLsbD 0 then (c >>> 1) ^^^ 0xEDB88320#32 else c >>> 1) (c ^^^ b.setWidth 32)
/-- CRC-32 (IEEE 802.3) of a message (R445). -/
def crc32 (m : List Byte) : Word := ~~~(m.foldl crc32Byte 0xFFFFFFFF#32)

/-! ## Links -/

/-- A link beside its registers. -/
def State.weaveLink (s : State) (l : Nat) : WeaveLink := s.weave.links.get (fun _ => {}) l
/-- The state with a link set. -/
def State.setLink (s : State) (l : Nat) (x : WeaveLink) : State :=
  { s with weave := { s.weave with links := s.weave.links.set (fun _ => {}) l x } }
/-- The state with a link changed. -/
def State.updLink (s : State) (l : Nat) (g : WeaveLink → WeaveLink) : State := s.setLink l (g (s.weaveLink l))
/-- LSTAT.KEYED. -/
def State.linkKeyed (s : State) (l : Nat) : Bool := s.flag (Fld.WEAVE_LSTAT_KEYED l)
/-- The port of a link is in service. -/
def State.linkOn (s : State) (l : Nat) : Bool := s.portOn (2 + l)
/-- CFG.NODE. -/
def State.ownNode (s : State) : Nat := s.getF Fld.WEAVE_CFG_NODE
/-- BK is loaded: the device is a member. -/
def State.member (s : State) : Bool := s.flag Fld.WEAVE_BKEYIDX_LOADED

/-- The frame types (R447, R460). -/
abbrev WvType.hello : Nat := 0x01
abbrev WvType.khello : Nat := 0x02
abbrev WvType.rekey : Nat := 0x03
abbrev WvType.route : Nat := 0x04
abbrev WvType.time : Nat := 0x05
abbrev WvType.msg : Nat := 0x10
abbrev WvType.mreply : Nat := 0x11
abbrev WvType.mupd : Nat := 0x20
abbrev WvType.mack : Nat := 0x21
abbrev WvType.mcopy : Nat := 0x22
abbrev WvType.mdrop : Nat := 0x23
abbrev WvType.msync : Nat := 0x24

/-- Bytes 0–15 of a frame (R445). -/
def weaveClear (type hops len src dst epoch fseq : Nat) : List Byte :=
  leBytes 1 type ++ leBytes 1 hops ++ leBytes 2 len ++ leBytes 2 src ++ leBytes 2 dst ++ leBytes 2 epoch ++ zeros 2 ++ leBytes 4 fseq

/-- A keyed frame on the line (R445). -/
def State.emitKeyed (s : State) (l type hops src dst : Nat) (payload : List Byte) : State :=
  let lk := (s.weaveLink l).lk
  let epoch := s.getF (Fld.WEAVE_LSTAT_EPOCH l)
  let fseq := (s.reg (Reg.WEAVE_TXSEQ l)).toNat
  let aad := weaveClear type hops payload.length src dst epoch fseq
  let nonce := leBytes 2 s.ownNode ++ leBytes 2 epoch ++ leBytes 4 fseq ++ zeros 4
  let ct := gcmCrypt lk nonce payload
  let body := aad ++ ct ++ gcmTag lk nonce aad ct
  (s.incWrap (Reg.WEAVE_TXSEQ l) 1).emit (.frame (2 + l) type (body ++ wordBytes (crc32 body)))

/-- The initiating end's REKEY (R449): the last frame under the old key. None begins without randomness (R266; log 67). -/
def State.startRekey (s : State) (l : Nat) : State :=
  if !s.linkKeyed l || !(s.weaveLink l).rekeyRn.isEmpty || !s.rngHealthy then s
  else
    let r := s.drawHw 16
    let s := r.2.emitKeyed l WvType.rekey 1 s.ownNode 0xFFFF r.1
    s.updLink l (fun x => { x with rekeyRn := r.1, rekeyAt := s.beatNow })

/-- A keyed frame sent on a link, or held while a rekey waits for its answer (R449); a link without a key sends none. One out of service
refuses it with PORT_DISABLED (R28), but for the reply of a commit issued while it was in service (R29), where `off` are the links
then out of service. -/
def State.sendLink (s : State) (l type hops src dst : Nat) (payload : List Byte) (off : Option (List Nat) := none) : State :=
  let x := s.weaveLink l
  if !s.linkOn l && (off.map (·.contains l)).getD true then s.portLog (2 + l) St.portDisabled 0 0
  else if x.lk.isEmpty then s
  else if !x.rekeyRn.isEmpty then s.setLink l { x with held := x.held ++ [(type, hops, src, dst, payload)] }
  else
    let s := s.emitKeyed l type hops src dst payload
    if 0xFF000000 ≤ (s.reg (Reg.WEAVE_TXSEQ l)).toNat then s.startRekey l else s

/-- The link key of two ends (R448): node and RN of the own end and of the peer. -/
def linkKey (bk : List Byte) (n1 : Nat) (rn1 : List Byte) (n2 : Nat) (rn2 : List Byte) : List Byte :=
  if n1 ≤ n2 then aesCmac bk (0x57#8 :: rn1 ++ rn2 ++ leBytes 2 n1 ++ leBytes 2 n2)
  else aesCmac bk (0x57#8 :: rn2 ++ rn1 ++ leBytes 2 n2 ++ leBytes 2 n1)

/-- The link becomes unkeyed, and LK is destroyed (R446, R449, R450). -/
def State.unkeyLink (s : State) (l : Nat) : State :=
  let s := s.updLink l (fun x =>
    { x with rn := [], peer := none, lk := [], rekeyRn := [], rx := none, helloAt := none, khelloAt := none, routeAt := none, held := [] })
  ((s.setF (Fld.WEAVE_LSTAT_KEYED l) 0).setF (Fld.WEAVE_LSTAT_UPSTREAM l) 0)

/-! ## The domain map -/

/-- The map's entry of a node (R451): the device's own is reachable with HOPS 0. -/
def State.mapOf (s : State) (n : Nat) : MapEntry :=
  let e := s.weave.map.get (fun _ => {}) n
  if n = s.ownNode then
    { e with state := 1, hops := 0, link := 0, prio := s.getF Fld.WEAVE_CFG_PRIO, elig := s.flag Fld.WEAVE_CFG_ELIG }
  else e
/-- The state with the map's entry of a node set; a change of what ROUTE tells is counted (R452). -/
def State.setMap (s : State) (n : Nat) (e : MapEntry) : State :=
  let old := s.weave.map.get (fun _ => {}) n
  let tells := decide ({ e with uid := none, changed := 0 } ≠ { old with uid := none, changed := 0 })
  { s with weave := { s.weave with map := s.weave.map.set (fun _ => {}) n e, changes := s.weave.changes + b2n tells } }
/-- A node is reachable. -/
def State.reachable (s : State) (n : Nat) : Bool := (s.mapOf n).state == 1
/-- The nodes other than the own that the map holds as reachable. -/
def State.others (s : State) : List Nat :=
  (s.weave.map.filter (fun e => e.2.state == 1 && e.1 != s.ownNode)).map (·.1)

/-- The better of two candidates for master: the higher PRIO, then the lower node (R457). -/
def betterMaster (a b : Nat × Nat) : Nat × Nat := if b.2 < a.2 ∨ (a.2 = b.2 ∧ a.1 < b.1) then a else b
/-- The computed master (R457). -/
def State.computedMaster (s : State) : Option Nat :=
  if !s.member then none
  else
    let c := ((s.ownNode :: s.others).filter (fun n => (s.mapOf n).elig)).map (fun n => (n, (s.mapOf n).prio))
    (c.foldl (fun b x => match b with
      | some y => some (betterMaster y x)
      | none => some x) none).map (·.1)
/-- The device is time master. -/
def State.isMaster (s : State) : Bool := s.computedMaster == some s.ownNode

/-- The registers that show the map and the master (R457, R470), after a change from `old`. -/
def State.weaveSync (s old : State) : State :=
  let m := s.computedMaster
  let s := if m = old.computedMaster then s
    else (s.incF Fld.WEAVE_TSTAT_ELECTIONS).setF Fld.WEAVE_BSTAT_MASTER_CHG 1
  let s := (s.setF Fld.WEAVE_BSTAT_MEMBER (b2n s.member)).setF Fld.WEAVE_BSTAT_MASTER (b2n s.isMaster)
  let s := match m with
    | some n => s.setF Fld.WEAVE_BSTAT_MASTER_NODE n
    | none => s
  let s := s.setF Fld.WEAVE_MEMBERS_COUNT (if s.member then 1 + s.others.length else 0)
  (List.range 8).foldl (fun s l =>
    let up := match m with
      | some n => n != s.ownNode && (s.mapOf n).link == l && s.linkKeyed l
      | none => false
    s.setF (Fld.WEAVE_LSTAT_UPSTREAM l) (b2n up)) s

/-- A route to node n over link l at d hops (R452): it replaces the one held if it is shorter, on a tie if its link is lower, or if
it comes from the present next hop. -/
def State.routeOffer (s : State) (l n d prio : Nat) (elig : Bool) : State :=
  let e := s.mapOf n
  if n = s.ownNode ∨ 2047 < n then s
  else if d < 1 ∨ 16 < d then
    if e.state = 1 ∧ e.link = l then s.setMap n { e with state := 2, changed := s.beatNow } else s
  else if e.state ≠ 1 ∨ d < e.hops ∨ e.link = l ∨ (d = e.hops ∧ l < e.link) then
    let e' := { e with state := 1, link := l, hops := d, prio := prio, elig := elig }
    s.setMap n (if e' = e then e else { e' with changed := s.beatNow })
  else s

/-- Every route through a link withdrawn (R450). -/
def State.withdraw (s : State) (l : Nat) : State :=
  (s.others.filter (fun n => (s.mapOf n).link == l)).foldl (fun s n =>
    s.setMap n { s.mapOf n with state := 2, changed := s.beatNow }) s

/-! ## Routed frames that the device sends -/

/-- A frame routed to a node (R452): sent on the next-hop link, or dropped and counted. -/
def State.sendRouted (s : State) (type dst : Nat) (payload : List Byte) (off : Option (List Nat) := none) : State :=
  if s.reachable dst && dst != s.ownNode then s.sendLink (s.mapOf dst).link type 1 s.ownNode dst payload off
  else s.incF Fld.WEAVE_BSTAT_UNROUTED

/-- The payload of MUPD and MCOPY (R460). -/
def mupdPayload (origin rindex : Nat) (j : Word) (hlsn : Nat) (image : List Byte) : List Byte :=
  leBytes 4 origin ++ leBytes 4 rindex ++ wordBytes j ++ leBytes 6 hlsn ++ zeros 2 ++ slice image 0 24
/-- The payload of MACK. -/
def mackPayload (origin rindex : Nat) (j : Word) (hlsn : Nat) : List Byte :=
  leBytes 4 origin ++ leBytes 4 rindex ++ wordBytes j ++ leBytes 6 hlsn ++ zeros 2
/-- The payload of MDROP. -/
def mdropPayload (origin rindex : Nat) : List Byte := leBytes 4 origin ++ leBytes 4 rindex
/-- The payload of MSYNC. -/
def msyncPayload (kind verdict origin rindex hlsn : Nat) (image : List Byte) : List Byte :=
  leBytes 1 kind ++ leBytes 1 verdict ++ zeros 2 ++ leBytes 4 origin ++ leBytes 4 rindex ++ leBytes 6 hlsn ++ zeros 2 ++ slice image 0 24

/-- RINDEX that asks the receiver to allocate (R460). -/
abbrev allocRindex : Nat := 0xFFFFFFFF

/-- The image bytes of an entry (R460). -/
def State.imageBytes (s : State) (i : Nat) : List Byte := (s.entry i).bytes i

/-- A mirror frame that follows a commit (R460, R465); MDROP only to a partner that is reachable. -/
def State.sendMirror (s : State) (f : MirrorFrame) : State :=
  if f.type == WvType.mdrop && !s.reachable f.dst then s else s.sendRouted f.type f.dst f.payload

/-- A handover begun (R465 steps 1 and 2): the mirror entry committed with STATE HANDOVER, then MCOPY. -/
def State.startHandover (s : State) (h : Handover) : State :=
  let hlsn := match (s.entry h.mirror).asMirror with
    | some (_, _, _, _, x) => x
    | none => (s.dirEntry h.entry).lsn
  let e := s.entry h.entry
  let fresh := h.oldState == 0
  let node := if fresh then h.node else h.oldNode
  let rindex := if fresh then allocRindex else h.oldIndex
  let ask := if h.node = h.oldNode ∧ !fresh then h.oldIndex else allocRindex
  let m := Update.write h.mirror (mirrorEntry e.owner h.entry node rindex 3 hlsn)
  let e' : Entry := { e with mir := true }
  let us := if fresh then [m, .write h.entry e'] else [m]
  let t := s.ownSet 0 us [⟨WvType.mcopy, h.node, mupdPayload h.entry ask 0 hlsn (e'.bytes h.entry)⟩]
  { t with weave := { t.weave with handovers := t.weave.handovers ++ [{ h with sends := 1 }] } }

/-- What follows where a node becomes reachable (R466–R468): a copy's query, an origin's query, or a pairing renewed. -/
def State.nodeReached (s : State) (n : Nat) : State :=
  (s.mirrorsWith n).foldl (fun s x =>
    let (m, loc, r, st, h) := x
    if st = 4 then s.sendRouted WvType.msync n (msyncPayload 2 0 r loc h (s.imageBytes loc))
    else if st = 5 then s.sendRouted WvType.msync n (msyncPayload 0 0 loc r h (s.imageBytes loc))
    else if st = 2 ∧ ¬s.weave.handovers.any (fun y => y.entry == loc) then s.startHandover ⟨loc, m, n, n, r, 2, 0⟩
    else s) s

/-- What follows where a node becomes lost (R466): the origins paired with it become ORPHAN. -/
def State.nodeLost (s : State) (n : Nat) : State :=
  (s.mirrorsWith n).foldl (fun s x =>
    if x.2.2.2.1 = 1 then (s.ownSet 0 [s.mirrorInState x.1 2] []).logEvent Src.ledger 2 x.2.1 0 0 0 else s) s

/-- What follows a change of the map from `old`: the registers, and the mirrors whose partner was lost or reached. -/
def State.mapChanged (s old : State) : State :=
  let s := s.weaveSync old
  let gone := old.others.filter (fun n => !s.reachable n)
  let come := s.others.filter (fun n => !old.reachable n)
  come.foldl (fun s n => s.nodeReached n) (gone.foldl (fun s n => s.nodeLost n) s)

/-! ## Frames received -/

/-- The receiver of a link takes frames: the port is in service and in sync (R443, R28). -/
def State.receives (s : State) (l : Nat) : Bool := s.linkOn l && s.flag (Fld.WEAVE_LSTAT_SYNC l)

/-- A keyed frame received (R446): dropped and counted, with the link unkeyed where its tag or FSEQ fails; else accepted. A KHELLO
is admitted on a link that has its key and is not yet keyed (R448). -/
def State.keyedIn (s : State) (l : Nat) (fr : KeyedFrame) (khello : Bool) (body : State → State) : State :=
  let x := s.weaveLink l
  if !s.receives l then s
  else if !fr.crcOk || !(s.linkKeyed l || (khello && !x.lk.isEmpty)) then s.incF (Fld.WEAVE_LERR_CRC l)
  else if !fr.tagOk || fr.fseq.toNat != (x.rx.map (· + 1)).getD 0 then (s.incF (Fld.WEAVE_LERR_AUTH l)).unkeyLink l
  else
    let s := (s.setLink l { x with rx := some fr.fseq.toNat, heard := s.beatNow }).setReg (Reg.WEAVE_RXSEQ l) fr.fseq
    let s := body s
    if 0xFF000000 ≤ fr.fseq.toNat then s.startRekey l else s

/-- A routed frame received (R446, R452, R453): taken by its destination, relayed, or dropped; in quarantine it is discarded unless
`started` says that it belongs to started work. -/
def State.routedIn (s : State) (l : Nat) (fr : KeyedFrame) (type : Nat) (payload : List Byte) (started : State → Bool)
    (body : State → State) : State :=
  s.keyedIn l fr false (fun s =>
    if fr.dst = s.ownNode then (if s.quarantined && !started s then s else body s)
    else if s.quarantined then s
    else if 16 < fr.hops + 1 then s.incF (Fld.WEAVE_LERR_CRC l)
    else if s.reachable fr.dst then s.sendLink (s.mapOf fr.dst).link type (fr.hops + 1) fr.src fr.dst payload
    else s.incF Fld.WEAVE_BSTAT_UNROUTED)

/-- The link key computed from the last HELLO sent and the last one received, and KHELLO sent under it (R448). -/
def State.offerKey (s : State) (l : Nat) : State :=
  let x := s.weaveLink l
  match x.peer with
  | some (n, rn) =>
    if x.rn.isEmpty || !s.member || s.linkKeyed l then s
    else
      let s := s.setLink l { x with lk := linkKey s.weave.bk s.ownNode x.rn n rn, rx := none }
      let s := ((s.setF (Fld.WEAVE_LSTAT_EPOCH l) 1).setF (Fld.WEAVE_LSTAT_PEER l) n).setReg (Reg.WEAVE_TXSEQ l) 0
      s.sendLink l WvType.khello 1 s.ownNode 0xFFFF
        (leBytes 2 s.ownNode ++ leBytes 1 (s.getF Fld.WEAVE_CFG_PRIO) ++ leBytes 1 (b2n (s.flag Fld.WEAVE_CFG_ELIG) + 2) ++
          leBytes 2 (s.getF Fld.WEAVE_BSTAT_MASTER_NODE) ++ leBytes 2 (s.getF Fld.WEAVE_MEMBERS_COUNT))
  | none => s

/-- A HELLO that names the own node, or another device's (R448). -/
def State.helloConflict (s : State) (f : HelloFrame) : Bool :=
  f.node == s.ownNode || (match (s.mapOf f.node).uid with
    | some u => u != f.uid.toNat
    | none => false)

/-- HELLO (R448). The CODE of a conflict's log entry is not stated: a free value (log 40). -/
def execHello (l : Fin 8) (f : HelloFrame) (s : State) : Host.Outcome State Fault Refusal :=
  let k := l.val
  let basket := (s.reg (Reg.WEAVE_BASKET 0)).toNat + 2 ^ 32 * (s.reg (Reg.WEAVE_BASKET 1)).toNat
  .next (if !s.receives k then s
    else if !f.crcOk || s.linkKeyed k then s.incF (Fld.WEAVE_LERR_CRC k)
    else if s.helloConflict f then
      let s := (s.setF (Fld.WEAVE_LSTAT_CONFLICT k) 1).setF Fld.WEAVE_BSTAT_CONFLICT 1
      let r := s.freshBytes 2
      r.2.portLog (2 + k) (ofLe r.1) 0 0
    else if !s.member || !f.admitted || f.basket.toNat != basket then s
    else
      let s := s.setMap f.node { s.mapOf f.node with uid := some f.uid.toNat }
      (s.updLink k (fun x => { x with peer := some (f.node, leBytes 16 f.rn.toNat) })).offerKey k)

/-- KHELLO (R448, R450): it keys the link, and refreshes the neighbour. -/
def execKhello (l : Fin 8) (fr : KeyedFrame) (prio flags : Byte) (_master _members : Nat) (s : State) :
    Host.Outcome State Fault Refusal :=
  let k := l.val
  .next (s.keyedIn k fr true (fun t =>
    let old := t
    let t := t.setF (Fld.WEAVE_LSTAT_KEYED k) 1
    (t.routeOffer k (t.getF (Fld.WEAVE_LSTAT_PEER k)) 1 prio.toNat (flags.getLsbD 0)).mapChanged old))

/-- A rekey completed (R449): the new LK of the two new RNs, EPOCH + 1, FSEQ at 0 in each direction, and the held frames sent. -/
def State.finishRekey (s : State) (l : Nat) (own peer : List Byte) : State :=
  let x := s.weaveLink l
  let n := s.getF (Fld.WEAVE_LSTAT_PEER l)
  let s := s.setLink l { x with lk := linkKey s.weave.bk s.ownNode own n peer, rekeyRn := [], rx := none, held := [] }
  let s := (s.setF (Fld.WEAVE_LSTAT_EPOCH l) ((s.getF (Fld.WEAVE_LSTAT_EPOCH l) + 1) % 0x10000)).setReg (Reg.WEAVE_TXSEQ l) 0
  x.held.foldl (fun s f => s.sendLink l f.1 f.2.1 f.2.2.1 f.2.2.2.1 f.2.2.2.2) s

/-- REKEY (R449): answered where the device did not begin it, and the RNG is healthy (R266; log 67). -/
def execRekey (l : Fin 8) (fr : KeyedFrame) (rn : List Byte) (s : State) : Host.Outcome State Fault Refusal :=
  let k := l.val
  .next (s.keyedIn k fr false (fun s =>
    let own := (s.weaveLink k).rekeyRn
    if own.isEmpty then if !s.rngHealthy then s else
      let r := s.drawHw 16
      (r.2.emitKeyed k WvType.rekey 1 s.ownNode 0xFFFF r.1).finishRekey k r.1 rn
    else s.finishRekey k own rn))

/-- ROUTE (R452). -/
def execRoute (l : Fin 8) (fr : KeyedFrame) (entries : List RouteEntry) (s : State) : Host.Outcome State Fault Refusal :=
  let k := l.val
  .next (s.keyedIn k fr false (fun t =>
    let old := t
    (entries.foldl (fun t e => t.routeOffer k e.node e.hops e.prio.toNat (e.prio != 0xFF#8)) t).mapChanged old))

/-- A frame forwarded on every other keyed link (R447, R458). -/
def State.flood (s : State) (but type hops src : Nat) (payload : List Byte) : State :=
  ((List.range 8).filter (fun k => k != but && s.linkKeyed k && s.linkOn k)).foldl (fun s k => s.sendLink k type hops src 0xFFFF payload) s

/-- The payload of TIME (R447). -/
def timePayload (btime master : Nat) : List Byte := leBytes 8 btime ++ leBytes 2 master ++ zeros 6

/-- TIME (R458): accepted on the upstream link from the computed master; 1,024 marks must have arrived since the one before. -/
def execTime (l : Fin 8) (fr : KeyedFrame) (btime master : Nat) (s : State) : Host.Outcome State Fault Refusal :=
  let k := l.val
  .next (s.keyedIn k fr false (fun s =>
    if !s.flag (Fld.WEAVE_LSTAT_UPSTREAM k) || s.computedMaster != some master then s
    else
      let bad := s.weave.btime.isSome && s.weave.marks != 1024
      let s := if bad then
          let s := s.incF Fld.WEAVE_TSTAT_MARKERR
          if s.flag Fld.BEAT_STATUS_BASKET_QUAL then s.loseSource .basket else s.setMeas .basket {}
        else s
      let s := { s with weave := { s.weave with btime := some btime, marks := 0 } }
      if 16 < fr.hops + 1 then s.incF (Fld.WEAVE_LERR_CRC k) else s.flood k WvType.time (fr.hops + 1) fr.src (timePayload btime master)))

/-- BEAT.BASKET_OFS set: a signed 48-bit value. -/
def State.setBasketOfs (s : State) (v : Nat) : State :=
  (s.setReg Reg.BEAT_BASKET_OFS_LO (wd (v % 2 ^ 32))).setF Fld.BEAT_BASKET_OFS_HI_HI (v / 2 ^ 32 % 2 ^ 16)
/-- BEAT.BASKET_OFS. -/
def State.basketOfs (s : State) : Nat := (s.reg Reg.BEAT_BASKET_OFS_LO).toNat + 2 ^ 32 * s.getF Fld.BEAT_BASKET_OFS_HI_HI

/-- A Beat mark sent on every keyed link but one (R457, R458). -/
def State.sendMarks (s : State) (but : Nat) : State :=
  ((List.range 8).filter (fun k => k != but && s.linkKeyed k && s.linkOn k)).foldl (fun s k => s.emit (.beatMark k)) s

/-- BEAT_MARK (R458): accepted on the upstream link, forwarded, and an edge of the basket source. -/
def execBeatMark (l : Fin 8) (t : Nat) (s : State) : Host.Outcome State Fault Refusal :=
  let k := l.val
  .next (if !s.receives k || !s.flag (Fld.WEAVE_LSTAT_UPSTREAM k) then s
    else
      let s := s.sendMarks k
      let s := { s with weave := { s.weave with marks := s.weave.marks + 1 } }
      let s := match s.weave.btime with
        | some b => s.setBasketOfs ((b + s.weave.marks + 2 ^ 48 - s.beatNow) % 2 ^ 48)
        | none => s
      s.sourceEdge .basket t)

/-! ## Timers -/

/-- HELLO_TIMER (R448): 16 Beats after the last HELLO of the link. The payload has NODE, PRIO, FLAGS, BASKET, UID and a fresh RN. EPOCH and FSEQ of an unkeyed frame are not
stated: free values (log 34). -/
def execHelloTimer (l : Fin 8) (s : State) : Host.Outcome State Fault Refusal :=
  let k := l.val
  .next (if !s.linkOn k || s.linkKeyed k || !s.rngHealthy || !due s.beatNow 16 (s.weaveLink k).helloAt then s
    else
      let s := s.updLink k (fun x => { x with helloAt := some s.beatNow })
      let r := s.drawHw 16
      let f := r.2.freshBytes 6
      let s := f.2
      let payload := leBytes 2 s.ownNode ++ leBytes 1 (s.getF Fld.WEAVE_CFG_PRIO) ++
        leBytes 1 (b2n (s.flag Fld.WEAVE_CFG_ELIG) + 2 * b2n s.member) ++
        wordBytes (s.reg (Reg.WEAVE_BASKET 0)) ++ wordBytes (s.reg (Reg.WEAVE_BASKET 1)) ++ deviceUid ++ r.1
      let body := weaveClear WvType.hello 1 payload.length s.ownNode 0xFFFF (ofLe (f.1.take 2)) (ofLe (f.1.drop 2)) ++ payload
      let s := (s.updLink k (fun x => { x with rn := r.1 })).emit (.frame (2 + k) WvType.hello (body ++ wordBytes (crc32 body)))
      s.offerKey k)

/-- KHELLO_TIMER (R450): 16 Beats after the last KHELLO of the link. -/
def execKhelloTimer (l : Fin 8) (s : State) : Host.Outcome State Fault Refusal :=
  let k := l.val
  .next (if !s.linkOn k || !s.linkKeyed k || !due s.beatNow 16 (s.weaveLink k).khelloAt then s
    else (s.updLink k (fun x => { x with khelloAt := some s.beatNow })).sendLink k WvType.khello 1 s.ownNode 0xFFFF
      (leBytes 2 s.ownNode ++ leBytes 1 (s.getF Fld.WEAVE_CFG_PRIO) ++ leBytes 1 (b2n (s.flag Fld.WEAVE_CFG_ELIG) + 2) ++
        leBytes 2 (s.getF Fld.WEAVE_BSTAT_MASTER_NODE) ++ leBytes 2 (s.getF Fld.WEAVE_MEMBERS_COUNT)))

/-- The link has a neighbour: it is keyed, or a route goes through it. -/
def State.hasNeighbour (s : State) (l : Nat) : Bool := s.linkKeyed l || s.others.any (fun n => (s.mapOf n).link == l)

/-- NEIGHBOUR_LOST (R450): 64 Beats without an accepted frame. -/
def execNeighbourLost (l : Fin 8) (s : State) : Host.Outcome State Fault Refusal :=
  let k := l.val
  .next (if !s.hasNeighbour k || decide (s.beatNow < (s.weaveLink k).heard + 64) then s
    else
      let old := s
      let s := (s.unkeyLink k).setF (Fld.WEAVE_LSTAT_LOST k) 1
      ((s.portLog (2 + k) St.portAbsent 0 0).withdraw k).mapChanged old)

/-- An entry of the ROUTE frame sent on a link (R452, R453). -/
def State.routeEntry (s : State) (l n : Nat) : List Byte :=
  let e := s.mapOf n
  let own := n == s.ownNode
  let hops := if own then 1
    else if e.state ≠ 1 ∨ e.link = l ∨ s.quarantined ∨ 16 < e.hops + 1 then 0xFF else e.hops + 1
  leBytes 2 n ++ leBytes 1 hops ++ leBytes 1 (if e.elig then e.prio else 0xFF)

/-- ROUTE frames of up to 500 entries each. -/
def State.sendRoutes : Nat → State → Nat → List Nat → State
  | 0, s, _, _ => s
  | k + 1, s, l, ns =>
    if ns.isEmpty then s
    else
      let s := s.sendLink l WvType.route 1 s.ownNode 0xFFFF ((ns.take 500).flatMap (s.routeEntry l))
      State.sendRoutes k s l (ns.drop 500)

/-- A ROUTE is due on a link (R452): none has been sent, the map has changed since, or 1,024 Beats have passed. -/
def State.routeDue (s : State) (l : Nat) : Bool :=
  match (s.weaveLink l).routeAt with
  | some (t, n) => n != s.weave.changes || decide (t + 1024 ≤ s.beatNow)
  | none => true

/-- ROUTE_TIMER (R452): the whole map to the neighbour. -/
def execRouteTimer (l : Fin 8) (s : State) : Host.Outcome State Fault Refusal :=
  let k := l.val
  .next (if !s.linkOn k || !s.linkKeyed k || !s.routeDue k then s
    else
      let s := s.updLink k (fun x => { x with routeAt := some (s.beatNow, s.weave.changes) })
      let known := (s.weave.map.filter (fun e => e.2.state != 0 && e.1 != s.ownNode)).map (·.1)
      State.sendRoutes 5 s k (s.ownNode :: known))

/-- TIME_TIMER (R457): sent by the time master every 1,024 Beats, with the basket time of the preceding mark. -/
def execTimeTimer (s : State) : Host.Outcome State Fault Refusal :=
  .next (if !s.isMaster || !due s.beatNow 1024 s.weave.timeAt then s
    else ({ s with weave := { s.weave with timeAt := some s.beatNow } }).flood 8 WvType.time 1 s.ownNode (timePayload ((s.beatNow + s.basketOfs) % 2 ^ 48) s.ownNode))

/-- REKEY_TIMEOUT (R449): no answer within 16 Beats. -/
def execRekeyTimeout (l : Fin 8) (s : State) : Host.Outcome State Fault Refusal :=
  let k := l.val
  let x := s.weaveLink k
  .next (if x.rekeyRn.isEmpty || decide (s.beatNow < x.rekeyAt + 16) then s else s.unkeyLink k)

/-- WEAVE_SYNC_GAINED (R443). -/
def execWeaveSyncGained (l : Fin 8) (s : State) : Host.Outcome State Fault Refusal := .next (s.setF (Fld.WEAVE_LSTAT_SYNC l.val) 1)
/-- WEAVE_SYNC_LOST (R443). -/
def execWeaveSyncLost (l : Fin 8) (s : State) : Host.Outcome State Fault Refusal := .next (s.setF (Fld.WEAVE_LSTAT_SYNC l.val) 0)

/-! ## Basket key and map registers -/

/-- BK cleared (R455, R456): every link becomes unkeyed. -/
def State.clearBasketKey (s : State) : State :=
  let old := s
  let s := ({ s with weave := { s.weave with bk := [], btime := none, marks := 0, timeAt := none } }).setF Fld.WEAVE_BKEYIDX_LOADED 0
  (((List.range 8).foldl (fun s l => s.unkeyLink l) s).setBasketOfs 0).weaveSync old

/-- BK loaded (R455); loaded again it brings a rekey of every keyed link (R449). -/
def State.loadBasketKey (s : State) (key : List Byte) : State :=
  let old := s
  let s := ({ s with weave := { s.weave with bk := key } }).setF Fld.WEAVE_BKEYIDX_LOADED 1
  (if old.member then (List.range 8).foldl (fun s l => s.startRekey l) s else s).weaveSync old

/-- The decision on a store to WEAVE.BKEY (R455): the rules of R424 with ALG 0x0003. -/
def State.bkeyStore (s : State) (p : Nat) (v : Word) : Resp :=
  if !s.isSupervisor p || (s.armedJob p).isNone || v.toNat % 32 != 0 then busAt s Reg.WEAVE_BKEY
  else if v = 0 then .ok s.clearBasketKey
  else match s.portKey p v.toNat (s.getF Fld.WEAVE_BKEYIDX_INDEX) (s.getF Fld.WEAVE_CFG_TENANT) (· == 3) with
    | .error _ => .ok s
    | .ok (key, t) => .ok (t.loadBasketKey key)

/-- BKEY_LOAD (R455). -/
def execBkeyLoad (p : PairId) (v : Word) (s : State) : Host.Outcome State Fault Refusal :=
  .next (s.pairAccess p.val Reg.WEAVE_BKEY .store (fun s => s.bkeyStore p.val v))

/-- A write to MAPIDX (R470). -/
def State.mapidxStore (s : State) (v : Word) : State :=
  let n := fld 10 0 v
  let e := s.mapOf n
  let s := s.setReg Reg.WEAVE_MAPIDX (wd n)
  let w := 2 ^ 30 * (e.state % 4) + 2 ^ 29 * b2n e.elig + 2 ^ 24 * (e.hops % 32) + 2 ^ 16 * (e.link % 8) + 2 ^ 8 * (e.prio % 256)
  (s.setReg Reg.WEAVE_MAPDATA0 (wd w)).setReg Reg.WEAVE_MAPDATA1 (wd (e.changed % 2 ^ 32))

/-- MAPIDX_WRITE (R470). -/
def execMapidxWrite (m : Master) (v : Word) (s : State) : Host.Outcome State Fault Refusal :=
  .next (s.masterWrite m.val Reg.WEAVE_MAPIDX (fun s => .ok (s.mapidxStore v)))

/-- A write to WEAVE.CFG or BASKET (R470): PRIO, ELIG, NODE and the basket id stand while BK is loaded. -/
def State.weaveCfgStore (s : State) (o : Nat) (v : Word) : State :=
  if !s.member then s.writeReg o v
  else if o = Reg.WEAVE_CFG then s.writeReg o (setFld 23 0 (fld 23 0 (s.reg o)) v)
  else s

/-! ## Commands of other members -/

/-- NEXT_SEQ of a node's stream. -/
def State.nodeSeq (s : State) (n : Nat) : Nat := s.weave.streams.get (fun _ => 0) n

/-- A command of another member (R454, R427). -/
def State.nodeCommand (s : State) (port n : Nat) (hdr : List Word) (params : List Byte) (adm : Admission) : State :=
  let src := Stream.node n
  let tenantOk := cmdTenant hdr == s.getF Fld.WEAVE_CFG_TENANT
  let check := s.headerCheck hdr params 968 0 (s.nodeSeq n) src tenantOk (fun o => o.code / 0x100 == 7 || o.code == 0x400)
  let full := decide (8 ≤ s.taken.countP (fun t => t.src == src))
  let t := ({ s with weave := { s.weave with streams := s.weave.streams.set (fun _ => 0) n (nextSeqOf hdr) } }).takeCommand src hdr
  match check with
  | some (st, sub) => t.refuseCommand src (hdrTag hdr) st sub
  | none => if full then t.refuseCommand src (hdrTag hdr) St.queueFull 0 else t.postCommand port src hdr params adm

/-- MSG (R454). -/
def execMsg (l : Fin 8) (fr : KeyedFrame) (hdr : List Word) (params : List Byte) (adm : Admission) (s : State) :
    Host.Outcome State Fault Refusal :=
  .next (s.routedIn l.val fr WvType.msg (wordsBytes hdr ++ params) (fun _ => false) (fun s =>
    if hdr.length ≠ 8 ∨ 968 < params.length ∨ (hdrLen hdr ≤ 968 ∧ hdrLen hdr ≠ params.length) then s.incF (Fld.WEAVE_LERR_CRC l.val)
    else s.nodeCommand (2 + l.val) fr.src hdr params adm))

/-- MREPLY (R454): relayed, or received by the member that sent the command; this device sends none of its own accord, so it is
consumed (log 44). -/
def execMreply (l : Fin 8) (fr : KeyedFrame) (hdr : List Word) (data : List Byte) (s : State) : Host.Outcome State Fault Refusal :=
  .next (s.routedIn l.val fr WvType.mreply (wordsBytes hdr ++ data) (fun _ => false) (fun s => s))

/-! ## The Beat -/

/-- DBG_LEFT counts down one Beat while rights of a certificate are in force (R349). -/
def State.debugBeat (s : State) : State :=
  let n := (s.reg Reg.LCS_DBG_LEFT).toNat
  if n = 0 then s else s.setReg Reg.LCS_DBG_LEFT (wd (n - 1))

/-- BOOT.MS: milliseconds on the crystal until READY or FAIL (R492). -/
def State.bootMs (s : State) (t : Nat) : State := if s.booting then s.setF Fld.SYS_BOOT_MS (min 0xFFFF (t / 25000)) else s

/-- BEAT_TICK (R41, R457): the time master sends a mark at each of its Beats. -/
def execBeatTick (t : Nat) (s : State) : Host.Outcome State Fault Refusal :=
  .next (if !s.beatInRange t then s
    else
      let s := (((s.countBeat t).debugBeat).bootMs t).rngWindows.refreshBeat.takeIntake
      if s.isMaster then s.sendMarks 8 else s)

end Sys2Proof.Machine
end

