-- ==== Sys2Proof/Machine/Mirror.lean ====
section
/-! DEFINITION. Mirrored entries (R459–R469): updates and their acknowledgement, copies, handovers and the resynchronisation after a
start. -/

namespace Sys2Proof.Machine

/-- MUPD of an entry of the group being closed (R461). J is that of the last set of the group that changes it. -/
def State.sendMupd (s : State) (i : Nat) : State :=
  match s.ledger.closing, s.mirrorOf i with
  | some g, some (_, node, r, _, _) =>
    match g.images.find? (fun x => x.1 == i), (s.ledger.closingSets.filter (fun t => t.updates.any (fun u => u.index == i))).getLast? with
    | some (_, e), some t => s.sendRouted WvType.mupd node (mupdPayload i r t.j g.lsn (e.bytes i))
    | _, _ => s
  | _, _ => s

/-- The open group closed where none is being closed (R296), and MUPD sent for its PAIRED entries (R461 step 1). -/
def State.closeAndSend (s : State) : State :=
  if s.ledger.closing.isSome || s.ledger.openSets.isEmpty || s.isSealed then s
  else
    let t := s.closeGroup
    t.ledger.unacked.foldl (fun s i => s.sendMupd i) t

/-- GROUP_CLOSE (R296). -/
def execGroupClose (s : State) : Host.Outcome State Fault Refusal := .next s.closeAndSend

/-- The copy that this device holds for an origin entry of a node: its index, mirror entry and HLSN (R459). -/
def State.copyFor (s : State) (node origin : Nat) : Option (Nat × Nat × Nat) :=
  (s.mirrorsWith node).findSome? (fun x =>
    let (m, loc, r, st, h) := x
    if r = origin ∧ st = 4 then some (loc, m, h) else none)

/-- A set that writes the mirror entry of a copy for this origin waits or is being committed. -/
def State.copyPending (s : State) (node origin : Nat) : Bool :=
  (s.ledger.openSets ++ s.ledger.closingSets).any (fun t => t.updates.any (fun u => match u with
    | .write _ e => (match e.asMirror with
      | some (_, n, r, st, _) => n == node && r == origin && st == 4
      | none => false)
    | _ => false))

/-- An image applied as a WRITE of the copy at `loc`, with the HLSN in mirror entry `m` (R460): the group closes at once, and MACK
follows its commit record. -/
def State.applyCopy (s : State) (node origin loc m : Nat) (j : Word) (hlsn : Nat) (e : Entry) : State :=
  let e' : Entry := { e with mir := true }
  (s.ownSet j [.write loc e', .write m (mirrorEntry e.owner loc node origin 4 hlsn)]
    [⟨WvType.mack, node, mackPayload origin loc j hlsn⟩]).closeAndSend

/-- MUPD (R460, R463): applied by the partner, or acknowledged again where it has been. -/
def execMupd (l : Fin 8) (fr : KeyedFrame) (u : MirrorUpdate) (s : State) : Host.Outcome State Fault Refusal :=
  .next (s.routedIn l.val fr WvType.mupd (mupdPayload u.origin u.rindex u.j u.hlsn u.image) (fun _ => false) (fun s =>
    match s.copyFor fr.src u.origin, Entry.parse u.origin u.image with
    | some (loc, m, h), some e =>
      if loc ≠ u.rindex then s
      else if h = u.hlsn then s.sendRouted WvType.mack fr.src (mackPayload u.origin loc u.j u.hlsn)
      else s.applyCopy fr.src u.origin loc m u.j u.hlsn e
    | _, _ => s))

/-- MCOPY (R465): a copy allocated, or refreshed. -/
def execMcopy (l : Fin 8) (fr : KeyedFrame) (u : MirrorUpdate) (s : State) : Host.Outcome State Fault Refusal :=
  .next (s.routedIn l.val fr WvType.mcopy (mupdPayload u.origin u.rindex u.j u.hlsn u.image) (fun _ => false) (fun s =>
    match Entry.parse u.origin u.image with
    | none => s
    | some e =>
      match s.copyFor fr.src u.origin with
      | some (loc, m, _) =>
        if u.rindex ≠ allocRindex ∧ u.rindex ≠ loc then s else s.applyCopy fr.src u.origin loc m u.j u.hlsn e
      | none =>
        if u.rindex ≠ allocRindex ∨ s.copyPending fr.src u.origin then s
        else match s.allocIndex e.body.type [] with
          | none => s
          | some loc => match s.allocIndex 4 [loc] with
            | none => s
            | some m => s.applyCopy fr.src u.origin loc m u.j u.hlsn e))

/-- The handover of an entry removed from those in progress. -/
def State.dropHandover (s : State) (i : Nat) : State :=
  { s with weave := { s.weave with handovers := s.weave.handovers.filter (fun h => h.entry != i) } }

/-- The handover's flip (R465 steps 3 and 4). -/
def State.flipHandover (s : State) (h : Handover) (rindex : Nat) : State :=
  let e := s.entry h.entry
  let hlsn := ((s.entry h.mirror).asMirror.map (·.2.2.2.2)).getD 0
  let after : List MirrorFrame := if h.oldState ≠ 0 ∧ h.oldNode ≠ h.node then [⟨WvType.mdrop, h.oldNode, mdropPayload h.entry h.oldIndex⟩] else []
  (s.dropHandover h.entry).ownSet 0 [.write h.mirror (mirrorEntry e.owner h.entry h.node rindex 1 hlsn)] after

/-- The handover ended without an answer (R465 step 2): the former NODE and STATE, or no pairing. -/
def State.endHandover (s : State) (h : Handover) : State :=
  let e := s.entry h.entry
  let hlsn := ((s.entry h.mirror).asMirror.map (·.2.2.2.2)).getD 0
  let us := if h.oldState = 0 then [s.freeMirror h.mirror, .write h.entry { e with mir := h.oldIndex != 0 }]
    else [.write h.mirror (mirrorEntry e.owner h.entry h.oldNode h.oldIndex h.oldState hlsn)]
  (s.dropHandover h.entry).ownSet 0 us []

/-- The entry of the group being closed waits for its MACK (R461). -/
def State.awaitsAck (s : State) (i : Nat) : Bool := s.ledger.unacked.contains i

/-- MACK (R461, R465): of an update of the group being closed, or of a handover's copy. -/
def execMack (l : Fin 8) (fr : KeyedFrame) (u : MirrorAck) (s : State) : Host.Outcome State Fault Refusal :=
  .next (s.routedIn l.val fr WvType.mack (mackPayload u.origin u.rindex u.j u.hlsn) (fun s => s.awaitsAck u.origin) (fun s =>
    let lsn := (s.ledger.closing.map (·.lsn)).getD 0
    if s.awaitsAck u.origin && u.hlsn == lsn && ((s.mirrorOf u.origin).map (·.2.1)) == some fr.src then
      { s with ledger := { s.ledger with unacked := s.ledger.unacked.filter (· != u.origin) } }
    else match s.weave.handovers.find? (fun h => h.entry == u.origin && h.node == fr.src) with
      | some h => s.flipHandover h u.rindex
      | none => s))

/-- MDROP (R465): the old partner frees its copy. -/
def execMdrop (l : Fin 8) (fr : KeyedFrame) (u : MirrorAck) (s : State) : Host.Outcome State Fault Refusal :=
  .next (s.routedIn l.val fr WvType.mdrop (mdropPayload u.origin u.rindex) (fun _ => false) (fun s =>
    match s.copyFor fr.src u.origin with
    | some (loc, m, _) => if loc = u.rindex then s.dropCopy loc m else s
    | none => s))

/-- The payload of an MSYNC frame as received. -/
def syncPayload (kind : Nat) (u : MirrorSync) : List Byte := msyncPayload kind u.verdict.val u.origin u.rindex u.hlsn u.image

/-- MSYNC_ORIGIN_QUERY (R468, R469): the partner answers with its HLSN and image; with the verdict superseded where the copy has been
promoted. -/
def execMsyncOriginQuery (l : Fin 8) (fr : KeyedFrame) (u : MirrorSync) (s : State) : Host.Outcome State Fault Refusal :=
  .next (s.routedIn l.val fr WvType.msync (syncPayload 0 u) (fun _ => false) (fun s =>
    match s.copyFor fr.src u.origin with
    | some (loc, _, h) =>
      if loc ≠ u.rindex then s else s.sendRouted WvType.msync fr.src (msyncPayload 1 0 u.origin loc h (s.imageBytes loc))
    | none =>
      if (s.entry u.rindex).mir && s.mirrorState u.rindex != 4 then
        s.sendRouted WvType.msync fr.src (msyncPayload 1 2 u.origin u.rindex (s.dirEntry u.rindex).lsn (s.imageBytes u.rindex))
      else s))

/-- An entry enters CONFLICT (R469). -/
def State.enterConflict (s : State) (i m : Nat) : State :=
  let s := (s.ownSet 0 [s.mirrorInState m 6] []).logEvent Src.ledger 3 i 0 0 0
  ({ s with mirrorConflict := true }).setF Fld.WEAVE_BSTAT_CONFLICT 1

/-- An origin's mirror entry made PAIRED in the directory, without a log write (R468). -/
def State.pairInPlace (s : State) (m : Nat) : State :=
  match s.mirrorInState m 1 with
  | .write _ e => s.setEntry m e (s.dirEntry m).lsn
  | _ => s

/-- MSYNC_ANSWER (R468): the origin in RESYNC takes the newer image. -/
def execMsyncAnswer (l : Fin 8) (fr : KeyedFrame) (u : MirrorSync) (s : State) : Host.Outcome State Fault Refusal :=
  .next (s.routedIn l.val fr WvType.msync (syncPayload 1 u) (fun _ => false) (fun s =>
    match s.mirrorOf u.origin with
    | some (m, node, r, st, h) =>
      if st ≠ 5 ∨ node ≠ fr.src ∨ r ≠ u.rindex then s
      else if u.verdict = 2 then s.enterConflict u.origin m
      else if h < u.hlsn then
        match Entry.parse u.rindex u.image with
        | some e =>
          let e' : Entry := { e with mir := true }
          s.ownSet 0 [.write u.origin e', .write m (mirrorEntry e.owner u.origin node r 1 u.hlsn)] []
        | none => s
      else
        let s := s.pairInPlace m
        if u.hlsn < h then s.sendRouted WvType.mcopy node (mupdPayload u.origin r 0 h (s.imageBytes u.origin)) else s
    | none => s))

/-- The verdict on a copy (R467). -/
def State.copyVerdict (s : State) (src origin rindex : Nat) : Nat :=
  match s.mirrorOf origin with
  | some (_, node, r, st, _) => if st = 4 then 2 else if node = src ∧ r = rindex ∧ !(s.entry origin).isFree then 0 else 1
  | none => 1

/-- MSYNC_COPY_QUERY (R467): the origin's verdict on a copy. -/
def execMsyncCopyQuery (l : Fin 8) (fr : KeyedFrame) (u : MirrorSync) (s : State) : Host.Outcome State Fault Refusal :=
  .next (s.routedIn l.val fr WvType.msync (syncPayload 2 u) (fun _ => false) (fun s =>
    let h := ((s.mirrorOf u.origin).map (·.2.2.2.2)).getD 0
    s.sendRouted WvType.msync fr.src
      (msyncPayload 3 (s.copyVerdict fr.src u.origin u.rindex) u.origin u.rindex h (s.imageBytes u.origin))))

/-- MSYNC_VERDICT (R467). -/
def execMsyncVerdict (l : Fin 8) (fr : KeyedFrame) (u : MirrorSync) (s : State) : Host.Outcome State Fault Refusal :=
  .next (s.routedIn l.val fr WvType.msync (syncPayload 3 u) (fun _ => false) (fun s =>
    match s.copyFor fr.src u.origin with
    | some (loc, m, _) =>
      if loc ≠ u.rindex ∨ u.verdict = 0 then s
      else if u.verdict = 1 then s.dropCopy loc m
      else s.enterConflict loc m
    | none => s))

/-- MUPD_RESEND (R461, R465): MUPD or MCOPY once more. -/
def execMupdResend (i : Fin 131072) (s : State) : Host.Outcome State Fault Refusal :=
  let k := i.val
  .next (if s.awaitsAck k && !s.ledger.resent.contains k then
      ({ s with ledger := { s.ledger with resent := k :: s.ledger.resent } }).sendMupd k
    else match s.weave.handovers.find? (fun h => h.entry == k && h.sends == 1) with
      | some h =>
        let hlsn := ((s.entry h.mirror).asMirror.map (·.2.2.2.2)).getD 0
        let ask := if h.node = h.oldNode ∧ h.oldState ≠ 0 then h.oldIndex else allocRindex
        let t := s.dropHandover k
        let t := { t with weave := { t.weave with handovers := t.weave.handovers ++ [{ h with sends := 2 }] } }
        t.sendRouted WvType.mcopy h.node (mupdPayload k ask 0 hlsn (s.imageBytes k))
      | none => s)

/-- MIRROR_WAIT_EXPIRE (R461, R465): the group commits with the entry's mirror entry in STATE ORPHAN, or the handover ends. -/
def execMirrorWaitExpire (i : Fin 131072) (s : State) : Host.Outcome State Fault Refusal :=
  let k := i.val
  .next (if s.awaitsAck k then
      { s with ledger := { s.ledger with unacked := s.ledger.unacked.filter (· != k), expired := k :: s.ledger.expired } }
    else match s.weave.handovers.find? (fun h => h.entry == k && decide (2 ≤ h.sends)) with
      | some h => s.endHandover h
      | none => s)

/-- MSTAT.ORPHANS as it reads: origin entries in ORPHAN, RESYNC or CONFLICT (R470). -/
def State.orphanCount (s : State) : Nat :=
  min 0xFFFF (s.ledger.dir.countP (fun e => match e.2.entry.asMirror with
    | some (_, _, _, st, _) => st == 2 || st == 5 || st == 6
    | none => false))

end Sys2Proof.Machine
end

