-- ==== Sys2Proof/Machine/Actuation.lean ====
section
/-! DEFINITION. The actuation outputs (R438–R442): staging, release, pulses and their readback. -/

namespace Sys2Proof.Machine

/-- Pulses staged for an output by all jobs: STAT.RSVD. -/
def State.pulsesStaged (s : State) (n : Nat) : Nat := (s.jobs.flatMap (fun j => j.pulses.filter (fun x => x.output == n))).length

/-- Places of an output in use: Q + RSVD (R438). -/
def State.pulsePlaces (s : State) (n : Nat) : Nat := (s.actOf n).queue.length + s.pulsesStaged n

/-- What refuses the staging of a pulse of `len` cycles on output n by a job: STATUS and CODE (R438). -/
def State.pulseRefusal (s : State) (j : Job) (n len : Nat) : Option (Nat × Nat) :=
  if !s.portOn (56 + n) then some (St.portDisabled, 0x40)
  else if len < s.getF (Fld.ACT_CFG_SETTLE n) + 25000 ∨ (s.reg (Reg.ACT_MAXLEN n)).toNat < len then some (St.range, 0x08)
  else if j.pulses.any (fun x => x.output == n) then some (St.param, 0x01)
  else if 8 ≤ s.pulsePlaces n then some (St.busy, 0x20)
  else none

/-- A pair may stage on output n (R438). -/
def State.mayPulse (s : State) (p n : Nat) : Bool :=
  s.isSupervisor p || (s.flag (Fld.ACT_CFG_TEN_EN n) && s.pairTenant p == s.getF (Fld.ACT_CFG_TENANT n))

/-- The decision on a store to ACT.STG1 by pair p, with the output number stored in STG0 (R438). Bits [31:4] of STG0 other than
zero are refused as a malformed staging (log 39). -/
def State.actStage (s : State) (p : Nat) (v : Word) : Resp :=
  let stg0 := s.mreg p Reg.ACT_STG0
  let n := fld 3 0 stg0
  match s.armedJob p with
  | none => busAt s Reg.ACT_STG1
  | some j =>
    if j.src == Stream.load || !s.mayPulse p n || decide (4 ≤ j.pulses.length) then busAt s Reg.ACT_STG1
    else
      let res := fun (st code : Nat) (s : State) => s.setMreg p Reg.ACT_SRES (wd (st * 2 ^ 16 + code * 2 ^ 8))
      if stg0.toNat ≠ n then .ok (res St.param 0x01 s)
      else match s.pulseRefusal j n v.toNat with
        | some (st, code) => .ok (res st code s)
        | none => .ok (res St.ok 0 (s.updArmed p (fun j => { j with pulses := j.pulses ++ [⟨n, v.toNat⟩] })))

/-- ACT_STAGE (R438). -/
def execActStage (p : PairId) (v : Word) (s : State) : Host.Outcome State Fault Refusal :=
  .next (s.pairAccess p.val Reg.ACT_STG1 .store (fun s => s.actStage p.val v))

/-- STAT.Q as the queue has it. -/
def State.syncPulses (s : State) (n : Nat) : State := s.setF (Fld.ACT_STAT_Q n) (s.actOf n).queue.length

/-- A pulse released at commit (R439): refused under R29 where ENABLE was 0 at the commit store, as `off` says, and is 0 now; ignored
where its J was released before on the output (R127). -/
def State.releasePulse (s : State) (j : Word) (off : Bool) (x : Pulse) : State :=
  let n := x.output
  let a := s.actOf n
  if off && !s.portOn (56 + n) then s.portLog (56 + n) St.portDisabled 0 j
  else if a.seen.contains j then s
  else (s.setAct n { a with queue := a.queue ++ [(j, x.len)], lastJ := some j, seen := j :: a.seen }).syncPulses n

/-- ACT_PULSE_START (R439): the first released pulse begins. -/
def execActPulseStart (n : Fin 16) (t : Nat) (s : State) : Host.Outcome State Fault Refusal :=
  let k := n.val
  let a := s.actOf k
  .next (if a.queue.isEmpty || a.rose.isSome then s
    else ((s.setAct k { a with rose := some t }).setF (Fld.ACT_STAT_ACTIVE k) 1).emit (.pin (56 + k) (!s.actInactive k)))

/-- ACT_PULSE_END (R439): the length of the running pulse has passed. -/
def execActPulseEnd (n : Fin 16) (t : Nat) (s : State) : Host.Outcome State Fault Refusal :=
  let k := n.val
  let a := s.actOf k
  .next (match a.queue, a.rose, a.fell with
    | (_, len) :: _, some r, none =>
      if t = r + len then
        ((s.setAct k { a with fell := some t }).setF (Fld.ACT_STAT_ACTIVE k) 0).emit (.pin (56 + k) (s.actInactive k))
      else s
    | _, _, _ => s)

/-- The level that the readback is expected to have at t: active or not; none within SETTLE of an edge (R440). -/
def ActOutput.expected (a : ActOutput) (settle t : Nat) : Option Bool :=
  match a.rose, a.fell with
  | some r, none => if r + settle ≤ t then some true else none
  | _, some e => if e + settle ≤ t then some false else none
  | none, none => some false

/-- The running pulse ended once its readback check after the falling edge has been made (R439). -/
def State.endPulse (s : State) (n t : Nat) : State :=
  let a := s.actOf n
  match a.queue, a.fell with
  | (j, _) :: rest, some e =>
    if e + s.getF (Fld.ACT_CFG_SETTLE n) ≤ t then
      ((s.setAct n { a with queue := rest, rose := none, fell := none }).setReg (Reg.ACT_LAST_J n) j).syncPulses n
    else s
  | _, _ => s

/-- A readback mismatch (R440): RBFAIL, an event-log entry and one event of monitor 85 + n. -/
def State.readbackMismatch (s : State) (n : Nat) : State :=
  let j := (s.actOf n).lastJ.getD 0
  let s := s.setF (Fld.ACT_STAT_RBFAIL n) 1
  (s.logEvent Src.tamper 6 (85 + n) j (wd n) 0).monitorEvent (85 + n)

/-- ACT_READBACK (R440): RB is sampled while ENABLE = 1, and for a pulse that has started. -/
def execActReadback (n : Fin 16) (t : Nat) (rb : Bool) (s : State) : Host.Outcome State Fault Refusal :=
  let k := n.val
  let a := s.actOf k
  .next (if !s.onMain || (!s.portOn (56 + k) && a.queue.isEmpty) then s
    else match a.expected (s.getF (Fld.ACT_CFG_SETTLE k)) t with
      | none => s
      | some active =>
        let level := if active then !s.actInactive k else s.actInactive k
        let s := (s.setF (Fld.ACT_STAT_RB k) (b2n rb)).endPulse k t
        if rb = level then s else s.readbackMismatch k)

end Sys2Proof.Machine
end

