-- ==== Sys2Proof/Machine/Cartridge.lean ====
section
/-! DEFINITION. The cartridge slots (R377–R394): mounting, operations, sleep, the journal and its gate 3, removal. -/

namespace Sys2Proof.Machine

/-! ## Slots -/

/-- The values of CRT<k>.STAT.STATE (R379). -/
abbrev Slot.empty : Nat := 0
abbrev Slot.ident : Nat := 1
abbrev Slot.param : Nat := 2
abbrev Slot.held : Nat := 3
abbrev Slot.ready : Nat := 4
abbrev Slot.sleep : Nat := 5
abbrev Slot.released : Nat := 6
abbrev Slot.failed : Nat := 7

/-- A slot. -/
def State.slotOf (s : State) (k : Nat) : CrtSlot := s.crt.get (fun _ => {}) k
/-- The state with a slot set. -/
def State.setSlot (s : State) (k : Nat) (x : CrtSlot) : State := { s with crt := s.crt.set (fun _ => {}) k x }
/-- The state with a slot changed. -/
def State.updSlot (s : State) (k : Nat) (f : CrtSlot → CrtSlot) : State := s.setSlot k (f (s.slotOf k))
/-- STAT.STATE of a slot. -/
def State.slotState (s : State) (k : Nat) : Nat := s.getF (Fld.CRT_STAT_STATE k)
/-- The state with STAT.STATE of a slot set. -/
def State.setSlotState (s : State) (k n : Nat) : State := s.setF (Fld.CRT_STAT_STATE k) n
/-- The state with the phase of a slot set, its command not yet repeated. -/
def State.setPhase (s : State) (k : Nat) (ph : CrtPhase) : State := s.updSlot k (fun x => { x with phase := ph, tried := false })

/-- A command of the slot on its bus. -/
def State.cartCmd (s : State) (k cmd arg : Nat) (data : List Byte) : State := s.emit (.frame (42 + k) cmd (leBytes 4 arg ++ data))

/-- CRT<k>.CID as 16 bytes. -/
def State.slotCid (s : State) (k : Nat) : List Byte := wordsBytes ((List.range 4).map (fun w => s.reg (Reg.CRT_CID k w)))

/-! ## Mount -/

/-- A mount begins (R380): IDENT, the first commands, and the wait for the condition response. -/
def State.startMount (s : State) (k : Nat) : State :=
  let s := s.setReg (Reg.CRT_STAT k) (setFld 31 28 Slot.ident (setFld 25 25 0 (setFld 23 16 0 (setFld 15 13 0 (s.reg (Reg.CRT_STAT k))))))
  let s := s.setSlot k { s.slotOf k with phase := .mount 3, tried := false, narrow := false, header := [], sectors := 0, sleepTo := none }
  (s.cartCmd k 0 0 []).cartCmd k 1 0x40FF8000 []

/-- A mount failed with ERR (R380). -/
def State.failMount (s : State) (k err : Nat) : State :=
  ((s.setF (Fld.CRT_STAT_ERR k) err).setSlotState k Slot.failed).setPhase k .idle

/-- ERR of a failed mount step (R380, R381). -/
def mountErr (step : Nat) : Nat := if step = 3 then 1 else if step ≤ 5 then 4 else step - 1

/-- The exchange of R381 on the bus: timing, then width, each by CMD6 followed by CMD13, and block 0 read (R377; the arguments of the two
CMD6 are those of JESD84; log 97). -/
def State.sendExchange (s : State) (k : Nat) (four : Bool) : State :=
  let s := ((s.cartCmd k 6 0x03B90100 []).cartCmd k 13 0x10000 []).cartCmd k 6 (0x03B70000 + 0x100 * b2n four) []
  (s.cartCmd k 13 0x10000 []).cartCmd k 17 0 []

/-- The exchange of R381 begins: clock and width. `narrow` asks for 1 bit and 20 MHz. -/
def State.startExchange (s : State) (k maxClk : Nat) (narrow : Bool) : State :=
  let clk := if narrow then 0 else min (s.getF (Fld.CRT_CFG_MAXCLK k)) maxClk
  let four := !narrow && s.flag (Fld.CRT_CFG_W4 k)
  let s := (s.setF (Fld.CRT_STAT_CLK k) (clk + 1)).setF (Fld.CRT_STAT_BUS4 k) (b2n four)
  let s := s.updSlot k (fun x => { x with phase := .mount 7, tried := false, narrow := narrow })
  s.sendExchange k four

/-- Field bytes of region r of a header: FIRST, COUNT, TENANT, TYPE, ACC (R384). -/
def hdrRegion (h : List Byte) (r : Nat) : Nat × Nat × Nat × Nat × Nat :=
  let o := 0x10 + 16 * r
  (leAt h o 4, leAt h (o + 4) 4, leAt h (o + 8) 1, leAt h (o + 9) 1, leAt h (o + 10) 1)

/-- A cartridge header is valid (R384). -/
def cartHeaderOk (h : List Byte) (sectors : Nat) : Bool :=
  let n := leAt h 9 1
  let g := fun r => hdrRegion h r
  h.take 8 == ascii8 && decide (1 ≤ n ∧ n ≤ 8) && leAt h 0x1FC 4 == (crc32c (h.take 0x1FC)).toNat &&
  (List.range n).all (fun r => decide (1 ≤ (g r).1 ∧ (g r).1 + (g r).2.1 ≤ sectors) &&
    (List.range r).all (fun q => decide ((g q).1 + (g q).2.1 ≤ (g r).1 ∨ (g r).1 + (g r).2.1 ≤ (g q).1)))
where
  /-- "CHLCRT01". -/
  ascii8 : List Byte := [67, 72, 76, 67, 82, 84, 48, 49].map byte

/-! ## The journal in NVM -/

/-- The NVM offset of the record of a slot with given SEQ: the 16 records are used in ring order (R307, R389; log 28). -/
def jrnOff (k seq : Nat) : Nat := 0x2200000 + k * 0x40000 + seq % 16 * 0x4000
/-- COUNT of the record at an offset. -/
def State.jrnCount (s : State) (o : Nat) : Nat := leAt (s.nbytes (o + 4) 1) 0 1
/-- The MAC of a record's header under LMAC (R389). -/
def State.jrnMac (s : State) (o : Nat) : List Byte :=
  match s.bootKey Label.lmac with
  | some m => (aesCmac m (s.nbytes o 32)).take 8
  | none => []
/-- The record of a slot at ring position r is written: its header unit has the magic. -/
def State.jrnUsed (s : State) (k r : Nat) : Bool := leAt (s.nbytes (jrnOff k r) 2) 0 2 == 0x4A52
/-- SEQ of the record of a slot at ring position r. -/
def State.jrnSeq (s : State) (k r : Nat) : Nat := leAt (s.nbytes (jrnOff k r + 2) 2) 0 2
/-- The record at ring position r is open (R389): VALID verifies and CLOSED is blank. -/
def State.jrnOpen (s : State) (k r : Nat) : Bool :=
  let o := jrnOff k r
  let v := o + 32 + 512 * s.jrnCount o
  s.jrnUsed k r && decide (s.jrnCount o ≤ 16) && s.keys.root.isSome && s.nbytes v 8 == s.jrnMac o && s.nvmBlank (v + 32) 32
/-- The open records of a slot by ring position. -/
def State.openRecords (s : State) (k : Nat) : List Nat := (List.range 16).filter (fun r => s.jrnOpen k r)
/-- The SEQ of the next record of a slot: one above the newest, whose successor is not in the ring; 0 where none is written. -/
def State.nextSeq (s : State) (k : Nat) : Nat :=
  let used := ((List.range 16).filter (fun r => s.jrnUsed k r)).map (fun r => s.jrnSeq k r)
  match used.find? (fun q => !used.contains ((q + 1) % 0x10000)) with
  | some q => (q + 1) % 0x10000
  | none => 0
/-- JSTAT.OPEN and SEQ as the journal has them (R394). -/
def State.syncJstat (s : State) (k : Nat) : State :=
  match s.openRecords k with
  | r :: _ => (s.setF (Fld.CRT_JSTAT_OPEN k) 1).setF (Fld.CRT_JSTAT_SEQ k) (s.jrnSeq k r)
  | [] => s.setF (Fld.CRT_JSTAT_OPEN k) 0
/-- A record closed (R390). -/
def State.closeRecord (s : State) (k r : Nat) : State :=
  let o := jrnOff k r
  ((s.useNvm 17 1 1).nvmProgram (o + 64 + 512 * s.jrnCount o) (zeros 32)).syncJstat k
/-- The erase of the sector of an NVM offset of bank 1 issued, where no erase runs or is suspended there. -/
def State.issueErase (s : State) (o : Nat) : State :=
  if s.eraseActive 1 || s.sectorBusy (sectorOf o) then s
  else s.beginErase (sectorOf o)

/-! ## Operations -/

/-- The end of a read: word 6, word 7 and the doorbell (R386, R387). -/
def State.endCartRead (s : State) (op : CrtOp) (status code : Nat) : State :=
  s.portResult op.req 6 status code 0 (op.words.getD 3 0)

/-- The end of a write: WRES, and a log entry unless it is OK (R388). -/
def State.endCartWrite (s : State) (k : Nat) (op : CrtOp) (status code : Nat) : State :=
  let s := s.setReg (Reg.CRT_WRES k) (wd (status * 2 ^ 16 + code * 2 ^ 8))
  if status = St.ok then s else s.portLog (42 + k) status code op.j

/-- The fields of a descriptor are well formed (R386). -/
def cartFormOk (ws : List Word) (op : Nat) : Bool :=
  let w0 := ws.getD 0 0
  fld 7 0 w0 == op && fld 15 8 w0 == 0 && decide (1 ≤ fld 31 24 w0 ∧ fld 31 24 w0 ≤ 16) &&
  decide (fld 23 16 w0 < 8 ∨ fld 23 16 w0 = 255) && fld 31 7 (ws.getD 3 0) == 0 && (op == 1 || ws.getD 3 0 == 0) &&
  ws.getD 4 0 == 0 && ws.getD 5 0 == 0

/-- The tenant may use raw regions (R394, RAWTEN). -/
def State.rawTenant (s : State) (t : Nat) : Bool := bit (t % 32) (s.reg (Reg.CRT_RAWTEN (t / 32)))

/-- The checks of an operation (R385, R386, R388): STATUS and CODE of its refusal, or the first block on the card and whether it
is journalled. The guard of R153 judges each burst later. -/
def State.cartCheck (s : State) (k : Nat) (r : EngReq) (ws : List Word) (op : Nat) : Except (Nat × Nat) (Nat × Bool) :=
  let w0 := ws.getD 0 0
  let n := fld 31 24 w0
  let rg := fld 23 16 w0
  let blk := (ws.getD 1 0).toNat
  let buf := (ws.getD 2 0).toNat
  let h := (s.slotOf k).header
  let g := hdrRegion h rg
  if !cartFormOk ws op || (r.ring == 3 && bit 0 (ws.getD 3 0) && decide (fld 6 1 (ws.getD 3 0) < 32)) then .error (St.param, 0x01)
  else if buf % 4 ≠ 0 ∨ ¬r.allows buf (512 * n) (if op = 1 then .store else .load) then .error (St.param, 0x02)
  else if rg = 255 then
    if !r.sup then .error (St.policy, 0x0C) else if blk + n ≤ 1 then .ok (0, false) else .error (St.range, 0x08)
  else
    let valid := s.flag (Fld.CRT_STAT_HDRVALID k) && decide (rg < leAt h 9 1)
    if !valid then .error (St.policy, 0x0C)
    else if !r.sup && (g.2.2.1 != s.pairTenant r.pair || (g.2.2.2.1 == 1 && !s.rawTenant g.2.2.1)) then .error (St.policy, 0x0C)
    else if !r.sup && (if op = 1 then g.2.2.2.2 % 2 == 0 else g.2.2.2.2 / 2 % 2 == 0 || s.flag (Fld.CRT_STAT_WP k)) then
      .error (St.policy, 0x0B)
    else if g.2.1 < blk + n then .error (St.range, 0x08)
    else .ok (g.1 + blk, g.2.2.2.1 == 0)

/-- A block of the head write is sent (R388). -/
def State.sendBlock (s : State) (k : Nat) (op : CrtOp) : State :=
  (s.cartCmd k 24 (op.abs + op.finished) (slice op.data (512 * op.finished) 512)).setPhase k .writing

/-- JREQ for the head write, which waits for JOPEN (R390): once, as it reaches the head. -/
def State.askJournal (s : State) (k : Nat) (op : CrtOp) : State :=
  if op.asked then s
  else
    (s.updSlot k (fun x => { x with writes := { op with asked := true } :: x.writes.drop 1 })).setF (Fld.CRT_JSTAT_JREQ k) 1

/-- The head write has its open record (R390): JARM equals the SEQ of the record that JOPEN wrote for it, which is open. -/
def State.journalArmed (s : State) (k : Nat) (op : CrtOp) : Bool :=
  match op.record with
  | some q => q == s.getF (Fld.CRT_JARM_SEQ k) && s.jrnOpen k (q % 16) && s.jrnSeq k (q % 16) == q
  | none => false

/-- A sleep or a release begins (R383): the slot deselects with CMD7 at relative address 0 and issues CMD5 with the sleep bit set. -/
def State.startSleep (s : State) (k t : Nat) : State := ((s.cartCmd k 7 0 []).cartCmd k 5 0x18000 []).setPhase k (.sleeping t)

/-- A wake begins (R383): CMD5 with the sleep bit clear. -/
def State.startWake (s : State) (k : Nat) : State := (s.cartCmd k 5 0x10000 []).setPhase k .waking

/-- What an idle slot does next (R383, R387, R388, R390): its next read, else its next write, else a sleep that waits; from SLEEP
it wakes first. -/
def State.cartNext (s : State) (k : Nat) : State :=
  let x := s.slotOf k
  if x.phase ≠ .idle || !s.portStarts (42 + k) then s
  else if s.slotState k = Slot.sleep then
    if x.reads.isEmpty && x.writes.isEmpty then s else s.startWake k
  else if s.slotState k ≠ Slot.ready then s
  else match x.reads, x.writes with
    | op :: _, _ => (s.cartCmd k 17 (op.abs + op.finished) []).setPhase k .reading
    | [], op :: _ =>
      if op.journalled && !s.journalArmed k op then s.askJournal k op else s.sendBlock k op
    | [], [] =>
      match x.sleepTo with
      | some t => if (s.openRecords k).isEmpty then s.startSleep k t else s
      | none => s

/-- The running read of a slot ended. -/
def State.finishRead (s : State) (k status code : Nat) : State :=
  match (s.slotOf k).reads with
  | op :: rest =>
    let s := s.updSlot k (fun x => { x with reads := rest, phase := .idle, tried := false })
    (s.endCartRead op status code).cartNext k
  | [] => s

/-- The head write of a slot ended. -/
def State.finishWrite (s : State) (k status code : Nat) : State :=
  match (s.slotOf k).writes with
  | op :: rest =>
    let s := s.updSlot k (fun x => { x with writes := rest, phase := .idle, tried := false })
    (s.endCartWrite k op status code).cartNext k
  | [] => s

/-- A failure of the running operation with FAULT_HW (R382). -/
def State.cartFault (s : State) (k : Nat) : State :=
  let s := s.incF (Fld.CRT_ERRCNT_FAIL k)
  match (s.slotOf k).phase with
  | .reading => s.finishRead k St.faultHw 0x31
  | .writing | .busy => s.finishWrite k St.faultHw 0x31
  | _ => s.setPhase k .idle

/-- The command whose response a slot waits for, sent again (R382). -/
def State.repeatCmd (s : State) (k : Nat) : State :=
  let x := s.slotOf k
  match x.phase with
  | .idle => s
  | .mount 3 => s.cartCmd k 1 0x40FF8000 []
  | .mount 4 => s.cartCmd k 2 0 []
  | .mount 5 => s.cartCmd k 3 0x10000 []
  | .mount 6 => s.cartCmd k 8 0 []
  | .mount _ => s.cartCmd k 17 0 []
  | .reading => match x.reads with
    | op :: _ => s.cartCmd k 17 (op.abs + op.finished) []
    | [] => s
  | .writing => match x.writes with
    | op :: _ => s.cartCmd k 24 (op.abs + op.finished) (slice op.data (512 * op.finished) 512)
    | [] => s
  | .busy => s.cartCmd k 13 0x10000 []
  | .sleeping _ => s.cartCmd k 5 0x18000 []
  | .waking => s.cartCmd k 5 0x10000 []

/-- A response missing or with a bad CRC (R382): the command is repeated once, then the operation or the mount fails. -/
def State.cartRetry (s : State) (k : Nat) : State :=
  let x := s.slotOf k
  if !x.tried then (s.setSlot k { x with tried := true }).repeatCmd k
  else match x.phase with
    | .mount n =>
      if n = 7 ∧ ¬x.narrow then s.startExchange k 0 true else s.failMount k (mountErr n)
    | .idle => s
    | _ => s.cartFault k

/-! ## Events on the bus -/

/-- CART_INSERT (R380): a seated cartridge is recognised and its mount begins. The WP sample is the environment's (log 1). -/
def execCartInsert (k : Fin 8) (s : State) : Host.Outcome State Fault Refusal :=
  let n := k.val
  .next (if !s.portOn (42 + n) || s.slotState n != Slot.empty || !s.onMain then s
    else
      let r := s.freshBytes 1
      let s := (r.2.setF (Fld.CRT_STAT_CD n) 1).setF (Fld.CRT_STAT_WP n) (b2n ((r.1.getD 0 0).getLsbD 0))
      ({ s with cartDet := if s.cartDet.contains n then s.cartDet else s.cartDet ++ [n] }).startMount n)

/-- The condition response (R380, step 3). -/
def State.cartCondition (s : State) (k : Nat) (ready volt byteAddr : Bool) : State :=
  if !volt then s.failMount k 2
  else if !ready then s.cartCmd k 1 0x40FF8000 []
  else if byteAddr then s.failMount k 3
  else (s.cartCmd k 2 0 []).setPhase k (.mount 4)

/-- The answer of the cartridge to a mount step (R380, R381). -/
def State.mountAnswer (s : State) (k step : Nat) (r : CartAnswer) : State :=
  match step, r with
  | 3, .condition ready volt ba => s.cartCondition k ready volt ba
  | 4, .ident cid =>
    let s := (List.range 4).foldl (fun s w => s.setReg (Reg.CRT_CID k w) (wd (leAt cid (4 * w) 4))) s
    (s.cartCmd k 3 0x10000 []).setPhase k (.mount 5)
  | 5, .status ok =>
    if ok then (((s.setSlotState k Slot.param).cartCmd k 7 0x10000 []).cartCmd k 8 0 []).setPhase k (.mount 6) else s.failMount k 4
  | 6, .extParams c => s.startExchange k c.val false
  | 6, .status ok => if ok then s else s.failMount k 5
  | 7, .block data sectors ok =>
    if ok then
      let valid := cartHeaderOk data sectors
      let s := s.updSlot k (fun x => { x with header := if valid then data else [], sectors := sectors, phase := .idle, tried := false })
      ((s.setF (Fld.CRT_STAT_HDRVALID k) (b2n valid)).setSlotState k Slot.held).syncJstat k
    else
      let s := s.incF (Fld.CRT_ERRCNT_CRC k)
      if (s.slotOf k).narrow then s.failMount k 6 else s.startExchange k 0 true
  | 7, .status ok =>
    if ok then s else if (s.slotOf k).narrow then s.failMount k 6 else s.startExchange k 0 true
  | _, .crcError => (s.incF (Fld.CRT_ERRCNT_CRC k)).cartRetry k
  | _, _ => s

/-- A block of the running read arrives (R382, R387): moved through the port guard, or read again once. -/
def State.readBlock (s : State) (k : Nat) (data : List Byte) (ok : Bool) : State :=
  match (s.slotOf k).reads with
  | [] => s
  | op :: rest =>
    if !ok then
      let s := s.incF (Fld.CRT_ERRCNT_CRC k)
      if op.tried then s.cartFault k
      else (s.updSlot k (fun x => { x with reads := { op with tried := true } :: rest })).repeatCmd k
    else
      let a := (op.words.getD 2 0).toNat + 512 * op.finished
      let r := State.portWrite 2 s (42 + k) a (slice data 0 512)
      if !r.2 then r.1.finishRead k St.param 0x02
      else
        let op' := { op with finished := op.finished + 1, tried := false }
        let t := r.1.updSlot k (fun x => { x with reads := op' :: rest })
        if op'.finished < op.count then t.cartCmd k 17 (op.abs + op'.finished) [] else t.finishRead k St.ok 0

/-- The token of a written block (R382). -/
def State.writeToken (s : State) (k : Nat) (positive : Bool) : State :=
  match (s.slotOf k).writes with
  | [] => s
  | op :: rest =>
    if positive then s.setPhase k .busy
    else
      let s := s.incF (Fld.CRT_ERRCNT_CRC k)
      if op.tried then s.cartFault k
      else
        let op' := { op with tried := true }
        (s.updSlot k (fun x => { x with writes := op' :: rest })).sendBlock k op'

/-- A sleep or wake has ended (R383): a card that wakes is selected again with CMD7. -/
def State.sleepDone (s : State) (k target : Nat) : State :=
  let s := if target = Slot.ready then s.cartCmd k 7 0x10000 [] else s
  let s := (s.setSlotState k target).updSlot k (fun x => { x with phase := .idle, sleepTo := none, tried := false })
  s.cartNext k

/-- CART_RESPONSE (R382): an answer on the bus of a slot. -/
def execCartResponse (k : Fin 8) (r : CartAnswer) (s : State) : Host.Outcome State Fault Refusal :=
  let n := k.val
  .next (match (s.slotOf n).phase, r with
    | .idle, _ => s
    | .mount st, _ => s.mountAnswer n st r
    | .reading, .block data _ ok => s.readBlock n data ok
    | .writing, .writeToken ok => s.writeToken n ok
    | .sleeping t, .status true => s.sleepDone n t
    | .waking, .status true => s.sleepDone n Slot.ready
    | _, .status true => s
    | _, .status false => s.cartFault n
    | _, .crcError => (s.incF (Fld.CRT_ERRCNT_CRC n)).cartRetry n
    | _, _ => s)

/-- CART_TIMEOUT (R380, R382): the limit of what the slot waits for has expired: of read data or a busy phase where `x.data`, else of
a response. A missing response repeats its command once; the bound of step 3 and the limits of read data and of a busy phase
end what they bound. -/
def execCartTimeout (x : CartExpiry) (s : State) : Host.Outcome State Fault Refusal :=
  let n := x.slot.val
  .next (match (s.slotOf n).phase with
    | .idle => s
    | .mount 3 => s.failMount n 1
    | .mount m => if x.data then s.failMount n (mountErr m) else s.cartRetry n
    | _ => if x.data then s.cartFault n else s.cartRetry n)

/-- CART_BLOCK_CONFIRMED (R388): the busy phase of a written block ended and CMD13 showed no error. -/
def execCartBlockConfirmed (k : Fin 8) (s : State) : Host.Outcome State Fault Refusal :=
  let n := k.val
  .next (match (s.slotOf n).phase, (s.slotOf n).writes with
    | .busy, op :: rest =>
      let op' := { op with finished := op.finished + 1, tried := false }
      let s := s.updSlot n (fun x => { x with writes := op' :: rest })
      if op'.finished < op.count then s.sendBlock n op'
      else
        let s := if op.journalled then s.setF (Fld.CRT_JSTAT_JDONE n) 1 else s
        s.finishWrite n St.ok 0
    | _, _ => s)

/-- Every operation of a slot ended with a status; the running one too where `all`. -/
def State.endCartOps (s : State) (k status code : Nat) (all : Bool) : State :=
  let x := s.slotOf k
  let runR := x.phase == .reading
  let runW := x.phase == .writing || x.phase == .busy
  let keepR := if runR && !all then x.reads.take 1 else []
  let keepW := if runW && !all then x.writes.take 1 else []
  let s := s.setSlot k { x with reads := keepR, writes := keepW }
  let s := (x.reads.drop keepR.length).foldl (fun s op => s.endCartRead op status code) s
  (x.writes.drop keepW.length).foldl (fun s op => s.endCartWrite k op status code) s

/-- The writes that jobs have staged for a slot end with PORT_ABSENT, each logged with its J (R388, R393). -/
def State.dropStaged (s : State) (k : Nat) : State :=
  let js := s.jobs
  let s := { s with jobs := js.map (fun (j : Job) => { j with frames := j.frames.filter (fun f => f.port != 42 + k) }) }
  (js.flatMap (fun j => (j.frames.filter (fun f => f.port == 42 + k)).map (fun _ => j.j))).foldl (fun s j =>
    (s.setReg (Reg.CRT_WRES k) (wd (St.portAbsent * 2 ^ 16 + 0x41 * 2 ^ 8))).portLog (42 + k) St.portAbsent 0x41 j) s

/-- CART_REMOVE (R393): removal is recognised at the first high sample. -/
def execCartRemove (k : Fin 8) (s : State) : Host.Outcome State Fault Refusal :=
  let n := k.val
  .next (if !s.portOn (42 + n) || s.slotState n == Slot.empty then s
    else
      let s := (s.endCartOps n St.portAbsent 0x41 true).dropStaged n
      let s := s.setSlot n {}
      let s := s.setReg (Reg.CRT_STAT n) (setFld 31 28 Slot.empty (setFld 26 25 0 (setFld 15 13 0 (s.reg (Reg.CRT_STAT n)))))
      { s with cartDet := if s.cartDet.contains n then s.cartDet else s.cartDet ++ [n] })

/-! ## Submission and staging -/

/-- The decision on a store to CRT<k>.SUBMIT (R387). An operation offered where the slot is neither READY nor in SLEEP ends with
PORT_ABSENT (R379), at a disabled port with PORT_DISABLED (R28). -/
def State.crtSubmit (s : State) (p k : Nat) (v : Word) : Resp :=
  match s.portSubmission p 32 v ((s.slotOf k).reads.any (fun o => o.req.pair == p)) with
  | none => busAt s (Reg.CRT_SUBMIT k)
  | some r =>
    let ws := s.portWords r 32
    let op : CrtOp := ⟨r, ws, 0, 0, fld 31 24 (ws.getD 0 0), false, [], 0, false, false, none⟩
    if !s.portOn (42 + k) then .ok (s.endCartRead op St.portDisabled 0x40)
    else if s.slotState k ≠ Slot.ready ∧ s.slotState k ≠ Slot.sleep then .ok (s.endCartRead op St.portAbsent 0x41)
    else match s.cartCheck k r ws 1 with
      | .error (st, code) => .ok (s.endCartRead op st code)
      | .ok (a, _) => .ok ((s.updSlot k (fun x => { x with reads := x.reads ++ [{ op with abs := a }] })).cartNext k)

/-- WRES set by a staging. -/
def State.stagedWrite (s : State) (k st code : Nat) : State := s.setReg (Reg.CRT_WRES k) (wd (st * 2 ^ 16 + code * 2 ^ 8))

/-- The decision on a store to CRT<k>.STAGE (R388): a write copied into the slot's queue as an outbound frame of the armed job. -/
def State.crtStage (s : State) (p k : Nat) (v : Word) : Resp :=
  match s.portSubmission p 32 v false, s.armedJob p with
  | some r, some j =>
    let ws := s.portWords r 32
    let n := fld 31 24 (ws.getD 0 0)
    let queued := (s.slotOf k).writes.length + (s.stagedFor (42 + k)).length
    if j.src == Stream.load || !j.frameRoom (512 * n) || decide (4 ≤ queued) then busAt s (Reg.CRT_STAGE k)
    else if !s.portOn (42 + k) then .ok (s.stagedWrite k St.portDisabled 0x40)
    else if s.slotState k ≠ Slot.ready ∧ s.slotState k ≠ Slot.sleep then .ok (s.stagedWrite k St.portAbsent 0x41)
    else match s.cartCheck k r ws 2 with
      | .error (st, code) => .ok (s.stagedWrite k st code)
      | .ok (a, jr) =>
        match State.portRead 32 s (42 + k) (ws.getD 2 0).toNat (512 * n) with
        | (t, .error e) => .ok (t.stagedWrite k e.1 e.2)
        | (t, .ok data) =>
          .ok ((t.stageFrame p ⟨42 + k, b2n jr, a, data⟩).stagedWrite k St.ok 0)
  | _, _ => busAt s (Reg.CRT_STAGE k)

/-- A staged cartridge write released by job J (R388). -/
def State.releaseCart (s : State) (k : Nat) (f : Frame) (j : Word) (p : Nat) : State :=
  let op : CrtOp := ⟨⟨p, indexOf p, false, 0, 0, []⟩, [], j, f.target, f.data.length / 512, f.kind == 1, f.data, 0, false, false, none⟩
  (s.updSlot k (fun x => { x with writes := x.writes ++ [op] })).cartNext k

/-- CRT_SUBMIT (R387). -/
def execCrtSubmit (p : PairId) (k : Fin 8) (v : Word) (s : State) : Host.Outcome State Fault Refusal :=
  .next (s.pairAccess p.val (Reg.CRT_SUBMIT k.val) .store (fun s => s.crtSubmit p.val k.val v))

/-- CRT_STAGE (R388). -/
def execCrtStage (p : PairId) (k : Fin 8) (v : Word) (s : State) : Host.Outcome State Fault Refusal :=
  .next (s.pairAccess p.val (Reg.CRT_STAGE k.val) .store (fun s => s.crtStage p.val k.val v))

/-! ## Gate 3 -/

/-- The slot argument of a gate 3 service; a number above 7 is refused (R390). -/
def State.gate3 (s : State) (p f : Nat) (body : State → Nat → State) : State :=
  s.gateService p 3 f 4 (fun s => if 8 ≤ s.gateArg p 4 then s.gateReturn p [St.param] else body s (s.gateArg p 4))

/-- JOPEN (R390): gate 3, function 1. The pre-images are what the card holds, which is outside the block (log 1). -/
def execJopen (p : PairId) (readOk : Bool) (s : State) : Host.Outcome State Fault Refusal :=
  let q := p.val
  .next (s.gate3 q 1 (fun s k =>
    let seq := s.nextSeq k
    let o := jrnOff k seq
    match (s.slotOf k).writes with
    | [] => s.gateReturn q [St.param]
    | op :: _ =>
      if !op.journalled || (s.slotOf k).phase != .idle then s.gateReturn q [St.param]
      else if s.slotState k ≠ Slot.ready then s.gateReturn q [St.portAbsent]
      else if s.bootKey Label.lmac = none then s.gateReturn q [St.keyAbsent]
      else if !s.nvmBlank o 0x4000 then (s.issueErase o).gateReturn q [St.bankBusy]
      else if !readOk then ((s.incF (Fld.CRT_ERRCNT_FAIL k)).finishWrite k St.faultHw 0x31).gateReturn q [St.faultHw]
      else
        let s := (List.range op.count).foldl (fun s i => s.cartCmd k 17 (op.abs + i) []) s
        let r := s.freshBytes (512 * op.count)
        let hdr := leBytes 2 0x4A52 ++ leBytes 2 seq ++ leBytes 1 op.count ++ leBytes 1 k ++ zeros 2 ++ leBytes 4 op.abs ++
          wordBytes (crc32c r.1) ++ s.slotCid k
        let s := ((r.2.useNvm 17 1 1).nvmProgram o hdr).nvmProgram (o + 32) r.1
        let s := s.nvmProgram (o + 32 + 512 * op.count) (s.jrnMac o ++ zeros 24)
        let s := (s.setF (Fld.CRT_JARM_SEQ k) seq).syncJstat k
        let s := s.updSlot k (fun x => { x with writes := { op with asked := true, record := some seq } :: x.writes.drop 1 })
        (s.cartNext k).gateReturn q [St.ok]))

/-- JCLOSE (R390): gate 3, function 2, after JDONE. -/
def execJclose (p : PairId) (s : State) : Host.Outcome State Fault Refusal :=
  let q := p.val
  .next (s.gate3 q 2 (fun s k =>
    let seq := s.getF (Fld.CRT_JARM_SEQ k)
    if !s.flag (Fld.CRT_JSTAT_JDONE k) || !s.jrnOpen k (seq % 16) then s.gateReturn q [St.param]
    else
      let s := (s.closeRecord k (seq % 16)).setF (Fld.CRT_JARM_SEQ k) 0
      let s := if seq % 4 = 0 then s.issueErase (jrnOff k (seq + 4)) else s
      (s.cartNext k).gateReturn q [St.ok]))

/-- The blocks of a record written back to the card. -/
def State.restoreRecord (s : State) (k r : Nat) : State :=
  let o := jrnOff k r
  let abs := leAt (s.nbytes (o + 8) 4) 0 4
  ((List.range (s.jrnCount o)).foldl (fun s i => s.cartCmd k 24 (abs + i) (s.nbytes (o + 32 + 512 * i) 512)) s).closeRecord k r

/-- JCHECK (R390, R391): gate 3, function 3, in HELD. -/
def execJcheck (p : PairId) (s : State) : Host.Outcome State Fault Refusal :=
  let q := p.val
  .next (s.gate3 q 3 (fun s k =>
    if s.slotState k = Slot.empty then s.gateReturn q [St.portAbsent]
    else if s.slotState k ≠ Slot.held then s.gateReturn q [St.param]
    else
      let own := fun (s : State) (r : Nat) => s.nbytes (jrnOff k r + 16) 16 == s.slotCid k
      let bad := (s.openRecords k).any (fun r => own s r &&
        leAt (s.nbytes (jrnOff k r + 12) 4) 0 4 != (crc32c (s.nbytes (jrnOff k r + 32) (512 * s.jrnCount (jrnOff k r)))).toNat)
      if bad then s.gateReturn q [St.faultHw]
      else
        let s := ((s.openRecords k).filter (own s)).foldl (fun s r => s.restoreRecord k r) s
        let s := s.syncJstat k
        if (s.openRecords k).isEmpty then (((s.setF (Fld.CRT_JSTAT_FOREIGN k) 0).setSlotState k Slot.ready).cartNext k).gateReturn q [St.ok]
        else (s.setF (Fld.CRT_JSTAT_FOREIGN k) 1).gateReturn q [St.ok]))

/-- JDISCARD (R390, R391): gate 3, function 4. Where no open record is left, a slot that was HELD for it goes on to READY
(log 28). -/
def execJdiscard (p : PairId) (s : State) : Host.Outcome State Fault Refusal :=
  let q := p.val
  .next (s.gate3 q 4 (fun s k =>
    match s.openRecords k with
    | [] => s.gateReturn q [St.ok]
    | r :: _ =>
      let s := (s.closeRecord k r).portLog (42 + k) St.ok 0 0
      let s := if (s.openRecords k).isEmpty && s.flag (Fld.CRT_JSTAT_FOREIGN k) then
          (s.setF (Fld.CRT_JSTAT_FOREIGN k) 0).setSlotState k Slot.ready
        else s
      (s.cartNext k).gateReturn q [St.ok]))

/-! ## CART_CTL -/

/-- The operation of CART_CTL (R380, R383): 0 mount, 1 sleep, 2 wake, 3 release. -/
def State.cartCtl (s : State) (k op : Nat) : State :=
  let st := s.slotState k
  if op = 0 then (if st = Slot.failed ∨ st = Slot.released then s.startMount k else s)
  else if op = 2 then (if st = Slot.sleep ∧ (s.slotOf k).phase = .idle then s.startWake k else s)
  else if st = Slot.ready then
    (s.updSlot k (fun x => { x with sleepTo := some (if op = 1 then Slot.sleep else Slot.released) })).cartNext k
  else s

/-- STAT.WQ as it reads: writes queued, staged ones included (R394). -/
def State.cartWq (s : State) (k : Nat) : Nat := (s.slotOf k).writes.length + (s.stagedFor (42 + k)).length

end Sys2Proof.Machine
end

