-- ==== Sys2Proof/Machine/Contact.lean ====
section
/-! DEFINITION. The contact card ports (R432–R437): activation, exchanges and their results. -/

namespace Sys2Proof.Machine

/-- The values of SC<n>.STAT.STATE (R437). -/
abbrev Card.off : Nat := 0
abbrev Card.activating : Nat := 1
abbrev Card.ready : Nat := 2
abbrev Card.failed : Nat := 3

/-- The state with a contact card port changed. -/
def State.updSc (s : State) (n : Nat) (g : ScUnit → ScUnit) : State := s.setSc n (g (s.scOf n))
/-- STAT.STATE. -/
def State.cardState (s : State) (n : Nat) : Nat := s.getF (Fld.SC_STAT_STATE n)
/-- STAT.XQ as the queue has it. -/
def State.syncScq (s : State) (n : Nat) : State := s.setF (Fld.SC_STAT_XQ n) (s.scOf n).queue.length

/-- TXLEN of a descriptor (R435). -/
def scTx (ws : List Word) : Nat := (ws.getD 1 0).toNat
/-- RXCAP. -/
def scCap (ws : List Word) : Nat := (ws.getD 4 0).toNat

/-- The form of a descriptor (R435). -/
def scFormOk (r : EngReq) (ws : List Word) : Bool :=
  let w5 := ws.getD 5 0
  let n := scTx ws
  let c := scCap ws
  fld 31 8 (ws.getD 0 0) == 0 && fld 31 7 w5 == 0 && !(r.ring == 3 && bit 0 w5 && decide (fld 6 1 w5 < 32)) &&
  (ws.getD 2 0).toNat % 4 == 0 && (ws.getD 3 0).toNat % 4 == 0 && (n != 0 || ws.getD 2 0 == 0) && (c != 0 || ws.getD 3 0 == 0) &&
  match descOp ws with
  | 1 => n == 0 && c == 0
  | 2 => decide (1 ≤ n ∧ n ≤ 65544)
  | 3 => n == 0 && c == 0
  | _ => false

/-- An extended APDU: a length byte of 0 that two length bytes follow. -/
def extendedApdu (tx : List Byte) : Bool := decide (7 ≤ tx.length) && tx.getD 4 0 == 0

/-- E of R436 in ETU. -/
def State.scBound (s : State) (n : Nat) (ws : List Word) : Nat :=
  let u := s.scOf n
  let k := if s.flag (Fld.SC_STAT_T1 n) then ceilDiv (scTx ws) u.ifsc + ceilDiv (scCap ws) 254 + 2 else 3
  12 * (scTx ws + scCap ws + 8 * k) + 3 * k * u.wt

/-- What refuses an exchange at its start: STATUS and CODE (R405, R436). -/
def State.scCheck (s : State) (n : Nat) (x : PortExch) : Option (Nat × Nat) :=
  let ws := x.words
  let tx := (ws.getD 2 0).toNat
  let rx := (ws.getD 3 0).toNat
  if !scFormOk x.req ws then some (St.param, 0x01)
  else if (scTx ws ≠ 0 ∧ ¬x.req.allows tx (scTx ws) .load) ∨ (scCap ws ≠ 0 ∧ ¬x.req.allows rx (scCap ws) .store) then some (St.param, 0x02)
  else if descOp ws = 2 ∧ s.cardState n ≠ Card.ready then some (St.portAbsent, 0x42)
  else if descOp ws = 2 ∧ ¬s.flag (Fld.SC_STAT_T1 n) ∧ extendedApdu (s.hbytes (tx - fabricBase) (scTx ws)) then some (St.param, 0x01)
  else if (s.reg (Reg.SC_XLIMIT n)).toNat < s.scBound n ws then some (St.policy, 0x04)
  else none

/-- The exchange at the head has run: STATUS, CODE and RXLEN. -/
def State.scResult (s : State) (n st code len : Nat) : State := s.updSc n (fun u => { u with result := some (st, code, len) })

/-- The exchange at the head of the queue, where it has OP `op` and the port may start it: refused, or run. -/
def State.scRun (s : State) (n op : Nat) (body : State → PortExch → State) : State :=
  let u := s.scOf n
  match u.queue with
  | x :: _ =>
    if u.result.isSome || !s.portStarts (54 + n) || descOp x.words != op then s
    else match s.scCheck n x with
      | some (st, code) => s.scResult n st code 0
      | none => body s x
  | [] => s

/-- The card deactivated (R436). -/
def State.cardOff (s : State) (n : Nat) : State :=
  let s := (s.setF (Fld.SC_STAT_STATE n) Card.off).setF (Fld.SC_STAT_CLASS n) 0
  s.emit (.frame (54 + n) 3 [])

/-- The class of a try is permitted (R433, R437). -/
def State.classPermitted (s : State) (n cls : Nat) : Bool :=
  cls != 0 && bit (cls - 1) (wd (s.getF (Fld.SC_CFG_CLASSES n))) && (cls != 3 || s.flag (Fld.SC_CFG_EXT5 n))

/-- SC_ACTIVATE (R434): the outcome of the tries. A card in a class that is not permitted is excluded; a failed activation ends
PORT_ABSENT, CODE 0x41 (log 38). -/
def execScActivate (n : Fin 2) (r : AtrResult) (s : State) : Host.Outcome State Fault Refusal :=
  let k := n.val
  .next (s.scRun k 1 (fun s _ =>
    let err := if r.err ≠ 0 then r.err.toNat else if s.classPermitted k r.cls.val then 0 else 0x02
    let atr := if err = 0x01 then [] else r.atr.take 33
    let s := (s.emit (.frame (54 + k) 1 [])).setF (Fld.SC_STAT_ERR k) err
    let s := s.setF (Fld.SC_STAT_ATRLEN k) atr.length
    let s := (List.range 9).foldl (fun s w => s.setReg (Reg.SC_ATR k w) (wd (leAt atr (4 * w) 4))) s
    if err = 0 then
      let s := ((s.setF (Fld.SC_STAT_STATE k) Card.ready).setF (Fld.SC_STAT_CLASS k) r.cls.val).setF (Fld.SC_STAT_T1 k) (b2n r.t1)
      (s.updSc k (fun u => { u with ifsc := r.ifsc, wt := r.wt, fi := r.fi, di := r.di })).scResult k St.ok 0 0
    else
      let s := ((s.setF (Fld.SC_STAT_STATE k) Card.failed).setF (Fld.SC_STAT_CLASS k) 0).setF (Fld.SC_STAT_T1 k) 0
      s.scResult k St.portAbsent 0x41 0))

/-- The answer of a card written through the port guard, cut to RXCAP (R405, R153). -/
def State.scReceive (s : State) (n : Nat) (x : PortExch) (data : List Byte) : State :=
  let bs := data.take (scCap x.words)
  match State.portWrite 300 s (54 + n) (x.words.getD 3 0).toNat bs with
  | (t, false) => t.scResult n St.param 0x02 0
  | (t, true) => if scCap x.words < data.length then t.scResult n St.param 0x03 bs.length else t.scResult n St.ok 0 bs.length

/-- SC_APDU_EXCHANGE (R436): without an answer the exchange ends with 0x41 under T=0, and with 0x42 under T=1, whose recovery has
then failed (log 38). -/
def execScApduExchange (n : Fin 2) (r : RfAnswer) (s : State) : Host.Outcome State Fault Refusal :=
  let k := n.val
  .next (s.scRun k 2 (fun s x =>
    match State.portRead 300 s (54 + k) (x.words.getD 2 0).toNat (scTx x.words) with
    | (t, .error e) => t.scResult k e.1 e.2 0
    | (t, .ok bs) =>
      let t := t.emit (.frame (54 + k) 2 bs)
      let t := if r.parErr then t.incF (Fld.SC_ERRCNT_PARITY k) else t
      let t := if r.crcErr then t.incF (Fld.SC_ERRCNT_PROTO k) else t
      if r.answered then t.scReceive k x r.data
      else if t.flag (Fld.SC_STAT_T1 k) then (t.cardOff k).scResult k St.portAbsent 0x42 0
      else t.scResult k St.portAbsent 0x41 0))

/-- SC_DEACTIVATE (R436). -/
def execScDeactivate (n : Fin 2) (s : State) : Host.Outcome State Fault Refusal :=
  .next (s.scRun n.val 3 (fun s _ => (s.cardOff n.val).scResult n.val St.ok 0 0))

/-- An exchange ends with its result record and doorbell (R435). -/
def State.endScExch (s : State) (x : PortExch) (st code len : Nat) : State :=
  s.portResult x.req 6 st code (wd len) (x.words.getD 5 0)

/-- SC_EXCHANGE_DONE (R436): the exchange that has run ends, or one that is refused without having run; cut under R28 where the port
is disabled or quarantined. -/
def execScExchangeDone (n : Fin 2) (s : State) : Host.Outcome State Fault Refusal :=
  let k := n.val
  let u := s.scOf k
  .next (match u.queue with
    | [] => s
    | x :: rest =>
      let open_ := s.portStarts (54 + k)
      let res := match u.result with
        | some r => some r
        | none => if open_ then (s.scCheck k x).map (fun e => (e.1, e.2, 0)) else none
      match res with
      | none => s
      | some (st, code, len) =>
        let s := s.setSc k { u with queue := rest, result := none, cut := false, silent := false }
        let s := if u.silent then s
          else if !open_ then s.endScExch x St.portDisabled 0x44 len else s.endScExch x st code len
        s.syncScq k)

/-- The queued exchanges of a port whose ENABLE is cleared end with PORT_DISABLED; one that has run keeps its place (R28). -/
def State.flushSc (s : State) (n : Nat) : State :=
  let u := s.scOf n
  let keep := if u.result.isSome then u.queue.take 1 else []
  let s := s.setSc n { u with queue := keep }
  ((u.queue.drop keep.length).foldl (fun s x => s.endScExch x St.portDisabled 0x40 0) s).syncScq n

/-- The decision on a store to SC<n>.SUBMIT (R435, R218). -/
def State.scSubmit (s : State) (p n : Nat) (v : Word) : Resp :=
  let q := (s.scOf n).queue
  match s.portSubmission p 32 v (decide (2 ≤ q.length) || q.any (fun x => x.req.pair == p)) with
  | none => busAt s (Reg.SC_SUBMIT n)
  | some r =>
    if !s.isSupervisor p then busAt s (Reg.SC_SUBMIT n)
    else
      let x : PortExch := ⟨r, s.portWords r 32⟩
      if !s.portOn (54 + n) then .ok (s.endScExch x St.portDisabled 0x40 0)
      else .ok ((s.updSc n (fun u => { u with queue := u.queue ++ [x] })).syncScq n)

/-- SC_SUBMIT (R435). -/
def execScSubmit (p : PairId) (n : Fin 2) (v : Word) (s : State) : Host.Outcome State Fault Refusal :=
  .next (s.pairAccess p.val (Reg.SC_SUBMIT n.val) .store (fun s => s.scSubmit p.val n.val v))

end Sys2Proof.Machine
end

