-- ==== Sys2Proof/Machine/Heads.lean ====
section
/-! DEFINITION. The head ports (R420–R431): frames, presence, keying, commands, replies and notices. -/

namespace Sys2Proof.Machine

/-- A head port. -/
def State.headOf (s : State) (h : Nat) : HeadUnit := s.heads.get (fun _ => {}) h
/-- The state with a head port set. -/
def State.setHead (s : State) (h : Nat) (u : HeadUnit) : State := { s with heads := s.heads.set (fun _ => {}) h u }
/-- The state with a head port changed. -/
def State.updHead (s : State) (h : Nat) (g : HeadUnit → HeadUnit) : State := s.setHead h (g (s.headOf h))
/-- STAT.PRESENT. -/
def State.headPresent (s : State) (h : Nat) : Bool := s.flag (Fld.HEAD_STAT_PRESENT h)
/-- STAT.KEYED. -/
def State.headKeyed (s : State) (h : Nat) : Bool := s.flag (Fld.HEAD_STAT_KEYED h)
/-- STAT.PRESENT and its bit of PRESENT set (R423, R431). -/
def State.setPresent (s : State) (h : Nat) (b : Bool) : State :=
  (s.setF (Fld.HEAD_STAT_PRESENT h) (b2n b)).setF ⟨Reg.HEAD_PRESENT, h, h⟩ (b2n b)

/-! ## Frames -/

/-- The frame types (R422). -/
abbrev HeadType.probe : Nat := 0x01
abbrev HeadType.keyx1 : Nat := 0x03
abbrev HeadType.keyx3 : Nat := 0x05
abbrev HeadType.reply : Nat := 0x11
abbrev HeadType.notice : Nat := 0x12

/-- Bytes 1–7 of a frame (R421). -/
def headClear (type fseq len : Nat) : List Byte := leBytes 1 type ++ leBytes 2 len ++ leBytes 4 fseq

/-- An unkeyed frame sent (R421). The manual gives no FSEQ for it: a free value (log 34). -/
def State.sendPlain (s : State) (h type : Nat) (payload : List Byte) : State :=
  let f := s.freshBytes 4
  let body := headClear type (ofLe f.1) payload.length ++ payload
  f.2.emit (.frame (10 + h) type (0xC5#8 :: body ++ wordBytes (crc32c body)))

/-- The GCM nonce of a frame that the device sends (R421). -/
def headNonce (h epoch fseq : Nat) : List Byte := [0x01#8] ++ leBytes 1 h ++ leBytes 2 epoch ++ leBytes 4 fseq ++ zeros 4

/-- A keyed frame sent under KS with the next FSEQ of its direction (R421, R425). -/
def State.sendKeyed (s : State) (h type : Nat) (payload : List Byte) : State :=
  let u := s.headOf h
  let aad := headClear type u.tx payload.length
  let nonce := headNonce h (s.getF (Fld.HEAD_STAT_EPOCH h)) u.tx
  let ct := gcmCrypt u.ks nonce payload
  (s.updHead h (fun u => { u with tx := u.tx + 1 })).emit
    (.frame (10 + h) type (0xC5#8 :: aad ++ ct ++ gcmTag u.ks nonce aad ct))

/-! ## Presence and keying -/

/-- The session key destroyed, and KEYED cleared with it (R424–R426). -/
def State.dropHeadKey (s : State) (h : Nat) : State :=
  (s.updHead h (fun u => { u with ks := [], rd := [], tx := 0, rx := none })).setF (Fld.HEAD_STAT_KEYED h) 0

/-- The NOTICE frames released and not sent end with a status (R423, R28): each is logged with its J and counted in DROP. -/
def State.dropNotices (s : State) (h status code : Nat) : State :=
  let s := (s.headOf h).notices.foldl (fun s x => (s.portLog (10 + h) status code x.1).incSat (Reg.HEAD_DROP h)) s
  s.updHead h (fun u => { u with notices := [] })

/-- The commands of a head that are posted: their replies will be discarded (R423). -/
def State.loseReplies (s : State) (src : Stream) : State :=
  { s with taken := s.taken.map (fun t => if t.src == src then { t with lost := true } else t) }

/-- The effects of R423 other than the loss itself (R426). -/
def State.headUnkey (s : State) (h : Nat) : State :=
  ((s.dropHeadKey h).dropNotices h St.portAbsent 0).loseReplies (.head (Fin.ofNat 32 h))

/-- The head is lost (R423). -/
def State.headLost (s : State) (h : Nat) : State :=
  let s := ((s.headUnkey h).setPresent h false).setF (Fld.HEAD_STAT_LOST h) 1
  (s.updHead h (fun u => { u with misses := 0 })).portLog (10 + h) St.portAbsent 0 0

/-- Keying begins where the head is PRESENT, K is loaded, KEYED is 0 and no keying is under way (R425, step 1), and the
RNG is healthy (R266; log 67). -/
def State.startKeying (s : State) (h : Nat) : State :=
  let u := s.headOf h
  if s.portOn (10 + h) && s.headPresent h && !s.headKeyed h && !u.key.isEmpty && u.rd.isEmpty && s.rngHealthy then
    let r := s.drawHw 16
    let s := r.2.setF (Fld.HEAD_STAT_EPOCH h) ((s.getF (Fld.HEAD_STAT_EPOCH h) + 1) % 0x10000)
    (s.updHead h (fun u => { u with rd := r.1 })).sendPlain h HeadType.keyx1 r.1
  else s

/-- A re-key on the device's own account where an FSEQ has reached 0xFFFF_0000 (R426). -/
def State.rekeyHead (s : State) (h : Nat) : State :=
  let u := s.headOf h
  if s.headKeyed h && (decide (0xFFFF0000 ≤ u.tx) || decide (0xFFFF0000 ≤ u.rx.getD 0)) then (s.dropHeadKey h).startKeying h else s

/-- The waiting NOTICE frames sent in release order while the head is KEYED (R429; log 35). A port out of service can key no head: what
would wait there for a key ends with PORT_DISABLED (R28). -/
def State.sendNotices (s : State) (h : Nat) : State :=
  if !s.headKeyed h then (if s.portOn (10 + h) then s else s.dropNotices h St.portDisabled 0x40)
  else
    let s := (s.headOf h).notices.foldl (fun s x => s.sendKeyed h HeadType.notice x.2) s
    (s.updHead h (fun u => { u with notices := [] })).rekeyHead h

/-- A keying that failed (R425). -/
def State.keyingFailed (s : State) (h : Nat) : State := (s.incF (Fld.HEAD_ERRCNT_AUTH h)).dropHeadKey h

/-- A keyed frame dropped (R426). -/
def State.dropKeyedFrame (s : State) (h : Nat) : State :=
  let s := s.incF (Fld.HEAD_ERRCNT_AUTH h)
  if s.headKeyed h then s.headUnkey h else s

/-- HEAD_PROBE (R423): 32 Beats after the last PROBE (R52); one still unanswered counts, and the third one in a row loses a present
head; then the next is sent. -/
def execHeadProbe (hd : Fin 32) (s : State) : Host.Outcome State Fault Refusal :=
  let h := hd.val
  .next (if !s.portOn (10 + h) || !due s.beatNow 32 (s.headOf h).probeAt then s
    else
      let s := s.updHead h (fun u => { u with probeAt := some s.beatNow })
      let s := if (s.headOf h).probing then s.updHead h (fun u => { u with misses := u.misses + 1 }) else s
      let s := if s.headPresent h && decide (3 ≤ (s.headOf h).misses) then s.headLost h else s
      (s.updHead h (fun u => { u with probing := true })).sendPlain h HeadType.probe [])

/-- PRESENT (R423): the answer to a PROBE. A HID that differs from the one recorded is a loss and a new presence; keying follows
where it is due (R425). -/
def execPresent (hd : Fin 32) (hid : List Byte) (s : State) : Host.Outcome State Fault Refusal :=
  let h := hd.val
  .next (if !s.portOn (10 + h) then s
    else if hid.length ≠ 16 then s.incF (Fld.HEAD_ERRCNT_LINE h)
    else if !(s.headOf h).probing then s
    else
      let s := if s.headPresent h && (s.headOf h).hid != hid then s.headLost h else s
      let s := s.updHead h (fun u => { u with hid := hid, misses := 0, probing := false })
      (s.setPresent h true).startKeying h)

/-- KEYX2 (R425): the first keyed frame of its direction under the new key has FSEQ 0 (log 36). -/
def execKeyx2 (hd : Fin 32) (rh : List Byte) (fseq : Word) (tagOk : Bool) (s : State) : Host.Outcome State Fault Refusal :=
  let h := hd.val
  let u := s.headOf h
  .next (if !s.portOn (10 + h) then s
    else if rh.length ≠ 16 then s.incF (Fld.HEAD_ERRCNT_LINE h)
    else if u.rd.isEmpty then s.dropKeyedFrame h
    else if !tagOk || fseq != 0 then s.keyingFailed h
    else
      let ks := aesCmac u.key (0x48#8 :: u.rd ++ rh ++ u.hid)
      let s := s.setHead h { u with ks := ks, rd := [], tx := 0, rx := some 0, nextSeq := 0 }
      let s := (s.sendKeyed h HeadType.keyx3 []).setF (Fld.HEAD_STAT_KEYED h) 1
      s.sendNotices h)

/-- KEYX_TIMEOUT (R425): no KEYX2 came. -/
def execKeyxTimeout (hd : Fin 32) (s : State) : Host.Outcome State Fault Refusal :=
  .next (if (s.headOf hd.val).rd.isEmpty then s else s.keyingFailed hd.val)

/-! ## Commands and replies -/

/-- Commands of a head without a sent reply: STAT.OUT (R427). -/
def State.headOut (s : State) (hd : Fin 32) : Nat := s.taken.countP (fun t => t.src == .head hd)

/-- The opcodes that check 8 of R200 admits for a head (R427). -/
def State.headOpOk (s : State) (h : Nat) (params : List Byte) (o : OpInfo) : Bool :=
  o.code == 0x100 ||
  (o.code == 0x204 && ((s.sessionOn (s.getF (Fld.HEAD_CFG_BPAIR h))).map (·.handle)) == some (leAt params 0 2))

/-- The payload of a CMD frame is a header and its parameters; a LENGTH above 968 is left to check 1 of R200. -/
def headCmdLenOk (hdr : List Word) (params : List Byte) : Bool :=
  hdr.length == 8 && decide (params.length ≤ 968) && (decide (968 < hdrLen hdr) || hdrLen hdr == params.length)

/-- A CMD of a keyed head taken as a command (R427, R200, R201). -/
def State.headCommand (s : State) (hd : Fin 32) (hdr : List Word) (params : List Byte) (adm : Admission) : State :=
  let h := hd.val
  let src := Stream.head hd
  let tenantOk := s.flag (Fld.HEAD_CFG_BOUND h) && cmdTenant hdr == s.getF (Fld.HEAD_CFG_TENANT h)
  let check := s.headerCheck hdr params 968 0 (s.headOf h).nextSeq src tenantOk (s.headOpOk h params)
  let full := decide (8 ≤ s.headOut hd)
  let t := (s.updHead h (fun u => { u with nextSeq := nextSeqOf hdr })).takeCommand src hdr
  match check with
  | some (st, sub) => t.refuseCommand src (hdrTag hdr) st sub
  | none => if full then t.refuseCommand src (hdrTag hdr) St.queueFull 0 else t.postCommand (10 + h) src hdr params adm

/-- HEAD_CMD (R426, R427): inbound traffic at a disabled or quarantined port is discarded (R28, R365). -/
def execHeadCmd (hd : Fin 32) (fseq : Word) (tagOk : Bool) (hdr : List Word) (params : List Byte) (adm : Admission)
    (s : State) : Host.Outcome State Fault Refusal :=
  let h := hd.val
  .next (if !s.portStarts (10 + h) then s
    else if !headCmdLenOk hdr params then s.incF (Fld.HEAD_ERRCNT_LINE h)
    else if !s.headKeyed h || !tagOk || fseq.toNat != (s.headOf h).rx.getD 0 + 1 then s.dropKeyedFrame h
    else
      let s := s.updHead h (fun u => { u with rx := some fseq.toNat })
      (s.headCommand hd hdr params adm).rekeyHead h)

/-- A REPLY frame: discarded and counted where the head is not KEYED when it is due (R428). At a port out of service only a reply that R29
releases has come as far as this. -/
def State.headReply (s : State) (h : Nat) (bytes : List Byte) : State :=
  if s.headKeyed h then (s.sendKeyed h HeadType.reply bytes).rekeyHead h else s.incSat (Reg.HEAD_DROP h)

/-! ## Keys and notices -/

/-- SRES of a master at a head. -/
def State.setHeadRes (s : State) (p h st code : Nat) : State := s.setMreg p (Reg.HEAD_SRES h) (wd (st * 2 ^ 16 + code * 2 ^ 8))

/-- The decision on a store to HEAD<h>.HKEY (R424). -/
def State.hkeyStore (s : State) (p h : Nat) (v : Word) : Resp :=
  if !s.isSupervisor p || (s.armedJob p).isNone || v.toNat % 32 != 0 then busAt s (Reg.HEAD_HKEY h)
  else if v = 0 then
    .ok (((s.updHead h (fun u => { u with key := [] })).setF (Fld.HEAD_HKEYIDX_LOADED h) 0).dropHeadKey h)
  else match s.portKey p v.toNat (s.getF (Fld.HEAD_HKEYIDX_INDEX h)) (s.getF (Fld.HEAD_CFG_TENANT h)) isAes with
    | .error (st, code) => .ok (s.setHeadRes p h st code)
    | .ok (key, t) =>
      let t := (t.updHead h (fun u => { u with key := key })).setF (Fld.HEAD_HKEYIDX_LOADED h) 1
      .ok ((t.setHeadRes p h St.ok 0).startKeying h)

/-- HKEY_LOAD (R424). -/
def execHkeyLoad (p : PairId) (hd : Fin 32) (v : Word) (s : State) : Host.Outcome State Fault Refusal :=
  .next (s.pairAccess p.val (Reg.HEAD_HKEY hd.val) .store (fun s => s.hkeyStore p.val hd.val v))

/-- NOTICE places of a head in use: STAT.FQ (R429). -/
def State.noticePlaces (s : State) (h : Nat) : Nat := (s.headOf h).notices.length + (s.stagedFor (10 + h)).length

/-- A pair may stage at a head (R429; log 37). -/
def State.mayNotice (s : State) (p h : Nat) : Bool :=
  s.isSupervisor p || !s.flag (Fld.HEAD_CFG_BOUND h) || s.getF (Fld.HEAD_CFG_BPAIR h) == p

/-- The decision on a store to HEAD<h>.STAGE (R429). -/
def State.headStage (s : State) (p h : Nat) (v : Word) : Resp :=
  match s.armedJob p with
  | none => busAt s (Reg.HEAD_STAGE h)
  | some j =>
    let x := s.pair p
    let req : EngReq := ⟨p, indexOf p, s.isSupervisor p, x.ring, v.toNat - fabricBase, x.mpuF⟩
    let inRights := v.toNat % 32 == 0 && req.allows v.toNat 32 .load
    let ws := s.portWords req 32
    let n := (ws.getD 0 0).toNat
    let buf := (ws.getD 1 0).toNat
    if j.src == Stream.load || !s.mayNotice p h || (inRights && !j.frameRoom n) then busAt s (Reg.HEAD_STAGE h)
    else if v.toNat % 32 ≠ 0 then .ok (s.setHeadRes p h St.param 0x01)
    else if !inRights then .ok (s.setHeadRes p h St.param 0x02)
    else if n = 0 ∨ 1000 < n ∨ buf % 4 ≠ 0 ∨ (ws.drop 2).any (· != 0) then .ok (s.setHeadRes p h St.param 0x01)
    else if !req.allows buf n .load then .ok (s.setHeadRes p h St.param 0x02)
    else if !s.portOn (10 + h) then .ok (s.setHeadRes p h St.portDisabled 0x40)
    else if 16 ≤ s.noticePlaces h then .ok (s.setHeadRes p h St.busy 0x20)
    else match State.portRead 32 s (10 + h) buf n with
      | (t, .error e) => .ok (t.setHeadRes p h e.1 e.2)
      | (t, .ok data) => .ok ((t.stageFrame p ⟨10 + h, HeadType.notice, h, data⟩).setHeadRes p h St.ok 0)

/-- HEAD_STAGE (R429). -/
def execHeadStage (p : PairId) (hd : Fin 32) (v : Word) (s : State) : Host.Outcome State Fault Refusal :=
  .next (s.pairAccess p.val (Reg.HEAD_STAGE hd.val) .store (fun s => s.headStage p.val hd.val v))

/-- A NOTICE released at commit (R429). -/
def State.releaseNotice (s : State) (h : Nat) (j : Word) (data : List Byte) : State :=
  (s.updHead h (fun u => { u with notices := u.notices ++ [(j, data)] })).sendNotices h

/-- Frames of a head port (R27, R430): started, those that jobs whose commit store has been performed will release there (R29); and
queued, the NOTICE and REPLY frames released and not sent. -/
def State.headItems (s : State) (h : Nat) : Nat × Nat :=
  let n := 10 + h
  let owed := s.jobs.filter (fun j => j.phase == .committing && !j.portsOff.contains n)
  let toHead := fun (src : Stream) => (headPort src) == some n
  ((owed.map (fun j => j.frames.countP (fun f => f.port == n) + b2n (toHead j.src))).sum,
   (s.headOf h).notices.length + s.taken.countP (fun t => toHead t.src && t.reply.isSome && !t.lost))

/-- Clearing ENABLE destroys KS when the port has drained (R430). -/
def State.settleHead (s : State) (h : Nat) : State :=
  if !s.portOn (10 + h) && (s.headItems h).1 + (s.headItems h).2 == 0 then s.dropHeadKey h else s

/-- A head port whose ENABLE is cleared: its NOTICE and REPLY frames that wait end with PORT_DISABLED (R28). -/
def State.flushHead (s : State) (h : Nat) : State :=
  ((s.dropNotices h St.portDisabled 0x40).refuseReplies (.head (Fin.ofNat 32 h))).settleHead h

end Sys2Proof.Machine
end

