-- ==== Sys2Proof/Machine/Rf.lean ====
section
/-! DEFINITION. The contactless front ends (R395–R419): modes and fields, reader exchanges, anticollision, the emulated tag and the
tag store. -/

namespace Sys2Proof.Machine

/-- The state with a front end changed. -/
def State.updRf (s : State) (f : Nat) (g : RfUnit → RfUnit) : State := s.setRf f (g (s.rfOf f))
/-- STAT.ACTIVE: the mode in force. -/
def State.rfModeOf (s : State) (f : Nat) : Nat := s.getF (Fld.RF_STAT_ACTIVE f)
/-- STAT.TSTATE. -/
def State.tstate (s : State) (f : Nat) : Nat := s.getF (Fld.RF_STAT_TSTATE f)
/-- The state with STAT.TSTATE set. -/
def State.setTstate (s : State) (f n : Nat) : State := s.setF (Fld.RF_STAT_TSTATE f) n
/-- STAT.XQ as the queue has it. -/
def State.syncXq (s : State) (f : Nat) : State := s.setF (Fld.RF_STAT_XQ f) (s.rfOf f).queue.length

/-- CRC of ISO/IEC 14443-3, least significant bit first: CRC_A from 0x6363; CRC_B from 0xFFFF, complemented. -/
def crc16 (init : BitVec 16) (m : List Byte) : BitVec 16 :=
  m.foldl (fun c b =>
    (List.range 8).foldl (fun c _ => if c.getLsbD 0 then (c >>> 1) ^^^ 0x8408#16 else c >>> 1) (c ^^^ b.setWidth 16)) init
/-- CRC_A as two bytes. -/
def crcA (m : List Byte) : List Byte := leBytes 2 (crc16 0x6363#16 m).toNat
/-- CRC_B as two bytes. -/
def crcB (m : List Byte) : List Byte := leBytes 2 (~~~(crc16 0xFFFF#16 m)).toNat

/-! ## Modes and fields -/

/-- An exchange ends with its result record and doorbell (R401, R405). -/
def State.endExch (s : State) (x : PortExch) (st code : Nat) (w7 : Word) : State :=
  s.portResult x.req 6 st code w7 (x.words.getD 5 0)

/-- The queued exchanges of a front end ended with PORT_DISABLED, CODE 0x40 (R28, R397); one that has run keeps its place. -/
def State.flushRf (s : State) (f : Nat) : State :=
  let u := s.rfOf f
  let keep := if u.result.isSome then u.queue.take 1 else []
  let s := s.setRf f { u with queue := keep }
  let s := (u.queue.drop keep.length).foldl (fun s x => s.endExch x St.portDisabled 0x40 0) s
  let s := if u.result.isSome then s else s.fieldOff f
  s.syncXq f

/-- The emulated tag enters IDLE (R407, R408): its UID drawn, or TUID. Without randomness it draws none, and stays OFF (R266; log 67). -/
def State.enterIdle (s : State) (f : Nat) : State :=
  if !s.flag (Fld.RF_CFG_UIDFIX f) && !s.rngHealthy then s
  else
  let r := if s.flag (Fld.RF_CFG_UIDFIX f) then
      (wordBytes (s.reg (Reg.RF_TUID_LO f)) ++ leBytes 3 (s.getF (Fld.RF_TUID_HI_UID f)), s)
    else
      let d := s.drawHw 3
      (0x08#8 :: d.1, d.2)
  (r.2.updRf f (fun u => { u with uid := r.1, cl1 := false, rate := 0, ra := [], rb := [], ks := [], ctr := 0, pwdFails := 0 })).setTstate f 1

/-- The tag falls back to OFF (R408). -/
def State.tagOff (s : State) (f : Nat) : State :=
  (s.updRf f (fun u => { u with cl1 := false, rate := 0, ra := [], rb := [], ks := [], ctr := 0, pwdFails := 0 })).setTstate f 0

/-- A new MODE taken where it differs from the mode in force and no item is started (R397); a started exchange is cut after its
current frame. -/
def State.rfModeStep (s : State) (f : Nat) : State :=
  let want := s.getF (Fld.RF_CFG_MODE f)
  let u := s.rfOf f
  if want = s.rfModeOf f then s
  else if u.result.isSome then s.setRf f { u with cut := true }
  else
    let s := (s.flushRf f).tagOff f
    let s := (s.updRf f (fun u => { u with active := none })).setF (Fld.RF_STAT_ACTIVE f) want
    if want = 2 ∧ s.flag (Fld.RF_STAT_FIELD f) then s.enterIdle f else s

/-- A write of CFG (R397, R419). -/
def State.rfCfgWrite (s : State) (f : Nat) (v : Word) : State := (s.writeReg (Reg.RF_CFG f) v).rfModeStep f

/-- RF_MODE_WRITE (R397). -/
def execRfModeWrite (m : Master) (f : Fin 4) (v : Word) (s : State) : Host.Outcome State Fault Refusal :=
  .next (s.masterWrite m.val (Reg.RF_CFG f.val) (fun s => .ok (s.rfCfgWrite f.val v)))

/-! ## Exchanges -/

/-- Fields of a descriptor (R401). -/
def rfOp (ws : List Word) : Nat := fld 7 0 (ws.getD 0 0)
/-- RATE. -/
def rfRate (ws : List Word) : Nat := fld 15 8 (ws.getD 0 0)
/-- TYPE = 1: Type B. -/
def rfTypeB (ws : List Word) : Bool := fld 23 16 (ws.getD 0 0) == 1
/-- TXLEN. -/
def rfTx (ws : List Word) : Nat := fld 15 0 (ws.getD 1 0)
/-- RXCAP. -/
def rfCap (ws : List Word) : Nat := fld 15 0 (ws.getD 4 0)

/-- The form and the lengths of a descriptor (R401, R402). -/
def rfFormOk (r : EngReq) (ws : List Word) : Bool :=
  let w5 := ws.getD 5 0
  let n := rfTx ws
  let c := rfCap ws
  fld 31 25 (ws.getD 0 0) == 0 && decide (fld 23 16 (ws.getD 0 0) ≤ 1 ∧ rfRate ws ≤ 3) && fld 31 19 (ws.getD 1 0) == 0 &&
  fld 31 7 w5 == 0 && !(r.ring == 3 && bit 0 w5 && decide (fld 6 1 w5 < 32)) &&
  (ws.getD 2 0).toNat % 4 == 0 && (ws.getD 3 0).toNat % 4 == 0 && (n != 0 || ws.getD 2 0 == 0) && (c != 0 || ws.getD 3 0 == 0) &&
  match rfOp ws with
  | 1 => decide (1 ≤ n ∧ n ≤ 256 ∧ c ≤ 256 ∧ 1 ≤ fld 31 16 (ws.getD 4 0))
  | 2 => decide (1 ≤ n ∧ n ≤ 4096 ∧ 1 ≤ c ∧ c ≤ 4096)
  | 3 => n == 0 && c % 16 == 0 && decide (16 ≤ c ∧ c ≤ 256)
  | 4 => n == 16 && decide (1 ≤ c ∧ c ≤ 64)
  | 5 => n == 0 && c == 0
  | 6 => n == 0 && c == 0
  | _ => false

/-- F(n) of R404: the frame time in fc at a rate. -/
def rfFrame (typeB : Bool) (rate n : Nat) : Nat := 128 / 2 ^ rate * (if typeB then 10 * n + 22 else 9 * n + 2)

/-- The sum of R404 over the blocks of both chains of an APDU exchange: each block of TX but the last is answered by an R-block,
the last by the first block of RX, and each further block of RX answers an R-block (log 31). -/
def apduBlocks (a : RfActive) (tx cap wtx : Nat) : Nat :=
  let f := rfFrame a.typeB a.rate
  let inf := a.fsc - 3
  let nt := ceilDiv tx inf
  let nr := ceilDiv cap 253
  let txSum := ((List.range nt).map (fun i => f (min inf (tx - inf * i) + 3))).sum
  let rxSum := ((List.range nr).map (fun i => f (min 253 (cap - 253 * i) + 3))).sum
  txSum + rxSum + (nt - 1 + (nr - 1)) * f 3 + (nt + nr - 1) * (a.fwt * (wtx + 1))

/-- The bound E of R404. -/
def State.rfBound (s : State) (f : Nat) (ws : List Word) : Nat :=
  let off := if s.flag (Fld.RF_STAT_FON f) then 0 else 68000
  off + match rfOp ws with
  | 1 => 2000 + rfFrame (rfTypeB ws) (rfRate ws) (rfTx ws) + 128 * fld 31 16 (ws.getD 4 0) +
      rfFrame (rfTypeB ws) (rfRate ws) (rfCap ws)
  | 2 => match (s.rfOf f).active with
    | some a => 3 * apduBlocks a (rfTx ws) (rfCap ws) (s.getF (Fld.RF_CFG_WTXMAX f)) + 2000
    | none => 2000
  | 3 => 70000 + 1030000 * (rfCap ws / 16 + 1)
  | _ => 120000

/-- What refuses an exchange at its start: STATUS and CODE (R405). -/
def State.rfCheck (s : State) (f : Nat) (x : PortExch) : Option (Nat × Nat) :=
  let ws := x.words
  let tx := (ws.getD 2 0).toNat
  let rx := (ws.getD 3 0).toNat
  if !rfFormOk x.req ws then some (St.param, 0x01)
  else if (rfTx ws ≠ 0 ∧ ¬x.req.allows tx (rfTx ws) .load) ∨ (rfCap ws ≠ 0 ∧ ¬x.req.allows rx (rfCap ws) .store) then some (St.param, 0x02)
  else if (rfOp ws = 2 ∨ rfOp ws = 6) ∧ (s.rfOf f).active = none then some (St.portAbsent, 0x42)
  else if (s.reg (Reg.RF_XLIMIT f)).toNat < s.rfBound f ws then some (St.policy, 0x04)
  else none

/-- The exchange at the head has run: STATUS, CODE and word 7. -/
def State.rfResult (s : State) (f st code : Nat) (w7 : Word) : State := s.updRf f (fun u => { u with result := some (st, code, w7) })

/-- The exchange at the head of the queue, where it has OP `op`, the front end is a reader and may start it: refused, or run with the
field on (R398, R402). -/
def State.rfRun (s : State) (f op : Nat) (body : State → PortExch → State) : State :=
  let u := s.rfOf f
  match u.queue with
  | x :: _ =>
    if u.result.isSome || !s.portStarts (50 + f) || rfOp x.words != op || s.rfModeOf f != 1 then s
    else match s.rfCheck f x with
      | some (st, code) => s.rfResult f st code 0
      | none => body (s.setF (Fld.RF_STAT_FON f) 1) x
  | [] => s

/-- The TX bytes of an exchange sent, or the exchange ended where a burst is refused or reads an uncorrectable word (R153, R157). -/
def State.rfSend (s : State) (f : Nat) (x : PortExch) (body : State → List Byte → State) : State :=
  match State.portRead 32 s (50 + f) (x.words.getD 2 0).toNat (rfTx x.words) with
  | (t, .ok bs) => body t bs
  | (t, .error e) => t.rfResult f e.1 e.2 0

/-- Word 7 of a descriptor: its low part is RXLEN. -/
def rfWord7 (collpos : Nat) (more coll par crc : Bool) (bits len : Nat) : Word :=
  wd (2 ^ 24 * collpos + 2 ^ 23 * b2n more + 2 ^ 22 * b2n coll + 2 ^ 21 * b2n par + 2 ^ 20 * b2n crc + 2 ^ 16 * bits + len)

/-- An answer received: its bytes up to RXCAP written through the port guard, and the result (R402, R405). -/
def State.rfReceive (s : State) (f : Nat) (x : PortExch) (data : List Byte) (w7 : Nat → Word) : State :=
  let cap := rfCap x.words
  let bs := data.take cap
  match State.portWrite 32 s (50 + f) (x.words.getD 3 0).toNat bs with
  | (t, false) => t.rfResult f St.param 0x02 0
  | (t, true) => if cap < data.length then t.rfResult f St.param 0x03 (w7 bs.length) else t.rfResult f St.ok 0 (w7 bs.length)

/-- Frames with CRC or parity errors counted (R419). -/
def State.rfErrors (s : State) (f : Nat) (a : RfAnswer) : State :=
  if a.crcErr || a.parErr then s.incF (Fld.RF_ERRCNT_CRC f) else s

/-- RAW (R402): one frame, one answer; errors are reported in word 7 with STATUS OK. -/
def execRaw (f : Fin 4) (ans : RfAnswer) (s : State) : Host.Outcome State Fault Refusal :=
  let n := f.val
  .next (s.rfRun n 1 (fun s x => s.rfSend n x (fun s bs =>
    let crc := bit 24 (x.words.getD 0 0)
    let s := s.emit (.frame (50 + n) 1 (bs ++ (if crc then (if rfTypeB x.words then crcB bs else crcA bs) else [])))
    if !ans.answered then s.rfResult n St.portAbsent 0x41 0
    else (s.rfErrors n ans).rfReceive n x ans.data
      (rfWord7 ans.collPos.val false ans.coll ans.parErr (crc && ans.crcErr) ans.rxBits.val))))

/-- RF_APDU (R402): the exchange by ISO-DEP with the active card; a card lost after recovery is lost to the front end. -/
def execRfApdu (f : Fin 4) (ans : RfAnswer) (s : State) : Host.Outcome State Fault Refusal :=
  let n := f.val
  .next (s.rfRun n 2 (fun s x => s.rfSend n x (fun s bs =>
    let s := s.emit (.frame (50 + n) 2 bs)
    let s := s.rfErrors n ans
    let s := if ans.crcErr || ans.parErr || !ans.answered then s.incF (Fld.RF_ERRCNT_PROTO n) else s
    if !ans.answered then (s.updRf n (fun u => { u with active := none })).rfResult n St.portAbsent 0x42 0
    else s.rfReceive n x ans.data (rfWord7 0 false false false false 0))))

/-- The bytes that a Type A card sends at each cascade level, BCC included (R406). -/
def cascade (uid : List Byte) : List (List Byte) :=
  let lv := fun (b : List Byte) => b ++ [b.foldl (· ^^^ ·) 0]
  if uid.length ≤ 4 then [lv uid]
  else if uid.length ≤ 7 then [lv (0x88#8 :: uid.take 3), lv (uid.drop 3)]
  else [lv (0x88#8 :: uid.take 3), lv (0x88#8 :: slice uid 3 3), lv (uid.drop 6)]

/-- The bits of a UID in transmission order, all levels in turn. -/
def transBits (uid : List Byte) : List Bool :=
  ((cascade uid).flatten).flatMap (fun b => (List.range 8).map (fun i => b.getLsbD i))

/-- The UID that the anticollision of R406 finds before another: at the first bit where they differ it has a 1. -/
def foundBefore : List Bool → List Bool → Bool
  | [], _ => true
  | _ :: _, [] => true
  | a :: as, b :: bs => if a = b then foundBefore as bs else a

/-- A card placed in the order of the inventory. -/
def insertCard (c : RfCard) : List RfCard → List RfCard
  | [] => [c]
  | d :: ds => if foundBefore (transBits c.uid) (transBits d.uid) then c :: d :: ds else d :: insertCard c ds

/-- The first bit at which cards collide, counted from 1 within its cascade level; 0 where none do (R401, R406). -/
def firstCollision (cs : List RfCard) : Nat :=
  match cs with
  | [] => 0
  | c :: ds =>
    match (List.range 120).find? (fun i => ds.any (fun d => (transBits d.uid)[i]? != (transBits c.uid)[i]?)) with
    | some i => i % 40 + 1
    | none => 0

/-- An inventory entry (R406). -/
def invEntry (c : RfCard) : List Byte :=
  let len := if c.typeB then 4 else c.uid.length
  leBytes 1 (b2n c.typeB) ++ leBytes 1 len ++ leBytes 2 (if c.typeB then 0 else c.atqa.toNat) ++
    leBytes 1 (if c.typeB then 0 else c.sak.toNat) ++ zeros 3 ++ slice (c.uid.take len) 0 8

/-- INVENTORY (R406): the cards in the field found in the order of the anticollision; at most c are recorded. -/
def execInventory (f : Fin 4) (cards : List RfCard) (s : State) : Host.Outcome State Fault Refusal :=
  let n := f.val
  .next (s.rfRun n 3 (fun s x =>
    let b := rfTypeB x.words
    let cs := cards.filter (fun c => c.typeB == b)
    let found := if b then cs else cs.foldr insertCard []
    let col := if b then 0 else firstCollision found
    let c := rfCap x.words / 16
    let s := s.emit (.frame (50 + n) 3 (if b then [0x05#8] else [0x52#8]))
    s.rfReceive n x ((found.take c).flatMap invEntry) (rfWord7 col (decide (c < found.length)) (col != 0) false false 0)))

/-- The rate that PPS reaches: RATE where the ATS offers it in both directions, else 106 kbit/s (R402). -/
def atsRate (ats : List Byte) (rate : Nat) : Nat :=
  let ta := if (ats.getD 1 0).getLsbD 4 then (ats.getD 2 0) else 0
  if rate = 0 then 0 else if ta.getLsbD (rate - 1) && ta.getLsbD (rate + 3) then rate else 0

/-- FSC of the frame size code of an ATS. -/
def fscOf (code : Nat) : Nat := [16, 24, 32, 40, 48, 64, 96, 128].getD code 256

/-- The active card that an ATS describes (R402, R404): FSC, and FWT = 4,096 × 2^FWI fc. Without these bytes, and for Type B,
the defaults of ISO/IEC 14443-4 stand (log 31). -/
def activeOf (typeB : Bool) (ats : List Byte) (rate : Nat) : RfActive :=
  let t0 := ats.getD 1 2
  let tb := ats.getD (2 + b2n (t0.getLsbD 4)) 0
  let fwi := if t0.getLsbD 5 then tb.toNat / 16 else 4
  if typeB then ⟨true, rate, 32, 65536⟩
  else ⟨false, atsRate ats rate, if ats.length < 2 then 32 else fscOf (t0.toNat % 16), 4096 * 2 ^ fwi⟩

/-- RF_ACTIVATE (R402): the card of an inventory entry becomes the active card. -/
def execRfActivate (f : Fin 4) (ans : RfAnswer) (s : State) : Host.Outcome State Fault Refusal :=
  let n := f.val
  .next (s.rfRun n 4 (fun s x => s.rfSend n x (fun s bs =>
    let s := (s.emit (.frame (50 + n) 4 bs)).updRf n (fun u => { u with active := none })
    let s := s.rfErrors n ans
    if !ans.answered then s.rfResult n St.portAbsent 0x41 0
    else (s.updRf n (fun u => { u with active := some (activeOf (rfTypeB x.words) ans.data (rfRate x.words)) })).rfReceive n x ans.data
      (rfWord7 0 false false false false 0))))

/-- FIELD_RESET (R402): the field goes off and on again, and every card is lost. -/
def execFieldReset (f : Fin 4) (s : State) : Host.Outcome State Fault Refusal :=
  let n := f.val
  .next (s.rfRun n 5 (fun s _ => ((s.updRf n (fun u => { u with active := none })).emit (.frame (50 + n) 5 [])).rfResult n St.ok 0 0))

/-- RF_DEACTIVATE (R402): DESELECT to the active card. -/
def execRfDeactivate (f : Fin 4) (s : State) : Host.Outcome State Fault Refusal :=
  let n := f.val
  .next (s.rfRun n 6 (fun s _ => ((s.updRf n (fun u => { u with active := none })).emit (.frame (50 + n) 6 [])).rfResult n St.ok 0 0))

/-- RF_EXCHANGE_DONE (R405): the exchange that has run ends; one whose descriptor is refused ends without having run. It is cut
under R399 where the port is disabled or quarantined, or its mode changed; it writes nothing where its job was abandoned. -/
def execRfExchangeDone (f : Fin 4) (s : State) : Host.Outcome State Fault Refusal :=
  let n := f.val
  let u := s.rfOf n
  .next (match u.queue with
    | [] => s
    | x :: rest =>
      let open_ := s.portStarts (50 + n)
      let res := match u.result with
        | some r => some r
        | none => if open_ && s.rfModeOf n == 1 then (s.rfCheck n x).map (fun e => (e.1, e.2, 0)) else none
      match res with
      | none => s
      | some (st, code, w7) =>
        let s := s.setRf n { u with queue := rest, result := none, cut := false, silent := false }
        let cut := u.cut || !open_
        let s := if u.silent then s
          else if cut then s.endExch x St.portDisabled 0x44 (wd (fld 15 0 w7)) else s.endExch x st code w7
        let s := if open_ then s else s.fieldOff n
        (s.syncXq n).rfModeStep n)

/-- FIELD_IDLE_OFF (R398). -/
def execFieldIdleOff (f : Fin 4) (s : State) : Host.Outcome State Fault Refusal :=
  let n := f.val
  .next (if s.flag (Fld.RF_STAT_FON n) && (s.rfOf n).queue.isEmpty then s.fieldOff n else s)

/-- The decision on a store to RF<f>.SUBMIT (R400). -/
def State.rfSubmit (s : State) (p f : Nat) (v : Word) : Resp :=
  let q := (s.rfOf f).queue
  match s.portSubmission p 32 v (decide (4 ≤ q.length) || q.any (fun x => x.req.pair == p)) with
  | none => busAt s (Reg.RF_SUBMIT f)
  | some r =>
    if !s.ownsTenant p (s.getF (Fld.RF_CFG_TENANT f)) then busAt s (Reg.RF_SUBMIT f)
    else
      let x : PortExch := ⟨r, s.portWords r 32⟩
      if !s.portOn (50 + f) || s.rfModeOf f != 1 || s.getF (Fld.RF_CFG_MODE f) != 1 then .ok (s.endExch x St.portDisabled 0x40 0)
      else .ok ((s.updRf f (fun u => { u with queue := u.queue ++ [x] })).syncXq f)

/-- RF_SUBMIT (R400). -/
def execRfSubmit (p : PairId) (f : Fin 4) (v : Word) (s : State) : Host.Outcome State Fault Refusal :=
  .next (s.pairAccess p.val (Reg.RF_SUBMIT f.val) .store (fun s => s.rfSubmit p.val f.val v))

/-! ## The external field -/

/-- FIELD_DETECT (R408). -/
def execFieldDetect (f : Fin 4) (s : State) : Host.Outcome State Fault Refusal :=
  let n := f.val
  .next (if s.flag (Fld.RF_STAT_FIELD n) then s
    else
      let s := (s.setF (Fld.RF_STAT_FIELD n) 1).setF (Fld.RF_STAT_FLDCHG n) 1
      if s.rfModeOf n = 2 then s.enterIdle n else s)

/-- FIELD_LOSS (R408). -/
def execFieldLoss (f : Fin 4) (s : State) : Host.Outcome State Fault Refusal :=
  let n := f.val
  .next (if !s.flag (Fld.RF_STAT_FIELD n) then s
    else ((s.setF (Fld.RF_STAT_FIELD n) 0).setF (Fld.RF_STAT_FLDCHG n) 1).tagOff n)

/-- The emulated tag receives frames (R399, R407): in emulation, the port enabled and no quarantine, and a TUID that does not
silence it. -/
def State.tagHears (s : State) (f : Nat) : Bool :=
  s.rfModeOf f == 2 && s.portStarts (50 + f) && s.flag (Fld.RF_STAT_FIELD f) &&
  !((s.rfOf f).uid.length == 7 && (s.rfOf f).uid.getD 0 0 == 0x88#8)

/-- An answer of the tag on the air. -/
def State.tagAnswer (s : State) (f : Nat) (bs : List Byte) : State := s.emit (.frame (50 + f) 0 bs)

/-- ATQA sent (R407, R408). -/
def State.sendAtqa (s : State) (f : Nat) : State :=
  ((s.updRf f (fun u => { u with cl1 := false })).setTstate f 2).tagAnswer f (leBytes 2 (if (s.rfOf f).uid.length = 4 then 0x0004 else 0x0044))

/-- REQA (R407): accepted in IDLE. -/
def execReqa (f : Fin 4) (s : State) : Host.Outcome State Fault Refusal :=
  .next (if s.tagHears f.val && s.tstate f.val == 1 then s.sendAtqa f.val else s)

/-- WUPA (R407): accepted in IDLE and HALT. -/
def execWupa (f : Fin 4) (s : State) : Host.Outcome State Fault Refusal :=
  .next (if s.tagHears f.val && (s.tstate f.val == 1 || s.tstate f.val == 4) then s.sendAtqa f.val else s)

/-- The level of a cascade that the tag is at, 0 for level 1. -/
def RfUnit.level (u : RfUnit) : Nat := b2n u.cl1
/-- The bytes of the level. -/
def RfUnit.levelBytes (u : RfUnit) : List Byte := (cascade u.uid).getD u.level []

/-- ANTICOLLISION (R407): in READY, at the level the tag is at, answered with the bits after those that NVB covers where they are the
tag's. -/
def execAnticollision (f : Fin 4) (cl : Fin 3) (nvb : Nat) (bits : List Byte) (s : State) : Host.Outcome State Fault Refusal :=
  let u := s.rfOf f.val
  let n := (nvb / 16 - 2) * 8 + nvb % 16
  let own := u.levelBytes
  let bitOf := fun (b : List Byte) (i : Nat) => (b.getD (i / 8) 0).getLsbD (i % 8)
  .next (if s.tagHears f.val && s.tstate f.val == 2 && cl.val == u.level && decide (2 ≤ nvb / 16 ∧ n < 40) &&
      (List.range n).all (fun i => bitOf own i == bitOf bits i) then
    let rest := own.drop (n / 8)
    let head := (rest.getD 0 0) &&& ~~~(BitVec.ofNat 8 (2 ^ (n % 8) - 1))
    s.tagAnswer f.val (head :: rest.drop 1)
  else s)

/-- SELECT (R407): the UID bytes and BCC of the level; SAK 0x04 goes on to level 2, 0x20 makes the tag ACTIVE. -/
def execSelect (f : Fin 4) (cl : Fin 3) (uid : List Byte) (s : State) : Host.Outcome State Fault Refusal :=
  let n := f.val
  let u := s.rfOf n
  .next (if s.tagHears n && s.tstate n == 2 && cl.val == u.level && uid == u.levelBytes then
    if u.uid.length = 7 ∧ ¬u.cl1 then (s.setRf n { u with cl1 := true }).tagAnswer n (0x04#8 :: crcA [0x04#8])
    else (s.setTstate n 3).tagAnswer n (0x20#8 :: crcA [0x20#8])
  else s)

/-- The tag halted (R408): it leaves PROTOCOL, its cascade and its handshake. -/
def State.haltTag (s : State) (f : Nat) : State := (s.tagOff f).setTstate f 4

/-- HLTA (R408): accepted in ACTIVE; it draws no answer. -/
def execHlta (f : Fin 4) (s : State) : Host.Outcome State Fault Refusal :=
  .next (if s.tagHears f.val && s.tstate f.val == 3 then s.haltTag f.val else s)

/-- The ATS (R407). -/
def tagAts : List Byte := [0x05#8, 0x75#8, 0xB3#8, 0x40#8, 0x00#8]

/-- RATS (R407): accepted in ACTIVE. -/
def execRats (f : Fin 4) (_param : Byte) (s : State) : Host.Outcome State Fault Refusal :=
  .next (if s.tagHears f.val && s.tstate f.val == 3 then (s.setTstate f.val 5).tagAnswer f.val (tagAts ++ crcA tagAts) else s)

/-- PPS (R407): equal divisors up to EMURATE; any other is refused with no answer. -/
def execPps (f : Fin 4) (dsi dri : Fin 4) (s : State) : Host.Outcome State Fault Refusal :=
  let n := f.val
  .next (if s.tagHears n && s.tstate n == 5 && dsi == dri && decide (dsi.val ≤ s.getF (Fld.RF_CFG_EMURATE n)) then
    (s.updRf n (fun u => { u with rate := dsi.val })).tagAnswer n (0xD0#8 :: crcA [0xD0#8])
  else s)

/-- DESELECT (R408): from PROTOCOL and the secured states to HALT. -/
def execDeselect (f : Fin 4) (s : State) : Host.Outcome State Fault Refusal :=
  .next (if s.tagHears f.val && decide (5 ≤ s.tstate f.val) then (s.tagAnswer f.val (0xC2#8 :: crcA [0xC2#8])).haltTag f.val else s)

/-! ## The tag store -/

/-- The select bit of a block (R414). -/
def State.tagSel (s : State) (f b : Nat) : Nat := s.tags.get (fun _ => 0) (2 ^ 20 + f * 0x400 + b)
/-- The key of byte i of a block's copy. -/
def tagKey (c f b i : Nat) : Nat := c * 2 ^ 16 + f * 0x4000 + 16 * b + i
/-- A block as its selected copy holds it. -/
def State.tagBlock (s : State) (f b : Nat) : List Byte :=
  (List.range 16).map (fun i => byte (s.tags.get (fun _ => 0) (tagKey (s.tagSel f b) f b i)))

/-- A block written (R414): the copy not selected, then the select bit; counted, and TLAST names it. -/
def State.writeTag (s : State) (f b : Nat) (data : List Byte) (field : Bool) : State :=
  let c := 1 - s.tagSel f b
  let t := (List.range 16).foldl (fun t i => Table.set (fun _ => 0) t (tagKey c f b i) (data.getD i 0).toNat) s.tags
  let s := { s with tags := t.set (fun _ => 0) (2 ^ 20 + f * 0x400 + b) c }
  let s := s.incWrap (Reg.RF_TCOMMITS f) 1
  s.setReg (Reg.RF_TLAST f) (wd (2 ^ 31 * b2n field + b))

/-! ## Tag commands -/

/-- The codes of R409. -/
def tagCodes : List Nat := [0x10, 0x11, 0x20, 0x21, 0x22, 0x30]

/-- The MAC of R410 over CTR and an INF. -/
def RfUnit.mac (u : RfUnit) (label : Byte) (inf : List Byte) : List Byte := (aesCmac u.ks (label :: leBytes 2 u.ctr ++ inf)).take 4

/-- The tag returned to PROTOCOL. -/
def State.toProtocol (s : State) (f : Nat) : State := (s.updRf f (fun u => { u with ks := [], ctr := 0 })).setTstate f 5

/-- A response INF; with a MAC where the command had one and the tag is still in SECURED_AES (R410; log 32). -/
def State.tagRespond (s : State) (f : Nat) (secured : Bool) (inf : List Byte) : State :=
  let u := s.rfOf f
  if secured && s.tstate f == 7 then
    let s := s.tagAnswer f (inf ++ u.mac 0x41#8 inf)
    let s := s.setRf f { u with ctr := u.ctr + 1 }
    if u.ctr + 1 = 65535 then s.toProtocol f else s
  else s.tagAnswer f inf

/-- A tag command (R409, R410): the code of another command is not this one; an unknown code and a wrong length answer STS 0x01. -/
def State.tagCommand (s : State) (f cmd len : Nat) (inf : List Byte) (body : State → List Byte → State × Nat × List Byte) : State :=
  let code := (inf.getD 0 0).toNat
  let secured := s.tstate f == 7
  if !s.tagHears f || decide (s.tstate f < 5) || (code != cmd && tagCodes.contains code) then s
  else
    let m := if secured then inf.take (inf.length - 4) else inf
    if secured && (decide (inf.length < 5) || inf.drop (inf.length - 4) != (s.rfOf f).mac 0x43#8 m) then
      ((s.incF (Fld.RF_CNT_AUTHFAIL f)).toProtocol f).tagAnswer f [0x04#8]
    else if code ≠ cmd ∨ m.length ≠ len then s.tagRespond f secured [0x01#8]
    else
      let r := body s m
      r.1.tagRespond f secured (if r.2.1 = 0 then 0#8 :: r.2.2 else [byte r.2.1])

/-- The read (0) or write (1) right of a block's sector (R413). -/
def State.tagRight (s : State) (f b k : Nat) : Nat :=
  let sec := b / 64
  let v := s.reg (if sec < 8 then Reg.RF_TACC0 f else Reg.RF_TACC1 f)
  fld (4 * (sec % 8) + 2 * k + 1) (4 * (sec % 8) + 2 * k) v
/-- The right admits the tag's state (R413). -/
def State.tagPermits (s : State) (f b k : Nat) : Bool :=
  match s.tagRight f b k with
  | 0 => false
  | 1 => true
  | 2 => decide (6 ≤ s.tstate f)
  | _ => s.tstate f == 7

/-- TAG_READ (R409); an uncorrectable word of the selected copy answers STS 0x06 (R414). -/
def execTagRead (f : Fin 4) (r : TagReading) (s : State) : Host.Outcome State Fault Refusal :=
  let n := f.val
  .next (s.tagCommand n 0x10 3 r.inf (fun s m =>
    let b := leAt m 1 2
    if 1023 < b then (s, 3, []) else if !s.tagPermits n b 0 then (s, 2, [])
    else if r.chk == .uncorrectable then (s, 6, []) else (s, 0, s.tagBlock n b)))

/-- TAG_WRITE (R409, R414). -/
def execTagWrite (f : Fin 4) (inf : List Byte) (s : State) : Host.Outcome State Fault Refusal :=
  let n := f.val
  .next (s.tagCommand n 0x11 19 inf (fun s m =>
    let b := leAt m 1 2
    if 1023 < b then (s, 3, []) else if !s.tagPermits n b 1 then (s, 2, []) else (s.writeTag n b (slice m 3 16) true, 0, [])))

/-- A failed authentication (R408, R419). -/
def State.authFail (s : State) (f : Nat) : State := (s.incF (Fld.RF_CNT_AUTHFAIL f)).toProtocol f

/-- PWD (R412). -/
def execPwd (f : Fin 4) (inf : List Byte) (s : State) : Host.Outcome State Fault Refusal :=
  let n := f.val
  .next (s.tagCommand n 0x20 5 inf (fun s m =>
    let t := s.reg (Reg.RF_TPWD n)
    let u := s.rfOf n
    if t = 0 then (s.authFail n, 4, [])
    else if s.getF (Fld.RF_CFG_PWDLIM n) ≤ u.pwdFails then (s, 5, [])
    else if leAt m 1 4 = t.toNat then
      (((s.setRf n { u with pwdFails := 0, ks := [], ctr := 0 }).incF (Fld.RF_CNT_AUTHOK n)).setTstate n 6, 0, [])
    else ((s.setRf n { u with pwdFails := u.pwdFails + 1 }).authFail n, 4, [])))

/-- The UID zero-padded to 7 bytes (R409, R410). -/
def RfUnit.uid7 (u : RfUnit) : List Byte := slice u.uid 0 7

/-- AUTH1 (R410): the tag returns to PROTOCOL and answers RB and TT; without K, or without randomness (R266; log 67), it
fails. -/
def execAuth1 (f : Fin 4) (inf : List Byte) (s : State) : Host.Outcome State Fault Refusal :=
  let n := f.val
  .next (s.tagCommand n 0x21 17 inf (fun s m =>
    let s := s.toProtocol n
    if (s.rfOf n).key.isEmpty || !s.rngHealthy then (s.updRf n (fun u => { u with ra := [], rb := [] }), 4, [])
    else
      let d := s.drawHw 16
      let s := d.2.updRf n (fun u => { u with ra := slice m 1 16, rb := d.1 })
      let u := s.rfOf n
      (s, 0, u.rb ++ (aesCmac u.key (0x54#8 :: u.ra ++ u.rb ++ u.uid7)).take 8)))

/-- AUTH2 (R410). -/
def execAuth2 (f : Fin 4) (inf : List Byte) (s : State) : Host.Outcome State Fault Refusal :=
  let n := f.val
  .next (s.tagCommand n 0x22 9 inf (fun s m =>
    let u := s.rfOf n
    let done := s.setRf n { u with ra := [], rb := [] }
    if !u.key.isEmpty && !u.rb.isEmpty && m.drop 1 == (aesCmac u.key (0x52#8 :: u.rb ++ u.ra)).take 8 then
      let s := done.updRf n (fun v => { v with ks := aesCmac u.key (0x53#8 :: u.ra ++ u.rb), ctr := 0 })
      ((s.incF (Fld.RF_CNT_AUTHOK n)).setTstate n 7, 0, [])
    else (done.authFail n, 4, [])))

/-- INFO (R409). -/
def execInfo (f : Fin 4) (inf : List Byte) (s : State) : Host.Outcome State Fault Refusal :=
  let n := f.val
  .next (s.tagCommand n 0x30 1 inf (fun s _ => (s, 0, (s.rfOf n).uid7 ++ leBytes 1 (s.tstate n) ++ leBytes 2 1024)))

/-! ## The wired side -/

/-- TRES of a master. -/
def State.setTres (s : State) (p f st code : Nat) : State := s.setMreg p (Reg.RF_TRES f) (wd (st * 2 ^ 16 + code * 2 ^ 8))

/-- The decision on a store to RF<f>.TKEY (R411). -/
def State.tkeyStore (s : State) (p f : Nat) (v : Word) : Resp :=
  if !s.isSupervisor p || (s.armedJob p).isNone || v.toNat % 32 != 0 then busAt s (Reg.RF_TKEY f)
  else if v = 0 then .ok ((s.updRf f (fun u => { u with key := [] })).setF (Fld.RF_TKEYIDX_LOADED f) 0)
  else match s.portKey p v.toNat (s.getF (Fld.RF_TKEYIDX_INDEX f)) (s.getF (Fld.RF_CFG_TENANT f)) (· == 1) with
    | .error (st, code) => .ok (s.setTres p f st code)
    | .ok (key, t) => .ok (((t.updRf f (fun u => { u with key := key })).setF (Fld.RF_TKEYIDX_LOADED f) 1).setTres p f St.ok 0)

/-- TKEY_LOAD (R411). -/
def execTkeyLoad (p : PairId) (f : Fin 4) (v : Word) (s : State) : Host.Outcome State Fault Refusal :=
  .next (s.pairAccess p.val (Reg.RF_TKEY f.val) .store (fun s => s.tkeyStore p.val f.val v))

/-- The decision on a store to TSTG<w> (R416): taken on the store to TSTG<7>. -/
def State.tstgStore (s : State) (p f w : Nat) (v : Word) : Resp :=
  match s.armedJob p with
  | none => busAt s (Reg.RF_TSTG f w)
  | some j =>
    if !s.ownsTenant p (s.getF (Fld.RF_CFG_TENANT f)) || j.src == Stream.load || (w == 7 && !j.frameRoom 16) then busAt s (Reg.RF_TSTG f w)
    else
      let s := s.setMreg p (Reg.RF_TSTG f w) v
      if w ≠ 7 then .ok s
      else
        let g := fun k => s.mreg p (Reg.RF_TSTG f k)
        let t := (List.range 8).foldl (fun s k => s.setMreg p (Reg.RF_TSTG f k) 0) s
        if g 5 ≠ 0 ∨ g 6 ≠ 0 then .ok (t.setTres p f St.param 0x01)
        else if !s.portOn (50 + f) then .ok (t.setTres p f St.portDisabled 0x40)
        else .ok ((t.stageFrame p ⟨50 + f, 0, fld 9 0 (g 0), wordsBytes [g 1, g 2, g 3, g 4]⟩).setTres p f St.ok 0)

/-- TAG_STAGE (R416): the store to TSTG<7>. -/
def execTagStage (p : PairId) (f : Fin 4) (v : Word) (s : State) : Host.Outcome State Fault Refusal :=
  .next (s.pairAccess p.val (Reg.RF_TSTG f.val 7) .store (fun s => s.tstgStore p.val f.val 7 v))

/-- A staged block applied at its release (R416). -/
def State.releaseTag (s : State) (f : Nat) (fr : Frame) : State := s.writeTag f fr.target fr.data false

/-- The decision on a load from the tag store window at word `w` of front end f (R415, R417), with the word. -/
def State.tagLoad (s : State) (p f w : Nat) (chk : WordCheck) : Resp × Word :=
  if !s.ownsTenant p (s.getF (Fld.RF_CFG_TENANT f)) || chk == .uncorrectable then (busAt s (0x400000 + 0x4000 * f + 4 * w), 0)
  else (.ok s, wd (leAt (s.tagBlock f (w / 4)) (4 * (w % 4)) 4))

/-- TAG_STORE_LOAD (R415, R417). -/
def execTagStoreLoad (p : PairId) (f : Fin 4) (off : Fin 4096) (chk : WordCheck) (s : State) : Host.Outcome State Fault Refusal :=
  .next (s.pairAccess p.val (0x400000 + 0x4000 * f.val + 4 * off.val) .load (fun s => (s.tagLoad p.val f.val off.val chk).1))

end Sys2Proof.Machine
end

