-- ==== Sys2Proof/Machine/Commit.lean ====
section
/-! DEFINITION. Commit and release (R119, R125–R127, R296, R366): the commit store, the commit point, the release of what a job
staged, and the writing of replies (R196, R198, R205, R208, R215, R428, R454). -/

namespace Sys2Proof.Machine

/-! ## Host queues -/

/-- The number of queue q of link l. -/
abbrev qkey (l q : Nat) : Nat := 64 * l + q
/-- A host queue pair. -/
def State.hostQueue (s : State) (l q : Nat) : HostQueue := s.hostQueues.get (fun _ => {}) (qkey l q)
/-- The state with a host queue pair set. -/
def State.setHostQueue (s : State) (l q : Nat) (x : HostQueue) : State :=
  { s with hostQueues := s.hostQueues.set (fun _ => {}) (qkey l q) x }
/-- QSTAT.EN. -/
def State.queueExists (s : State) (l q : Nat) : Bool := s.flag (Fld.HOST_QSTAT_EN (qkey l q))
/-- A queue that begins: its indices and NEXT_SEQ are 0 (R195, R201). -/
def State.startQueue (s : State) (l q : Nat) (x : HostQueue) (priv : Bool) (tenant : Nat) : State :=
  let k := qkey l q
  let s := ((s.setHostQueue l q x).setReg (Reg.HOST_SQ_TAIL k) 0).setReg (Reg.HOST_CQ_HEAD k) 0
  (s.setReg (Reg.HOST_QERR k) 0).setReg (Reg.HOST_QSTAT k) (wd (2 ^ 31 + 2 ^ 28 * b2n priv + 2 ^ 16 * (tenant % 256)))
/-- LSTAT.QERR as its queues' error states make it (R217). -/
def State.syncQerr (s : State) (l : Nat) : State :=
  s.setF (Fld.HOST_LSTAT_QERR l) ((List.range 64).countP (fun q => s.flag (Fld.HOST_QSTAT_ERR (qkey l q))))
/-- A queue that ends. -/
def State.endQueue (s : State) (l q : Nat) : State :=
  let k := qkey l q
  let s := ((s.setHostQueue l q {}).setReg (Reg.HOST_SQ_TAIL k) 0).setReg (Reg.HOST_CQ_HEAD k) 0
  ((s.setReg (Reg.HOST_QERR k) 0).setReg (Reg.HOST_QSTAT k) 0).syncQerr l

/-- A stream is queue q of link l. -/
def isQueue (src : Stream) (l q : Nat) : Bool :=
  match src with
  | .queue l' q' => l'.val == l && q'.val == q
  | _ => false

/-- A queue whose QUEUE_DELETE has committed is deleted once none of its replies is left to write (R215). -/
def State.reapQueue (s : State) (k : Nat) : State :=
  if ((s.hostQueues.get (fun _ => {}) k).deleting).isSome && !s.taken.any (fun t => isQueue t.src (k / 64) (k % 64)) then
    s.endQueue (k / 64) (k % 64)
  else s
/-- Every such queue deleted. -/
def State.reapQueues (s : State) : State := (s.hostQueues.map (·.1)).foldl (fun s k => s.reapQueue k) s

/-- The commands of a queue that are taken and not started end with PORT_DISABLED (R215, R211). -/
def State.refuseUnstarted (s : State) (mine : Stream → Bool) : State :=
  let s := (s.jobs.filter (fun j => mine j.src && j.phase == .admitted)).foldl (fun s j =>
    (s.release j.src j.tag (mkReply St.portDisabled 0) j.j false).dropJob j) s
  (s.taken.filter (fun t => mine t.src && t.j == 0 && t.reply.isNone)).foldl (fun s t =>
    s.refuseCommand t.src t.tag St.portDisabled 0) s

/-! ## Changes of supervisor tables -/

/-- Heads bound to the pair of a session that closes are no longer bound (R429). -/
def State.unbindHeads (s : State) (q : Nat) : State :=
  (List.range 32).foldl (fun s h =>
    if s.flag (Fld.HEAD_CFG_BOUND h) && s.getF (Fld.HEAD_CFG_BPAIR h) == q then s.setF (Fld.HEAD_CFG_BOUND h) 0 else s) s

/-- A session closed: its pair becomes FREE (R519). -/
def State.endSession (s : State) (handle : Nat) : State :=
  match s.sessions.find? (fun x => x.handle == handle) with
  | some x =>
    let s := { (s.unbindHeads x.pair) with sessions := s.sessions.filter (fun y => y.handle != handle) }
    if x.state = .loaded ∧ s.role x.pair = Role.session then (s.setRole x.pair Role.free).cancelEngines x.pair true else s
  | none => s

/-- The device joins a basket (R455, steps 2 and 3). -/
def State.joinBasket (s : State) (node prio : Nat) (elig : Bool) (basket index : Nat) (key : List Byte) : State :=
  let s := ((s.setF Fld.WEAVE_CFG_NODE node).setF Fld.WEAVE_CFG_PRIO prio).setF Fld.WEAVE_CFG_ELIG (b2n elig)
  let s := (s.setReg (Reg.WEAVE_BASKET 0) (wd (basket % 2 ^ 32))).setReg (Reg.WEAVE_BASKET 1) (wd (basket / 2 ^ 32))
  (s.setF Fld.WEAVE_BKEYIDX_INDEX index).loadBasketKey key

/-- An origin unpaired (R464): its mirror entry freed, MIR 0, and MDROP to the partner when reachable. -/
def State.unpair (s : State) (loc m : Nat) : List Update × List MirrorFrame :=
  ([s.freeMirror m, .write loc { s.entry loc with mir := false }],
   match (s.entry m).asMirror with
   | some (_, node, r, _, _) => [⟨WvType.mdrop, node, mdropPayload loc r⟩]
   | none => [])

/-- The device leaves its basket (R456): origins unpaired, copies freed and logged, BK cleared, CFG.NODE cleared. -/
def State.leaveBasket (s : State) : State :=
  let pairs := s.ledger.dir.filterMap (fun e => e.2.entry.asMirror.map (fun x => (e.1, x.1, x.2.2.2.1)))
  let s := pairs.foldl (fun s x =>
    if x.2.2 = 4 then s.dropCopy x.2.1 x.1
    else
      let u := s.unpair x.2.1 x.1
      u.2.foldl (fun s f => s.sendMirror f) (s.ownSet 0 u.1 [])) s
  let s := { s with weave := { s.weave with handovers := [] } }
  s.clearBasketKey.setF Fld.WEAVE_CFG_NODE 0

/-- A change of a supervisor table made at the commit of a job. -/
def State.applyEffect (s : State) (j : Job) (e : Effect) : State :=
  match e with
  | .createQueue l q h priv tenant => s.startQueue l q h priv tenant
  | .deleteQueue l q =>
    let s := s.setHostQueue l q { s.hostQueue l q with deleting := some (j.src, j.tag) }
    (s.refuseUnstarted (fun src => isQueue src l q)).reapQueues
  | .policy t p => { s with policies := s.policies.set (fun _ => ⟨0, 0⟩) t p }
  | .openSession _ => s
  | .progress _ => s
  | .closeSession h => s.endSession h
  | .logMark n => s.setF Fld.SYS_LOG_MARK_SEQ n
  | .joinBasket node prio elig basket index key => s.joinBasket node prio elig basket index key
  | .leave => s.leaveBasket
  | .handover h => s.startHandover h
  | .send f => s.sendMirror f
  | .softReset => { s with resetAfter := some (j.src, j.tag, wd (2 ^ RstBit.soft)) }

/-! ## Release -/

/-- A staged frame released by job J at its port (R125 step 6). It is new work, and refused, where ENABLE was 0 at the commit
store and is 0 now; clearing ENABLE in between does not stop it (R29; log 47). -/
def State.releaseFrame (s : State) (j : Job) (f : Frame) : State :=
  let n := f.port
  if j.portsOff.contains n && !s.portOn n then s.portLog n St.portDisabled 0 j.j
  else if 10 ≤ n ∧ n ≤ 41 then s.releaseNotice (n - 10) j.j f.data
  else if 42 ≤ n ∧ n ≤ 49 then s.releaseCart (n - 42) f j.j j.pair
  else if 50 ≤ n ∧ n ≤ 53 then s.releaseTag (n - 50) f
  else s

/-- The session whose job j is. -/
def State.jobSession (s : State) (j : Job) : Option Session := s.sessions.find? (fun x => j.session == some x.handle)

/-- The reply of a committed job: what it staged, and OK_REPLAYED in place of OK for a rerun (R129). -/
def Job.finalReply (j : Job) : Reply :=
  let r := j.reply.getD (mkReply St.ok 0)
  if r.status = St.ok ∧ j.attempt ≠ 0 then { r with status := St.okReplayed } else r

/-- The ports that what a job stages may leave by: those of its frames and pulses, of its reply to a head, and the Weave links. -/
def Job.ports (j : Job) : List Nat :=
  j.frames.map (·.port) ++ j.pulses.map (fun x => 56 + x.output) ++ (headPort j.src).toList ++ (List.range 8).map (2 + ·)

/-- Steps 5 and 6 of R125: CKSEL flips, and pulses, frames and reply are released. -/
def State.releaseJob (s : State) (j : Job) (degraded : Bool) : State :=
  let s := if (s.jobSession j).isSome then s.flipCksel j.pair else s
  let r := j.finalReply
  let deg := degraded || r.degraded || s.xh j.pair
  let s := j.effects.foldl (fun s e => s.applyEffect j e) s
  let s := j.pulses.foldl (fun s x => s.releasePulse j.j (j.portsOff.contains (56 + x.output)) x) s
  let s := j.frames.foldl (fun s f => s.releaseFrame j f) s
  let s := (s.releaseCommitted j r deg).dropJob j
  (List.range 32).foldl (fun s h => s.settleHead h) s

/-! ## The commit store -/

/-- The load commit (R119, R128): what the pair-resident code has done by then, the image loaded and with RESTORE = 1 the session region
restored from the record in the pair's current buffer, once COPY_CKPT has put its CMAC in place (R253); with RESTORE = 0 the
session's first checkpoint; then the load job is disarmed and ROLE is SESSION. -/
def State.loadCommit (s : State) (p : Nat) : State :=
  let restore := s.flag (Fld.HRT_PST_RESTORE (hearthOf p) (indexOf p))
  let s := match s.sessionOn p with
    | some x =>
      let s := s.loadImage p x
      let s := if !restore then (s.writeCheckpoint p x 0 0).flipCksel p
        else if s.ckVerifies (hearthOf p) (ckOff p (s.cksel p)) (s.sessionSize x) then s.restoreRegion p x else s
      s.setSession { x with state := .loaded }
    | none => s
  (s.disarmLoad p).setRole p Role.session

/-- A gated commit (R366): nothing is released, the reply carries TAMPERED, and the session is to be restored. -/
def State.gatedCommit (s : State) (p : Nat) (j : Job) : State :=
  let s := ((s.endJob j St.tampered 0).cancelEngines p false).restoreInPlace p
  (s.setF Fld.TAMP_STAT_GATED 1).logEvent Src.tamper 3 p j.j 0 0

/-- Step 4 of R125 begins: the ledger takes the set of a job whose commit store has been performed (R296, steps 1 and 2). A set that is
marked applied changes nothing and keeps its results (R127, R297); without updates there is nothing to apply. -/
def State.handSet (s : State) (p : Nat) (j : Job) : State :=
  if j.updates.isEmpty || (s.ledger.applied.get (fun _ => (0, [])) p).1 == j.j then s.releaseJob j false
  else match s.proofFails j.updates with
    | some (st, sub) => s.endJob j st sub
    | none => { s with ledger := { s.ledger with openSets := s.ledger.openSets ++ [⟨j.j, p, j.updates, []⟩] } }

/-- The commit of the job armed on a pair (R125, R49, R366): the deadline check, the checkpoint, the store performed with the slot
timer disarmed, and the set handed to the ledger. A session region with a word
that does not verify stops the commit before step 3, as a mismatch (R159), with KIND 2 (DESIGN CHOICE; log 79: the manual names
none). -/
def State.commitJob (s : State) (p : Nat) (j : Job) : State :=
  if j.src == Stream.load then s.loadCommit p
  else match j.a.filter (fun a => decide (a ≤ s.beatNow)) with
    | some a => s.abandonAtDeadline p j a
    | none =>
      if s.quarantined && (j.cut || !(j.updates.isEmpty && j.pulses.isEmpty && j.frames.isEmpty)) then s.gatedCommit p j
      else if ((s.jobSession j).map (s.regionFlawed p)).getD false then s.mismatch p 2 (s.pair p).pc
      else
        let s := match s.jobSession j with
          | some x => s.writeCheckpoint p x j.j.toNat j.attempt
          | none => s
        let j' := { j with phase := .committing, portsOff := (j.ports).filter (fun n => !s.portOn n) }
        let s := (s.setJob j j').disarm p
        s.handSet p j'

/-- The decision on a store to HRT<n>.COMMIT by a pair (R125). -/
def State.commitStore (s : State) (p : Nat) (v : Word) : Resp :=
  match s.armedJob p with
  | none => busAt s (Reg.HRT_COMMIT (hearthOf p))
  | some j => if v = 0xC3E1#32 then .ok (s.commitJob p j) else busAt s (Reg.HRT_COMMIT (hearthOf p))

/-- COMMIT (R125). -/
def execCommit (p : PairId) (v : Word) (s : State) : Host.Outcome State Fault Refusal :=
  .next (s.pairAccess p.val (Reg.HRT_COMMIT (hearthOf p.val)) .store (fun s => s.commitStore p.val v))

/-! ## The commit point -/

/-- A job's place in a LEDGER_READ reply (R216): J, TAG, port and queue. The manual gives no port of a stream from another member of the
basket: it is 0, with queue 0 (DESIGN CHOICE; log 95). -/
def Job.place (j : Job) : Nat × Nat × Nat × Nat :=
  match j.src with
  | .queue l q => (j.j.toNat, j.tag, l.val, q.val)
  | .head h => (j.j.toNat, j.tag, 10 + h.val, 0)
  | .node _ => (j.j.toNat, j.tag, 0, 0)
  | .load => (j.j.toNat, j.tag, 0, 0)

/-- The job whose set a JobSet is. -/
def State.jobOfSet (s : State) (t : JobSet) : Option Job :=
  s.jobs.find? (fun j => j.pair == t.pair && j.j == t.j && j.phase == .committing)

/-- An applied set (R296 steps 5 and 6): its results kept for its pair, the command noted for its entries, the mirror frames that
follow it sent, and its job's outputs released. -/
def State.finishSet (s : State) (expired : List Nat) (t : JobSet) : State :=
  let idx := t.updates.map (·.index)
  let late := idx.any expired.contains
  let s := if late then s.incF Fld.WEAVE_MSTAT_TIMEOUTS else s
  let s := t.after.foldl (fun s f => s.sendMirror f) s
  match s.jobOfSet t with
  | some j =>
    let l := s.ledger
    let s := { s with ledger := { l with
      applied := l.applied.set (fun _ => (0, [])) t.pair (t.j, idx.map (fun i => (s.entry i).value))
      lastJ := idx.foldl (fun d i => Table.set (fun _ => (0, 0, 0, 0)) d i j.place) l.lastJ } }
    s.releaseJob j (late || idx.any (fun i => s.mirrorState i == 2))
  | none => s

/-- The state once the commit record of a closed group is programmed (R296 step 5): the directory takes the images, LSN and
COMMITS follow, locks go, and every set is released. -/
def State.commitGroup (s : State) (g : Group) : State :=
  let l := s.ledger
  let f := { l.finalGroup g with committed := true }
  let sets := l.closingSets
  let mark := fun (t : LogSector) => { t with groups := t.groups.map (fun k => if k.lsn == g.lsn && !k.committed then f else k) }
  let s := { s with ledger := { l with
    sectors := l.sectors.map mark, closing := none, closingSets := [], unacked := [], expired := [], resent := [] } }
  let s := ((s.touchHead.commitImages f).setLsn f.lsn).incWrap Reg.LEDG_COMMITS (sets.flatMap (·.updates)).length
  sets.foldl (fun s t => s.finishSet l.expired t) s

/-- COMMIT_RECORD_DONE (R296, R461): the record of the closed group is programmed, once every mirrored set has its MACK or has
waited; none is while the ledger is sealed (R302). -/
def execCommitRecordDone (s : State) : Host.Outcome State Fault Refusal :=
  .next (match s.ledger.closing with
    | some g => if s.ledger.unacked.isEmpty && !s.isSealed then s.commitGroup g else s
    | none => s)

/-! ## Replies -/

/-- DETAIL of a reply (R205). -/
def Taken.detail (t : Taken) (r : Reply) (trunc : Bool) : Nat :=
  2 ^ 8 * r.sub + 8 * b2n trunc + 4 * b2n t.held + 2 * b2n r.untrusted + b2n r.degraded

/-- The reply header (R205). -/
def Taken.header (t : Taken) (r : Reply) (len : Nat) (trunc phase : Bool) (sqHead : Nat) : List Byte :=
  leBytes 2 t.tag ++ leBytes 2 r.status ++ leBytes 2 t.seq ++ leBytes 2 (t.detail r trunc) ++ leBytes 4 len ++
    leBytes 4 (2 ^ 31 * b2n phase + sqHead) ++ leBytes 6 r.beat ++ zeros 2 ++ wordBytes r.j ++ zeros 4

/-- The data of a reply in the entries from index i of a completion ring of n entries at base (R194, R196). -/
def dataWrites (l base n : Nat) : Nat → Nat → List Byte → List Output
  | 0, _, _ => []
  | k + 1, i, bs =>
    if bs.isEmpty then [] else .hostWrite l (base + 32 * (i % n)) (bs.take 32) :: dataWrites l base n k (i + 1) (bs.drop 32)

/-- Output bytes at the host addresses of their buffers. -/
def hostWrites (l : Nat) : List (Nat × List Byte) → List Byte → List Output
  | [], _ => []
  | o :: os, bs => .hostWrite l o.1 (bs.take o.2.length) :: hostWrites l os (bs.drop o.2.length)

/-- The output of a reply read from its buffer through the guard of link l (R204): a burst that the guard refuses ends the command with
SUB 7 in its place. -/
def State.readOutput (s : State) (l : Nat) (r : Reply) : State × Reply × List Output :=
  let n := (r.out.map (fun o => o.2.length)).sum
  match State.portRead (ceilDiv n 256) s l r.buf n with
  | (t, .ok bs) => (t, r, hostWrites l r.out bs)
  | (t, .error e) => (t, { r with status := e.1, sub := if e.1 = St.param then 7 else 0, data := [], out := [] }, [])

/-- A reply written to the completion ring of its queue (R196, R198): the output `first`, data entries, the header entry last, and
MSI-X; none where there is no room yet. -/
def State.writeCompletion (s : State) (l q : Nat) (t : Taken) (r : Reply) (first : List Output) : Option State :=
  let k := qkey l q
  let x := s.hostQueue l q
  let n := 2 ^ x.cqLog
  let fits := decide (1 + ceilDiv r.data.length 32 ≤ n - 1)
  let data := if fits then r.data else r.data.take (32 * (n - 2))
  let need := 1 + ceilDiv data.length 32
  let used := (x.cqTail + n - s.getF (Fld.HOST_CQ_HEAD_HEAD k)) % n
  if n - 1 - used < need then none
  else
    let hdr := t.header r data.length (!fits) x.phase (s.getF (Fld.HOST_QSTAT_SQ_HEAD k))
    let outs := first ++ dataWrites l x.cqBase n 128 (x.cqTail + 1) data ++
      [.hostWrite l (x.cqBase + 32 * x.cqTail) hdr] ++ (if t.noint then [] else [.msix l x.vec])
    let tail := x.cqTail + need
    let s := { s with out := s.out ++ outs }
    let s := s.setHostQueue l q { x with cqTail := tail % n, phase := if n ≤ tail then !x.phase else x.phase }
    some s

/-- A reply's frame to a head or another member (R428, R454): PHASE and SQ_HEAD are 0. -/
def Taken.frame (t : Taken) (r : Reply) : List Byte := t.header r r.data.length false false 0 ++ r.data

/-- What ends with the writing, or the discarding, of a reply: its command, the queues that waited for it, and the device where a
reset follows it (R214, R215). -/
def State.replyDone (s : State) (t : Taken) : State :=
  let s := ({ s with taken := s.taken.erase t }).reapQueues
  match s.resetAfter with
  | some (src, tag, causes) => if src == t.src && tag == t.tag then s.deviceReset causes else s
  | none => s

/-- A reply discarded and counted (R210, R423). -/
def State.discardReply (s : State) (t : Taken) : State :=
  match t.src with
  | .queue l _ => s.incSat (Reg.HOST_DROP_CNT l.val)
  | .head h => s.incSat (Reg.HEAD_DROP h.val)
  | _ => s

/-- A reply is to wait: an earlier ordered reply of its stream has not been written (R208), but for that of a
QUEUE_DELETE of the queue itself, which is its last; or it answers a QUEUE_DELETE whose queue has other replies to write (R215). -/
def State.replyWaits (s : State) (t : Taken) : Bool :=
  let before := s.taken.takeWhile (fun u => u != t)
  let last := fun (u : Taken) => s.hostQueues.any (fun e => e.2.deleting == some (u.src, u.tag) && isQueue u.src (e.1 / 64) (e.1 % 64))
  (!t.unordered && before.any (fun u => u.src == t.src && !u.unordered && !u.lost && !last u)) ||
  s.hostQueues.any (fun e => e.2.deleting == some (t.src, t.tag) &&
    s.taken.any (fun u => u != t && isQueue u.src (e.1 / 64) (e.1 % 64)))

/-- A reply is found to wait for room in its completion ring (R196). -/
def State.noteNoRoom (s : State) (t : Taken) : State :=
  { s with taken := s.taken.map (fun u => if u == t then { u with noRoom := true } else u) }

/-- QSTAT.HELD of a queue (R196): a reply of it waits for room. -/
def State.syncHeld (s : State) (l q : Nat) : State :=
  if s.queueExists l q then s.setF (Fld.HOST_QSTAT_HELD (qkey l q)) (b2n (s.taken.any (fun u => isQueue u.src l q && u.noRoom))) else s

/-- The reply of a command as it leaves by its stream. -/
def State.sendReply (s : State) (t : Taken) (r : Reply) : State :=
  match t.src with
  | .queue l q =>
    let x := s.readOutput l.val r
    match x.1.writeCompletion l.val q.val t x.2.1 x.2.2 with
    | some s' => (s'.replyDone t).syncHeld l.val q.val
    | none => (s.noteNoRoom t).syncHeld l.val q.val
  | .head h => ((s.headReply h.val (t.frame r)).replyDone t).settleHead h.val
  | .node n => (s.sendRouted WvType.mreply n (t.frame r) (t.off.map (·.map (· - 2)))).replyDone t
  | .load => s.replyDone t

/-- REPLY_WRITE (R196, R208, R210): the released reply of a command. -/
def execReplyWrite (src : Stream) (tag : Nat) (s : State) : Host.Outcome State Fault Refusal :=
  .next (match s.taken.find? (fun t => t.src == src && t.tag == tag && t.reply.isSome) with
    | none => s
    | some t =>
      match t.reply with
      | none => s
      | some r =>
        if t.lost then (s.discardReply t).replyDone t
        else if s.replyWaits t then s
        else s.sendReply t r)

end Sys2Proof.Machine
end

