-- ==== Sys2Proof/Machine/Host.lean ====
section
/-! DEFINITION. The host links (R190–R202, R210, R217): doorbells, the taking of commands, the admin queue, and link loss. -/

namespace Sys2Proof.Machine

/-! ## Doorbells -/

/-- QERR of a queue with a reason (R195, R196, R202). -/
def State.queueError (s : State) (k reason : Nat) : State :=
  (s.setF (Fld.HOST_QERR_VALID k) 1).setF (Fld.HOST_QERR_REASON k) reason

/-- A doorbell stored in the field at `f` of queue q of link l (R195, R196): ignored for a queue that does not exist; a value out of
range is not stored. -/
def State.doorbell (s : State) (l q : Nat) (f : FieldAt) (log reason : Nat) (v : Word) : State :=
  let n := fld 11 0 v
  if !s.queueExists l q then s
  else if 2 ^ log ≤ n then s.queueError (qkey l q) reason
  else s.setF f n

/-- The store to SQ_TAIL of a queue (R195). -/
def State.sqTailStore (s : State) (l q : Nat) (v : Word) : State :=
  s.doorbell l q (Fld.HOST_SQ_TAIL_TAIL (qkey l q)) (s.hostQueue l q).sqLog 1 v
/-- The store to CQ_HEAD of a queue (R196). -/
def State.cqHeadStore (s : State) (l q : Nat) (v : Word) : State :=
  s.doorbell l q (Fld.HOST_CQ_HEAD_HEAD (qkey l q)) (s.hostQueue l q).cqLog 4 v

/-- SQ_TAIL_WRITE (R195). -/
def execSqTailWrite (l : Fin 2) (q : Fin 64) (v : Word) (s : State) : Host.Outcome State Fault Refusal :=
  .next (s.sqTailStore l.val q.val v)
/-- CQ_HEAD_WRITE (R196). -/
def execCqHeadWrite (l : Fin 2) (q : Fin 64) (v : Word) (s : State) : Host.Outcome State Fault Refusal :=
  .next (s.cqHeadStore l.val q.val v)

/-! ## Commands taken -/

/-- A QUEUE_DELETE of queue q of link l has started, or has committed (R215): nothing more is taken from the queue. -/
def State.queueStopped (s : State) (l q : Nat) : Bool :=
  (s.hostQueue l q).deleting.isSome || s.jobs.any (fun j => j.opcode == 0x103 && j.phase != .admitted && leAt j.params 0 1 == q &&
    (match j.src with
      | .queue l' _ => l'.val == l
      | _ => false))

/-- The entries between the submission head of a queue and the last tail written (R195). -/
def State.available (s : State) (l q : Nat) : Nat :=
  let size := 2 ^ (s.hostQueue l q).sqLog
  (s.getF (Fld.HOST_SQ_TAIL_TAIL (qkey l q)) + size - s.getF (Fld.HOST_QSTAT_SQ_HEAD (qkey l q))) % size

/-- The class block may take a command from queue q of link l (R195, R196, R202, R215). -/
def State.mayTake (s : State) (l q : Nat) : Bool :=
  let k := qkey l q
  s.queueExists l q && !s.flag (Fld.HOST_QSTAT_ERR k) && !s.flag (Fld.HOST_QSTAT_HELD k) && s.portOn l &&
  s.flag (Fld.HOST_LSTAT_LINK_UP l) && !s.queueStopped l q

/-- How many turns after the one served last a queue of a link comes (R195); queue 0 is first after a reset (log 94). -/
def State.turnsTo (s : State) (l q : Nat) : Nat := (q + 64 - (s.hostTurn.get (fun _ => 63) l + 1)) % 64

/-- It is the turn of queue q of link l: no queue that comes before it has an entry to take (R195). -/
def State.hasTurn (s : State) (l q : Nat) : Bool :=
  (List.range 64).all (fun k => decide (s.turnsTo l q ≤ s.turnsTo l k) || !s.mayTake l k || s.available l k == 0)

/-- The turn of queue q of link l is over. -/
def State.passTurn (s : State) (l q : Nat) : State := { s with hostTurn := s.hostTurn.set (fun _ => 63) l q }

/-- The submission head of a queue advanced by n entries, and NEXT_SEQ after a command (R195, R201). -/
def State.consume (s : State) (l q n : Nat) (h : List Word) : State :=
  let k := qkey l q
  let size := 2 ^ (s.hostQueue l q).sqLog
  (s.setF (Fld.HOST_QSTAT_SQ_HEAD k) ((s.getF (Fld.HOST_QSTAT_SQ_HEAD k) + n) % size)).setF (Fld.HOST_QERR_NEXT_SEQ k) (nextSeqOf h)

/-- The queue enters its error state (R202), and the command ends (R198, R200 check 1). -/
def State.oversized (s : State) (l : Fin 2) (q : Fin 64) (h : List Word) (reason : Nat) : State :=
  let k := qkey l.val q.val
  let s := (s.consume l.val q.val 1 h).queueError k reason
  let s := ((s.setF (Fld.HOST_QSTAT_ERR k) 1).syncQerr l.val).takeCommand (.queue l q) h
  s.refuseCommand (.queue l q) (hdrTag h) St.param 3

/-- A complete command taken (R200): its header checks, and its posting. -/
def State.takeHost (s : State) (l : Fin 2) (q : Fin 64) (h : List Word) (params : List Byte) (adm : Admission) : State :=
  let k := qkey l.val q.val
  let src := Stream.queue l q
  let priv := s.flag (Fld.HOST_QSTAT_PRIV k)
  let tenantOk := priv || cmdTenant h == s.getF (Fld.HOST_QSTAT_TENANT k)
  let check := s.headerCheck h params 4064 q.val (s.getF (Fld.HOST_QERR_NEXT_SEQ k)) src tenantOk (fun o => !o.admin || priv)
  let t := (s.consume l.val q.val (1 + ceilDiv (hdrLen h) 32) h).takeCommand src h
  match check with
  | some (st, sub) => t.refuseCommand src (hdrTag h) st sub
  | none => t.postCommand l.val src h params adm

/-- COMMAND_TAKE (R195, R198, R200): the command at the submission head, whose content is host memory's, in the queue's turn. A
command that is not yet complete waits, and the turn goes on. Of one that is both above 4,064 bytes and larger than its ring the
reason recorded is check 1's: the manual gives no precedence (DESIGN CHOICE; log 92). -/
def execCommandTake (l : Fin 2) (q : Fin 64) (hdr : List Word) (params : List Byte) (adm : Admission) (s : State) :
    Host.Outcome State Fault Refusal :=
  let avail := s.available l.val q.val
  let n := 1 + ceilDiv (hdrLen hdr) 32
  .next (if !s.mayTake l.val q.val || avail == 0 || hdr.length != 8 || !s.hasTurn l.val q.val then s
    else
      let t := s.passTurn l.val q.val
      if 4064 < hdrLen hdr then t.oversized l q hdr 2
      else if 2 ^ (s.hostQueue l.val q.val).sqLog - 1 < n then t.oversized l q hdr 3
      else if avail < n ∨ params.length ≠ hdrLen hdr then t
      else t.takeHost l q hdr params adm)

/-! ## The admin queue and link loss -/

/-- The base of a ring from its LO and HI registers, and its s. -/
def State.aqRing (s : State) (lo hi : Nat) : Nat × Nat :=
  (2 ^ 32 * (s.reg hi).toNat + 2 ^ 12 * fld 31 12 (s.reg lo), fld 3 0 (s.reg lo))

/-- Commands of a stream that are taken and will get no reply (R202, R210): those without a job are discarded, the replies of the
others will be. -/
def State.abandonStream (s : State) (src : Stream) : State :=
  ({ s with taken := s.taken.filter (fun t => !(t.src == src && t.j == 0 && t.reply.isNone)) }).loseReplies src

/-- A store to AQ_CTL (R202, R217). -/
def State.aqCtlStore (s : State) (l : Fin 2) (v : Word) : State :=
  let was := s.flag (Fld.HOST_AQ_CTL_EN l.val)
  let s := s.writeReg (Reg.HOST_AQ_CTL l.val) v
  let vec := s.getF (Fld.HOST_AQ_CTL_VEC l.val)
  if bit 31 v then
    if was then s.setHostQueue l.val 0 { s.hostQueue l.val 0 with vec := vec }
    else
      let sq := s.aqRing (Reg.HOST_AQ_SQ_LO l.val) (Reg.HOST_AQ_SQ_HI l.val)
      let cq := s.aqRing (Reg.HOST_AQ_CQ_LO l.val) (Reg.HOST_AQ_CQ_HI l.val)
      s.startQueue l.val 0 { sqBase := sq.1, sqLog := sq.2, cqBase := cq.1, cqLog := cq.2, vec := vec } true 0
  else if was then (s.abandonStream (.queue l 0)).endQueue l.val 0
  else s

/-- A store to a register of the AQ rings, ignored while EN is 1 (R217). -/
def State.aqRingStore (s : State) (l o : Nat) (v : Word) : State := if s.flag (Fld.HOST_AQ_CTL_EN l) then s else s.writeReg o v

/-- AQ_ENABLE (R217): a write of AQ_CTL with EN = 1. -/
def execAqEnable (l : Fin 2) (v : Word) (s : State) : Host.Outcome State Fault Refusal :=
  .next (if bit 31 v then s.aqCtlStore l v else s)
/-- AQ_DISABLE (R202): a write of AQ_CTL with EN = 0. -/
def execAqDisable (l : Fin 2) (v : Word) (s : State) : Host.Outcome State Fault Refusal :=
  .next (if bit 31 v then s else s.aqCtlStore l v)

/-- LINK_LOSS (R210): the link's queues end and their replies are lost; RETRAIN, the event log and vector 64 tell of it. -/
def execLinkLoss (l : Fin 2) (s : State) : Host.Outcome State Fault Refusal :=
  let s := (List.range 64).foldl (fun s q =>
    let s := s.abandonStream (.queue l (Fin.ofNat 64 q))
    if s.queueExists l.val q then s.endQueue l.val q else s) s
  let s := (s.setF (Fld.HOST_AQ_CTL_EN l.val) 0).setF (Fld.HOST_LSTAT_RETRAIN l.val) 1
  let s := ((s.setF (Fld.HOST_LSTAT_LINK_UP l.val) 0).setF (Fld.HOST_LSTAT_SPEED l.val) 0).setF (Fld.HOST_LSTAT_WIDTH l.val) 0
  .next ((s.logEvent Src.host 1 l.val 0 0 0).emit (.msix l.val 64))

/-- BAR0_MALFORMED (R191): a write is dropped and counted; a read completes with Unsupported Request and changes nothing.
Where end-to-end CRC is checked (R190, R217) a TLP that fails it is counted and has no other effect (log 93). -/
def execBar0Malformed (l : Fin 2) (tlp : BadTlp) (s : State) : Host.Outcome State Fault Refusal :=
  .next (if !tlp.ecrcOk && s.flag (Fld.HOST_LCTL_ECRC l.val) then s.incSat (Reg.HOST_ECRC_CNT l.val)
    else if tlp.isWrite then s.incSat (Reg.HOST_MALF_CNT l.val) else s)

/-- HOST_LINK_UP (R217): training completes at Gen 1–3 on 1 or 2 lanes. -/
def execHostLinkUp (l : Fin 2) (speed : Fin 4) (width : Fin 3) (s : State) : Host.Outcome State Fault Refusal :=
  .next (if speed.val = 0 ∨ width.val = 0 then s
    else ((s.setF (Fld.HOST_LSTAT_LINK_UP l.val) 1).setF (Fld.HOST_LSTAT_SPEED l.val) speed.val).setF
      (Fld.HOST_LSTAT_WIDTH l.val) width.val)

end Sys2Proof.Machine
end

