-- ==== Sys2Proof/Machine/Pke.lean ====
section
/-! DEFINITION. The public-key engines (R218–R239): submission, the checks at a grant, the operations, curve slots, faults and
the end of a job. The order of the checks at a grant is log 19. -/

namespace Sys2Proof.Machine

/-! ## Descriptors -/

/-- PARAM of a descriptor. -/
def pkParam (ws : List Word) : Nat := fld 15 8 (ws.getD 0 0)
/-- GEN of a descriptor. -/
def pkGen (ws : List Word) : Nat := fld 23 16 (ws.getD 0 0)
/-- ITER_MAX of a descriptor. -/
def pkIterMax (ws : List Word) : Nat := fld 31 24 (ws.getD 0 0)
/-- RAW of a descriptor. -/
def pkRaw (ws : List Word) : Bool := bit 7 (ws.getD 1 0)
/-- DET of a descriptor. -/
def pkDet (ws : List Word) : Bool := bit 8 (ws.getD 1 0)
/-- KEY_INDEX of a descriptor. -/
def pkKeyIndex (ws : List Word) : Nat := (ws.getD 2 0).toNat

/-- The operation works on a curve slot (R223). -/
def pkUsesSlot (op param : Nat) : Bool := decide (0x10 ≤ op ∧ op ≤ 0x14 ∧ param < 32)

/-- The length of a blob whose plain key has `n` bytes (R278, R279). -/
def blobLen (n : Nat) : Nat := 48 + ceilDiv n 8 * 8

/-- Private key length, public key length and signature length of an elliptic-curve PARAM; the shared secret has the length
of the coordinate (R222, R223, R280). -/
def ecLens (param : Nat) (c : Option Curve) : Option (Nat × Nat × Nat) :=
  if param = 0x40 then some (32, 32, 0)
  else if param = 0x41 then some (56, 56, 0)
  else if param = 0x42 then some (32, 32, 64)
  else if param = 0x43 then some (57, 57, 114)
  else c.map (fun c => (c.len, 2 * c.len, 2 * c.nLen))

/-- Encapsulation key and ciphertext lengths of ML-KEM by PARAM (FIPS 203). -/
def kemLens (param : Nat) : Option (Nat × Nat) :=
  if param = 2 then some (800, 768) else if param = 3 then some (1184, 1088) else if param = 4 then some (1568, 1568) else none

/-- Public key and signature lengths of ML-DSA by PARAM (FIPS 204). -/
def dsaLens (param : Nat) : Option (Nat × Nat) :=
  if param = 2 then some (1312, 2420) else if param = 3 then some (1952, 3309) else if param = 5 then some (2592, 4627) else none

/-- The length of a curve record of a given BITS (R230). -/
def recordLen (bits : Nat) : Nat := 6 * ceilDiv bits 8 + 5
/-- The size, in bits of whole bytes, of a curve whose record has `n` bytes. -/
def recordSize (n : Nat) : Nat := (n - 5) / 6 * 8

/-- The output length of an operation whose PARAM and lengths R223 admits; none where it does not. b, i0, i1, i2 are the
lengths of the blob and the inputs, `bits` the BITS of a curve record. -/
def pkOutLen (op param : Nat) (raw : Bool) (c : Option Curve) (bits b i0 i1 i2 : Nat) : Option Nat :=
  let need := fun (ok : Bool) (out : Nat) => if ok then some out else none
  let m := param
  let secretTmpl := if raw then 0 else 32
  match op with
  | 0x00 => need (decide (m = 0 ∧ b = 0 ∧ i0 = 64 ∧ i1 = 0 ∧ i2 = 0)) 8
  | 0x01 => need (decide (8 ≤ m ∧ m ≤ 64 ∧ b = 0 ∧ i0 = 8 * m ∧ i1 = 8 * m ∧ 1 ≤ i2 ∧ i2 ≤ 8 * m)) (8 * m)
  | 0x02 => need (decide (16 ≤ m ∧ m ≤ 64 ∧ b = 0 ∧ i0 = 8 * m ∧ i1 = 8 * m ∧ (i2 = 4 ∨ i2 = 8))) (8 * m)
  | 0x03 => need (decide (16 ≤ m ∧ m ≤ 64 ∧ m % 2 = 0 ∧ b = blobLen (28 * m + 8) ∧ i0 = 8 * m ∧ i1 = 0 ∧ i2 = 0)) (8 * m)
  | 0x10 => (ecLens m c).bind (fun l => need (decide (b = 0 ∧ i0 = 32 ∧ i1 = 0 ∧ i2 = 0)) (l.2.1 + blobLen l.1))
  | 0x11 => (ecLens m c).bind (fun l =>
      need (decide (l.2.2 ≠ 0 ∧ b = blobLen l.1 ∧ (if m < 32 then 1 ≤ i0 ∧ i0 ≤ 64 else i0 ≤ 8192) ∧ i1 = 0 ∧ i2 = 0)) l.2.2)
  | 0x12 => (ecLens m c).bind (fun l =>
      need (decide (l.2.2 ≠ 0 ∧ b = 0 ∧ i0 = l.2.1 ∧ (if m < 32 then 1 ≤ i1 ∧ i1 ≤ 64 else i1 ≤ 8192) ∧ i2 = l.2.2)) 4)
  | 0x13 => if m = 0x42 ∨ m = 0x43 then none else (ecLens m c).bind (fun l =>
      need (decide (b = blobLen l.1 ∧ i0 = l.2.1 ∧ i1 = secretTmpl ∧ i2 = 0)) (if raw then l.1 else blobLen l.1))
  | 0x14 => if 32 ≤ m then none else c.bind (fun c => need (decide (b = 0 ∧ i0 = 2 * c.len ∧ i1 = 0 ∧ i2 = 0)) 4)
  | 0x30 => (kemLens m).bind (fun l => need (decide (b = 0 ∧ i0 = 32 ∧ i1 = 0 ∧ i2 = 0)) (l.1 + blobLen 64))
  | 0x31 => (kemLens m).bind (fun l =>
      need (decide (b = 0 ∧ i0 = l.1 ∧ i1 = secretTmpl ∧ i2 = 0)) (l.2 + (if raw then 32 else blobLen 32)))
  | 0x32 => (kemLens m).bind (fun l =>
      need (decide (b = blobLen 64 ∧ i0 = l.2 ∧ i1 = secretTmpl ∧ i2 = 0)) (if raw then 32 else blobLen 32))
  | 0x38 => (dsaLens m).bind (fun l => need (decide (b = 0 ∧ i0 = 32 ∧ i1 = 0 ∧ i2 = 0)) (l.1 + blobLen 32))
  | 0x39 => (dsaLens m).bind (fun l => need (decide (b = blobLen 32 ∧ 1 ≤ i0 ∧ i0 ≤ 8192 ∧ i1 = 0 ∧ i2 = 0)) l.2)
  | 0x3A => (dsaLens m).bind (fun l => need (decide (b = 0 ∧ i0 = l.1 ∧ 1 ≤ i1 ∧ i1 ≤ 8192 ∧ i2 = l.2)) 4)
  | 0x40 => need (decide (m < 32 ∧ b = 0 ∧ i0 = recordLen bits ∧ i1 = 0 ∧ i2 = 0)) (recordLen bits + 8)
  | 0x41 => need (decide (m < 32 ∧ b = 0 ∧ i0 = recordLen bits + 8 ∧ i1 = 0 ∧ i2 = 0)) 0
  | 0x42 => need (decide (m < 32 ∧ b = 0 ∧ i0 = 0 ∧ i1 = 0 ∧ i2 = 0)) 0
  | 0x48 => need (decide (1 ≤ m ∧ m ≤ 4 ∧ b = 0 ∧ i0 = (if m ≤ 2 then 512 else 1024) ∧ i1 = 0 ∧ i2 = 0)) (if m ≤ 2 then 512 else 1024)
  | _ => none

/-- K of an operation (R232), by PARAM, curve size, input lengths and iteration count; the entries that R232 does not tabulate
are open (log 21). The curve size of CURVE_VET is that of its record's length. -/
def pkCycles (op param bits i0 i1 i2 iter : Nat) : Nat :=
  let other := Config.pkeCycles [op, param, bits, i0, i1, i2]
  match op with
  | 0x00 => 300
  | 0x01 => if param = 32 ∧ i2 = 256 then 4600000 else other
  | 0x02 => if param = 32 ∧ i2 = 4 then 22000 else other
  | 0x03 => if param = 32 then 1250000 else if param = 48 then 3900000 else if param = 64 then 8900000 else other
  | 0x10 => if param < 32 ∧ bits = 256 then 236000 else other
  | 0x11 =>
    if param = 0x42 then 165000 + 40 * i0 else if param = 0x43 then 470000 + 60 * i0
    else if bits = 256 then 250000 else if bits = 384 then 560000 else if bits = 571 then 2300000 else other
  | 0x12 => if param = 0x42 then 340000 + 40 * i1 else if param = 0x43 then 940000 + 60 * i1 else if bits = 256 then 455000 else other
  | 0x13 => if param = 0x40 then 150000 else if param = 0x41 then 430000 else if bits = 256 then 240000 else other
  | 0x30 => if param = 3 then 22000 else other
  | 0x31 => if param = 3 then 24000 else other
  | 0x32 => if param = 2 then 18500 else if param = 3 then 27700 else 40000
  | 0x38 => if param = 3 then 60000 else other
  | 0x39 =>
    (if param = 2 then 60000 + 36000 * iter else if param = 3 then 75000 + 50400 * iter else 95000 + 68000 * iter) + 20 * i0
  | 0x3A => if param = 3 then 110000 + 20 * i1 else other
  | 0x40 => if bits = 256 then 1600000 else if bits = 576 then 16000000 else other
  | 0x41 => 4000
  | 0x42 => 200
  | 0x48 => if param ≤ 2 then 2000 else 3000
  | _ => other

/-- K and B of a descriptor (R232, R233), with the curve of its slot and its output length. -/
def State.pkBound (s : State) (h : Nat) (ws : List Word) (c : Option Curve) (out : Nat) : Nat × Nat :=
  let l := fun k => (engRange ws k).2
  let cbits := match c with
    | some c => c.bits
    | none => if descOp ws = 0x40 then recordSize (l 1) else 0
  let k := pkCycles (descOp ws) (pkParam ws) cbits (l 1) (l 2) (l 3) (pkIterMax ws)
  let t := 3 + ceilDiv (l 0) 32 + ceilDiv (l 1) 32 + ceilDiv (l 2) 32 + ceilDiv (l 3) 32 + ceilDiv out 32
  let u := if l 0 = 0 then 0 else 2500 + 30 * l 0
  (k, 1200 + (12 + s.getF (Fld.PKE_CFG_BWAIT h)) * t + u + k)

/-! ## Curve slots -/

/-- The curve of a slot. -/
def State.slotCurve (s : State) (h k : Nat) : Option Curve := (s.pkeOf h).curves.get (fun _ => none) k
/-- The generation of a slot. -/
def State.slotGen (s : State) (h k : Nat) : Nat := fld (8 * (k % 4) + 7) (8 * (k % 4)) (s.reg (Reg.PKE_SLOT_GEN h (k / 4)))

/-- The flip of a slot to its shadow (R231): vetted, generation + 1 modulo 256, skipping 0. -/
def State.installCurve (s : State) (h k : Nat) (c : Curve) : State :=
  let e := s.pkeOf h
  let g := if s.slotGen h k = 255 then 1 else s.slotGen h k + 1
  let s := s.setPke h { e with curves := e.curves.set (fun _ => none) k (some c) }
  let o := Reg.PKE_SLOT_GEN h (k / 4)
  let s := s.setReg o (setFld (8 * (k % 4) + 7) (8 * (k % 4)) g (s.reg o))
  s.setReg (Reg.PKE_SLOTS h) (s.reg (Reg.PKE_SLOTS h) ||| wd (2 ^ k))

/-- The slot emptied, its generation unchanged (R231). -/
def State.clearCurve (s : State) (h k : Nat) : State :=
  let e := s.pkeOf h
  let s := s.setPke h { e with curves := e.curves.set (fun _ => none) k none }
  s.setReg (Reg.PKE_SLOTS h) (s.reg (Reg.PKE_SLOTS h) &&& ~~~wd (2 ^ k))

/-- BITS of a curve record. -/
def recordBits (r : List Byte) : Nat := leAt r 0 2

/-- The curve of a record (R230). -/
def Curve.parse (r : List Byte) : Curve :=
  let bits := recordBits r
  let l := ceilDiv bits 8
  let f := fun k => leAt r (4 + k * l) l
  { bits := bits, h := leAt r 2 1, p := f 0, a := f 1, b := f 2, gx := f 3, gy := f 4, n := leAt r (4 + 5 * l) (l + 1) }

/-- The first check of R230 that a curve fails, with Miller–Rabin bases for p and n drawn from free bytes. -/
def Curve.vet (c : Curve) (rsv : Nat) (base : Nat → Nat → Nat) : Option Nat :=
  let mr := fun (n k : Nat) => (List.range 40).all (fun i => millerRabin n (2 + base (40 * k + i) (n - 3)))
  let disc := (4 * c.a * c.a * c.a + 27 * c.b * c.b) % c.p
  let d := if c.p + 1 ≤ c.h * c.n then c.h * c.n - (c.p + 1) else c.p + 1 - c.h * c.n
  if c.bits < 192 ∨ 571 < c.bits ∨ rsv ≠ 0 ∨ bitLen c.p ≠ c.bits ∨ c.p % 2 = 0 ∨ c.p ≤ c.a ∨ c.p ≤ c.b ∨ c.p ≤ c.gx ∨ c.p ≤ c.gy ∨
      c.h = 0 ∨ 8 < c.h ∨ c.bits + 1 < bitLen c.n then some 0x10
  else if !mr c.p 0 then some 0x11
  else if disc = 0 then some 0x12
  else if !c.on c.gx c.gy || (c.mul c.n c.base).isSome then some 0x13
  else if c.n < 5 || c.n % 2 == 0 || !mr c.n 1 then some 0x14
  else if c.n = c.p then some 0x15
  else if 4 * c.p < d * d then some 0x16
  else if (List.range 20).any (fun k => powMod c.p (k + 1) c.n == 1) then some 0x17
  else none

/-- The key under which vetting records are made: per boot, from the RNG (R230). -/
def State.vetKey (s : State) : List Byte := slice s.keys.bootKeys 256 16

/-! ## Submission -/

/-- A request ended by its result record alone, without a run (R219, R238). -/
def State.endPkeRequest (s : State) (h : Nat) (r : EngReq) (st code : Nat) : State :=
  let ws := s.descWords r
  let s := s.setHbytes (r.desc + 56) (wordBytes (wd (st * 2 ^ 16 + code * 2 ^ 8 + 1)) ++ zeros 4)
  let s := s.setReg (Reg.PKE_LAST h) (wd (st * 2 ^ 16 + code * 2 ^ 8 + r.idx))
  (s.incWrap (Reg.PKE_JOBS h) 1).descBell r ws

/-- An engine takes no grants (R219). -/
def State.pkeClosed (s : State) (h : Nat) : Bool :=
  !s.flag (Fld.PKE_UCTL_ENABLE h) || !s.hearthEnabled h || s.flag (Fld.PKE_STAT_FAILED h)

/-- Every waiting request of a closed engine ended with PORT_DISABLED (R219, R28). -/
def State.flushPke (s : State) (h : Nat) : State :=
  let e := s.pkeOf h
  let s := s.setPke h { e with reqs := [] }
  let s := s.setPkeArb h { s.pkeArbOf h with waiting := [] }
  e.reqs.foldl (fun s r => s.endPkeRequest h r St.portDisabled 0x40) s

/-- The decision on a store to PKE.SUBMIT (R218, R219). -/
def State.pkeStore (s : State) (p h : Nat) (v : Word) : Resp :=
  let e := s.pkeOf h
  let busy := e.reqs.any (fun r => r.pair == p) || (match e.run with
    | some r => r.req.pair == p
    | none => false)
  match s.submission p h v busy with
  | none => busAt s (Reg.PKE_SUBMIT h)
  | some r =>
    if s.pkeClosed h then .ok (s.endPkeRequest h r St.portDisabled 0x40)
    else
      let s := s.setPke h { e with reqs := e.reqs ++ [r] }
      let a := s.pkeArbOf h
      .ok (s.setPkeArb h { a with waiting := a.waiting ++ [⟨r.idx, b2n r.sup, 0, false, none⟩] })

/-- PKE_SUBMIT (R218). -/
def execPkeSubmit (p : PairId) (h : HearthId) (v : Word) (s : State) : Host.Outcome State Fault Refusal :=
  .next (s.pairAccess p.val (Reg.PKE_SUBMIT h.val) .store (fun s => s.pkeStore p.val h.val v))

/-! ## The checks at a grant -/

/-- The fields of a descriptor that are not ranges, lengths or slots are well formed (R221). -/
def pkFormOk (r : EngReq) (ws : List Word) : Bool :=
  let w1 := ws.getD 1 0
  fld 31 9 w1 == 0 && ws.getD 3 0 == 0 && ws.getD 14 0 == 0 && ws.getD 15 0 == 0 &&
  (if descOp ws = 0x39 then pkIterMax ws != 0 else pkIterMax ws == 0) &&
  (pkUsesSlot (descOp ws) (pkParam ws) || pkGen ws == 0) &&
  !(r.ring == 3 && bit 0 w1 && decide (fld 6 1 w1 < 32)) &&
  (List.range 5).all (fun k => (engRange ws k).2 != 0 || (engRange ws k).1 == 0)

/-- The ranges are aligned and within the requester's rights (R220, R221). -/
def engRangesOk (r : EngReq) (ws : List Word) : Bool :=
  (List.range 5).all (fun k =>
    let g := engRange ws k
    g.2 == 0 || (g.1 % 4 == 0 && r.allows g.1 g.2 (if k = 4 then .store else .load)))

/-- The private key of an operation: its algorithm in the blob header suits OP and PARAM (R225 step 4). -/
def pkAlgOk (op param alg : Nat) : Bool :=
  match op with
  | 0x03 => alg == 0x200 + param
  | 0x11 | 0x13 => alg == 0x100 + param
  | 0x32 => alg == 0x300 + param
  | 0x39 => alg == 0x380 + param
  | _ => false

/-- The usage bits of a blob permit the operation (R225 step 5, R281): SIGN for signatures and the raw RSA private operation,
AGREE for agreement and decapsulation, ATTEST keys for supervisors only, and plain output under R227. -/
def pkUsageOk (op : Nat) (usage : Word) (sup raw : Bool) : Bool :=
  (match op with
    | 0x03 | 0x11 | 0x39 => bit 6 usage
    | 0x13 | 0x32 => bit 7 usage && (!raw || sup || bit 8 usage)
    | _ => true) && (sup || !bit 10 usage)

/-- An operation takes a private key (R223). -/
def pkHasKey (op : Nat) : Bool := op == 0x03 || op == 0x11 || op == 0x13 || op == 0x32 || op == 0x39

/-- ALG of a template that a secret of `n` bytes fits (R280, R283). -/
def secretAlgOk (n alg : Nat) : Bool :=
  (isAes alg || isTdea alg || alg == 0x400) && algKeyLen alg 0 n == some n

/-- The template of an operation and what it must fit: its bytes, the target entry, the algorithm (R283). -/
def State.pkTemplate (s : State) (ws : List Word) (c : Option Curve) : Option (List Byte × Option Nat × (Nat → Bool)) :=
  let t := fun (k : Nat) => s.hbytes ((engRange ws k).1 - fabricBase) (engRange ws k).2
  let param := pkParam ws
  let idx := some (pkKeyIndex ws)
  match descOp ws with
  | 0x10 => some (t 1, idx, fun a => a == 0x100 + param)
  | 0x30 => some (t 1, idx, fun a => a == 0x300 + param)
  | 0x38 => some (t 1, idx, fun a => a == 0x380 + param)
  | 0x13 =>
    if pkRaw ws then none
    else some (t 2, none, secretAlgOk ((ecLens param c).getD (0, 0, 0)).1)
  | 0x31 | 0x32 => if pkRaw ws then none else some (t 2, none, secretAlgOk 32)
  | _ => none

/-- The refusal of a template (R283), if the operation has one. -/
def State.pkTemplateBad (s : State) (r : EngReq) (ws : List Word) (c : Option Curve) : Option (Nat × Nat) :=
  match s.pkTemplate ws c with
  | some t => s.templateBad t.1 r.pair r.sup t.2.1 t.2.2 1
  | none => none

/-- The key of an operation checked and its use reserved (R225, R226), with the plain key. -/
def State.pkKey (s : State) (r : EngReq) (ws : List Word) : Except (Nat × Nat) (State × List Byte × List Update) :=
  let op := descOp ws
  if !pkHasKey op then .ok (s, [], [])
  else
    let g := engRange ws 0
    let blob := s.hbytes (g.1 - fabricBase) g.2
    match s.checkBlob blob (pkKeyIndex ws) r.pair r.sup r.sup with
    | .error e => .error e
    | .ok key =>
      if !pkAlgOk op (pkParam ws) (hdrAlg blob) then .error (St.keyAbsent, 0x09)
      else if !pkUsageOk op (hdrUsage blob) r.sup (pkRaw ws) then .error (St.policy, 0x0B)
      else match s.reserveUses r.pair [(pkKeyIndex ws, 1)] with
        | .error e => .error e
        | .ok (t, ups) => .ok (t, key, ups)

/-- The checks of a granted job before any computation (R219–R231, R233; log 19): the state with its use reserved and the plain
key, or STATUS and CODE. -/
def State.pkChecks (s : State) (h : Nat) (r : EngReq) (ws : List Word) (c : Option Curve) :
    Except (Nat × Nat) (State × List Byte × List Update) :=
  let op := descOp ws
  let param := pkParam ws
  let l := fun k => (engRange ws k).2
  if s.engFlawed r ws 0 then .error (St.faultHw, 0x30)
  else if !pkFormOk r ws then .error (St.param, 0x01)
  else if !engRangesOk r ws then .error (St.param, 0x02)
  else if (op == 0x40 || op == 0x41 || op == 0x42) && !r.sup then .error (St.policy, 0x0C)
  else if pkUsesSlot op param && c.isNone then .error (St.curve, 0x05)
  else if pkUsesSlot op param && pkGen ws != s.slotGen h param then .error (St.curve, 0x06)
  else
    let bits := recordBits (s.hbytes ((engRange ws 1).1 - fabricBase) (min 2 (l 1)))
    match pkOutLen op param (pkRaw ws) c bits (l 0) (l 1) (l 2) (l 3) with
    | none => .error (St.param, 0x01)
    | some out =>
      if out = 0 ∧ l 4 ≠ 0 then .error (St.param, 0x01)
      else if l 4 < out then .error (St.param, 0x03)
      else if (s.reg (Reg.PKE_GLIMIT h)).toNat < (s.pkBound h ws c out).2 then .error (St.policy, 0x04)
      else if s.engFlawed r ws 4 then .error (St.faultHw, 0x30)
      else if op = 0x31 ∧ pkRaw ws ∧ ¬r.sup then .error (St.policy, 0x0B)
      else match s.pkTemplateBad r ws c with
        | some e => .error e
        | none => s.pkKey r ws

/-- A result without output. -/
def engRefused (st code : Nat) : EngResult := ⟨st, code, [], 0⟩

/-- The state with a run set at a public-key engine. -/
def State.setPkeRun (s : State) (h : Nat) (run : EngRun) : State := s.setPke h { s.pkeOf h with run := some run }

/-- A job taken up from its descriptor (R219–R233): the engine reads the slot, makes its checks, and reads blob and inputs into
operand memory. -/
def State.pkeTake (s : State) (h : Nat) (r : EngReq) (ws : List Word) (retried : Bool) : State :=
  let c := if pkUsesSlot (descOp ws) (pkParam ws) then s.slotCurve h (pkParam ws) else none
  let run : EngRun := { req := r, words := ws, begun := true, curve := c, retried := retried }
  match s.pkChecks h r ws c with
  | .error (st, code) => s.setPkeRun h { run with result := some (engRefused st code) }
  | .ok (t, key, ups) =>
    let b := t.engTake (704 + h) ws 0
    let i0 := b.2.engTake (704 + h) ws 1
    let i1 := i0.2.engTake (704 + h) ws 2
    let i2 := i1.2.engTake (704 + h) ws 3
    i2.2.setPkeRun h { run with blob := b.1, ins := [i0.1, i1.1, i2.1], key := key, reserved := ups, att := s.attemptOf r.pair }

/-- The job of a granted requester starts (R219). -/
def State.pkeStart (s : State) (h idx : Nat) : State :=
  let e := s.pkeOf h
  match e.reqs.find? (fun r => r.idx == idx) with
  | none => s
  | some r =>
    let s := (s.setF (Fld.PKE_STAT_BUSY h) 1).setF (Fld.PKE_STAT_CUR h) idx
    let s := s.setPke h { e with reqs := e.reqs.eraseP (fun q => q.idx == idx) }
    s.pkeTake h r (s.descWords r) false

/-! ## Operations -/

/-- The engine's memory wiped (R236, R259): nothing of blobs, inputs, keys and result is left. -/
def EngRun.wiped (run : EngRun) : EngRun := { run with blob := [], blob2 := [], ins := [], key := [], key2 := [], curve := none, result := none }

/-- A fault or failed check of the running job (R235): the engine wipes; a first one starts the self-test and the rerun, a second one
ends the job with the engine FAILED. -/
def State.pkeFault (s : State) (h : Nat) (run : EngRun) : State :=
  let s := s.setF (Fld.PKE_PFAULTS_FAULTS h) (min 65535 (s.getF (Fld.PKE_PFAULTS_FAULTS h) + 1))
  if run.retried then
    (s.setPkeRun h { run.wiped with result := some (engRefused St.faultHw 0x31) }).setF (Fld.PKE_STAT_FAILED h) 1
  else (s.setPkeRun h { run.wiped with testing := true }).setF (Fld.PKE_STAT_SELFTEST h) 1

/-- The running job computed by an operation: `f` gives the result and the state with its draws, or none for a check of the
result that failed (R235). -/
def State.pkeCompute (s : State) (h op : Nat) (f : EngRun → State → Option (EngResult × State)) : State :=
  match (s.pkeOf h).run with
  | none => s
  | some run =>
    if run.result.isSome || run.testing || descOp run.words != op then s
    else match f run s with
      | none => s.pkeFault h run
      | some (r, t) => t.setPke h { t.pkeOf h with run := some { run with result := some r } }

/-- Input k of a running job in operand memory: IN0–IN2 of a public-key job, IN and AUX of a symmetric one. -/
def EngRun.inp (run : EngRun) (k : Nat) : List Byte := run.ins.getD k []

/-- A completed result. -/
def engOk (out : List Byte) : EngResult := ⟨St.ok, 0, out, 0⟩
/-- REFUSED_RANGE of R228. -/
def engOutOfRange : EngResult := engRefused St.range 0x08
/-- The refusal of a job that needs randomness while the RNG is not healthy (R235). -/
def engNoRng : EngResult := engRefused St.faultHw 0x32

/-- VALID [4]. -/
def validBytes (b : Bool) : List Byte := leBytes 4 (b2n b)

/-- A secret written in plain form or as a blob built from the template given (R227, R283). -/
def State.secretOut (s : State) (run : EngRun) (tmpl secret : List Byte) : Option (List Byte) :=
  if pkRaw run.words then some secret else s.wrapKey tmpl secret

/-- A result whose output may be missing for want of a root. -/
def engMaybe (o : Option (List Byte)) : EngResult :=
  match o with
  | some b => engOk b
  | none => engRefused St.keyAbsent 0x09

/-- BOUND (R232): K and B of the descriptor in IN0, as the engine would take it now; one whose lengths R223 does not admit counts no
output (log 21). -/
def execBound (h : HearthId) (s : State) : Host.Outcome State Fault Refusal :=
  .next (s.pkeCompute h.val 0x00 (fun run s =>
    let ws := toWords (run.inp 0)
    let c := if pkUsesSlot (descOp ws) (pkParam ws) then s.slotCurve h.val (pkParam ws) else none
    let l := fun k => (engRange ws k).2
    let out := (pkOutLen (descOp ws) (pkParam ws) (pkRaw ws) c (recordSize (l 1)) (l 0) (l 1) (l 2) (l 3)).getD 0
    let kb := s.pkBound h.val ws c out
    some (engOk (leBytes 4 kb.1 ++ leBytes 4 kb.2), s)))

/-- A modulus of 64m bits (R223): odd and above 2^(64m − 64). -/
def modulusOk (m n : Nat) : Bool := n % 2 == 1 && decide (2 ^ (64 * m - 64) < n)

/-- MODEXP (R223, R228). A modulus that breaks R223 is out of range (log 23). -/
def execModexp (h : HearthId) (s : State) : Host.Outcome State Fault Refusal :=
  .next (s.pkeCompute h.val 0x01 (fun run s =>
    let m := pkParam run.words
    let n := ofLe (run.inp 0)
    let b := ofLe (run.inp 1)
    some (if !modulusOk m n || b == 0 || decide (n ≤ b) then (engOutOfRange, s)
      else (engOk (leBytes (8 * m) (powMod b (ofLe (run.inp 2)) n)), s))))

/-- RSA_PUB (R223, R228). -/
def execRsaPub (h : HearthId) (s : State) : Host.Outcome State Fault Refusal :=
  .next (s.pkeCompute h.val 0x02 (fun run s =>
    let m := pkParam run.words
    let n := ofLe (run.inp 0)
    let x := ofLe (run.inp 1)
    let e := ofLe (run.inp 2)
    some (if !modulusOk m n || x == 0 || decide (n ≤ x) || e % 2 == 0 || decide (e < 3) || decide (n ≤ e) then (engOutOfRange, s)
      else (engOk (leBytes (8 * m) (powMod x e n)), s))))

/-- RSA_PRIV (R223, R228): the CRT result, checked by raising it to e (R235). -/
def execRsaPriv (h : HearthId) (s : State) : Host.Outcome State Fault Refusal :=
  .next (s.pkeCompute h.val 0x03 (fun run s =>
    let m := pkParam run.words
    let k := RsaKey.parse m run.key
    let x := ofLe (run.inp 0)
    if x = 0 ∨ x = 1 ∨ k.n ≤ x + 1 ∨ ¬k.ok m then some (engOutOfRange, s)
    else
      let y := k.priv x
      if powMod y k.e k.n = x then some (engOk (leBytes (8 * m) y), s) else none))

/-- A number below `n` from a list of bytes. -/
def drawBelow (bs : List Byte) (n : Nat) : Nat := if n = 0 then 0 else ofLe bs % n

/-- The public key of a private key on a slot curve, X then Y. -/
def Curve.pubBytes (c : Curve) (d : Nat) : List Byte :=
  match c.mul d c.base with
  | some (x, y) => leBytes c.len x ++ leBytes c.len y
  | none => zeros (2 * c.len)

/-- The public key of a private key under an elliptic-curve PARAM. -/
def ecPublic (param : Nat) (c : Option Curve) (key : List Byte) : List Byte :=
  if param = 0x40 then x25519 key (byte 9 :: zeros 31)
  else if param = 0x41 then x448 key (byte 5 :: zeros 55)
  else if param = 0x42 then slice (eddsaPublic param key) 0 32
  else if param = 0x43 then slice (eddsaPublic param key) 0 57
  else match c with
    | some c => c.pubBytes (ofLe key)
    | none => []

/-- EC_KEYGEN (R223): public key, then blob. A scalar on a slot curve is drawn from 1 to n − 1. -/
def execEcKeygen (h : HearthId) (s : State) : Host.Outcome State Fault Refusal :=
  .next (s.pkeCompute h.val 0x10 (fun run s =>
    if !s.rngHealthy then some (engNoRng, s)
    else
      let param := pkParam run.words
      let len := ((ecLens param run.curve).getD (0, 0, 0)).1
      let d := s.drawHw (len + 8)
      let key := match run.curve with
        | some c => leBytes len (drawBelow d.1 (c.n - 1) + 1)
        | none => d.1.take len
      some (engMaybe ((s.wrapKey (run.inp 0) key).map (fun b => ecPublic param run.curve key ++ b)), d.2)))

/-- EC_SIGN (R223, R228): an ECDSA signature with a nonce from the RNG, or an EdDSA signature, checked by verifying it (R235). -/
def execEcSign (h : HearthId) (s : State) : Host.Outcome State Fault Refusal :=
  .next (s.pkeCompute h.val 0x11 (fun run s =>
    let param := pkParam run.words
    match run.curve with
    | some c =>
      let d := ofLe run.key
      if d = 0 ∨ c.n ≤ d then some (engOutOfRange, s)
      else if !s.rngHealthy then some (engNoRng, s)
      else
        let r := s.drawHw (c.nLen + 8)
        let sg := c.ecdsaSign d (drawBelow r.1 (c.n - 1) + 1) (run.inp 0)
        if sg.1 ≠ 0 ∧ sg.2 ≠ 0 ∧ c.ecdsaVerify (c.mul d c.base) (run.inp 0) sg.1 sg.2 then
          some (engOk (leBytes c.nLen sg.1 ++ leBytes c.nLen sg.2), r.2)
        else none
    | none =>
      let sg := slice (eddsaSign param run.key (run.inp 0)) 0 (if param = 0x42 then 64 else 114)
      if eddsaVerify param (ecPublic param none run.key) (run.inp 0) sg = some true then some (engOk sg, s) else none))

/-- EC_VERIFY (R223, R228). -/
def execEcVerify (h : HearthId) (s : State) : Host.Outcome State Fault Refusal :=
  .next (s.pkeCompute h.val 0x12 (fun run s =>
    match run.curve with
    | some c =>
      let x := leAt (run.inp 0) 0 c.len
      let y := leAt (run.inp 0) c.len c.len
      let r := leAt (run.inp 2) 0 c.nLen
      let sg := leAt (run.inp 2) c.nLen c.nLen
      some (if !c.pointOk x y || r == 0 || decide (c.n ≤ r) || sg == 0 || decide (c.n ≤ sg) then (engOutOfRange, s)
        else (engOk (validBytes (c.ecdsaVerify (some (x, y)) (run.inp 1) r sg)), s))
    | none =>
      some (match eddsaVerify (pkParam run.words) (run.inp 0) (run.inp 1) (run.inp 2) with
        | none => (engOutOfRange, s)
        | some b => (engOk (validBytes b), s))))

/-- EC_AGREE (R223, R227, R228). -/
def execEcAgree (h : HearthId) (s : State) : Host.Outcome State Fault Refusal :=
  .next (s.pkeCompute h.val 0x13 (fun run s =>
    let param := pkParam run.words
    match run.curve with
    | some c =>
      let x := leAt (run.inp 0) 0 c.len
      let y := leAt (run.inp 0) c.len c.len
      let d := ofLe run.key
      if !c.pointOk x y || d == 0 || decide (c.n ≤ d) then some (engOutOfRange, s)
      else match c.mul d (some (x, y)) with
        | some (zx, _) => some (engMaybe (s.secretOut run (run.inp 1) (leBytes c.len zx)), s)
        | none => some (engOutOfRange, s)
    | none =>
      let z := if param = 0x40 then x25519 run.key (run.inp 0) else x448 run.key (run.inp 0)
      if z.all (· == 0) then some (engOutOfRange, s)
      else some (engMaybe (s.secretOut run (run.inp 1) z), s)))

/-- EC_POINT_CHECK (R223): a coordinate that is not below p is out of range; a point off the curve or of another order is not
valid (R228; log 23). -/
def execEcPointCheck (h : HearthId) (s : State) : Host.Outcome State Fault Refusal :=
  .next (s.pkeCompute h.val 0x14 (fun run s =>
    match run.curve with
    | some c =>
      let x := leAt (run.inp 0) 0 c.len
      let y := leAt (run.inp 0) c.len c.len
      some (if c.p ≤ x ∨ c.p ≤ y then (engOutOfRange, s) else (engOk (validBytes (c.pointOk x y)), s))
    | none => some (engOutOfRange, s)))

/-- MLKEM_KEYGEN (R223): encapsulation key, then blob of the seed d ‖ z. -/
def execMlkemKeygen (h : HearthId) (s : State) : Host.Outcome State Fault Refusal :=
  .next (s.pkeCompute h.val 0x30 (fun run s =>
    if !s.rngHealthy then some (engNoRng, s)
    else
      let k := pkParam run.words
      let d := s.drawHw 64
      let ek := slice (mlkemPublic k d.1) 0 ((kemLens k).getD (0, 0)).1
      some (engMaybe ((s.wrapKey (run.inp 0) d.1).map (fun b => ek ++ b)), d.2)))

/-- MLKEM_ENCAP (R223, R227, R228): ciphertext, then the shared key or its blob. -/
def execMlkemEncap (h : HearthId) (s : State) : Host.Outcome State Fault Refusal :=
  .next (s.pkeCompute h.val 0x31 (fun run s =>
    let k := pkParam run.words
    if !mlkemKeyOk k (run.inp 0) then some (engOutOfRange, s)
    else if !s.rngHealthy then some (engNoRng, s)
    else
      let d := s.drawHw 32
      let r := mlkemEncap k (run.inp 0) d.1
      let ct := slice r.1 0 ((kemLens k).getD (0, 0)).2
      some (engMaybe ((s.secretOut run (run.inp 1) (slice r.2 0 32)).map (fun b => ct ++ b)), d.2)))

/-- MLKEM_DECAP (R223, R227): implicit rejection. -/
def execMlkemDecap (h : HearthId) (s : State) : Host.Outcome State Fault Refusal :=
  .next (s.pkeCompute h.val 0x32 (fun run s =>
    some (engMaybe (s.secretOut run (run.inp 1) (slice (mlkemDecap (pkParam run.words) run.key (run.inp 0)) 0 32)), s)))

/-- MLDSA_KEYGEN (R223): public key, then blob of the seed. -/
def execMldsaKeygen (h : HearthId) (s : State) : Host.Outcome State Fault Refusal :=
  .next (s.pkeCompute h.val 0x38 (fun run s =>
    if !s.rngHealthy then some (engNoRng, s)
    else
      let k := pkParam run.words
      let d := s.drawHw 32
      let pk := slice (mldsaPublic k d.1) 0 ((dsaLens k).getD (0, 0)).1
      some (engMaybe ((s.wrapKey (run.inp 0) d.1).map (fun b => pk ++ b)), d.2)))

/-- IN0 of ML-DSA: the context length fits what follows (R223). -/
def contextOk (m : List Byte) : Bool := decide (leAt m 0 1 + 1 ≤ m.length)

/-- MLDSA_SIGN (R223, R234): within ITER_MAX iterations, or BUSY with no use counted; the signature is checked by verifying it
(R235). -/
def execMldsaSign (h : HearthId) (s : State) : Host.Outcome State Fault Refusal :=
  .next (s.pkeCompute h.val 0x39 (fun run s =>
    let k := pkParam run.words
    if !contextOk (run.inp 0) then some (engRefused St.param 0x01, s)
    else if !pkDet run.words && !s.rngHealthy then some (engNoRng, s)
    else
      let d := if pkDet run.words then (zeros 32, s) else s.drawHw 32
      let r := mldsaSign k run.key (run.inp 0) d.1
      let n := max 1 r.2
      let l := (dsaLens k).getD (0, 0)
      let sg := slice r.1 0 l.2
      if pkIterMax run.words < n then some (⟨St.busy, 0x20, [], pkIterMax run.words⟩, d.2)
      else if mldsaVerify k (slice (mldsaPublic k run.key) 0 l.1) (run.inp 0) sg = some true then some (⟨St.ok, 0, sg, n⟩, d.2)
      else none))

/-- MLDSA_VERIFY (R223, R228). -/
def execMldsaVerify (h : HearthId) (s : State) : Host.Outcome State Fault Refusal :=
  .next (s.pkeCompute h.val 0x3A (fun run s =>
    some (if !contextOk (run.inp 1) then (engRefused St.param 0x01, s)
      else match mldsaVerify (pkParam run.words) (run.inp 0) (run.inp 1) (run.inp 2) with
        | none => (engOutOfRange, s)
        | some b => (engOk (validBytes b), s))))

/-- CURVE_VET (R230): the vetting record; the curve is installed when the job completes. -/
def execCurveVet (h : HearthId) (s : State) : Host.Outcome State Fault Refusal :=
  .next (s.pkeCompute h.val 0x40 (fun run s =>
    if !s.rngHealthy then some (engNoRng, s)
    else
      let c := Curve.parse (run.inp 0)
      let d := s.drawHw (80 * 72)
      some (match c.vet (leAt (run.inp 0) 3 1) (fun k n => drawBelow (slice d.1 (72 * k) 72) n) with
        | some code => (engRefused St.curve code, d.2)
        | none => (engOk ((run.inp 0) ++ (aesCmac s.vetKey (run.inp 0)).take 8), d.2))))

/-- SLOT_INSTALL (R230, R231): accepted where the CMAC of the record verifies. -/
def execSlotInstall (h : HearthId) (s : State) : Host.Outcome State Fault Refusal :=
  .next (s.pkeCompute h.val 0x41 (fun run s =>
    let m := run.inp 0
    let r := m.take (m.length - 8)
    some (if (aesCmac s.vetKey r).take 8 = m.drop r.length then (engOk [], s) else (engRefused St.curve 0x18, s))))

/-- SLOT_CLEAR (R231). -/
def execSlotClear (h : HearthId) (s : State) : Host.Outcome State Fault Refusal :=
  .next (s.pkeCompute h.val 0x42 (fun _ s => some (engOk [], s)))

/-- The coefficients of a transform's input, `w` bytes each. -/
def coeffs (w : Nat) (bs : List Byte) : List Nat := (List.range 256).map (fun i => leAt bs (w * i) w)

/-- NTT (R223, R228). -/
def execNtt (h : HearthId) (s : State) : Host.Outcome State Fault Refusal :=
  .next (s.pkeCompute h.val 0x48 (fun run s =>
    let param := pkParam run.words
    let w := if param ≤ 2 then 2 else 4
    let q := if param ≤ 2 then 3329 else 8380417
    let f := coeffs w (run.inp 0)
    some (if f.any (fun x => decide (q ≤ x)) then (engOutOfRange, s)
      else
        let g := if param = 1 then ntt3329 f else if param = 2 then intt3329 f else if param = 3 then nttDsa f else inttDsa f
        (engOk (g.flatMap (leBytes w)), s))))

/-! ## The end of a job -/

/-- The curve slots as a completed CURVE_VET, SLOT_INSTALL or SLOT_CLEAR leaves them (R230, R231). -/
def State.pkSlotEffect (s : State) (h : Nat) (run : EngRun) : State :=
  let k := pkParam run.words
  match descOp run.words with
  | 0x40 | 0x41 => s.installCurve h k (Curve.parse (run.inp 0))
  | 0x42 => s.clearCurve h k
  | _ => s

/-- PKE_JOB_COMPLETE (R238): output, result record and wipe, then the doorbell; a reservation is returned where R226 says
so. -/
def execPkeJobComplete (h : HearthId) (s : State) : Host.Outcome State Fault Refusal :=
  .next (match (s.pkeOf h.val).run with
    | none => s
    | some run =>
      match run.result with
      | none => s
      | some r =>
        let s := if r.status = St.ok then (s.pkSlotEffect h.val run).engWrite (704 + h.val) (engRange run.words 4).1 r.out else s
        let s := if r.status = St.faultHw ∨ r.status = St.portDisabled ∨ r.status = St.busy then s.returnUses run else s
        let w14 := wd (r.status * 2 ^ 16 + r.code * 2 ^ 8 + 1)
        let w15 := wd (r.iter * 2 ^ 24 + r.out.length)
        let s := s.setHbytes (run.req.desc + 56) (wordBytes w14 ++ wordBytes w15)
        let s := s.setReg (Reg.PKE_LAST h.val) (wd (r.status * 2 ^ 16 + r.code * 2 ^ 8 + run.req.idx))
        let s := (s.incWrap (Reg.PKE_JOBS h.val) 1).setF (Fld.PKE_STAT_BUSY h.val) 0
        let s := s.setPke h.val { s.pkeOf h.val with run := none }
        let s := (s.endUse (.pke h)).descBell run.req run.words
        if s.pkeClosed h.val then s.flushPke h.val else s)

/-- PKE_PARITY_FAULT (R235): a fault before the first output word of the running job. -/
def execPkeParityFault (h : HearthId) (s : State) : Host.Outcome State Fault Refusal :=
  .next (match (s.pkeOf h.val).run with
    | some run => if run.testing then s else s.pkeFault h.val run
    | none => s)

/-- PKE_SELFTEST_DONE (R235): the job is rerun once from its descriptor, its reservation made anew, or the engine is FAILED and the job
ends. -/
def execPkeSelftestDone (h : HearthId) (pass : Bool) (s : State) : Host.Outcome State Fault Refusal :=
  .next (match (s.pkeOf h.val).run with
    | none => s
    | some run =>
      if !run.testing then s
      else
        let s := s.setF (Fld.PKE_STAT_SELFTEST h.val) 0
        if pass then
          ((s.returnUses run).setF (Fld.PKE_STAT_RETRIED h.val) 1).pkeTake h.val run.req (s.descWords run.req) true
        else
          let s := s.setPkeRun h.val { run.wiped with testing := false, result := some (engRefused St.faultHw 0x31) }
          let s := (s.setF (Fld.PKE_STAT_FAILED h.val) 1).setF (Fld.PKE_PFAULTS_FAILS h.val) (min 65535 (s.getF (Fld.PKE_PFAULTS_FAILS h.val) + 1))
          s.logEvent Src.engine 1 (704 + h.val) 0 0 0)

/-! ## Grants -/

/-- ARB_GRANT (R178, R180–R182): the next grant of an arbiter. At a bank or the NVM controller the use in progress ends with it; at a
public-key engine a job in progress goes on, and a granted one starts. -/
def execArbGrant (a : ArbId) (s : State) : Host.Outcome State Fault Refusal :=
  .next (match a with
    | .pke h =>
      if s.pkeClosed h.val then (if (s.pkeOf h.val).run.isNone then s.flushPke h.val else s)
      else if (s.pkeArbOf h.val).inUse.isSome then s
      else
        let t := s.grant a
        match (t.pkeArbOf h.val).inUse with
        | some idx => t.pkeStart h.val idx
        | none => t
    | _ => (s.finishUse a).grant a)

end Sys2Proof.Machine
end

