-- ==== Sys2Proof/Machine/PinBlock.lean ====
section
/-! DEFINITION. PIN blocks of ISO 9564-1 formats 0, 1, 3 and 4, as PIN_TRANSLATE decodes and builds them (R251). Blocks are
lists of nibbles, the most significant of each byte first. -/

namespace Sys2Proof.Machine

/-- The nibbles of a byte string. -/
def nibbles (bs : List Byte) : List Nat := bs.flatMap (fun b => [b.toNat / 16, b.toNat % 16])
/-- The byte string of an even number of nibbles. -/
def ofNibbles : List Nat → List Byte
  | a :: b :: r => byte (16 * a + b) :: ofNibbles r
  | _ => []

/-- The digits of the PAN of a translation record. -/
def panDigits (aux : List Byte) : List Nat := (nibbles (slice aux 4 10)).take (leAt aux 2 1)

/-- The PAN field of formats 0 and 3: four zeros and the twelve rightmost digits without the check digit, zeros to the left of
fewer (ISO 9564-1). -/
def panField0 (pan : List Nat) : List Nat :=
  let d := pan.dropLast
  let r := d.drop (d.length - 12)
  List.replicate (16 - r.length) 0 ++ r

/-- The PAN field of format 4: length less 12, the digits, and zeros to 32 nibbles. -/
def panField4 (pan : List Nat) : List Nat :=
  let f := [pan.length - 12] ++ pan
  f ++ List.replicate (32 - f.length) 0

/-- A PIN format that the engine knows. -/
def pinFormatOk (f : Nat) : Bool := f == 0 || f == 1 || f == 3 || f == 4

/-- The block length of a format. -/
def pinLen (f : Nat) : Nat := if f = 4 then 16 else 8

/-- A format that takes the PAN. -/
def pinUsesPan (f : Nat) : Bool := f == 0 || f == 3 || f == 4

/-- The translation record is well formed (R251). -/
def pinRecordOk (aux : List Byte) : Bool :=
  let i := leAt aux 0 1
  let o := leAt aux 1 1
  let n := leAt aux 2 1
  pinFormatOk i && pinFormatOk o && leAt aux 3 1 == 0 &&
  (if pinUsesPan i || pinUsesPan o then
      decide (12 ≤ n ∧ n ≤ 19) && (panDigits aux).all (· < 10) && ((nibbles (slice aux 4 10)).drop n).all (· == 15)
    else n == 0 && (slice aux 4 10).all (· == 0))

/-- The PIN field of a decrypted block: the PAN field removed for formats 0 and 3. -/
def pinField (f : Nat) (pan blk : List Nat) : List Nat :=
  if f = 0 ∨ f = 3 then List.zipWith (· ^^^ ·) blk (panField0 pan) else blk

/-- The PIN of a PIN field, where its control field, length, digits and fill are in order (R251). -/
def pinOf (f : Nat) (p : List Nat) : Option (List Nat) :=
  let n := p.getD 1 0
  let pin := (p.drop 2).take n
  let fill := (p.take 16).drop (2 + n)
  let fillOk := if f = 0 then fill.all (· == 15) else if f = 3 then fill.all (fun x => decide (10 ≤ x)) else if f = 4 then fill.all (· == 10) else true
  if p.getD 0 0 = f ∧ 4 ≤ n ∧ n ≤ 12 ∧ pin.all (· < 10) ∧ fillOk then some pin else none

/-- The PIN field of a PIN in a format, with random bytes for its fill. -/
def pinBuild (f : Nat) (pin : List Nat) (rnd : List Byte) : List Nat :=
  let n := pin.length
  let r := nibbles rnd
  let head := [f, n] ++ pin
  if f = 0 then head ++ List.replicate (14 - n) 15
  else if f = 1 then head ++ r.take (14 - n)
  else if f = 3 then head ++ (r.take (14 - n)).map (fun x => 10 + x % 6)
  else head ++ List.replicate (14 - n) 10 ++ r.take 16

/-- The clear PIN field of an encrypted block under its key. -/
def pinDecrypt (f : Nat) (key : List Byte) (pan : List Nat) (blk : List Byte) : List Nat :=
  if f = 4 then
    nibbles (aesDec key (xorBytes (aesDec key blk) (ofNibbles (panField4 pan))))
  else pinField f pan (nibbles (tdeaDec key blk))

/-- The encrypted block of a PIN field under its key. -/
def pinEncrypt (f : Nat) (key : List Byte) (pan p : List Nat) : List Byte :=
  if f = 4 then aesEnc key (xorBytes (aesEnc key (ofNibbles p)) (ofNibbles (panField4 pan)))
  else tdeaEnc key (ofNibbles (pinField f pan p))

end Sys2Proof.Machine
end

