-- ==== Sys2Proof/Machine/Sym.lean ====
section
/-! DEFINITION. The symmetric engines (R240–R262): submission and queue, the checks at a start, the operations, faults and the
end of a job. A waiting descriptor starts as soon as the engine is free (R241). -/

namespace Sys2Proof.Machine

/-! ## Descriptors -/

/-- MODE of a descriptor. -/
def syMode (ws : List Word) : Nat := fld 15 8 (ws.getD 0 0)
/-- TAGLEN of a descriptor. -/
def syTagLen (ws : List Word) : Nat := fld 23 16 (ws.getD 0 0)
/-- IVLEN of a descriptor. -/
def syIvLen (ws : List Word) : Nat := fld 31 24 (ws.getD 0 0)
/-- DIR of a descriptor: decrypt. -/
def syDecrypt (ws : List Word) : Bool := bit 8 (ws.getD 1 0)
/-- VERIFY of a descriptor. -/
def syVerify (ws : List Word) : Bool := bit 9 (ws.getD 1 0)
/-- KEY_INDEX (k = 0) and KEY2_INDEX (k = 1). -/
def syIndex (ws : List Word) (k : Nat) : Nat := (ws.getD (2 + k) 0).toNat

/-- Authenticated encryption. -/
def syAead (ws : List Word) : Bool := descOp ws == 1 && (syMode ws == 3 || syMode ws == 4)
/-- The tag at the end of IN (decryption) in bytes. -/
def syInTag (ws : List Word) : Nat := if syAead ws && syDecrypt ws then syTagLen ws else 0
/-- The data length L of R250. -/
def syDataLen (ws : List Word) : Nat := (engRange ws 2).2 - syInTag ws

/-- The length of a derived key by the ALG of its template (R277, R280; log 24). -/
def childLen (alg : Nat) : Option Nat :=
  if isAes alg || isTdea alg || alg == 0x400 then algKeyLen alg 0 (Config.genericLen % 64 + 1) else none

/-- The output length of an operation whose MODE and lengths R245 and R246 allow; none where they do not. `aux` is the
auxiliary input. -/
def syOutLen (ws : List Word) (aux : List Byte) : Option Nat :=
  let l := fun k => (engRange ws k).2
  let iv := syIvLen ws
  let tg := syTagLen ws
  let mode := syMode ws
  let d := syDataLen ws
  let need := fun (ok : Bool) (out : Nat) => if ok then some out else none
  let cipher := fun (bs : Nat) =>
    if mode = 0 then need (decide (iv = 0 ∧ tg = 0 ∧ l 2 % bs = 0 ∧ bs ≤ l 2 ∧ l 2 ≤ 65536 ∧ l 3 = 0)) (l 2)
    else need (decide (mode = 1 ∧ iv = bs ∧ tg = 0 ∧ l 2 % bs = 0 ∧ bs ≤ l 2 ∧ l 2 ≤ 65536 ∧ l 3 = bs)) (l 2)
  let one := decide (l 0 ≠ 0 ∧ l 1 = 0)
  match descOp ws with
  | 0x01 =>
    if !one then none
    else if mode ≤ 1 then cipher 16
    else if mode = 2 then need (decide (iv = 16 ∧ tg = 0 ∧ 1 ≤ l 2 ∧ l 2 ≤ 65536 ∧ l 3 = 16)) (l 2)
    else if mode = 3 ∨ mode = 4 then
      need (decide ((if mode = 3 then iv = 12 ∧ 12 ≤ tg ∧ tg ≤ 16 else 7 ≤ iv ∧ iv ≤ 13 ∧ 4 ≤ tg ∧ tg ≤ 16 ∧ tg % 2 = 0 ∧ d < 2 ^ (8 * (15 - iv))) ∧
        syInTag ws ≤ l 2 ∧ d ≤ 65536 ∧ iv ≤ l 3 ∧ l 3 ≤ 4096)) (if syDecrypt ws then d else d + tg)
    else none
  | 0x02 => if one then cipher 8 else none
  | 0x03 => need (one && decide (mode = 0 ∧ iv = 0 ∧ 4 ≤ tg ∧ tg ≤ 16 ∧ l 2 ≤ 65536 ∧ l 3 = (if syVerify ws then tg else 0)))
      (if syVerify ws then 4 else tg)
  | 0x04 => need (decide (mode = 0 ∧ iv = 0 ∧ tg = 0 ∧ l 0 ≠ 0 ∧ l 1 ≠ 0 ∧ l 3 = 14 ∧ l 2 = pinLen (leAt aux 0 1)) && pinRecordOk aux)
      (pinLen (leAt aux 1 1))
  | 0x05 => need (one && decide (mode = 0 ∧ iv = 0 ∧ tg = 0 ∧ l 2 = 0 ∧ l 3 = 0)) 4
  | 0x06 =>
    if one && decide (mode = 0 ∧ iv = 0 ∧ tg = 0 ∧ l 2 = 0 ∧ l 3 = 64) then (childLen (hdrAlg (aux.drop 32))).map blobLen else none
  | 0x07 => need (decide (mode = 0 ∧ iv = 0 ∧ tg = 0 ∧ l 0 = 0 ∧ l 1 = 0 ∧ l 3 = 0 ∧ 64 ≤ l 2 ∧ l 2 ≤ 16384 ∧ l 2 % 32 = 0 ∧ l 4 = l 2)) (l 2)
  | _ => none

/-- The key setup and block cycles of an algorithm (R254). -/
def syCost (alg : Nat) : Nat × Nat :=
  if alg = 1 then (440, 180) else if alg = 2 then (530, 216) else if alg = 3 then (620, 252) else (300, 144)

/-- K of a job (R254) with the algorithms of its keys. -/
def syCycles (ws : List Word) (alg alg2 : Nat) : Nat :=
  let bs := if isTdea alg then 8 else 16
  let n := ceilDiv (syDataLen ws) bs
  let c := (syCost alg).2
  let aad := (engRange ws 3).2 - syIvLen ws
  let a := ceilDiv aad 16
  let b := if aad = 0 then 0 else ceilDiv (aad + 2) 16
  let setup := (if (engRange ws 0).2 = 0 then 0 else (syCost alg).1) + (if (engRange ws 1).2 = 0 then 0 else (syCost alg2).1)
  300 + setup +
  (match descOp ws with
    | 0x01 =>
      if syMode ws ≤ 2 then n * c
      else if syMode ws = 3 then (n + 2) * c + 16 * (n + a + 1)
      else ((if syDecrypt ws then 3 * n else 2 * n) + b + 2) * c
    | 0x02 => n * c
    | 0x03 => (max n 1 + 1) * c
    | 0x04 => 3000
    | 0x05 => 2 * c
    | 0x06 => 10000
    | _ => 1000 + 720 * ((engRange ws 2).2 / 32))

/-- B of a job (R255). -/
def State.syBound (s : State) (h : Nat) (ws : List Word) (out alg alg2 : Nat) : Nat :=
  let l := fun k => (engRange ws k).2
  let u := fun (n : Nat) => if n = 0 then 0 else 2000 + 1100 * ceilDiv n 8
  let t := 3 + ceilDiv (l 0) 32 + ceilDiv (l 1) 32 + ceilDiv (l 3) 32 + ceilDiv out 32 +
    (if syAead ws && syDecrypt ws then 2 else 1) * ceilDiv (l 2) 32
  1000 + (12 + s.getF (Fld.PKE_CFG_BWAIT h)) * t + u (l 0) + u (l 1) + syCycles ws alg alg2

/-! ## Checks at a start -/

/-- The fields that are neither ranges nor lengths are well formed (R244). -/
def syFormOk (r : EngReq) (ws : List Word) : Bool :=
  let w1 := ws.getD 1 0
  fld 31 10 w1 == 0 && !bit 7 w1 && ws.getD 14 0 == 0 && ws.getD 15 0 == 0 &&
  !(r.ring == 3 && bit 0 w1 && decide (fld 6 1 w1 < 32)) &&
  (List.range 5).all (fun k => (engRange ws k).2 != 0 || (engRange ws k).1 == 0)

/-- A range lies wholly in one checkpoint buffer (R123, R253). -/
def inCkptBuffer (a n : Nat) : Bool :=
  decide (fabricBase ≤ a ∧ a + n ≤ fabricBase + 0x4000000 ∧ 0x300000 ≤ (a - fabricBase) % 0x400000 ∧ a % 0x4000 + n ≤ 0x4000)

/-- The ranges are aligned and within the requester's rights (R220, R240). -/
def syRangesOk (r : EngReq) (ws : List Word) : Bool :=
  (List.range 5).all (fun k =>
    let g := engRange ws k
    g.2 == 0 || (g.1 % 4 == 0 &&
      (if descOp ws = 0x07 then inCkptBuffer g.1 g.2 else r.allows g.1 g.2 (if k = 4 then .store else .load))))

/-- The algorithm of key k suits the operation (R249). -/
def syAlgOk (ws : List Word) (aux : List Byte) (k alg : Nat) : Bool :=
  match descOp ws with
  | 0x01 | 0x06 => isAes alg
  | 0x02 => isTdea alg
  | 0x03 | 0x05 => isAes alg || isTdea alg
  | 0x04 => if leAt aux k 1 = 4 then isAes alg else isTdea alg
  | _ => false

/-- The usage bits of a key permit the operation (R281). -/
def syUsageOk (ws : List Word) (usage : Word) (sup : Bool) : Bool :=
  (match descOp ws with
    | 0x01 | 0x02 => if syDecrypt ws then bit 1 usage else bit 0 usage
    | 0x03 => if syVerify ws then bit 3 usage else bit 2 usage
    | 0x04 => bit 4 usage
    | 0x06 => bit 5 usage
    | _ => true) && (sup || !bit 10 usage)

/-- The uses that a job counts on its keys (R250). -/
def syUses (ws : List Word) (usage : Word) (alg : Nat) : List (Nat × Nat) :=
  match descOp ws with
  | 0x01 | 0x02 | 0x03 => [(syIndex ws 0, if bit 15 usage then ceilDiv (syDataLen ws) (if isTdea alg then 8 else 16) else 1)]
  | 0x04 => [(syIndex ws 0, 1), (syIndex ws 1, 1)]
  | 0x06 => [(syIndex ws 0, 1)]
  | _ => []

/-- The blob of key k of a descriptor. -/
def State.syBlob (s : State) (ws : List Word) (k : Nat) : List Byte := s.hbytes ((engRange ws k).1 - fabricBase) (engRange ws k).2

/-- One key of a job checked (R225, R249). -/
def State.syKey (s : State) (r : EngReq) (ws : List Word) (aux : List Byte) (k : Nat) : Except (Nat × Nat) (List Byte) :=
  if (engRange ws k).2 = 0 then .ok []
  else
    let blob := s.syBlob ws k
    match s.checkBlob blob (syIndex ws k) r.pair r.sup (r.sup && (descOp ws == 0x05)) with
    | .error e => .error e
    | .ok key =>
      if !syAlgOk ws aux k (hdrAlg blob) then .error (St.keyAbsent, 0x09)
      else if !syUsageOk ws (hdrUsage blob) r.sup then .error (St.policy, 0x0B)
      else .ok key

/-- The child template of DERIVE fits its parent (R277, R283): CODE of its refusal. -/
def State.childBad (s : State) (r : EngReq) (ws : List Word) (aux : List Byte) : Option (Nat × Nat) :=
  if descOp ws ≠ 0x06 then none
  else
    let t := aux.drop 32
    let parent := s.syBlob ws 0
    if hdrTenant t ≠ hdrTenant parent ∨ 8 < hdrDepth parent + 1 ∨ bit 10 (hdrUsage t) then
      (match s.templateBad t r.pair r.sup (some (syIndex ws 1)) (fun a => (childLen a).isSome) (hdrDepth parent + 1) with
        | some e => some e
        | none => some (St.param, 0x01))
    else s.templateBad t r.pair r.sup (some (syIndex ws 1)) (fun a => (childLen a).isSome) (hdrDepth parent + 1)

/-- The checks of a job at its start (R245–R251, R255; log 19): the state with its uses reserved, the plain keys, and the
reservation. -/
def State.syChecks (s : State) (h : Nat) (r : EngReq) (ws : List Word) :
    Except (Nat × Nat) (State × List Byte × List Byte × List Update) :=
  let aux := s.hbytes ((engRange ws 3).1 - fabricBase) (engRange ws 3).2
  if s.engFlawed r ws 0 then .error (St.faultHw, 0x30)
  else if !syFormOk r ws then .error (St.param, 0x01)
  else if descOp ws = 0x07 ∧ ¬r.sup then .error (St.policy, 0x0C)
  else if !syRangesOk r ws then .error (St.param, 0x02)
  else if s.engFlawed r ws 4 then .error (St.faultHw, 0x30)
  else match syOutLen ws aux with
    | none => .error (St.param, 0x01)
    | some out =>
      let alg := hdrAlg (s.syBlob ws 0)
      let alg2 := hdrAlg (s.syBlob ws 1)
      if (engRange ws 4).2 < out then .error (St.param, 0x03)
      else if descOp ws ≠ 0x07 ∧ (s.reg (Reg.HRT_SGLIMIT h)).toNat < s.syBound h ws out alg alg2 then .error (St.policy, 0x04)
      else if descOp ws = 0x04 ∧ leAt aux 1 1 = 1 ∧ leAt aux 0 1 ≠ 1 then .error (St.policy, 0x10)
      else match s.syKey r ws aux 0, s.syKey r ws aux 1 with
        | .error e, _ => .error e
        | _, .error e => .error e
        | .ok k1, .ok k2 =>
          if descOp ws = 0x03 ∧ isTdea alg ∧ 8 < syTagLen ws then .error (St.param, 0x01)
          else match s.childBad r ws aux with
            | some e => .error e
            | none =>
              match syUses ws (hdrUsage (s.syBlob ws 0)) alg with
              | [] => .ok (s, k1, k2, [])
              | us =>
                match s.reserveUses r.pair us with
                | .error e => .error e
                | .ok (t, ups) => .ok (t, k1, k2, ups)

/-- A request ended by its result record alone (R243, R261). -/
def State.endSymRequest (s : State) (r : EngReq) (st code : Nat) : State :=
  let ws := s.descWords r
  (s.setHbytes (r.desc + 56) (wordBytes (wd (st * 2 ^ 16 + code * 2 ^ 8 + 1)) ++ zeros 4)).descBell r ws

/-- Every waiting descriptor of a closed engine ended with PORT_DISABLED (R243). -/
def State.flushSym (s : State) (i : Nat) : State :=
  let e := s.symOf i
  let rs := e.copy.toList ++ e.queue
  let s := (s.setSym i { e with queue := [], copy := none }).symStat i
  rs.foldl (fun s r => s.endSymRequest r St.portDisabled 0x40) s

/-- The state with a run set at a symmetric engine. -/
def State.setSymRun (s : State) (i : Nat) (run : EngRun) : State := s.setSym i { s.symOf i with run := some run }

/-- The checks of the descriptor that has started, and the reading of its blobs and inputs, which authenticated decryption reads twice
(R245–R251). COPY_CKPT reads its input as it copies (R253). A descriptor that has started after a cancellation comes to its checks
with the next command on the engine (log 84). -/
def State.symBegin (s : State) (i : Nat) : State :=
  match (s.symOf i).run with
  | none => s
  | some run =>
    if run.begun then s
    else
      let ws := run.words
      let r := run.req
      let m := 640 + i
      match s.syChecks (i / 4) r ws with
      | .error (st, code) => s.setSymRun i { run with begun := true, result := some (engRefused st code) }
      | .ok (t, k1, k2, ups) =>
        let b := t.engTake m ws 0
        let b2 := b.2.engTake m ws 1
        let x := if descOp ws = 0x07 then ([], b2.2) else b2.2.engTake m ws 2
        let x2 := if syInTag ws = 0 then x.2 else (x.2.engTake m ws 2).2
        let y := x2.engTake m ws 3
        y.2.setSymRun i { run with
          begun := true, blob := b.1, blob2 := b2.1, ins := [x.1, y.1], key := k1, key2 := k2, reserved := ups, att := s.attemptOf r.pair }

/-- The next descriptor starts where the engine is free and open (R241). -/
def State.symStart (s : State) (i : Nat) : State := (s.symNext i).symBegin i

/-- The decision on a store to SYM.SUBMIT (R240, R241, R243). -/
def State.symStore (s : State) (p i : Nat) (v : Word) : Resp :=
  let e := s.symOf i
  let h := i / 4
  let copy := s.isSupervisor p && descOp (toWords (s.hbytes (v.toNat - fabricBase) 64)) == 0x07
  let mine := fun (r : EngReq) => r.pair == p
  let busy := if copy then e.copy.isSome
    else e.queue.any mine || decide (8 ≤ e.queue.length) || (match e.run with
      | some r => mine r.req && descOp r.words != 0x07
      | none => false)
  match s.submission p h v busy with
  | none => busAt s (Reg.SYM_SUBMIT h (i % 4))
  | some r =>
    if s.symClosed i then .ok (s.endSymRequest r St.portDisabled 0x40)
    else
      let s := s.setSym i (if copy then { e with copy := some r } else { e with queue := e.queue ++ [r] })
      .ok ((s.symStat i).symStart i)

/-- SYM_SUBMIT (R240). -/
def execSymSubmit (p : PairId) (i : SymId) (v : Word) (s : State) : Host.Outcome State Fault Refusal :=
  .next (s.pairAccess p.val (Reg.SYM_SUBMIT (i.val / 4) (i.val % 4)) .store (fun s => s.symStore p.val i.val v))

/-! ## Operations -/

/-- The running job computed by an operation. -/
def State.symCompute (s : State) (i op : Nat) (f : EngRun → State → EngResult × State) : State :=
  let s := s.symBegin i
  match (s.symOf i).run with
  | none => s
  | some run =>
    if run.result.isSome || descOp run.words != op then s
    else
      let r := f run s
      r.2.setSymRun i { run with result := some r.1 }

/-- Authenticated encryption or decryption (R246, R247): no output where the tag does not match. -/
def aeadResult (gcm dec : Bool) (key nonce aad m : List Byte) (tg : Nat) : EngResult :=
  if dec then
    let c := m.take (m.length - tg)
    let p := if gcm then gcmCrypt key nonce c else ccmCrypt key nonce c
    let t := if gcm then (gcmTag key nonce aad c).take tg else ccmTag key nonce aad p tg
    if t = m.drop (m.length - tg) then engOk p else engRefused St.param 0x12
  else if gcm then
    let c := gcmCrypt key nonce m
    engOk (c ++ (gcmTag key nonce aad c).take tg)
  else engOk (ccmCrypt key nonce m ++ ccmTag key nonce aad m tg)

/-- CIPHER (R245–R247). -/
def execCipher (i : SymId) (s : State) : Host.Outcome State Fault Refusal :=
  .next (s.symCompute i.val 0x01 (fun run s =>
    let ws := run.words
    let k := run.key
    let dec := syDecrypt ws
    let iv := (run.inp 1).take (syIvLen ws)
    let m := run.inp 0
    (match syMode ws with
      | 0 => engOk (ecb (if dec then aesDec k else aesEnc k) 16 m)
      | 1 => engOk (if dec then cbcDec (aesDec k) 16 iv m else cbcEnc (aesEnc k) 16 iv m)
      | 2 => engOk (ctrWith k 128 iv m)
      | md => aeadResult (md == 3) dec k iv ((run.inp 1).drop (syIvLen ws)) m (syTagLen ws), s)))

/-- TDEA (R245, R246). -/
def execTdea (i : SymId) (s : State) : Host.Outcome State Fault Refusal :=
  .next (s.symCompute i.val 0x02 (fun run s =>
    let k := run.key
    let dec := syDecrypt run.words
    (engOk (if syMode run.words = 0 then ecb (if dec then tdeaDec k else tdeaEnc k) 8 (run.inp 0)
      else if dec then cbcDec (tdeaDec k) 8 (run.inp 1) (run.inp 0) else cbcEnc (tdeaEnc k) 8 (run.inp 1) (run.inp 0)), s)))

/-- CMAC of a message under an AES or TDEA key. -/
def cmacAlg (alg : Nat) (key m : List Byte) : List Byte := if isTdea alg then cmacWith (tdeaEnc key) 8 m else aesCmac key m

/-- SYM_MAC (R246, R248). -/
def execSymMac (i : SymId) (s : State) : Host.Outcome State Fault Refusal :=
  .next (s.symCompute i.val 0x03 (fun run s =>
    let mac := (cmacAlg (hdrAlg run.blob) run.key (run.inp 0)).take (syTagLen run.words)
    (engOk (if syVerify run.words then validBytes (mac == run.inp 1) else mac), s)))

/-- SYM_PIN_TRANSLATE (R251). -/
def execSymPinTranslate (i : SymId) (s : State) : Host.Outcome State Fault Refusal :=
  .next (s.symCompute i.val 0x04 (fun run s =>
    let aux := run.inp 1
    let fi := leAt aux 0 1
    let fo := leAt aux 1 1
    let pan := panDigits aux
    match pinOf fi (pinDecrypt fi run.key pan (run.inp 0)) with
    | none => (engRefused St.param 0x0F, s)
    | some pin =>
      if fo ≠ 0 ∧ ¬s.rngHealthy then (engNoRng, s)
      else
        let r := if fo = 0 then ([], s) else s.drawHw 8
        (engOk (pinEncrypt fo run.key2 pan (pinBuild fo pin r.1)), r.2)))

/-- The check value of a symmetric key (R252). -/
def checkValue (alg : Nat) (key : List Byte) : List Byte :=
  if isTdea alg then (tdeaEnc key (zeros 8)).take 4 else (aesCmac key (zeros 16)).take 4

/-- KCV (R252). -/
def execKcv (i : SymId) (s : State) : Host.Outcome State Fault Refusal :=
  .next (s.symCompute i.val 0x05 (fun run s => (engOk (checkValue (hdrAlg run.blob) run.key), s)))

/-- The child key of a parent under a label and a template (R276). -/
def childKey (parent label t : List Byte) : List Byte :=
  let n := (childLen (hdrAlg t)).getD 0
  let k := kdf parent label (hdrTenant t) (hdrAlg t) (hdrIndex t) (hdrVersion t) n
  if isTdea (hdrAlg t) then k.map oddParity else k

/-- DERIVE (R252, R276, R277): the child blob. -/
def execDerive (i : SymId) (s : State) : Host.Outcome State Fault Refusal :=
  .next (s.symCompute i.val 0x06 (fun run s =>
    let t := (run.inp 1).drop 32
    (engMaybe (s.wrapKey t (childKey run.key ((run.inp 1).take 32) t)), s)))

/-- COPY_CKPT (R253): the record under the destination hearth's key, or the destination zeroed where the old CMAC fails. -/
def execCopyCkpt (i : SymId) (s : State) : Host.Outcome State Fault Refusal :=
  .next (s.symCompute i.val 0x07 (fun run s =>
    let g := engRange run.words 2
    let d := engRange run.words 4
    let x := s.engRead (640 + i.val) g.1 g.2
    let hdr := x.1.take 32
    let region := x.1.drop 32
    let hs := (g.1 - fabricBase) / 0x400000
    let hd := (d.1 - fabricBase) / 0x400000
    if s.ckMac hs hdr region = slice hdr 0x18 8 then
      (engOk (hdr.take 0x18 ++ s.ckMac hd hdr region ++ region), x.2)
    else (engRefused St.faultHw 0x33, x.2.engWrite (640 + i.val) d.1 (zeros d.2))))

/-! ## The end of a job -/

/-- The running job ended with a result (R261): output, result record, wipe, doorbell. -/
def State.symEnd (s : State) (i : Nat) (run : EngRun) (r : EngResult) : State :=
  let s := if r.status = St.ok then s.engWrite (640 + i) (engRange run.words 4).1 r.out else s
  let s := if r.status = St.faultHw ∨ r.status = St.portDisabled then s.returnUses run else s
  let w14 := wd (r.status * 2 ^ 16 + r.code * 2 ^ 8 + 1)
  let s := s.setHbytes (run.req.desc + 56) (wordBytes w14 ++ wordBytes (wd r.out.length))
  let s := s.setSym i { s.symOf i with run := none }
  ((s.setF (Fld.SYM_STAT_BUSY (i / 4) (i % 4)) 0).symStat i).descBell run.req run.words

/-- The pair whose checkpoint buffer holds a fabric address (R123). -/
def ckPairOf (a : Nat) : Nat := (a - fabricBase) / 0x400000 * 32 + ((a - fabricBase) % 0x400000 - 0x300000) / 0x8000

/-- A COPY_CKPT has found that the CMAC of its record fails (R253, R521): the session of the pair that was to hold it, or of the one
that held it, is lost. -/
def State.copyLost (s : State) (run : EngRun) : State :=
  let dst := ckPairOf (engRange run.words 4).1
  let src := ckPairOf (engRange run.words 2).1
  match s.sessionOn dst, s.sessionOn src with
  | some x, _ => s.loseSession dst x
  | none, some x => s.loseSession src x
  | none, none => s

/-- SYM_JOB_COMPLETE (R261); the next descriptor then starts. -/
def execSymJobComplete (i : SymId) (s : State) : Host.Outcome State Fault Refusal :=
  let s := s.symBegin i.val
  .next (match (s.symOf i.val).run with
    | none => s
    | some run =>
      match run.result with
      | none => s
      | some r =>
        let s := s.symEnd i.val run r
        let s := if r.code = 0x33 then s.copyLost run else s
        if s.symClosed i.val then s.flushSym i.val else s.symStart i.val)

/-- The bytes that a running job writes in all into OUT. -/
def EngRun.outLen (run : EngRun) : Nat :=
  match run.result with
  | some r => r.out.length
  | none => (syOutLen run.words (run.inp 1)).getD 0

/-- SYM_PARITY_FAULT (R257): what the job has written into OUT, as many bytes as the manual does not say (log 85), is overwritten with
zeros, the job ends with FAULT_HW, CODE 0x31, and the self-test starts. -/
def execSymParityFault (i : SymId) (s : State) : Host.Outcome State Fault Refusal :=
  let h := i.val / 4
  let k := i.val % 4
  let s := s.symBegin i.val
  .next (match (s.symOf i.val).run with
    | none => s
    | some run =>
      let n := s.freshBytes 4
      let s := n.2.engWrite (640 + i.val) (engRange run.words 4).1 (zeros (ofLe n.1 % (run.outLen + 1)))
      let s := s.symEnd i.val run (engRefused St.faultHw 0x31)
      let s := s.setF (Fld.HRT_SFAULTS_FAULTS h) (min 65535 (s.getF (Fld.HRT_SFAULTS_FAULTS h) + 1))
      (s.setF (Fld.SYM_STAT_FAULTED h k) 1).setF (Fld.SYM_STAT_SELFTEST h k) 1)

/-- SYM_SELFTEST_DONE (R257). -/
def execSymSelftestDone (i : SymId) (pass : Bool) (s : State) : Host.Outcome State Fault Refusal :=
  let h := i.val / 4
  let k := i.val % 4
  .next (if !s.flag (Fld.SYM_STAT_SELFTEST h k) then s
    else
      let s := s.setF (Fld.SYM_STAT_SELFTEST h k) 0
      if pass then s.symStart i.val
      else
        let s := s.setF (Fld.HRT_SFAULTS_FAILS h) (min 65535 (s.getF (Fld.HRT_SFAULTS_FAILS h) + 1))
        let s := (s.setF (Fld.SYM_STAT_FAILED h k) 1).logEvent Src.engine 1 (640 + i.val) 0 0 0
        s.flushSym i.val)

end Sys2Proof.Machine
end

