-- ==== Sys2Proof/Machine/Units.lean ====
section
/-! DEFINITION. Taking units out of service (R26–R33): what each UCTL counts, reads and does, and the commands of its row. DRAINED,
DRAINING, STARTED and QUEUED are computed at the read; bit 30 of the stored register says that DRAINED was 0 when it was last looked
at. -/

namespace Sys2Proof.Machine

/-- The offset of a unit's UCTL (R26). -/
def unitOff : UnitId → Nat
  | .port n => Reg.PG_UCTL n.val
  | .hearth h => Reg.HRT_UCTL h.val
  | .pke h => Reg.PKE_UCTL h.val
  | .sym i => Reg.SYM_UCTL (i.val / 4) (i.val % 4)

/-- ENABLE of a unit. -/
def State.unitOn (s : State) (u : UnitId) : Bool := bit 0 (s.reg (unitOff u))

/-! ## Items -/

/-- A stream comes by host link l. -/
def onLink (src : Stream) (l : Nat) : Bool :=
  match src with
  | .queue l' _ => l'.val == l
  | _ => false

/-- A command has started (R27): it is a job that has reached its pair, or its reply is released. -/
def State.cmdStarted (s : State) (t : Taken) : Bool :=
  t.reply.isSome || (t.j != 0 && !s.jobs.any (fun j => j.j == t.j && j.phase == .admitted))

/-- The jobs on a hearth's pairs. -/
def State.hearthJobs (s : State) (h : Nat) : List Job := s.jobs.filter (fun j => hearthOf j.pair == h)

/-- The frames that jobs whose commit store has been performed will release at port n: they have started (R29). -/
def State.owedFrames (s : State) (n : Nat) : Nat :=
  ((s.jobs.filter (fun j => j.phase == .committing && !j.portsOff.contains n)).map (fun j => j.frames.countP (fun f => f.port == n))).sum
/-- The pulses that such jobs will release at port n. -/
def State.owedPulses (s : State) (n : Nat) : Nat :=
  ((s.jobs.filter (fun j => j.phase == .committing && !j.portsOff.contains n)).map (fun j =>
    j.pulses.countP (fun x => 56 + x.output == n))).sum

/-- Items of a port started, and queued (R27, R399). The item of a front end is an exchange: its frames follow one another at once
(DEDUCED; log 89). -/
def State.portItems (s : State) (n : Nat) : Nat × Nat :=
  if n < 2 then
    let mine := s.taken.filter (fun t => onLink t.src n && !t.lost)
    (mine.countP (fun t => s.cmdStarted t), mine.countP (fun t => !s.cmdStarted t))
  else if n < 10 then (0, (s.weave.links.get (fun _ => {}) (n - 2)).held.length)
  else if n < 42 then s.headItems (n - 10)
  else if n < 50 then
    let x := s.slotOf (n - 42)
    let run := b2n (x.phase == .reading || x.phase == .writing || x.phase == .busy)
    (run + s.owedFrames n, x.reads.length + x.writes.length - run)
  else if n < 54 then
    let u := s.rfOf (n - 50)
    (b2n u.result.isSome + s.owedFrames n, u.queue.length - b2n u.result.isSome)
  else if n < 56 then
    let u := s.scOf (n - 54)
    (b2n u.result.isSome, u.queue.length - b2n u.result.isSome)
  else if n < 72 then ((s.actOf (n - 56)).queue.length + s.owedPulses n, 0)
  else if n = 125 then (b2n s.mgtSending.isSome, s.mgtQueue.length)
  else (0, 0)

/-- Items of a unit started, and queued (R27). -/
def State.unitItems (s : State) (u : UnitId) : Nat × Nat :=
  match u with
  | .port n => s.portItems n.val
  | .hearth h =>
    let js := s.hearthJobs h.val
    (js.countP (fun j => j.phase != .admitted), js.countP (fun j => j.phase == .admitted))
  | .pke h => (b2n (s.pkeOf h.val).run.isSome, (s.pkeOf h.val).reqs.length)
  | .sym i => (b2n (s.symOf i.val).run.isSome, (s.symOf i.val).queue.length + b2n (s.symOf i.val).copy.isSome)

/-- The engines of a hearth are idle (R31). -/
def State.enginesIdle (s : State) (h : Nat) : Bool :=
  let p := s.unitItems (.pke (Fin.ofNat 16 h))
  p.1 + p.2 == 0 && (List.range 4).all (fun k =>
    let e := s.unitItems (.sym (Fin.ofNat 64 (4 * h + k)))
    e.1 + e.2 == 0)

/-- No item remains in a unit; a hearth is drained only with its engines idle (R31). -/
def State.unitEmpty (s : State) (u : UnitId) : Bool :=
  let n := s.unitItems u
  n.1 + n.2 == 0 && (match u with
    | .hearth h => s.enginesIdle h.val
    | _ => true)

/-- DRAINED changes from 0 to 1 (R26): DRAINEV sets. -/
def State.drained (s : State) (u : UnitId) : State :=
  (s.setF ⟨unitOff u, 30, 30⟩ 0).setF ⟨unitOff u, 2, 2⟩ 1

/-- DRAINED has changed from 0 to 1 where the unit is out of service, held items when it was last looked at, and holds none (R26). -/
def State.drainSync (s : State) (u : UnitId) : State :=
  if !s.unitOn u && bit 30 (s.reg (unitOff u)) && s.unitEmpty u then s.drained u else s

/-- What a read of a unit's UCTL returns (R26). -/
def State.uctlRead (s : State) (u : UnitId) : Word :=
  let w := (s.drainSync u).reg (unitOff u)
  let n := s.unitItems u
  let off := !bit 0 w
  setFld 31 31 (b2n (off && s.unitEmpty u)) (setFld 30 30 (b2n (off && !s.unitEmpty u))
    (setFld 23 16 (min 255 n.1) (setFld 15 8 (min 255 n.2) w)))

/-! ## ENABLE -/

/-- A write of ENABLE takes effect: R32 for hearth 0, R344 and R373 for ports 56–71, R359 for ports 72–123, R374 for port 127. -/
def State.enableTakes (s : State) (u : UnitId) (on : Bool) : Bool :=
  match u with
  | .hearth h => on || h.val != 0
  | .port n =>
    let k := n.val
    if 56 ≤ k ∧ k ≤ 71 then !on || (!s.tampered && s.lcState != 2 && s.lcState != 4)
    else if 72 ≤ k ∧ k ≤ 123 then on || (!s.flag Fld.TAMP_CTRL_LOCK && !s.tampered)
    else if k = 127 then on || !s.flag Fld.TAMP_CTRL_LOCK
    else true
  | _ => true

/-- The jobs admitted to a hearth's pairs and not started end with PORT_DISABLED (R28, R31). -/
def State.refuseJobs (s : State) (h : Nat) : State :=
  ((s.hearthJobs h).filter (fun j => j.phase == .admitted)).foldl (fun s j =>
    (s.release j.src j.tag (mkReply St.portDisabled 0) j.j false).dropJob j) s

/-- The queued items of a port end with PORT_DISABLED (R28), with what else the clearing of its ENABLE does (R39, R430). -/
def State.flushPort (s : State) (n : Nat) : State :=
  if n < 2 then s.refuseUnstarted (fun src => onLink src n)
  else if n < 10 then
    let s := (s.weaveLink (n - 2)).held.foldl (fun s _ => s.portLog n St.portDisabled 0 0) s
    s.updLink (n - 2) (fun x => { x with held := [] })
  else if n < 42 then s.flushHead (n - 10)
  else if n < 50 then s.endCartOps (n - 42) St.portDisabled 0x40 false
  else if n < 54 then s.flushRf (n - 50)
  else if n < 56 then s.flushSc (n - 54)
  else if n = 125 then (if s.booting then s else { s with mgtQueue := [] })
  else if n = 126 then s.disablePin
  else s

/-- Step 2 of R28 for a unit. -/
def State.flushUnit (s : State) (u : UnitId) : State :=
  match u with
  | .port n => s.flushPort n.val
  | .pke h => s.flushPke h.val
  | .sym i => s.flushSym i.val
  | .hearth h =>
    let s := (s.refuseJobs h.val).flushPke h.val
    (List.range 4).foldl (fun s k => s.flushSym (4 * h.val + k)) s

/-- The arming that goes with ENABLE of ports 72–123 (R359). -/
def State.armPort (s : State) (u : UnitId) (on : Bool) : State :=
  match u with
  | .port n => if 72 ≤ n.val ∧ n.val ≤ 123 then s.setArmed (n.val - 72) on else s
  | _ => s

/-- ENABLE set (R30). -/
def State.enableUnit (s : State) (u : UnitId) : State :=
  ((s.setF ⟨unitOff u, 0, 0⟩ 1).setF ⟨unitOff u, 30, 30⟩ 0).armPort u true

/-- ENABLE changed from 1 to 0 (R28). -/
def State.disableUnit (s : State) (u : UnitId) : State :=
  ((((s.setF ⟨unitOff u, 0, 0⟩ 0).setF ⟨unitOff u, 30, 30⟩ 1).armPort u false).flushUnit u).drainSync u

/-- A store of v to a unit's UCTL (R26, R28, R30). -/
def State.uctlStore (s : State) (u : UnitId) (v : Word) : State :=
  let o := unitOff u
  let s := (s.drainSync u).setF ⟨o, 1, 1⟩ (fld 1 1 v)
  let s := if bit 2 v then s.setF ⟨o, 2, 2⟩ 0 else s
  if !s.enableTakes u (bit 0 v) then s
  else if bit 0 v then s.enableUnit u
  else if s.unitOn u then s.disableUnit u
  else s

/-! ## Commands -/

/-- A write of ENABLE by a master that keeps DRAIN_IE and DRAINEV. -/
def State.enableWrite (s : State) (m : Nat) (u : UnitId) (on : Bool) : State :=
  s.masterWrite m (unitOff u) (fun s => .ok (s.uctlStore u ((s.reg (unitOff u) &&& 2#32) ||| wd (b2n on))))

/-- UNIT_ENABLE (R30). -/
def execUnitEnable (m : Master) (u : UnitId) (s : State) : Host.Outcome State Fault Refusal := .next (s.enableWrite m.val u true)

/-- UNIT_DISABLE (R28). -/
def execUnitDisable (m : Master) (u : UnitId) (s : State) : Host.Outcome State Fault Refusal := .next (s.enableWrite m.val u false)

/-- UNIT_DRAINED (R28 step 4, R26): the last started item of a unit out of service has ended. -/
def execUnitDrained (u : UnitId) (s : State) : Host.Outcome State Fault Refusal :=
  .next (s.drainSync u)

end Sys2Proof.Machine
end

