-- ==== Sys2Proof/Machine/Window.lean ====
section
/-! DEFINITION. What a read of a register returns (R6, R7, R9, R515): the fields that the device computes, the holds of values wider
than 32 bits, and write-only fields as zero. -/

namespace Sys2Proof.Machine

/-! ## Holds -/

/-- The values of two words (R9), lowest word and higher word: those whose registers are named LO and HI, and STG_VAL. The arrays of
bytes (UID, digests, keys, log entries) are no values of this kind (log 50). -/
def wideRegs : List (Nat × Nat) :=
  [(Reg.BEAT_COUNT_LO, Reg.BEAT_COUNT_HI), (Reg.BEAT_BASKET_OFS_LO, Reg.BEAT_BASKET_OFS_HI), (Reg.LEDG_LSN_LO, Reg.LEDG_LSN_HI),
   (Reg.LEDG_STG_VAL 0, Reg.LEDG_STG_VAL 1), (Reg.WEAVE_BASKET 0, Reg.WEAVE_BASKET 1),
   (Reg.HOST_AQ_SQ_LO 0, Reg.HOST_AQ_SQ_HI 0), (Reg.HOST_AQ_CQ_LO 0, Reg.HOST_AQ_CQ_HI 0),
   (Reg.HOST_AQ_SQ_LO 1, Reg.HOST_AQ_SQ_HI 1), (Reg.HOST_AQ_CQ_LO 1, Reg.HOST_AQ_CQ_HI 1)] ++
  (List.range 4).map (fun f => (Reg.RF_TUID_LO f, Reg.RF_TUID_HI f))

/-- The higher word of the value whose lowest word is at an offset (R9). -/
def heldBy (o : Nat) : Option Nat := (wideRegs.find? (fun x => x.1 == o)).map (·.2)

/-- The register at an offset is read from the reader's hold. -/
def isHeld (o : Nat) : Bool := wideRegs.any (fun x => x.2 == o)

/-- The present value of a higher word that a read of its lowest word copies. -/
def State.highNow (s : State) (m o : Nat) : Word :=
  if o = Reg.BEAT_COUNT_HI then wd (s.beatNow / 2 ^ 32)
  else if perMaster o then s.mreg m o
  else s.reg o

/-- The copying into a master's hold that goes with its read of an offset (R9). -/
def State.hold (s : State) (m o : Nat) : State :=
  match heldBy o with
  | some hi => { s with holds := s.holds.set zeroWord (mkey m hi) (s.highNow m hi) }
  | none => s

/-! ## Computed fields -/

/-- LCS.STAT with PENDING and MARKS (R354). -/
def State.lcsStat (s : State) : Word :=
  match s.otp.pendingRecord with
  | some r => setFld 31 31 1 (setFld 23 16 (s.otp.marksOf r) (s.reg Reg.LCS_STAT))
  | none => setFld 31 31 0 (setFld 23 16 0 (s.reg Reg.LCS_STAT))

/-- LCS.HALTED<w> (R354). -/
def State.haltedWord (s : State) (w : Nat) : Word :=
  wd ((List.range 32).foldl (fun v i => v + b2n (s.pair (32 * w + i)).halted * 2 ^ i) 0)

/-- PAIRSUM of a hearth (R116). -/
def State.pairSum (s : State) (h : Nat) : Word :=
  let n := fun (f : Nat → Bool) => (List.range 32).countP (fun k => f (s.role (32 * h + k)))
  wd (2 ^ 16 * n (· == Role.spare) + 2 ^ 8 * n (· == Role.retired) + n (fun r => r == Role.loading || r == Role.session))

/-- ARB_STAT with WAITING (R189). -/
def State.arbStat (s : State) (a : ArbId) : Word :=
  setFld 5 0 (match a with
    | .bank _ _ => 0
    | _ => (s.arb a).waiting.length) (s.reg (arbStatOf a))

/-- A SCRUB register with LATE (R163). -/
def State.scrubRead (s : State) (u : Nat) : Word := setFld 30 30 (b2n ((s.scrubUnit u).late s.beatNow)) (s.reg (scrubReg u))

/-- LEDG.STAT with OPEN and LOCKED (R304). -/
def State.ledgStat (s : State) : Word :=
  setFld 21 16 s.ledger.openCount (setFld 15 0 (min 65535 s.lockedCount) (s.reg Reg.LEDG_STAT))

/-- MSTAT.ORPHANS (R470): the origin entries in ORPHAN, RESYNC or CONFLICT. -/
def State.orphans (s : State) : Nat :=
  s.ledger.dir.countP (fun e => match e.2.entry.asMirror with
    | some (_, _, _, st, _) => st == 2 || st == 5 || st == 6
    | none => false)

/-- HEAD STAT with OUT and FQ (R431). -/
def State.headStat (s : State) (h : Nat) : Word :=
  let out := s.taken.countP (fun t => !t.lost && (match t.src with
    | .head k => k.val == h
    | _ => false))
  setFld 27 24 (min 8 out) (setFld 20 16 (s.noticePlaces h) (s.reg (Reg.HEAD_STAT h)))

/-- CRT STAT with WQ (R394). -/
def State.crtStat (s : State) (k : Nat) : Word := setFld 10 8 (s.cartWq k) (s.reg (Reg.CRT_STAT k))

/-- ACT STAT with RSVD (R442). -/
def State.actStat (s : State) (n : Nat) : Word := setFld 3 0 (s.pulsesStaged n) (s.reg (Reg.ACT_STAT n))

/-- RNG.STAT with LEVEL (R271). -/
def State.rngStat (s : State) : Word := setFld 12 0 s.rng.level (s.reg Reg.RNG_STAT)

/-- The computed registers of a hearth block, by offset inside it. -/
def State.hearthRead (s : State) (h r : Nat) : Option Word :=
  if r = 0 then some (s.uctlRead (.hearth (Fin.ofNat 16 h)))
  else if r = 0x10 then some (s.pairSum h)
  else if r = 0x40 then some (s.scrubRead h)
  else if r = 0x604 then some (s.arbStat (.pke (Fin.ofNat 16 h)))
  else if r = 0x614 then some (s.arbStat (.bank (Fin.ofNat 16 h) 0))
  else if r = 0x800 then some (s.uctlRead (.pke (Fin.ofNat 16 h)))
  else if r = 0xA40 ∨ r = 0xA80 ∨ r = 0xAC0 ∨ r = 0xB00 then some (s.uctlRead (.sym (Fin.ofNat 64 (4 * h + (r - 0xA40) / 0x40))))
  else none

/-- SYS.BOOT with MS (R492): while it counts, the milliseconds are a free value (log 1). -/
def State.bootWord (s : State) : Word :=
  if s.booting then setFld 15 0 ((Config.freeByte s.free).toNat + 256 * (Config.freeByte (s.free + 1)).toNat) (s.reg Reg.SYS_BOOT)
  else s.reg Reg.SYS_BOOT

/-- The computed registers of the system blocks. -/
def State.systemRead (s : State) (o : Nat) : Option Word :=
  if o = Reg.SYS_IRQ_SRC then some s.irqSrc
  else if o = Reg.SYS_BOOT then some s.bootWord
  else if o = Reg.BEAT_COUNT_LO then some (wd (s.beatNow % 2 ^ 32))
  else if o = Reg.LCS_STAT then some s.lcsStat
  else if Reg.LCS_UID 0 ≤ o ∧ o < Reg.LCS_UID 4 then some (wd (leAt deviceUid (o - Reg.LCS_UID 0) 4))
  else if Reg.LCS_HALTED 0 ≤ o ∧ o < Reg.LCS_HALTED 16 then some (s.haltedWord ((o - Reg.LCS_HALTED 0) / 4))
  else if o = Reg.RNG_DATA then some 0
  else if o = Reg.RNG_STAT then some s.rngStat
  else if o = Reg.NVMC_ARB_STAT then some (s.arbStat .nvm)
  else if o = Reg.LEDG_STAT then some s.ledgStat
  else if o = Reg.LEDG_DSCRUB then some (s.scrubRead 16)
  else if Reg.FLUE_FULL 0 ≤ o ∧ o < Reg.FLUE_FULL 64 then some (s.flueFullWord ((o - Reg.FLUE_FULL 0) / 4))
  else none

/-- The computed registers of the port class blocks. -/
def State.classRead (s : State) (o : Nat) : Option Word :=
  if o = Reg.WEAVE_MSTAT then some (setFld 15 0 (min 65535 s.orphans) (s.reg Reg.WEAVE_MSTAT))
  else if o / 0x1000 = 0x302 then ((List.range 32).find? (fun h => o == Reg.HEAD_STAT h)).map s.headStat
  else if o / 0x1000 = 0x303 then ((List.range 8).find? (fun k => o == Reg.CRT_STAT k)).map s.crtStat
  else if o / 0x1000 = 0x306 then ((List.range 16).find? (fun k => o == Reg.ACT_STAT k)).map s.actStat
  else none

/-- The computed register at an offset, if it is one. -/
def State.computed (s : State) (o : Nat) : Option Word :=
  if o < 0x100000 then s.systemRead o
  else if o < 0x110000 then s.hearthRead ((o - 0x100000) / 0x1000) (o % 0x1000)
  else if 0x200000 ≤ o ∧ o < 0x208000 then
    if o % 0x100 = 0 then some (s.uctlRead (.port (Fin.ofNat 128 ((o - 0x200000) / 0x100))))
    else if o % 0x100 = 8 then some (s.pgStat ((o - 0x200000) / 0x100))
    else none
  else if o < 0x300000 then none
  else s.classRead o

/-- A register without its write-only fields (R6). -/
def readable (fs : List Field) (w : Word) : Word :=
  fs.foldl (fun w f => if f.acc = .wo then setFld f.hi f.lo 0 w else w) w

/-- LEDG.STG_RES of a master with STAGED (R304): the updates that its armed job has staged. -/
def State.stgRes (s : State) (m : Nat) : Word :=
  setFld 4 0 (((s.armedJob m).map (fun j => j.updates.length)).getD 0) (s.mreg m Reg.LEDG_STG_RES)

/-- What a read of the register at an offset returns to master m, without the read's own effects (R6, R9, R515). -/
def State.windowRead (s : State) (m o : Nat) : Word :=
  match s.computed o with
  | some w => w
  | none =>
    if isHeld o then s.holds.get zeroWord (mkey m o)
    else if o = Reg.LEDG_STG_RES then s.stgRes m
    else readable (fieldsAt o) (if perMaster o then s.mreg m o else s.reg o)

end Sys2Proof.Machine
end

