-- ==== Sys2Proof/Machine/Events.lean ====
section
/-! DEFINITION. The event log as masters reach it (R483–R487, R492): the entry layout, supervisor entries, LOG_IDX, and the management
serial port. -/

namespace Sys2Proof.Machine

/-- The 32 bytes of an entry (R483). -/
def LogEntry.bytes (e : LogEntry) : List Byte :=
  leBytes 6 e.beat ++ leBytes 2 e.seq ++ leBytes 1 e.src ++ leBytes 1 e.flags ++ leBytes 2 e.code ++ leBytes 2 e.unit ++ zeros 2 ++
    wordBytes e.arg0 ++ wordBytes e.arg1 ++ leBytes 8 e.arg2

/-! ## Supervisor entries -/

/-- The entry that the stored words LOG_W<0>–LOG_W<7> spell, registered (R486): BEAT, SEQ, FLAGS bit 0 and SRC are the hardware's. -/
def State.takeLogWords (s : State) : State :=
  let w := fun i => s.reg (Reg.SYS_LOG_W i)
  s.logEvent Src.supervisor (fld 31 16 (w 2)) (fld 15 0 (w 3)) (w 4) (w 5) ((w 6).toNat + 2 ^ 32 * (w 7).toNat)

/-- The decision on a store by a pair to LOG_W<i> (R486): bus error from any other master than a supervisor pair. -/
def State.logWordStore (s : State) (p i : Nat) (v : Word) : Resp :=
  if !s.isSupervisor p then busAt s (Reg.SYS_LOG_W i)
  else
    let s := s.setReg (Reg.SYS_LOG_W i) v
    .ok (if i = 7 then s.takeLogWords else s)

/-- LOG_WRITE (R486): the store to LOG_W<7>. -/
def execLogWrite (p : PairId) (v : Word) (s : State) : Host.Outcome State Fault Refusal :=
  .next (s.pairAccess p.val (Reg.SYS_LOG_W 7) .store (fun s => s.logWordStore p.val 7 v))

/-! ## LOG_IDX -/

/-- A write of LOG_IDX by a master (R492, R515): its own copies of LOG_DATA take entry SEQ, or zeros where it is not held. -/
def State.logIdxStore (s : State) (m : Nat) (v : Word) : State :=
  let seq := fld 15 0 v
  let bs := ((s.log.find? (fun e => e.seq == seq)).map (·.bytes)).getD (zeros 32)
  (List.range 8).foldl (fun s w => s.setMreg m (Reg.SYS_LOG_DATA w) (wd (leAt bs (4 * w) 4))) (s.setMreg m Reg.SYS_LOG_IDX (wd seq))

/-- LOG_IDX_WRITE (R492): open to the host links too (R513). -/
def execLogIdxWrite (m : Master) (v : Word) (s : State) : Host.Outcome State Fault Refusal :=
  .next (if m.val = 512 ∨ m.val = 513 then s.logIdxStore m.val v
    else s.masterWrite m.val Reg.SYS_LOG_IDX (fun s => .ok (s.logIdxStore (identOf m.val) v)))

/-! ## Management serial port -/

/-- An upper-case hexadecimal digit in ASCII. -/
def hexDigit (n : Nat) : Byte := byte (if n < 10 then 48 + n else 55 + n)
/-- The line that MGT_TX sends for an entry (R487): 64 digits, CR, LF. -/
def LogEntry.line (e : LogEntry) : List Byte :=
  e.bytes.flatMap (fun b => [hexDigit (b.toNat / 16), hexDigit (b.toNat % 16)]) ++ [byte 13, byte 10]

/-- MGT_ENTRY_SENT (R487): the entry in transmission has been sent, and the next one starts. -/
def execMgtEntrySent (s : State) : Host.Outcome State Fault Refusal :=
  .next (match s.mgtSending with
    | none => s
    | some e => { (s.emit (.mgt e.line)) with mgtSending := s.mgtQueue.head?, mgtQueue := s.mgtQueue.drop 1 })

end Sys2Proof.Machine
end

