-- ==== Sys2Proof/Machine/Boot.lean ====
section
/-! DEFINITION. Reset and boot (R471–R482, R498): supplies and RST_N, the boot stages, the transition steps of the life cycle
(R341–R343), and gate 0 READY, RESET and FLOOR. -/

namespace Sys2Proof.Machine

/-! ## Supplies and pins -/

/-- POWER_ON (R471, R472): VDD_CORE and VDDIO_33 have reached their operating levels; the backup domain runs from VDDIO_33 (R370). -/
def execPowerOn (s : State) : Host.Outcome State Fault Refusal := .next (s.powerOnReset.changeover false)

/-- PIN_RESET (R471): RST_N low for a number of nanoseconds, and high again. -/
def execPinReset (ns : Nat) (s : State) : Host.Outcome State Fault Refusal :=
  .next (if ns < 1000 then s
    else if s.porHeld then s.setReg Reg.SYS_RSTCAUSE (s.reg Reg.SYS_RSTCAUSE ||| wd (2 ^ RstBit.pin))
    else s.deviceReset (wd (2 ^ RstBit.pin)))

/-- What is not finished is cut as by a loss of power, and power-on reset is held (R498); it is the only source recorded. -/
def State.holdReset (s : State) : State := { s.powerOnReset.setReg Reg.SYS_RSTCAUSE 1 with porHeld := true }

/-- An event of a supply monitor (R499). -/
def State.supplyEvent (s : State) (m : Nat) : State := if s.onMain && !s.stimulated m then s.monitorEvent m else s

/-- SUPPLY_FALL (R498): a rail has fallen from its operating level to `mv` millivolts; the thresholds it crossed act in order. -/
def execSupplyFall (rail : Rail) (mv : Nat) (s : State) : Host.Outcome State Fault Refusal :=
  .next (match rail with
    | .vddCore =>
      let s := if mv < 690 then s.supplyEvent 52 else s
      if mv < 600 then s.holdReset else s
    | .vddio18 => if mv < 1620 then s.supplyEvent 54 else s
    | .vddio33 =>
      let s := if mv < 3050 then s.supplyEvent 54 else s
      let s := if mv < 3000 then s.changeover true else s
      if mv < 2800 then s.holdReset else s)

/-! ## Boot stages -/

/-- BOOT.MS stops (R492): the milliseconds are a free value (log 1). -/
def State.stopMs (s : State) : State :=
  let r := s.freshBytes 2
  r.2.setF Fld.SYS_BOOT_MS (ofLe r.1)

/-- A stage begins, with its event-log entry (R476, R484). -/
def State.bootStage (s : State) (n : Nat) : State := (s.setF Fld.SYS_BOOT_STAGE n).logEvent Src.boot n 0 0 0 0

/-- Boot fails in the present stage (R477). -/
def State.bootFail (s : State) : State := s.stopMs.setF Fld.SYS_BOOT_FAIL 1

/-- The event-log entries of the reset's causes (R484). -/
def State.logCauses (s : State) : State :=
  (List.range 7).foldl (fun s k => if bit k (s.reg Reg.SYS_RSTCAUSE) then s.logEvent Src.boot (0x10 + k) 0 0 0 0 else s) s

/-! ## Ledger establishment and life-cycle steps -/

/-- The blob store (R284). -/
abbrev blobBase : Nat := 0x2800000

/-- The header of the blob of entry 0 (R289): ECDSA P-256 with SIGN and ATTEST; curve slot 0 (log 48). -/
def identityHeader : List Byte :=
  leBytes 1 1 ++ leBytes 1 1 ++ leBytes 2 0x100 ++ leBytes 2 0x440 ++ zeros 2 ++ leBytes 4 0 ++ leBytes 4 1 ++
    leBytes 4 0xFFFFFFFF ++ leBytes 4 0xFFFFFFFF ++ leBytes 6 (2 ^ 48 - 1) ++ zeros 2

/-- Bytes padded to whole units, as they are programmed. -/
def padUnits (bs : List Byte) : List Byte := bs ++ List.replicate ((32 - bs.length % 32) % 32) 0xFF#8

/-- The empty ledger established (R290, R341): every entry free, entry 0 generated and entry 1 zero, in the group with LSN 1. -/
def State.establish (s : State) (r : Root) : State :=
  let s := { s with keys := { s.keys with root := some r } }
  let d := s.freshBytes 40
  let key := leBytes 32 (ofLe d.1 % (p256.n - 1) + 1)
  let s := match d.2.wrapKey identityHeader key with
    | some b => d.2.nvmProgram blobBase (padUnits b)
    | none => d.2
  let e0 : Entry := ⟨0, true, false, false, false, .key 0 (2 ^ 48 - 1) 1 0 0xFFFF⟩
  let e1 : Entry := ⟨0, true, false, false, false, .counter 0 1⟩
  let l := ({ ({} : Ledger) with established := true, bad := s.ledger.bad }).rotate
  let l := l.program ⟨1, [(0, e0), (1, e1)], true⟩
  { s with ledger := { l with dir := [(0, ⟨e0, 1⟩), (1, ⟨e1, 1⟩)], nextLsn := 2 } }

/-- The ledger pool erased. -/
def State.erasePool (s : State) : State := { s with ledger := { ({} : Ledger) with bad := s.ledger.bad } }
/-- The blob store erased. -/
def State.eraseBlobs (s : State) : State := s.nvmErase blobBase 0x800000
/-- The check value of a root programmed (R274). -/
def State.storeCheck (s : State) (r : Root) : State := { s with keys := s.keys.setCheck r (s.rootCheck r) }
/-- The backup key register loaded from 32 RNG bytes (R341), which ends what ZEROISED tells (R373); free values (log 1). -/
def State.loadBackupKey (s : State) : State :=
  let d := s.freshBytes 32
  ({ d.2 with keys := { d.2.keys with backupKey := d.1 } }).setF Fld.TAMP_STAT_ZEROISED 0
/-- The backup key register cleared. -/
def State.clearBackupKey (s : State) : State := { s with keys := { s.keys with backupKey := [] } }

/-- The work of mark M_k of a record in state st (R341); none where it fails (R343). Records 8–15 are the re-provision records. -/
def State.lcStep (s : State) (r st k : Nat) (rngOk : Bool) : Option State :=
  if r = 1 then (if k = 1 ∧ s.keys.checkOf .vendor ≠ some (s.rootCheck .vendor) then none else some s)
  else if r = 2 then
    if k = 1 then some s.erasePool.eraseBlobs
    else if k = 2 then (if rngOk then some (s.loadBackupKey.storeCheck .field) else none)
    else if k = 3 then some (s.establish .field)
    else some s
  else if r = 3 then
    if k = 1 then some s.erasePool.eraseBlobs
    else if k = 2 then some ((s.storeCheck .develop).establish .develop)
    else some s
  else if r = 4 then
    if st ≠ 3 then some s
    else if k = 1 then some s.erasePool.eraseBlobs
    else if k = 2 then some (s.establish .field)
    else some s
  else if r = 6 ∨ r = 7 then
    if k = 1 then some (s.clearBackupKey.setF Fld.LEDG_STAT_SEALED 1)
    else if k = 2 then some s.eraseBlobs
    else if k = 3 then some s.erasePool
    else if k = 4 then some (s.nvmErase 0 0x2000000)
    else
      let s := s.nvmErase 0x2100000 0x1EE0000
      let s := { s with keys := { s.keys with checks := s.keys.checks.filter (fun e => e.1 != .field && e.1 != .develop) } }
      some (if r = 6 then s.storeCheck .analysis else s)
  else if 8 ≤ r then
    if k = 1 then some s.clearBackupKey
    else if k = 2 then some s.eraseBlobs.erasePool
    else if k = 3 then (if rngOk then some (s.loadBackupKey.storeCheck .field) else none)
    else if k = 4 then some (s.establish .field)
    else some s
  else some s

/-- A mark set, with its event-log entry (R341, R484). -/
def State.setMark (s : State) (r k : Nat) : State := ({ s with otp := s.otp.setMark r k }).logEvent Src.lifecycle 3 0 0 0 0

/-- The steps M1–M5 of a record that remain, in order; the Bool says whether they all succeeded (R342). The work of mark `bad` fails
(R343). -/
def State.lcSteps (r st : Nat) (rngOk : Bool) (bad : Option (Fin 8)) : List Nat → State → State × Bool
  | [], s => (s, true)
  | k :: ks, s =>
    if s.otp.mark r k then State.lcSteps r st rngOk bad ks s
    else if bad.any (fun m => m.val == k) then (s, false)
    else match s.lcStep r st k rngOk with
      | some t => State.lcSteps r st rngOk bad ks (t.setMark r k)
      | none => (s, false)

/-- After the last step (R341): the fuse and M6, the legacy mirror and M7. The fuse for RETURNED clears LATCH (R374). -/
def State.lcFinish (s : State) (r : Nat) : State :=
  let s := if r < 8 && !s.otp.mark r 6 then { s with otp := s.otp.blow r } else s
  let s := if r = 6 && !s.otp.mark r 6 then s.setF Fld.TAMP_STAT_LATCH 0 else s
  let s := if s.otp.mark r 6 then s else s.setMark r 6
  let s := { s with otp := { s.otp with legacy := s.otp.legacy ||| legacyOf s.otp.counter } }
  s.setMark r 7

/-- A pending record resumed (R341–R343): the device resets at its end, or is STUCK. -/
def State.resumeRecord (s : State) (r : Nat) (env : BootEnv) : State :=
  let s := s.setF Fld.SYS_BOOT_RESUMED 1
  let x := State.lcSteps r s.lcState env.rngOk env.failedMark [1, 2, 3, 4, 5] s
  if x.2 && !env.failedMark.any (fun m => decide (6 ≤ m.val)) then (x.1.lcFinish r).deviceReset (wd (2 ^ RstBit.lc))
  else (x.1.setF Fld.LCS_STAT_STUCK 1).bootFail

/-! ## Stages -/

/-- The root of the present state, absent where its check value differs (R273, R274). A device that is not enrolled yet is enrolled
in BLANK (log 49). An absent field root seals the ledger and makes the device report TAMPERED (R373). -/
def State.bootRoot (s : State) : State :=
  let st := s.lcState
  let s := if st = 0 ∧ s.keys.checkOf .vendor = none then s.storeCheck .vendor else s
  let root := (rootOf st).filter (fun r => s.keys.checkOf r == some (s.rootCheck r))
  let s := { s with keys := { s.keys with root := root } }
  if (st = 2 ∨ st = 4 ∨ st = 5) ∧ root = none then (s.setF Fld.TAMP_STAT_TAMPERED 1).setF Fld.LEDG_STAT_SEALED 1 else s

/-- The debug rights of an open state (R332, R345). -/
def State.bootDebug (s : State) : State :=
  if s.flag Fld.LCS_STAT_OPEN then (s.setF Fld.LCS_STAT_DEBUG 1).setF Fld.LCS_STAT_HALTRIGHT 1 else s

/-- One backup log entry copied into the event log (R372): the stamp is BKTICK, and FLAGS bit 1 says that it is a copy. An entry
of an event on battery takes CODE 1, one of an alarm CODE 2 (log 18). -/
def State.copyBackup (s : State) (i : Nat) : State :=
  let w := s.reg (Reg.TAMP_BKLOG_W1 i)
  s.logRaw (s.reg (Reg.TAMP_BKLOG_W0 i)).toNat 2 Src.tamper (if bit 16 w && !bit 17 w then 1 else 2) (fld 7 0 w) (wd (fld 15 8 w)) 0 0

/-- Stage BACKUP (R372, R359). -/
def State.bootBackup (s : State) : State :=
  let n := s.tamper.bkFresh
  let last := s.getF Fld.TAMP_BKLOG_PTR_NEXT
  let s := (List.range n).foldl (fun s k => s.copyBackup ((last + 64 - n + k) % 64)) s
  let s := { s with tamper := { s.tamper with bkFresh := 0 } }
  (List.range 52).foldl (fun s m => s.setF (Fld.PG_UCTL_ENABLE (72 + m)) (b2n (s.armed m))) s

/-- Stage NVM (R325, R329, R480): the refresh that was cut is completed, the pool sectors ahead are erased, BOOTS advances. -/
def State.bootNvm (s : State) : State :=
  let s := s.recoverRefresh
  let s := { s with ledger := { s.ledger with sectors := s.ledger.sectors.filter (fun t => !t.retired) } }
  let s := s.setF Fld.NVMC_POOL_BAD s.ledger.bad.length
  { s with bootCount := (s.bootCount + 1) % 2 ^ 32, patrolStart := s.beatNow }

/-- Stage SELFTEST (R270, R235, R257, R158, R230, R125): the sources that failed their start-up test are failed, the expander has passed and
is instantiated, the per-boot keys are drawn, and engines that failed are FAILED. The keys are 16 of checkpoint records, one of vetting
records, and 17 of the fabric. -/
def State.bootSelftest (s : State) (env : BootEnv) : State :=
  let s := env.failedSources.foldl (fun s i => s.failStartup i.val) s
  let s := ({ s with rng := { s.rng with expanderOk := true } }).instantiate.rngUpdate.rngFill
  let k := s.drawHw 544
  let s := { k.2 with keys := { k.2.keys with bootKeys := k.1 } }
  let s := env.failedPke.foldl (fun s h =>
    (s.setF (Fld.PKE_STAT_FAILED h.val) 1).logEvent Src.engine 1 (704 + h.val) 0 0 0) s
  env.failedSym.foldl (fun s i =>
    (s.setF (Fld.SYM_STAT_FAILED (i.val / 4) (i.val % 4)) 1).logEvent Src.engine 1 (640 + i.val) 0 0 0) s

/-- A mirror entry of an origin enters RESYNC, without a log write (R468). -/
def Entry.resync (e : Entry) : Entry :=
  match e.body with
  | .mirror lo n r st h => { e with body := .mirror lo n r (if st = 1 ∨ st = 2 ∨ st = 3 then 5 else st) h }
  | _ => e

/-- Entry 1 set to BOOTS (R289), in a group of its own. -/
def State.writeBoots (s : State) : State :=
  let e : Entry := ⟨0, true, false, false, false, .counter s.boots 1⟩
  let l := s.ledger
  let g : Group := ⟨l.nextLsn, [(1, e)], true⟩
  let s := ({ s with ledger := { (l.program g) with nextLsn := l.nextLsn + 1 } }).setEntry 1 e g.lsn
  (s.setLsn g.lsn).incWrap Reg.LEDG_COMMITS 1

/-- A directory entry whose mirror state is set as a boot sets it (R468). -/
def DirEntry.resync (d : DirEntry) : DirEntry := { d with entry := d.entry.resync }
/-- Every copy and original as a boot sets its mirror state (R468). -/
def Ledger.resyncCopies (l : Ledger) : Ledger := { l with dir := l.dir.map (fun (e : Nat × DirEntry) => (e.1, e.2.resync)) }

/-- Stage LEDGER (R298, R289, R468). -/
def State.bootLedger (s : State) : State :=
  if s.lcState ≤ 1 || !s.ledger.established || s.isSealed then s
  else
    let r := s.ledger.rebuild (fun o => s.hasFlaw (unitFlaw o))
    let s := { s with ledger := r.1.resyncCopies }
    let s := (s.setF Fld.NVMC_POOL_HEAD ((s.ledger.head.map (fun (h : LogSector) => h.p)).getD 0)).incWrap Reg.NVMC_POOL_STEPS 1
    let s := s.poolErase.setF Fld.LEDG_TORN_COUNT (min 65535 r.2)
    let s := if r.2 = 0 then s else (s.setF Fld.LEDG_STAT_TORNEV 1).logEvent Src.ledger 1 0 (wd r.2) 0 0
    s.touchHead.writeBoots.setF Fld.LEDG_STAT_READY 1

/-! ## The supervisor image -/

/-- Offset of supervisor image slot A or B in bank 0 (R478). -/
def imageSlot (b : Bool) : Nat := if b then 0x100000 else 0
/-- A field of a slot's header. -/
def State.imgField (s : State) (b : Bool) (o n : Nat) : Nat := leAt (s.nbytes (imageSlot b) 64) o n
/-- The payload of a slot. -/
def State.imgPayload (s : State) (b : Bool) : List Byte := s.nbytes (imageSlot b + 64) (s.imgField b 0x0C 4)

/-- A slot's header is well formed (R478; log 51). -/
def State.imgWellFormed (s : State) (b : Bool) : Bool :=
  let f := s.imgField b
  let size := f 0x0C 4
  let load := f 0x10 4
  let entry := f 0x14 4
  f 0 4 == 0x56534843 && f 4 2 == 1 && f 6 2 == 0 && decide (1 ≤ size ∧ size % 32 = 0 ∧ 64 + size + f 0x1E 2 + f 0x20 2 ≤ 0x100000) &&
  decide (0x10000000 ≤ load ∧ load % 32 = 0 ∧ load + size ≤ 0x10300000 ∧ load ≤ entry ∧ entry < load + size ∧ entry % 4 = 0) &&
  (if f 0x1C 2 = 0 then f 0x1E 2 == 0 && f 0x20 2 == 0 else lcAlgLens (f 0x1C 2) == some (f 0x1E 2, f 0x20 2)) &&
  slice (s.nbytes (imageSlot b) 64) 0x22 30 == zeros 30

/-- The digest of the authority that signs supervisor images in a state (R332): the owner's in 2–5, the vendor's in 6. -/
def State.imgAuthority (s : State) : Option (List Byte) :=
  let st := s.lcState
  if 2 ≤ st ∧ st ≤ 5 then s.authorityDigest 0 else if st = 6 then s.authorityDigest 1 else none

/-- A slot's signature meets the authority of the state (R479). -/
def State.imgSigned (s : State) (b : Bool) : Bool :=
  let alg := s.imgField b 0x1C 2
  if alg = 0 then decide (s.lcState ≤ 1)
  else
    let o := imageSlot b + 64 + s.imgField b 0x0C 4
    let pk := s.nbytes o (s.imgField b 0x1E 2)
    let sig := s.nbytes (o + s.imgField b 0x1E 2) (s.imgField b 0x20 2)
    match s.imgAuthority with
    | some d => sha256 pk == d && lcVerify alg pk sig (sha256 (s.nbytes (imageSlot b) 64 ++ s.imgPayload b))
    | none => false

/-- A slot is acceptable (R479). -/
def State.imgAcceptable (s : State) (b : Bool) : Bool :=
  s.imgWellFormed b && (crc32c (s.imgPayload b)).toNat == s.imgField b 0x18 4 && decide (s.imageFloor ≤ s.imgField b 8 4) &&
  s.imgSigned b

/-- The slot taken (R479): the higher VERSION, and slot A on a tie. -/
def State.imgChoice (s : State) : Option Bool :=
  match s.imgAcceptable false, s.imgAcceptable true with
  | true, true => some (decide (s.imgField false 8 4 < s.imgField true 8 4))
  | true, false => some false
  | false, true => some true
  | false, false => none

/-- Stages RELEASE and FIRMWARE (R476, R479): hearths 1–15 enabled, the gates of every pair programmed (R72), pairs 0 and 1 in the
image. -/
def State.bootRelease (s : State) : State :=
  let s := s.bootStage 9
  let s := (List.range 15).foldl (fun s h => s.setF (Fld.HRT_UCTL_ENABLE (h + 1)) 1) s
  let s := (List.range 512).foldl (fun s p => s.updPair p Pair.programGates) s
  let s := s.startSupervisor 0 (s.pair 0) 0
  (s.startSupervisor 1 (s.pair 1) 0).bootStage 10

/-- Stages IMAGE to FIRMWARE. -/
def State.bootImage (s : State) : State :=
  let s := s.bootStage 8
  match s.imgChoice with
  | none => s.bootFail
  | some b =>
    let s := s.setF Fld.SYS_BOOT_IMG (b2n b)
    (s.setHbytes (s.imgField b 0x10 4 - 0x10000000) (s.imgPayload b)).bootRelease

/-- Stages BACKUP to LEDGER, and on. -/
def State.bootOn (s : State) (env : BootEnv) : State :=
  let s := ((s.bootStage 4).bootBackup).bootStage 5
  if !env.bootsOk then s.bootFail
  else
    let s := s.bootNvm.bootStage 6
    if !env.rngOk || (List.range 4).all (fun i => env.failedSources.any (fun f => f.val == i)) then s.bootFail
    else ((s.bootSelftest env).bootStage 7).bootLedger.bootImage

/-- Stage LC (R333, R342, R273): in SCRAP the start stops here (R332). -/
def State.bootLc (s : State) (env : BootEnv) : State :=
  let s := s.bootStage 3
  match s.otp.pendingRecord with
  | some r => s.resumeRecord r env
  | none =>
    let s := s.bootRoot.bootDebug
    if s.lcState = 7 then s else s.bootOn env

/-- BOOT (R476, R477): the stages from RESET to FIRMWARE after a reset, once. A ROM whose digest differs writes no log entry. -/
def execBoot (env : BootEnv) (s : State) : Host.Outcome State Fault Refusal :=
  .next (
    if s.porHeld || s.getF Fld.SYS_BOOT_STAGE != 0 || !s.booting then s
    else if !env.romOk then (s.setF Fld.SYS_BOOT_STAGE 1).bootFail
    else
      let s := ((s.bootStage 0).logCauses.bootStage 1).bootStage 2
      if !(env.helper0Ok || env.helper1Ok) || !env.pufOk then s.bootFail else s.bootLc env)

/-! ## Gate 0 -/

/-- GATE0_READY (R481, R482): function 1. -/
def execGate0Ready (p : PairId) (s : State) : Host.Outcome State Fault Refusal :=
  .next (s.gateService p.val 0 1 6 (fun s =>
    if s.flag Fld.SYS_BOOT_READY then s.gateReturn p.val [St.param]
    else ((s.stopMs.setF Fld.SYS_BOOT_READY 1).setF Fld.SYS_BOOT_STAGE 0x0B).gateReturn p.val [St.ok]))

/-- GATE0_RESET (R482): function 2. -/
def execGate0Reset (p : PairId) (s : State) : Host.Outcome State Fault Refusal :=
  .next (s.gateService p.val 0 2 6 (fun s =>
    if s.gateArg p.val 4 = 0x5A17 then s.deviceReset (wd (2 ^ RstBit.soft + 2 ^ RstBit.fw)) else s.gateReturn p.val [St.param]))

/-- FLOOR (R482): function 5. -/
def execFloor (p : PairId) (s : State) : Host.Outcome State Fault Refusal :=
  .next (s.gateService p.val 0 5 6 (fun s =>
    if s.gateArg p.val 4 < s.imageFloor then s.gateReturn p.val [St.policy]
    else ({ s with imageFloor := s.gateArg p.val 4 }).gateReturn p.val [St.ok]))

end Sys2Proof.Machine
end

