-- ==== Sys2Proof/Machine/Ash.lean ====
section
/-! DEFINITION. The ash dumps (R488–R490): slots, ASH_WRITE, ASH_ERASE and ASH_OPEN through gate 0. -/

namespace Sys2Proof.Machine

/-- The NVM offset of an ash slot (R488). -/
def ashBase (k : Nat) : Nat := 0x2100000 + 0x40000 * k

/-- "CHLASHOK" then zeros. -/
def ashOkUnit : List Byte := ascii [67, 72, 76, 65, 83, 72, 79, 75] ++ zeros 24
/-- "CHLASH01". -/
def magicAsh : List Byte := ascii [67, 72, 76, 65, 83, 72, 48, 49]

/-- The VALID unit of a slot reads correctly (R488). -/
def State.ashValid (s : State) (k : Nat) : Bool := s.nbytes (ashBase k + 0xFE0) 32 == ashOkUnit
/-- BEAT of a slot's clear header. -/
def State.ashBeat (s : State) (k : Nat) : Nat := leAt (s.nbytes (ashBase k) 64) 0x10 8
/-- The slot is erased. -/
def State.ashBlank (s : State) (k : Nat) : Bool := s.nvmBlank (ashBase k) 0x40000

/-- The slot that ASH_WRITE takes with g4 = 0xFF (R488): the lowest erased one, else the one with the oldest BEAT, its trust bit
aside. -/
def State.ashAuto (s : State) : Nat :=
  match (List.range 4).find? (fun k => s.ashBlank k) with
  | some k => k
  | none => (List.range 4).foldl (fun b k => if s.ashBeat k % 2 ^ 63 < s.ashBeat b % 2 ^ 63 then k else b) 0

/-- A slot's four sectors erased, one after the other (R313). -/
def State.ashErase (s : State) (k : Nat) : State :=
  (List.range 4).foldl (fun s i => (s.sectorErased (sectorOf (ashBase k) + i)).dropLines (sectorOf (ashBase k) + i)) (s.use .nvm 17)

/-- The root check value of the present root (R274). -/
def State.rootCv (s : State) : Option (List Byte) := s.keys.root.map s.rootCheck

/-- 4 KiB of the window as a snapshot holds them (R488). -/
def State.blockBytes (s : State) (base : Nat) : List Byte :=
  wordsBytes ((List.range 1024).map (fun i => s.windowRead 722 (base + 4 * i)))

/-- The register snapshot (R488). -/
def State.snapshot (s : State) : List Byte :=
  (List.range 8).flatMap (fun i => s.blockBytes (0x1000 * i)) ++ (List.range 8).flatMap (fun i => s.blockBytes (0x300000 + 0x1000 * i)) ++
    (List.range 16).flatMap (fun h => s.blockBytes (0x100000 + 0x1000 * h))

/-- The plaintext of a dump: the newest 2,048 entries, the snapshot, and 60 KiB (R488). -/
def State.dumpText (s : State) (data : List Byte) : List Byte :=
  slice ((s.log.drop (s.log.length - 2048)).flatMap (·.bytes)) 0 0x10000 ++ s.snapshot ++ data

/-- Bytes 0x00–0x2F of the clear header of a dump into slot k (R488). -/
def State.ashHeader (s : State) (k cause : Nat) (cv : List Byte) : List Byte :=
  magicAsh ++ leBytes 4 s.boots ++ leBytes 4 cause ++ leBytes 8 (s.beatNow + 2 ^ 63 * b2n s.trusted) ++ slice cv 0 8 ++
    (leBytes 4 s.boots ++ leBytes 1 k ++ zeros 3 ++ leBytes 4 s.beatNow) ++ zeros 4

/-- A dump written into an erased slot, its VALID unit last (R488). -/
def State.writeDump (s : State) (k cause : Nat) (data cv key : List Byte) : State :=
  let hdr := s.ashHeader k cause cv
  let nonce := slice hdr 0x20 12
  let ct := gcmCrypt key nonce (s.dumpText data)
  let s := { s with free := s.free + 16 }
  let s := s.nvmProgram (ashBase k) (slice (hdr ++ gcmTag key nonce hdr ct) 0 0xFE0)
  (s.nvmProgram (ashBase k + 0x1000) ct).nvmProgram (ashBase k + 0xFE0) ashOkUnit

/-- ASH_WRITE (R488): gate 0, function 3. A named slot that is not erased is erased first; without a root there is no DUMP key
(log 52). With another erase active in bank 1 none can begin there, nor a program of the sector under erase (R317, R319; log 91). -/
def execAshWrite (p : PairId) (s : State) : Host.Outcome State Fault Refusal :=
  let q := p.val
  .next (s.gateService q 0 3 6 (fun s =>
    let g4 := s.gateArg q 4
    let a := s.gateArg q 6
    if (3 < g4 ∧ g4 ≠ 0xFF) ∨ !s.gateBuffer q a 0xF000 .load then s.gateReturn q [St.param]
    else match s.rootCv, s.bootKey Label.dump with
      | some cv, some key =>
        let k := if g4 = 0xFF then s.ashAuto else g4
        let data := s.viewBytes q a 0xF000
        if s.eraseActive 1 && (!s.ashBlank k || s.eraseSector 1 / 4 == sectorOf (ashBase k) / 4) then s.gateReturn q [St.bankBusy]
        else
          let t := if s.ashBlank k then s else s.ashErase k
          ((t.useNvm 17 1 1).writeDump k (s.gateArg q 5) data cv key).gateReturn q [St.ok, k]
      | _, _ => s.gateReturn q [St.keyAbsent]))

/-- ASH_ERASE (R482): gate 0, function 4; not with another erase active in bank 1 (R319; log 91). -/
def execAshErase (p : PairId) (s : State) : Host.Outcome State Fault Refusal :=
  let q := p.val
  .next (s.gateService q 0 4 6 (fun s =>
    if 3 < s.gateArg q 4 then s.gateReturn q [St.param]
    else if s.eraseActive 1 then s.gateReturn q [St.bankBusy]
    else (s.ashErase (s.gateArg q 4)).gateReturn q [St.ok]))

/-- What opening a slot gives (R490): STATUS, and where it is OK the 262,144 bytes, none for a slot that is not valid. -/
def State.ashOpen (s : State) (k : Nat) : Nat × List Byte :=
  if !s.ashValid k then (St.ok, [])
  else
    let b := s.nbytes (ashBase k) 0x40000
    match s.rootCv, s.bootKey Label.dump with
    | some cv, some key =>
      if slice b 0x18 8 ≠ cv then (St.keyAbsent, [])
      else
        let ct := b.drop 0x1000
        let nonce := slice b 0x20 12
        if gcmTag key nonce (b.take 0x30) ct = slice b 0x30 16 then (St.ok, b.take 0x1000 ++ gcmCrypt key nonce ct)
        else (St.faultHw, [])
    | _, _ => (St.keyAbsent, [])

/-- ASH_OPEN (R482, R490): gate 0, function 6; g4 = LEN. -/
def execAshOpen (p : PairId) (s : State) : Host.Outcome State Fault Refusal :=
  let q := p.val
  .next (s.gateService q 0 6 6 (fun s =>
    let a := s.gateArg q 5
    if 3 < s.gateArg q 4 ∨ !s.gateBuffer q a 0x40000 .store then s.gateReturn q [St.param]
    else
      let r := s.ashOpen (s.gateArg q 4)
      (s.writeMem q a r.2).gateReturn q [r.1, r.2.length]))

end Sys2Proof.Machine
end

