-- ==== Sys2Proof/Machine/Staging.lean ====
section
/-! DEFINITION. The ledger's registers as masters reach them: stagings (R291–R294, R301) and reads (R299). -/

namespace Sys2Proof.Machine

/-- A store to STG<15> that completes a record with the given OP; with another OP in word 0 it is another command. -/
def State.stagingOf (s : State) (p op : Nat) (v : Word) : State :=
  if fld 7 0 (s.mreg p (Reg.LEDG_STG 0)) ≠ op then s
  else s.pairAccess p (Reg.LEDG_STG 15) .store (fun s => s.stgStore p 15 v)

/-- CTR_ADD (R292): OP 1. -/
def execCtrAdd (p : PairId) (v : Word) (s : State) : Host.Outcome State Fault Refusal := .next (s.stagingOf p.val 1 v)
/-- TOKEN_USE (R292): OP 2. -/
def execTokenUse (p : PairId) (v : Word) (s : State) : Host.Outcome State Fault Refusal := .next (s.stagingOf p.val 2 v)
/-- LEDGER_WRITE (R292): OP 3. -/
def execLedgerWrite (p : PairId) (v : Word) (s : State) : Host.Outcome State Fault Refusal := .next (s.stagingOf p.val 3 v)
/-- ATT_ADD (R292, R301): OP 4. -/
def execAttAdd (p : PairId) (v : Word) (s : State) : Host.Outcome State Fault Refusal := .next (s.stagingOf p.val 4 v)

/-- A write to RIDX by master m (R299, R302). `chk` is what the word checks of the image find (R156): an uncorrectable word is replaced
from the newest log record of the entry, and counted and logged as the scrub does it. -/
def State.ridxStore (s : State) (m : Nat) (v : Word) (chk : WordCheck) : State :=
  (s.scrubWord 16 (32 * fld 16 0 v) chk).ridxRead m v (s.entryMac (fld 16 0 v))

/-- RIDX_WRITE (R299): RIDX is open to every pair (R512) and to master 722, whose ring 0 code is taken as pair 0's (R165; log 82);
a host link's write is dropped and counted (R513). -/
def execRidxWrite (m : Master) (r : IndexRead) (s : State) : Host.Outcome State Fault Refusal :=
  .next (if m.val < 512 then s.pairAccess m.val Reg.LEDG_RIDX .store (fun s => .ok (s.ridxStore m.val r.value r.chk))
    else if m.val = 722 then s.ridxStore 0 r.value r.chk
    else s.masterWrite m.val Reg.LEDG_RIDX (fun s => .ok s))

end Sys2Proof.Machine
end

