-- ==== Sys2Proof/Machine/Access.lean ====
section
/-! DEFINITION. The register window as masters reach it (R512–R515, R145): which writes are accepted, what a store to each register
does, what a load returns and what it changes, for pairs, master 722, the host links and the debug port. -/

namespace Sys2Proof.Machine

/-- The master identity of the debug port (R164). -/
abbrev debugMaster : Nat := 721

/-! ## Rights -/

/-- The registers that only master 722 writes (R309, R353, R394). -/
def reserved722 (o : Nat) : Bool :=
  decide (0x5000 ≤ o ∧ o < 0x5200) || decide (0x2000 ≤ o ∧ o < 0x2100) || (List.range 8).any (fun k => o == Reg.CRT_JARM k)

/-- The registers that an owning chapter opens to every pair, or to a supervisor pair under conditions of its own (R512): LEDG.STG
and RIDX, COMMIT, the SUBMIT and STAGE registers, RF.TSTG, ACT.STG0–STG1, the key registers of R411, R424 and R455, and LOG_W
(R486). -/
def openReg (o : Nat) : Bool :=
  decide (Reg.LEDG_STG 0 ≤ o ∧ o < Reg.LEDG_STG 16) || o == Reg.LEDG_RIDX || o == Reg.ACT_STG0 || o == Reg.ACT_STG1 ||
  o == Reg.WEAVE_BKEY || decide (Reg.SYS_LOG_W 0 ≤ o ∧ o < Reg.SYS_LOG_W 8) ||
  (o / 0x10000 == 0x10 && (o % 0x1000 == 0x20 || o % 0x1000 == 0x804 || (0xA40 ≤ o % 0x1000 && o % 0x1000 < 0xB40 && o % 0x40 == 4))) ||
  (o / 0x1000 == 0x302 && o % 0x1000 < 0x800 && (o % 0x40 == 0x08 || o % 0x40 == 0x10)) ||
  (o / 0x1000 == 0x303 && o % 0x1000 < 0x400 && (o % 0x80 == 0x08 || o % 0x80 == 0x0C)) ||
  (o / 0x1000 == 0x304 && o % 0x1000 < 0x400 && (o % 0x100 == 8 || (0x20 ≤ o % 0x100 && o % 0x100 < 0x40) || o % 0x100 == 0x58)) ||
  (o / 0x1000 == 0x305 && o % 0x1000 < 0x200 && o % 0x100 == 8)

/-- A master may write the register at an offset (R512): 722 always, ring 0 code with it (R165); a pair in SUPERVISOR and the debug
port (R350) but for the registers of master 722. -/
def State.writeRight (s : State) (m o : Nat) : Bool :=
  m == 722 || (decide (m < 512) && (s.pair m).ring == 0) || ((s.isSupervisor m || m == debugMaster) && !reserved722 o)

/-! ## Stores -/

/-- A store to STG0 of the actuation block (R438): from a pair with an armed job. -/
def State.actStg0Store (s : State) (p : Nat) (v : Word) : Resp :=
  match s.armedJob p with
  | none => busAt s Reg.ACT_STG0
  | some j => if j.src == Stream.load then busAt s Reg.ACT_STG0 else .ok (s.setMreg p Reg.ACT_STG0 v)

/-- A store by pair p to a register of `openReg`. -/
def State.openStore (s : State) (p o : Nat) (v : Word) : Resp :=
  let r := o % 0x1000
  if o < 0x1000 then s.logWordStore p ((o - Reg.SYS_LOG_W 0) / 4) v
  else if o = Reg.LEDG_RIDX then .ok (s.ridxStore p v .clean)
  else if o < 0x7000 then s.stgStore p ((o - Reg.LEDG_STG 0) / 4) v
  else if o < 0x110000 then
    let h := (o - 0x100000) / 0x1000
    if r = 0x20 then (if h = hearthOf p then s.commitStore p v else busAt s o)
    else if r = 0x804 then s.pkeStore p h v
    else s.symStore p (4 * h + (r - 0xA40) / 0x40) v
  else if o / 0x1000 = 0x301 then s.bkeyStore p v
  else if o / 0x1000 = 0x302 then (if o % 0x40 = 8 then s.hkeyStore p (r / 0x40) v else s.headStage p (r / 0x40) v)
  else if o / 0x1000 = 0x303 then (if o % 0x80 = 8 then s.crtSubmit p (r / 0x80) v else s.crtStage p (r / 0x80) v)
  else if o / 0x1000 = 0x304 then
    if o % 0x100 = 8 then s.rfSubmit p (r / 0x100) v
    else if o % 0x100 = 0x58 then s.tkeyStore p (r / 0x100) v
    else s.tstgStore p (r / 0x100) ((o % 0x100 - 0x20) / 4) v
  else if o / 0x1000 = 0x305 then s.scSubmit p (r / 0x100) v
  else if o = Reg.ACT_STG0 then s.actStg0Store p v
  else s.actStage p v

/-- A permitted store to SYS, BEAT, LCS, TAMP, RNG, NVMC, LEDG, flue control or the channel table. -/
def State.systemStore (s : State) (m o : Nat) (v : Word) : State :=
  if o = Reg.SYS_LOG_IDX then s.logIdxStore m v
  else if o = Reg.SYS_LOG_CTL then (if bit 0 v then s.setReg Reg.SYS_LOG_OVF 0 else s)
  else if o = Reg.BEAT_CTRL then s.beatCtrlStore v
  else if o = Reg.BEAT_NOMINAL then s.nominalStore v
  else if o = Reg.BEAT_WDOG then s.wdogStore v
  else if o = Reg.BEAT_WDOG_KICK then s.kickStore v
  else if o = Reg.TAMP_QUAR then s.quarStore v
  else if Reg.TAMP_MCFG 0 ≤ o ∧ o < Reg.TAMP_MCFG 101 then s.mcfgStore ((o - Reg.TAMP_MCFG 0) / 4) v
  else if o = Reg.TAMP_BIST then s.bistStore v
  else if o = Reg.RNG_RESTART then s.setReg o (s.reg o ||| (v &&& 15#32))
  else if o = Reg.RNG_KAT_CTL then s.katStore v
  else if o / 0x1000 = 4 then (s.writeReg o v).rngUpdate
  else if o = Reg.NVMC_ARB_CFG then s.arbCfg .nvm v
  else if o = Reg.NVMC_CTRL then (s.writeReg o v).syncDo0
  else if isChannelTable o ∧ o % 8 = 0 then s.channelWrite ((o - 0x10000) / 8) v
  else s.writeReg o v

/-- A permitted store to offset r of the block of hearth h. -/
def State.hearthStore (s : State) (h r : Nat) (v : Word) : State :=
  if r = 0 then s.uctlStore (.hearth (Fin.ofNat 16 h)) v
  else if 0x100 ≤ r ∧ r < 0x180 then s.pstWrite (32 * h + (r - 0x100) / 4) v
  else if r = 0x600 then s.arbCfg (.pke (Fin.ofNat 16 h)) v
  else if r = 0x610 then s.arbCfg (.bank (Fin.ofNat 16 h) 0) v
  else if r = 0x800 then s.uctlStore (.pke (Fin.ofNat 16 h)) v
  else if r = 0xA40 ∨ r = 0xA80 ∨ r = 0xAC0 ∨ r = 0xB00 then s.uctlStore (.sym (Fin.ofNat 64 (4 * h + (r - 0xA40) / 0x40))) v
  else s.writeReg (0x100000 + 0x1000 * h + r) v

/-- A permitted store to offset r of the port guard of port n. -/
def State.guardStore (s : State) (n r : Nat) (v : Word) : State :=
  if r = 0 then s.uctlStore (.port (Fin.ofNat 128 n)) v
  else if r = 4 then (if bit 0 v then s.pgApplyNow n else s)
  else if 0x20 ≤ r ∧ r < 0x60 then s.pgStore n ((r - 0x20) / 4) v
  else s.writeReg (0x200000 + 0x100 * n + r) v

/-- A permitted store to the HOST block. -/
def State.hostStore (s : State) (o : Nat) (v : Word) : State :=
  let r := o % 0x1000
  let l := r % 0x800 / 0x400
  if r < 0x800 then
    if r % 0x400 = 0x18 then s.aqCtlStore (Fin.ofNat 2 l) v
    else if 8 ≤ r % 0x400 ∧ r % 0x400 < 0x18 then s.aqRingStore l o v
    else s.writeReg o v
  else
    let q := r % 0x400 / 0x10
    if r % 0x10 = 0 then s.sqTailStore l q v
    else if r % 0x10 = 4 then s.cqHeadStore l q v
    else s.writeReg o v

/-- A permitted store to a port class block or WALE. -/
def State.classStore (s : State) (o : Nat) (v : Word) : State :=
  let r := o % 0x1000
  if o / 0x1000 = 0x300 then s.hostStore o v
  else if o = Reg.WEAVE_MAPIDX then s.mapidxStore v
  else if o = Reg.WEAVE_CFG ∨ o = Reg.WEAVE_BASKET 0 ∨ o = Reg.WEAVE_BASKET 1 then s.weaveCfgStore o v
  else if o / 0x1000 = 0x303 ∧ r < 0x400 ∧ r % 0x80 = 0x10 then (s.writeReg o v).cartNext (r / 0x80)
  else if o / 0x1000 = 0x304 ∧ r < 0x400 ∧ r % 0x100 = 0 then s.rfCfgWrite (r / 0x100) v
  else if o / 0x1000 = 0x304 ∧ r < 0x400 ∧ r % 0x100 = 0x44 then s.setReg o v
  else if o / 0x1000 = 0x307 ∧ r < 0xC0 then s.wcfgStore (r / 4) v
  else s.writeReg o v

/-- A permitted store by master m to a register that is neither open nor a flue slot. -/
def State.registerStore (s : State) (m o : Nat) (v : Word) : State :=
  if o < 0x100000 then s.systemStore m o v
  else if o < 0x110000 then s.hearthStore ((o - 0x100000) / 0x1000) (o % 0x1000) v
  else if o < 0x300000 then s.guardStore ((o - 0x200000) / 0x100) (o % 0x100) v
  else s.classStore o v

/-- The decision on a store of master m to an offset of the window (R512): the slots go by R168; a tag store window takes none
(R415). -/
def State.windowStore (s : State) (m o : Nat) (v : Word) : Resp :=
  if isSlot o then s.slotStore ((o - 0x20000) / 32) (o % 32 / 4) (identOf m) v
  else if isTagStore o ∨ ¬inBlock o then busAt s o
  else if openReg o then
    if m < 512 then s.openStore m o v
    else if m = 722 ∧ o = Reg.LEDG_RIDX then .ok (s.ridxStore (identOf m) v .clean)
    else busAt s o
  else if s.writeRight m o then .ok (s.registerStore (identOf m) o v)
  else busAt s o

/-! ## Loads -/

/-- What a read of an offset changes: the reader's hold (R9), and the position among the free values where it returned some. -/
def State.readEffect (s : State) (m o : Nat) : State :=
  let s := s.hold m o
  if o = Reg.SYS_BOOT ∧ s.booting then { s with free := s.free + 2 }
  else s

/-- The decision on a load of master m from an offset of the window, with its word (R512). -/
def State.windowLoad (s : State) (m o : Nat) : Resp × Word :=
  let m := identOf m
  if isSlot o then s.slotLoad ((o - 0x20000) / 32) (o % 32 / 4) m
  else if isTagStore o then
    if m < 512 then s.tagLoad m ((o - 0x400000) / 0x4000) (o % 0x4000 / 4) .clean else (busAt s o, 0)
  else if !inBlock o then (busAt s o, 0)
  else if o = Reg.RNG_DATA then s.rngLoad
  else (.ok (s.readEffect m o), s.windowRead m o)

/-! ## Pairs -/

/-- The decision on a pair's word store to the window. -/
def State.devStore (s : State) (p o : Nat) (v : Word) : Resp := s.windowStore p o v
/-- The decision on a pair's word load from the window, with the word. -/
def State.devLoad (s : State) (p o : Nat) : Resp × Word := s.windowLoad p o

/-! ## Host links -/

/-- A host link may write the register at an offset (R513). -/
def hostWritable (l o : Nat) : Bool :=
  let r := o - 0x300000
  o == Reg.SYS_LOG_IDX || (o / 0x1000 == 0x300 && r % 0x800 / 0x400 == l &&
    (if r < 0x800 then decide (8 ≤ r % 0x400 ∧ r % 0x400 < 0x1C) else r % 0x10 != 8))

/-- A write of host link l through BAR0 (R191, R513): what the table does not permit is dropped and counted. -/
def State.hostWindowWrite (s : State) (l o : Nat) (v : Word) : State :=
  if hostWritable l o then s.registerStore (512 + l) o v else s.incSat (Reg.HOST_MALF_CNT l)

/-- A read of host link l through BAR0 reaches the register (R513, R514); others return zeros or end in Unsupported Request. -/
def State.hostReadable (s : State) (o : Nat) : Bool :=
  inBlock o && !isSlot o && !isTagStore o && !isChannelTable o && o / 0x1000 != 7 && (s.released || decide (o < 0x4000)) &&
  (o / 0x1000 != 6 || decide (o % 0x1000 ≤ 0x24)) && o != Reg.RNG_DATA

/-- What a read of host link l through BAR0 returns; none for Unsupported Request. -/
def State.hostWindowRead (s : State) (l o : Nat) : Option Word :=
  if !inBlock o || isSlot o || isTagStore o || isChannelTable o || o / 0x1000 == 7 then none
  else some (if s.hostReadable o then s.windowRead (512 + l) o else 0)

/-! ## Commands -/

/-- The offset in the window of a word-aligned address, if it lies there. -/
def windowOffset (a : Word) : Option Nat :=
  if a.toNat % 4 = 0 ∧ 0x40000000 ≤ a.toNat ∧ a.toNat < 0x41000000 then some (a.toNat - 0x40000000) else none

/-- REGISTER_WRITE (R6, R8): a write of a word of the window by a pair, by ring 0 code as master 722, or by a host link; a register
with behaviour of its own behaves as its own command says. -/
def execRegisterWrite (m : Master) (a v : Word) (s : State) : Host.Outcome State Fault Refusal :=
  .next (match windowOffset a with
    | none => s
    | some o =>
      if m.val < 512 then s.pairAccess m.val o .store (fun s => s.windowStore m.val o v)
      else if m.val = 512 ∨ m.val = 513 then s.hostWindowWrite (m.val - 512) o v
      else if m.val = 722 then (s.windowStore 722 o v).state
      else s)

/-- LOW_WORD_READ (R9): a read by a pair, by master 722, or by a host link; the read of the lowest word of a value wider than 32 bits
copies its higher word into the reader's hold. -/
def execLowWordRead (m : Master) (a : Word) (s : State) : Host.Outcome State Fault Refusal :=
  .next (match windowOffset a with
    | none => s
    | some o =>
      if m.val < 512 then s.pairAccess m.val o .load (fun s => (s.windowLoad m.val o).1)
      else if m.val = 512 ∨ m.val = 513 then
        match s.hostWindowRead (m.val - 512) o with
        | none => s
        | some w => (if s.hostReadable o then s.readEffect m.val o else s).emit (.hostData (m.val - 512) w)
      else if m.val = 722 then (s.windowLoad 722 o).1.state
      else s)

end Sys2Proof.Machine
end

