-- ==== Sys2Proof/Machine/Zaend.lean ====
section
/-! DEFINITION. The Zaend instruction words (R88–R91, R95–R101, R105, R108): the instructions of a pair with their operand
fields, the decoder, total on every word, and the encoder, from the same tables. A word that the decoder refuses raises
illegal instruction (R89). -/

namespace Sys2Proof.Machine

/-- Major 0x01 (R95). -/
inductive AluOp where
  | add | sub | addv | subv | and_ | or_ | xor_ | andn | sll | srl | sra | slt | sltu | clz | pop | bswap | csel
  deriving DecidableEq, Repr

/-- The RI integer instructions (R96). -/
inductive ImmOp where
  | addi | andi | ori | xori | slti | sltiu | lui | slli | srli | srai
  deriving DecidableEq, Repr

/-- Loads (R97). -/
inductive LoadOp where
  | ldw | ldh | ldhu | ldb | ldbu
  deriving DecidableEq, Repr

/-- Stores (R97). -/
inductive StoreOp where
  | stw | sth | stb
  deriving DecidableEq, Repr

/-- Branch conditions of CB and CBI (R99). -/
inductive Cond where
  | eq | ne | lt | ge | ltu | geu
  deriving DecidableEq, Repr

/-- Multiplier and divider (R101). -/
inductive MulOp where
  | mul | mulh | mulhu | clmul | div | divu
  deriving DecidableEq, Repr

/-- Long instructions (R105). -/
inductive LongOp where
  | wipe | bcopy | cteq
  deriving DecidableEq, Repr

/-- An instruction with its fields. Register fields are numbers 0–31; immediates and offsets are the field, not yet
extended. -/
inductive Zaend where
  | alu (op : AluOp) (rd ra rb rc : BitVec 5)
  | imm (op : ImmOp) (rd ra : BitVec 5) (imm : BitVec 16)
  | load (op : LoadOp) (rd ra : BitVec 5) (imm : BitVec 16)
  | store (op : StoreOp) (rs ra : BitVec 5) (imm : BitVec 16)
  | branch (c : Cond) (ra rb : BitVec 5) (off : BitVec 16)
  | branchImm (c : Cond) (ra : BitVec 5) (imm : BitVec 8) (off : BitVec 13)
  | jump (link : Bool) (off : BitVec 26)
  | jumpReg (link : Bool) (ra : BitVec 5) (imm : BitVec 16)
  | mul (op : MulOp) (ra rb : BitVec 5)
  | long (op : LongOp) (rd ra rb rc : BitVec 5)
  | mfs (rd : BitVec 5) (n : BitVec 8)
  | mts (ra : BitVec 5) (n : BitVec 8)
  | gate (n : BitVec 8)
  | retG
  | eret
  | brk (c : BitVec 8)
  | fenceM
  | fenceP
  | wait
  deriving DecidableEq, Repr

/-- The func of major 0x01 (R95). -/
def AluOp.func : AluOp → BitVec 6
  | .add => 0x00 | .sub => 0x01 | .addv => 0x02 | .subv => 0x03 | .and_ => 0x04 | .or_ => 0x05 | .xor_ => 0x06
  | .andn => 0x07 | .sll => 0x08 | .srl => 0x09 | .sra => 0x0A | .slt => 0x0B | .sltu => 0x0C | .clz => 0x10
  | .pop => 0x11 | .bswap => 0x12 | .csel => 0x14

/-- Every operation of major 0x01. -/
def AluOp.all : List AluOp :=
  [.add, .sub, .addv, .subv, .and_, .or_, .xor_, .andn, .sll, .srl, .sra, .slt, .sltu, .clz, .pop, .bswap, .csel]

/-- The fields that must be zero (R95): rc except for csel, rb for clz, pop and bswap. -/
def AluOp.fieldsOk (op : AluOp) (rb rc : BitVec 5) : Bool :=
  match op with
  | .csel => true
  | .clz | .pop | .bswap => rb == 0 && rc == 0
  | _ => rc == 0

/-- The func of majors 0x02 (R101). -/
def MulOp.func : MulOp → BitVec 6
  | .mul => 0x00 | .mulh => 0x01 | .mulhu => 0x02 | .clmul => 0x03 | .div => 0x08 | .divu => 0x09

/-- Every operation of R101. -/
def MulOp.all : List MulOp := [.mul, .mulh, .mulhu, .clmul, .div, .divu]

/-- The func of a long instruction (R105). -/
def LongOp.func : LongOp → BitVec 6
  | .wipe => 0x20 | .bcopy => 0x21 | .cteq => 0x22

/-- Every operation of R105. -/
def LongOp.all : List LongOp := [.wipe, .bcopy, .cteq]

/-- The register constraints of R105: fields marked 0 are zero, the named registers are distinct and none is g0. -/
def LongOp.fieldsOk (op : LongOp) (rd ra rb rc : BitVec 5) : Bool :=
  match op with
  | .wipe => rd == 0 && rc == 0 && ra != 0 && rb != 0 && ra != rb
  | .bcopy => rc == 0 && rd != 0 && ra != 0 && rb != 0 && rd != ra && rd != rb && ra != rb
  | .cteq => rd != 0 && ra != 0 && rb != 0 && rc != 0 && rd != ra && rd != rb && rd != rc && ra != rb && ra != rc && rb != rc

/-- The major opcode of an RI integer instruction (R96). -/
def ImmOp.major : ImmOp → BitVec 6
  | .addi => 0x04 | .andi => 0x05 | .ori => 0x06 | .xori => 0x07 | .slti => 0x08 | .sltiu => 0x09 | .lui => 0x0A
  | .slli => 0x0B | .srli => 0x0B | .srai => 0x0B

/-- The major opcode of a load (R97). -/
def LoadOp.major : LoadOp → BitVec 6
  | .ldw => 0x10 | .ldh => 0x11 | .ldhu => 0x12 | .ldb => 0x13 | .ldbu => 0x14

/-- The major opcode of a store (R97). -/
def StoreOp.major : StoreOp → BitVec 6
  | .stw => 0x18 | .sth => 0x19 | .stb => 0x1A

/-- The place of a condition among the majors from 0x20 (CB) and 0x28 (CBI) upward (R99). -/
def Cond.code : Cond → BitVec 6
  | .eq => 0 | .ne => 1 | .lt => 2 | .ge => 3 | .ltu => 4 | .geu => 5

/-- Every condition. -/
def Cond.all : List Cond := [.eq, .ne, .lt, .ge, .ltu, .geu]

/-- A word of the RR format (R88). -/
def rr (major : BitVec 6) (rd ra rb rc : BitVec 5) (func : BitVec 6) : Word := major ++ rd ++ ra ++ rb ++ rc ++ func
/-- A word of the RI format. -/
def ri (major : BitVec 6) (rd ra : BitVec 5) (imm : BitVec 16) : Word := major ++ rd ++ ra ++ imm
/-- A word of the CBI format. -/
def cbi (major : BitVec 6) (ra : BitVec 5) (imm : BitVec 8) (off : BitVec 13) : Word := major ++ ra ++ imm ++ off
/-- A word of the SYS format. -/
def sysWord (rd ra : BitVec 5) (imm sfunc : BitVec 8) : Word := (0x3F#6) ++ rd ++ ra ++ imm ++ sfunc

/-- The word of an instruction (R88, R91, R95–R101, R105, R108). -/
def Zaend.encode : Zaend → Word
  | .alu op rd ra rb rc => rr 0x01 rd ra rb rc op.func
  | .imm .slli rd ra sh => ri 0x0B rd ra (sh &&& 0x1F)
  | .imm .srli rd ra sh => ri 0x0B rd ra ((sh &&& 0x1F) ||| 0x20)
  | .imm .srai rd ra sh => ri 0x0B rd ra ((sh &&& 0x1F) ||| 0x40)
  | .imm op rd ra i => ri op.major rd ra i
  | .load op rd ra i => ri op.major rd ra i
  | .store op rs ra i => ri op.major rs ra i
  | .branch c ra rb off => ri (0x20 + c.code) ra rb off
  | .branchImm c ra i off => cbi (0x28 + c.code) ra i off
  | .jump link off => (if link then 0x31#6 else 0x30#6) ++ off
  | .jumpReg link ra i => ri (if link then 0x1D else 0x1C) 0 ra i
  | .mul op ra rb => rr 0x02 0 ra rb 0 op.func
  | .long op rd ra rb rc => rr 0x02 rd ra rb rc op.func
  | .mfs rd n => sysWord rd 0 n 0x00
  | .mts ra n => sysWord 0 ra n 0x01
  | .gate n => sysWord 0 0 n 0x08
  | .retG => sysWord 0 0 0 0x09
  | .eret => sysWord 0 0 0 0x0A
  | .brk c => sysWord 0 0 c 0x0B
  | .fenceM => sysWord 0 0 0 0x10
  | .fenceP => sysWord 0 0 0 0x11
  | .wait => sysWord 0 0 0 0x12

/-- Major 0x01 (R95). -/
def decodeAlu (rd ra rb rc : BitVec 5) (func : BitVec 6) : Option Zaend :=
  (AluOp.all.find? (fun op => op.func == func && op.fieldsOk rb rc)).map (fun op => .alu op rd ra rb rc)

/-- Major 0x02 (R101, R105). -/
def decodeMul (rd ra rb rc : BitVec 5) (func : BitVec 6) : Option Zaend :=
  match MulOp.all.find? (fun op => op.func == func) with
  | some op => if rd = 0 ∧ rc = 0 then some (.mul op ra rb) else none
  | none =>
    (LongOp.all.find? (fun op => op.func == func && op.fieldsOk rd ra rb rc)).map (fun op => .long op rd ra rb rc)

/-- Major 0x0B (R96): imm[15:7] is 0 and imm[6:5] selects the shift. -/
def decodeShift (rd ra : BitVec 5) (i : BitVec 16) : Option Zaend :=
  if i >>> 5 = 0 then some (.imm .slli rd ra i)
  else if i >>> 5 = 1 then some (.imm .srli rd ra (i &&& 0x1F))
  else if i >>> 5 = 2 then some (.imm .srai rd ra (i &&& 0x1F))
  else none

/-- Major 0x3F (R108). -/
def decodeSys (rd ra : BitVec 5) (i f : BitVec 8) : Option Zaend :=
  if f = 0x00 then (if ra = 0 then some (.mfs rd i) else none)
  else if f = 0x01 then (if rd = 0 then some (.mts ra i) else none)
  else if rd ≠ 0 ∨ ra ≠ 0 then none
  else if f = 0x08 then (if i.toNat < 16 then some (.gate i) else none)
  else if f = 0x0B then some (.brk i)
  else if i ≠ 0 then none
  else if f = 0x09 then some .retG
  else if f = 0x0A then some .eret
  else if f = 0x10 then some .fenceM
  else if f = 0x11 then some .fenceP
  else if f = 0x12 then some .wait
  else none

/-- The instruction of a word; `none` for a word that raises illegal instruction (R89). -/
def Zaend.decode (w : Word) : Option Zaend :=
  let major := w.extractLsb' 26 6
  let rd := w.extractLsb' 21 5
  let ra := w.extractLsb' 16 5
  let rb := w.extractLsb' 11 5
  let rc := w.extractLsb' 6 5
  let func := w.extractLsb' 0 6
  let i := w.extractLsb' 0 16
  if major = 0x01 then decodeAlu rd ra rb rc func
  else if major = 0x02 then decodeMul rd ra rb rc func
  else if major = 0x04 then some (.imm .addi rd ra i)
  else if major = 0x05 then some (.imm .andi rd ra i)
  else if major = 0x06 then some (.imm .ori rd ra i)
  else if major = 0x07 then some (.imm .xori rd ra i)
  else if major = 0x08 then some (.imm .slti rd ra i)
  else if major = 0x09 then some (.imm .sltiu rd ra i)
  else if major = 0x0A then (if ra = 0 then some (.imm .lui rd ra i) else none)
  else if major = 0x0B then decodeShift rd ra i
  else if major = 0x10 then some (.load .ldw rd ra i)
  else if major = 0x11 then some (.load .ldh rd ra i)
  else if major = 0x12 then some (.load .ldhu rd ra i)
  else if major = 0x13 then some (.load .ldb rd ra i)
  else if major = 0x14 then some (.load .ldbu rd ra i)
  else if major = 0x18 then some (.store .stw rd ra i)
  else if major = 0x19 then some (.store .sth rd ra i)
  else if major = 0x1A then some (.store .stb rd ra i)
  else if major = 0x1C then (if rd = 0 then some (.jumpReg false ra i) else none)
  else if major = 0x1D then (if rd = 0 then some (.jumpReg true ra i) else none)
  else if major = 0x30 then some (.jump false (w.extractLsb' 0 26))
  else if major = 0x31 then some (.jump true (w.extractLsb' 0 26))
  else if major = 0x3F then decodeSys rd ra (w.extractLsb' 8 8) (w.extractLsb' 0 8)
  else match Cond.all.find? (fun c => 0x20 + c.code == major) with
    | some c => some (.branch c rd ra i)
    | none =>
      (Cond.all.find? (fun c => 0x28 + c.code == major)).map
        (fun c => .branchImm c rd (w.extractLsb' 13 8) (w.extractLsb' 0 13))

/-- The instructions that a word can spell: the fields that must be zero are zero, register constraints hold, a shift
amount is below 32 and a gate number below 16. -/
def Zaend.wf : Zaend → Bool
  | .alu op _ _ rb rc => op.fieldsOk rb rc
  | .imm .lui _ ra _ => ra == 0
  | .imm .slli _ _ i => i >>> 5 == 0
  | .imm .srli _ _ i => i >>> 5 == 0
  | .imm .srai _ _ i => i >>> 5 == 0
  | .long op rd ra rb rc => op.fieldsOk rd ra rb rc
  | .gate n => decide (n.toNat < 16)
  | _ => true

end Sys2Proof.Machine
end

