-- ==== Sys2Proof/Machine/Flags.lean ====
section
/-! DEFINITION. The results of the integer instructions (R95, R96), the conditions of the branches (R99), signed overflow
(R82), and the products and quotients (R82, R101). The machine has no flags: overflow and a zero divisor are reported as
arithmetic exceptions. -/

namespace Sys2Proof.Machine

/-- The result of an instruction of major 0x01 (R95) on ra, rb, rc. -/
def AluOp.result (op : AluOp) (a b c : Word) : Word :=
  match op with
  | .add | .addv => a + b
  | .sub | .subv => a - b
  | .and_ => a &&& b
  | .or_ => a ||| b
  | .xor_ => a ^^^ b
  | .andn => a &&& ~~~b
  | .sll => a <<< (b.toNat % 32)
  | .srl => a >>> (b.toNat % 32)
  | .sra => a.sshiftRight (b.toNat % 32)
  | .slt => if a.slt b then 1 else 0
  | .sltu => if a.ult b then 1 else 0
  | .clz => wd (clzWord a)
  | .pop => wd (popWord a)
  | .bswap => bswapWord a
  | .csel => if c ≠ 0 then a else b

/-- Signed overflow of addv and subv (R82). -/
def AluOp.overflows (op : AluOp) (a b : Word) : Bool :=
  match op with
  | .addv => decide ((a + b).toInt ≠ a.toInt + b.toInt)
  | .subv => decide ((a - b).toInt ≠ a.toInt - b.toInt)
  | _ => false

/-- The result of an RI integer instruction (R96). -/
def ImmOp.result (op : ImmOp) (a : Word) (i : BitVec 16) : Word :=
  match op with
  | .addi => a + i.signExtend 32
  | .andi => a &&& i.setWidth 32
  | .ori => a ||| i.setWidth 32
  | .xori => a ^^^ i.setWidth 32
  | .slti => if a.slt (i.signExtend 32) then 1 else 0
  | .sltiu => if a.ult (i.signExtend 32) then 1 else 0
  | .lui => i.setWidth 32 <<< 16
  | .slli => a <<< (i.toNat % 32)
  | .srli => a >>> (i.toNat % 32)
  | .srai => a.sshiftRight (i.toNat % 32)

/-- A branch condition (R99). -/
def Cond.holds (c : Cond) (a b : Word) : Bool :=
  match c with
  | .eq => a == b
  | .ne => a != b
  | .lt => a.slt b
  | .ge => !a.slt b
  | .ltu => a.ult b
  | .geu => !a.ult b

/-- imm8 as the condition compares it: zero-extended for bltui and bgeui, sign-extended otherwise (R99). -/
def Cond.ext (c : Cond) (i : BitVec 8) : Word :=
  match c with
  | .ltu | .geu => i.setWidth 32
  | _ => i.signExtend 32

/-- The product of a multiplier instruction, as (mh, ml) (R101). -/
def MulOp.product (op : MulOp) (a b : Word) : Word × Word :=
  let v : BitVec 64 := match op with
    | .mul => BitVec.ofInt 64 (a.toInt * b.toInt)
    | .mulh => BitVec.ofInt 64 (a.toInt * (b.toNat : Int))
    | .clmul => clmulWord a b
    | _ => BitVec.ofNat 64 (a.toNat * b.toNat)
  (v.extractLsb' 32 32, v.extractLsb' 0 32)

/-- The quotient and remainder of a divide, as (dq, dr) (R82, R101): a zero divisor gives all ones and the dividend. -/
def MulOp.quotient (op : MulOp) (a b : Word) : Word × Word :=
  if b = 0 then (0xFFFFFFFF#32, a)
  else match op with
    | .div => (BitVec.ofInt 32 (a.toInt.tdiv b.toInt), BitVec.ofInt 32 (a.toInt.tmod b.toInt))
    | _ => (a / b, a % b)

/-- The instruction is a divide. -/
def MulOp.isDivide (op : MulOp) : Bool := op == .div || op == .divu

end Sys2Proof.Machine
end

