-- ==== Sys2Proof/Machine/Issue.lean ====
section
/-! DEFINITION. An instruction boundary of a pair (R75, R80, R81, R83, R87, R352): which exception is taken there, and how an
instruction is fetched, decoded, checked and retired. A command of chapter 04 names the pair and the word that it
executes; where the pair stands at no such boundary, or another word stands there, the command does nothing (log 12). -/

namespace Sys2Proof.Machine

/-! ## What is pending at a boundary -/

/-- The doorbell condition of R175. -/
def Pair.doorbell (x : Pair) : Bool := ((x.dbPend0 &&& x.dbMask0) != 0) || ((x.dbPend1 &&& x.dbMask1) != 0)

/-- The interrupt condition of R80 with the value that eval takes: a doorbell, or a device interrupt on a supervisor pair;
the doorbell first where both are pending (log 13). -/
def State.irqPending (s : State) (p : Nat) : Option Word :=
  if (s.pair p).doorbell then some 1
  else if s.isSupervisor p && s.deviceIrq then some 2
  else none

/-- EXL = 0, DF = 0 and RING ≠ 0: what R80 and R81 ask for; EXL = 1 holds interrupts and the deadline exception (R79). -/
def Pair.interruptible (x : Pair) : Bool := !x.exl && !x.df && x.ring != 0

/-- The asynchronous exception taken at a boundary: the deadline, then an interrupt (R75, R80, R81). -/
def State.asyncExc (s : State) (p : Nat) : Option Exc :=
  let x := s.pair p
  if !x.interruptible then none
  else match x.deadline with
    | some a => some ⟨Cause.deadline, a⟩
    | none => if x.ie then (s.irqPending p).map (fun v => ⟨Cause.interrupt, v⟩) else none

/-- A condition that ends `wait` is pending (R111). -/
def State.wakes (s : State) (p : Nat) : Bool :=
  (s.irqPending p).isSome || (s.pair p).deadline.isSome || (s.pair p).haltReq

/-- The ring of the pair is granted to the debugger (R350, R352): in the open states every ring, ring 0 only in BLANK, TESTED
and RETURNED; else by DBG_RIGHTS while they are in force. -/
def State.ringGranted (s : State) (p : Nat) : Bool :=
  let r := (s.pair p).ring
  let st := s.getF Fld.LCS_STAT_STATE
  if !s.flag Fld.LCS_STAT_DEBUG then false
  else if s.flag Fld.LCS_STAT_OPEN then r != 0 || st == 0 || st == 1 || st == 6
  else s.flag Fld.LCS_DBG_RIGHTS_HALT && bit (hearthOf p) (s.reg Reg.LCS_DBG_RIGHTS) &&
    bit (16 + r) (s.reg Reg.LCS_DBG_RIGHTS)

/-- A requested halt is taken at this boundary (R352). -/
def State.haltDue (s : State) (p : Nat) : Bool := (s.pair p).haltReq && s.ringGranted p

/-- The pair halted, and shown in LCS.HALTED<w> (R352). -/
def State.haltPair (s : State) (p : Nat) : State :=
  let s := s.updPair p (fun x => { x with halted := true, haltReq := false, stepping := false, unsteady := true })
  s.setReg (Reg.LCS_HALTED (p / 32)) (s.reg (Reg.LCS_HALTED (p / 32)) ||| wd (2 ^ (p % 32)))

/-- A single step ended: the pair halts again (R352). -/
def State.afterStep (s : State) (p : Nat) : State :=
  if (s.pair p).stepping then s.haltPair p else s

/-- The pair can come to a boundary: the hearths are released, it is neither in self-test nor out of use, it is not halted,
and where it waits a condition of R111 is pending. -/
def State.canIssue (s : State) (p : Nat) : Bool :=
  s.released && s.role p != Role.selftest && s.role p != Role.retired && !(s.pair p).halted &&
  (!(s.pair p).waiting || s.wakes p)

/-- The pair no longer waits. -/
def State.wake (s : State) (p : Nat) : State := s.updPair p (fun x => { x with waiting := false })

/-! ## Retirement -/

/-- The pair after an instruction that retires (R63, R83): cnt + 1, one more instruction since a pending imprecise
exception, and `n` cycles passed at the multiplier and divider (R102). -/
def Pair.retire (x : Pair) (n : Nat) : Pair :=
  let x := x.setS SR.cnt (x.sreg SR.cnt + 1)
  { x.advance n with imp := x.imp.map (fun i => { i with after := i.after + 1 }) }

/-- An instruction of `n` cycles that leaves pair `x` and goes on at the next word. -/
def State.retireNext (s : State) (p : Nat) (x : Pair) (n : Nat) : State :=
  s.setPair p { x.retire n with pc := x.pc + 4 }

/-- An arithmetic exception that is not precise (R83): pending, or joined to the one that is. -/
def Pair.addImprecise (x : Pair) (code : Nat) (pc : Word) : Pair :=
  match x.imp with
  | some i => { x with imp := some { i with multi := true } }
  | none => { x with imp := some ⟨code, pc, 0, false⟩ }

/-! ## Cycles before an instruction executes -/

/-- The general registers that an instruction reads (R88, R95–R101, R105, R108). -/
def Zaend.sources : Zaend → List (BitVec 5)
  | .alu .csel _ ra rb rc => [ra, rb, rc]
  | .alu _ _ ra rb _ => [ra, rb]
  | .imm _ _ ra _ => [ra]
  | .load _ _ ra _ => [ra]
  | .store _ rs ra _ => [rs, ra]
  | .branch _ ra rb _ => [ra, rb]
  | .branchImm _ ra _ _ => [ra]
  | .jumpReg _ ra _ => [ra]
  | .mul _ ra rb => [ra, rb]
  | .long .wipe _ ra rb _ => [ra, rb]
  | .long .bcopy rd ra rb _ => [rd, ra, rb]
  | .long .cteq rd ra rb rc => [rd, ra, rb, rc]
  | .mts ra _ => [ra]
  | _ => []

/-- Issue stalls until every register that the instruction reads has been written (R92). A count of cycles since a multiplier or
divider result became pending begins anew where none is pending (R94). -/
def Pair.await (x : Pair) (z : Zaend) : Pair :=
  let x := if x.mulPend.isEmpty && x.divPend.isNone then { x with unsteady := false } else x
  let waits := z.sources.map (fun r => x.ready.get (fun _ => (0, false)) r.toNat)
  let n := waits.foldl (fun m w => max m w.1) 0
  if waits.any (·.2) then x.advanceLoose n else if n = 0 then x else x.advance n

/-- What the fetch of an instruction comes to. -/
inductive Fetched where
  /-- The instruction is at hand. -/
  | ready (s : State)
  /-- The fetch waits for its grant (R179). -/
  | waits (s : State)
  /-- The word is uncorrectable (R157). -/
  | fails (s : State) (e : Exc)
  deriving DecidableEq, Repr

/-- The fetch of the instruction at `a` by pair p (R110, R143, R144, R157): local memory, ROM and a hit of the instruction buffer cost
nothing; a fetch from hearth memory is a load; a miss fills its line in 26 cycles and the wait, and a fetch from the NVM window
through a region with C = 0 is one read. Nothing is fetched again while the instruction's own read waits. -/
def State.fetchAt (s : State) (p a : Nat) : Fetched :=
  let read := fun (n : Nat) (f : Pair → Pair) =>
    if ((s.readOf p).map (fun r => !r.fetch)).getD false then .ready s
    else match s.pairRead p a 4 true with
      | .waits t => .waits t
      | .done t _ =>
        if t.flawed p a then .fails (t.memUncorrectable p a) ⟨Cause.busError, wd a⟩
        else .ready (t.updPair p (fun x => f (x.advanceLoose n)))
  match spaceOf a with
  | .hearth => read 8 id
  | .nvm => if (s.pair p).ibufHit a then .ready s else read (if (s.pair p).cached a then 26 else 24) (fun x => x.ibufFill a)
  | .loc => if s.flawed p a then .fails (s.memUncorrectable p a) ⟨Cause.busError, wd a⟩ else .ready s
  | _ => .ready s

/-! ## One boundary -/

/-- The address of a load or store (R97). -/
def Pair.address (x : Pair) (ra : BitVec 5) (imm : BitVec 16) : Nat := (x.greg ra.toNat + imm.signExtend 32).toNat

/-- The instruction is a reporting point of R83. -/
def Pair.reports (x : Pair) : Zaend → Bool
  | .gate _ | .retG | .eret | .mts _ _ | .fenceM | .fenceP | .long _ _ _ _ _ => true
  | .store _ _ ra imm => spaceOf (x.address ra imm) == .window
  | _ => false

/-- The outcome of an instruction whose own effect is `r`, taken at the boundary in the order of R75: a pending imprecise
exception at a reporting point or before any other exception, the instruction's own precise exception, the deadline, an
interrupt, a debug halt, and else the instruction's effect. An instruction whose read waits has issued and is past its
boundary. -/
def State.settle (s : State) (p : Nat) (reports : Bool) (r : Resp) : State :=
  match (s.pair p).imp, r with
  | some i, .fail _ _ => s.takeImprecise p i
  | none, .fail t e => t.raise p e
  | imp, .ok t =>
    if (s.readOf p).isSome then t
    else match imp, reports with
      | some i, true => s.takeImprecise p i
      | _, _ =>
        match s.asyncExc p with
        | some e => s.raiseAt p e
        | none => if s.haltDue p then s.haltPair p else t

/-- The pair's boundary with the word `w`: `f` gives the effect of the instruction that `w` decodes to, and answers `none`
where that is not the instruction of the command. -/
def State.issue (s : State) (p : Nat) (w : Word) (f : State → Zaend → Option Resp) : State :=
  let x := s.pair p
  if !s.canIssue p then s
  else if (x.imp.map (fun i => decide (7 ≤ i.after))).getD false then
    (match x.imp with
      | some i => ((s.wake p).takeImprecise p i).afterStep p
      | none => s)
  else match s.fetchExc p x.pc.toNat with
    | some e => ((s.wake p).raiseAt p e).afterStep p
    | none =>
      if s.fetchWord p x.pc.toNat ≠ w then s
      else match (s.wake p).fetchAt p x.pc.toNat with
        | .waits t => t
        | .fails t e => (t.raiseAt p e).afterStep p
        | .ready s1 =>
          match Zaend.decode w with
          | none => (s1.raiseAt p ⟨Cause.illegal, w⟩).afterStep p
          | some z =>
            let s2 := s1.updPair p (fun x => x.await z)
            match f s2 z with
            | none => s
            | some r =>
              let t := s2.settle p (x.reports z) r
              if (t.readOf p).isSome then t else t.afterStep p

end Sys2Proof.Machine
end

