-- ==== Sys2Proof/Machine/Branch.lean ====
section
/-! DEFINITION. Branches and jumps (R90, R99, R100). -/

namespace Sys2Proof.Machine

/-- The state after a transfer of control to `t` in `n` cycles. -/
def State.retireTo (s : State) (p : Nat) (x : Pair) (t : Word) (n : Nat) : State :=
  s.setPair p { x.retire n with pc := t }

/-- A conditional branch of offset `off` in words (R99): 2 cycles taken, 1 not taken. -/
def State.doBranch (s : State) (p : Nat) (taken : Bool) (off : Word) : Resp :=
  let x := s.pair p
  .ok (if taken then s.retireTo p x (x.pc + off <<< 2) 2 else s.retireNext p x 1)

/-- The boundary of a pair with a CB branch. -/
def State.branchStep (s : State) (p : Nat) (w : Word) (c : Cond) : State :=
  s.issue p w (fun s z =>
    match z with
    | .branch k ra rb off =>
      if k = c then some (s.doBranch p (k.holds ((s.pair p).greg ra.toNat) ((s.pair p).greg rb.toNat)) (off.signExtend 32))
      else none
    | _ => none)

/-- The boundary of a pair with a CBI branch. -/
def State.branchImmStep (s : State) (p : Nat) (w : Word) (c : Cond) : State :=
  s.issue p w (fun s z =>
    match z with
    | .branchImm k ra imm off =>
      if k = c then some (s.doBranch p (k.holds ((s.pair p).greg ra.toNat) (k.ext imm)) (off.signExtend 32)) else none
    | _ => none)

/-- j and jal (R99): jal writes the return address to g1. -/
def State.doJump (s : State) (p : Nat) (link : Bool) (off : BitVec 26) : Resp :=
  let x := s.pair p
  .ok (s.retireTo p (if link then x.setG 1 (x.pc + 4) else x) (x.pc + off.signExtend 32 <<< 2) 2)

/-- jr and jalr (R99, R100): the target is computed before g1 is written; an unaligned one raises misaligned and changes
neither g1 nor the PC. -/
def State.doJumpReg (s : State) (p : Nat) (link : Bool) (ra : BitVec 5) (imm : BitVec 16) : Resp :=
  let x := s.pair p
  let t := x.greg ra.toNat + imm.signExtend 32
  if t &&& 3 ≠ 0 then .fail s ⟨Cause.misaligned, t⟩
  else .ok (s.retireTo p (if link then x.setG 1 (x.pc + 4) else x) t 3)

/-- The boundary of a pair with j or jal. -/
def State.jumpStep (s : State) (p : Nat) (w : Word) (link : Bool) : State :=
  s.issue p w (fun s z =>
    match z with
    | .jump l off => if l = link then some (s.doJump p l off) else none
    | _ => none)

/-- The boundary of a pair with jr or jalr. -/
def State.jumpRegStep (s : State) (p : Nat) (w : Word) (link : Bool) : State :=
  s.issue p w (fun s z =>
    match z with
    | .jumpReg l ra imm => if l = link then some (s.doJumpReg p l ra imm) else none
    | _ => none)

/-- BEQ (R99). -/
def execBeq (p : PairId) (w : Word) (s : State) : Host.Outcome State Fault Refusal :=
  .next (s.branchStep p.val w .eq)
/-- BNE (R99). -/
def execBne (p : PairId) (w : Word) (s : State) : Host.Outcome State Fault Refusal :=
  .next (s.branchStep p.val w .ne)
/-- BLT (R99). -/
def execBlt (p : PairId) (w : Word) (s : State) : Host.Outcome State Fault Refusal :=
  .next (s.branchStep p.val w .lt)
/-- BGE (R99). -/
def execBge (p : PairId) (w : Word) (s : State) : Host.Outcome State Fault Refusal :=
  .next (s.branchStep p.val w .ge)
/-- BLTU (R99). -/
def execBltu (p : PairId) (w : Word) (s : State) : Host.Outcome State Fault Refusal :=
  .next (s.branchStep p.val w .ltu)
/-- BGEU (R99). -/
def execBgeu (p : PairId) (w : Word) (s : State) : Host.Outcome State Fault Refusal :=
  .next (s.branchStep p.val w .geu)
/-- BEQI (R99). -/
def execBeqi (p : PairId) (w : Word) (s : State) : Host.Outcome State Fault Refusal :=
  .next (s.branchImmStep p.val w .eq)
/-- BNEI (R99). -/
def execBnei (p : PairId) (w : Word) (s : State) : Host.Outcome State Fault Refusal :=
  .next (s.branchImmStep p.val w .ne)
/-- BLTI (R99). -/
def execBlti (p : PairId) (w : Word) (s : State) : Host.Outcome State Fault Refusal :=
  .next (s.branchImmStep p.val w .lt)
/-- BGEI (R99). -/
def execBgei (p : PairId) (w : Word) (s : State) : Host.Outcome State Fault Refusal :=
  .next (s.branchImmStep p.val w .ge)
/-- BLTUI (R99). -/
def execBltui (p : PairId) (w : Word) (s : State) : Host.Outcome State Fault Refusal :=
  .next (s.branchImmStep p.val w .ltu)
/-- BGEUI (R99). -/
def execBgeui (p : PairId) (w : Word) (s : State) : Host.Outcome State Fault Refusal :=
  .next (s.branchImmStep p.val w .geu)
/-- J (R99, R100). -/
def execJ (p : PairId) (w : Word) (s : State) : Host.Outcome State Fault Refusal :=
  .next (s.jumpStep p.val w false)
/-- JAL (R99, R100). -/
def execJal (p : PairId) (w : Word) (s : State) : Host.Outcome State Fault Refusal :=
  .next (s.jumpStep p.val w true)
/-- JR (R99, R100). -/
def execJr (p : PairId) (w : Word) (s : State) : Host.Outcome State Fault Refusal :=
  .next (s.jumpRegStep p.val w false)
/-- JALR (R99, R100). -/
def execJalr (p : PairId) (w : Word) (s : State) : Host.Outcome State Fault Refusal :=
  .next (s.jumpRegStep p.val w true)

end Sys2Proof.Machine
end

