-- ==== Sys2Proof/Machine/Integer.lean ====
section
/-! DEFINITION. The integer instructions (R95, R96) with their overflow exceptions (R82, R83). -/

namespace Sys2Proof.Machine

/-- An instruction of major 0x01: rd := the result; overflow is precise with PM = 1, and then nothing changes, else
imprecise (R82, R83, R95). -/
def State.doAlu (s : State) (p : Nat) (op : AluOp) (rd ra rb rc : BitVec 5) : Resp :=
  let x := s.pair p
  let a := x.greg ra.toNat
  let b := x.greg rb.toNat
  let y := x.setG rd.toNat (op.result a b (x.greg rc.toNat))
  if op.overflows a b && x.pm then .fail s ⟨Cause.overflow, x.pc⟩
  else
    let n := if (op == .addv || op == .subv) && x.pm then 2 else 1
    let t := s.retireNext p y n
    .ok (if op.overflows a b then t.updPair p (fun y => y.addImprecise Cause.overflow x.pc) else t)

/-- The boundary of a pair with an instruction of major 0x01. -/
def State.aluStep (s : State) (p : Nat) (w : Word) (op : AluOp) : State :=
  s.issue p w (fun s z =>
    match z with
    | .alu o rd ra rb rc => if o = op then some (s.doAlu p o rd ra rb rc) else none
    | _ => none)

/-- An RI integer instruction: rd := the result, in one cycle, with no exception (R96). -/
def State.doImm (s : State) (p : Nat) (op : ImmOp) (rd ra : BitVec 5) (imm : BitVec 16) : Resp :=
  let x := s.pair p
  .ok (s.retireNext p (x.setG rd.toNat (op.result (x.greg ra.toNat) imm)) 1)

/-- The boundary of a pair with an RI integer instruction. -/
def State.immStep (s : State) (p : Nat) (w : Word) (op : ImmOp) : State :=
  s.issue p w (fun s z =>
    match z with
    | .imm o rd ra imm => if o = op then some (s.doImm p o rd ra imm) else none
    | _ => none)

/-- ADD (R95). -/
def execAdd (p : PairId) (w : Word) (s : State) : Host.Outcome State Fault Refusal :=
  .next (s.aluStep p.val w .add)
/-- SUB (R95). -/
def execSub (p : PairId) (w : Word) (s : State) : Host.Outcome State Fault Refusal :=
  .next (s.aluStep p.val w .sub)
/-- ADDV (R95). -/
def execAddv (p : PairId) (w : Word) (s : State) : Host.Outcome State Fault Refusal :=
  .next (s.aluStep p.val w .addv)
/-- SUBV (R95). -/
def execSubv (p : PairId) (w : Word) (s : State) : Host.Outcome State Fault Refusal :=
  .next (s.aluStep p.val w .subv)
/-- AND (R95). -/
def execAnd (p : PairId) (w : Word) (s : State) : Host.Outcome State Fault Refusal :=
  .next (s.aluStep p.val w .and_)
/-- OR (R95). -/
def execOr (p : PairId) (w : Word) (s : State) : Host.Outcome State Fault Refusal :=
  .next (s.aluStep p.val w .or_)
/-- XOR (R95). -/
def execXor (p : PairId) (w : Word) (s : State) : Host.Outcome State Fault Refusal :=
  .next (s.aluStep p.val w .xor_)
/-- ANDN (R95). -/
def execAndn (p : PairId) (w : Word) (s : State) : Host.Outcome State Fault Refusal :=
  .next (s.aluStep p.val w .andn)
/-- SLL (R95). -/
def execSll (p : PairId) (w : Word) (s : State) : Host.Outcome State Fault Refusal :=
  .next (s.aluStep p.val w .sll)
/-- SRL (R95). -/
def execSrl (p : PairId) (w : Word) (s : State) : Host.Outcome State Fault Refusal :=
  .next (s.aluStep p.val w .srl)
/-- SRA (R95). -/
def execSra (p : PairId) (w : Word) (s : State) : Host.Outcome State Fault Refusal :=
  .next (s.aluStep p.val w .sra)
/-- SLT (R95). -/
def execSlt (p : PairId) (w : Word) (s : State) : Host.Outcome State Fault Refusal :=
  .next (s.aluStep p.val w .slt)
/-- SLTU (R95). -/
def execSltu (p : PairId) (w : Word) (s : State) : Host.Outcome State Fault Refusal :=
  .next (s.aluStep p.val w .sltu)
/-- CLZ (R95). -/
def execClz (p : PairId) (w : Word) (s : State) : Host.Outcome State Fault Refusal :=
  .next (s.aluStep p.val w .clz)
/-- POP (R95). -/
def execPop (p : PairId) (w : Word) (s : State) : Host.Outcome State Fault Refusal :=
  .next (s.aluStep p.val w .pop)
/-- BSWAP (R95). -/
def execBswap (p : PairId) (w : Word) (s : State) : Host.Outcome State Fault Refusal :=
  .next (s.aluStep p.val w .bswap)
/-- CSEL (R95). -/
def execCsel (p : PairId) (w : Word) (s : State) : Host.Outcome State Fault Refusal :=
  .next (s.aluStep p.val w .csel)
/-- ADDI (R96). -/
def execAddi (p : PairId) (w : Word) (s : State) : Host.Outcome State Fault Refusal :=
  .next (s.immStep p.val w .addi)
/-- ANDI (R96). -/
def execAndi (p : PairId) (w : Word) (s : State) : Host.Outcome State Fault Refusal :=
  .next (s.immStep p.val w .andi)
/-- ORI (R96). -/
def execOri (p : PairId) (w : Word) (s : State) : Host.Outcome State Fault Refusal :=
  .next (s.immStep p.val w .ori)
/-- XORI (R96). -/
def execXori (p : PairId) (w : Word) (s : State) : Host.Outcome State Fault Refusal :=
  .next (s.immStep p.val w .xori)
/-- SLTI (R96). -/
def execSlti (p : PairId) (w : Word) (s : State) : Host.Outcome State Fault Refusal :=
  .next (s.immStep p.val w .slti)
/-- SLTIU (R96). -/
def execSltiu (p : PairId) (w : Word) (s : State) : Host.Outcome State Fault Refusal :=
  .next (s.immStep p.val w .sltiu)
/-- LUI (R96). -/
def execLui (p : PairId) (w : Word) (s : State) : Host.Outcome State Fault Refusal :=
  .next (s.immStep p.val w .lui)
/-- SLLI (R96). -/
def execSlli (p : PairId) (w : Word) (s : State) : Host.Outcome State Fault Refusal :=
  .next (s.immStep p.val w .slli)
/-- SRLI (R96). -/
def execSrli (p : PairId) (w : Word) (s : State) : Host.Outcome State Fault Refusal :=
  .next (s.immStep p.val w .srli)
/-- SRAI (R96). -/
def execSrai (p : PairId) (w : Word) (s : State) : Host.Outcome State Fault Refusal :=
  .next (s.immStep p.val w .srai)

end Sys2Proof.Machine
end

