-- ==== Sys2Proof/Machine/LoadStore.lean ====
section
/-! DEFINITION. Loads, stores and the store buffer (R93, R97, R98, R140, R141, R150, R151, R156, R157, R518). -/

namespace Sys2Proof.Machine

/-- The size of a load (R97). -/
def LoadOp.size : LoadOp → Nat
  | .ldw => 4
  | .ldh | .ldhu => 2
  | .ldb | .ldbu => 1
/-- The size of a store (R97). -/
def StoreOp.size : StoreOp → Nat
  | .stw => 4
  | .sth => 2
  | .stb => 1
/-- The value a load gives rd from the bytes read (R97). -/
def LoadOp.extend (op : LoadOp) (v : Nat) : Word :=
  match op with
  | .ldh => sextWord 16 (wd v)
  | .ldb => sextWord 8 (wd v)
  | _ => wd v

/-- A refused access of wrong size to a flue slot or to the channel table is recorded (R168, R170). -/
def State.noteWrongSize (s : State) (p a n : Nat) (e : Exc) : State :=
  let o := a - 0x40000000
  if e.code = Cause.busError ∧ n ≠ 4 ∧ spaceOf a = .window then
    if isSlot o then s.flueRefuse ((o - 0x20000) / 32) p false false
    else if isChannelTable o then s.flueRefuse ((o - 0x10000) / 8) p false false
    else s
  else s

/-- The posted stores that a strongly ordered load of the pair waits for (R140, R150): all of them, where one of them is strong, and
for a load from local memory where one of them is to local memory. -/
def State.orderStrong (s : State) (p a n : Nat) : State :=
  if (s.isStrong p a n && (s.pair p).stores.any (fun t => t.strong)) ||
      (spaceOf a == .loc && (s.pair p).stores.any (fun t => spaceOf t.addr == .loc)) then s.drainStores p else s

/-- What an access of a load comes to. -/
inductive Loaded where
  | done (s : State) (v : Nat)
  | waits (s : State)
  | fails (s : State) (e : Exc)
  deriving DecidableEq, Repr

/-- The bytes of a load from memory as its word check lets them through (R140, R157, R162). -/
def State.checkLoad (s : State) (p a : Nat) (bs : List Byte) (chk : WordCheck) : Loaded :=
  match (if s.flawed p a then .uncorrectable else chk : WordCheck) with
  | .clean => .done s (ofLe bs)
  | .corrected => .done (s.memCorrected p a) (ofLe bs)
  | .uncorrectable => .fails (s.memUncorrectable p a) ⟨Cause.busError, wd a⟩

/-- What a unit's answer to a word load is to the load. -/
def Loaded.ofUnit : Resp × Word → Loaded
  | (.ok t, v) => .done t v.toNat
  | (.fail t e, _) => .fails t e

/-- The value of a load that passes the checks of R98, its wait, or its bus error (R93, R97, R98, R157, R178). -/
def State.loadValue (s : State) (p a n : Nat) (chk : WordCheck) : Loaded :=
  match spaceOf a with
  | .control =>
    let s := s.drainStores p
    .done s (s.ctlLoad p (a - 0x10000)).toNat
  | .window => .ofUnit ((s.drainStores p).devLoad p (a - 0x40000000))
  | sp =>
    let s := if s.isDevice p a n then s.drainStores p else s.orderStrong p a n
    let seen := fun (s : State) (bs : List Byte) => bs.zipIdx.map (fun b => (s.pair p).overlay (a + b.2) b.1)
    if sp = .hearth ∨ sp = .nvm then
      match s.pairRead p a n false with
      | .waits t => .waits t
      | .done t bs => t.checkLoad p a (seen t bs) chk
    else s.checkLoad p a (seen s (s.memBytes p a n)) chk

/-- The cycles after which the result of a load is usable, and whether a wait may lengthen them (R93, R142). -/
def loadDelay (a : Nat) : Nat × Bool :=
  match spaceOf a with
  | .control => (4, false)
  | .hearth => (8, true)
  | .nvm => (24, true)
  | .window => (20, true)
  | _ => (2, false)

/-- A register that a load has given its value is usable after the load's cycles (R92, R93). -/
def Pair.loaded (x : Pair) (rd : Nat) (v : Word) (d : Nat × Bool) : Pair :=
  let y := x.setG rd v
  { y with ready := if rd = 0 then y.ready else y.ready.set (fun _ => (0, false)) rd d, unsteady := y.unsteady || d.2 }

/-- A load (R97). One whose read waits for its grant leaves the pair at the load (R179). -/
def State.doLoad (s : State) (p : Nat) (op : LoadOp) (rd ra : BitVec 5) (imm : BitVec 16) (chk : WordCheck) : Resp :=
  let a := (s.pair p).address ra imm
  match s.dataExc p a op.size .load with
  | some e => .fail (s.noteWrongSize p a op.size e) e
  | none =>
    match s.loadValue p a op.size chk with
    | .fails t e => .fail t e
    | .waits t => .ok t
    | .done t v => .ok (t.retireNext p ((t.pair p).loaded rd.toNat (op.extend v) (loadDelay a)) 1)

/-- The oldest posted store performed where the buffer is full: the store holds issue until then (R93). -/
def State.makeRoom (s : State) (p : Nat) : State :=
  match (s.pair p).stores.head? with
  | some t =>
    if (s.pair p).stores.length < 4 then s
    else if spaceOf t.addr = .hearth then
      ((s.win (bankAt p t.addr) (indexOf p) 256).performAt p 0).updPair p (fun x => x.advanceLoose 8)
    else (s.performAt p 0).updPair p (fun x => x.advance 2)
  | none => s

/-- A store posted into the store buffer (R93). -/
def State.post (s : State) (p : Nat) (t : PostedStore) : State :=
  let s := (s.noteStore p t.addr t.size).makeRoom p
  (s.updPair p (fun x => { x with stores := x.stores ++ [t], unsteady := x.unsteady || spaceOf t.addr != .loc })).askStores p

/-- A store to memory that holds issue until it is performed (R151). -/
def State.performNow (s : State) (p a n : Nat) (v : Word) : State :=
  let s := (s.noteStore p a n).drainStores p
  let s := if spaceOf a = .hearth then s.win (bankAt p a) (indexOf p) 256 else s
  (s.performStore p ⟨a, n, v, false⟩).updPair p (fun x => if spaceOf a = .hearth then x.advanceLoose 7 else x.advance 1)

/-- A store of the low `n` bytes of `v` that passes the checks of R98 (R97, R151), and the cycles that it holds issue (R93, R142). -/
def State.storeValue (s : State) (p a n : Nat) (v : Word) : Resp × Nat :=
  let drained := fun (s : State) => if (s.pair p).stores.isEmpty then s else (s.drainStores p).updPair p (fun x => x.advanceLoose 0)
  match spaceOf a with
  | .control => ((drained s).ctlStore p (a - 0x10000) v, 4)
  | .window => ((drained s).devStore p (a - 0x40000000) v, 20)
  | _ => (.ok (if s.isDevice p a n then s.performNow p a n v else s.post p ⟨a, n, v, s.isStrong p a n⟩), 1)

/-- A store (R97). -/
def State.doStore (s : State) (p : Nat) (op : StoreOp) (rs ra : BitVec 5) (imm : BitVec 16) : Resp :=
  let a := (s.pair p).address ra imm
  match s.dataExc p a op.size .store with
  | some e => .fail (s.noteWrongSize p a op.size e) e
  | none =>
    let r := s.storeValue p a op.size ((s.pair p).greg rs.toNat)
    match r.1 with
    | .fail t e => .fail t e
    | .ok t =>
      let x := if spaceOf a = .window then { t.pair p with unsteady := true } else t.pair p
      .ok (t.retireNext p x r.2)

/-- The boundary of a pair with a load. -/
def State.loadStep (s : State) (p : Nat) (w : Word) (op : LoadOp) (chk : WordCheck) : State :=
  s.issue p w (fun s z => match z with
    | .load o rd ra imm => if o = op then some (s.doLoad p o rd ra imm chk) else none
    | _ => none)

/-- The boundary of a pair with a store. -/
def State.storeStep (s : State) (p : Nat) (w : Word) (op : StoreOp) : State :=
  s.issue p w (fun s z => match z with
    | .store o rs ra imm => if o = op then some (s.doStore p o rs ra imm) else none
    | _ => none)

/-- LDW (R97). -/
def execLdw (p : PairId) (w : Word) (chk : WordCheck) (s : State) : Host.Outcome State Fault Refusal :=
  .next (s.loadStep p.val w .ldw chk)
/-- LDH (R97). -/
def execLdh (p : PairId) (w : Word) (chk : WordCheck) (s : State) : Host.Outcome State Fault Refusal :=
  .next (s.loadStep p.val w .ldh chk)
/-- LDHU (R97). -/
def execLdhu (p : PairId) (w : Word) (chk : WordCheck) (s : State) : Host.Outcome State Fault Refusal :=
  .next (s.loadStep p.val w .ldhu chk)
/-- LDB (R97). -/
def execLdb (p : PairId) (w : Word) (chk : WordCheck) (s : State) : Host.Outcome State Fault Refusal :=
  .next (s.loadStep p.val w .ldb chk)
/-- LDBU (R97). -/
def execLdbu (p : PairId) (w : Word) (chk : WordCheck) (s : State) : Host.Outcome State Fault Refusal :=
  .next (s.loadStep p.val w .ldbu chk)
/-- STW (R97). -/
def execStw (p : PairId) (w : Word) (s : State) : Host.Outcome State Fault Refusal := .next (s.storeStep p.val w .stw)
/-- STH (R97). -/
def execSth (p : PairId) (w : Word) (s : State) : Host.Outcome State Fault Refusal := .next (s.storeStep p.val w .sth)
/-- STB (R97). -/
def execStb (p : PairId) (w : Word) (s : State) : Host.Outcome State Fault Refusal := .next (s.storeStep p.val w .stb)

/-- STORE_PERFORMED (R93, R150): the i-th oldest posted store is performed, where no earlier one must be performed first and,
in hearth memory, the bank has been granted to the pair (R178). -/
def execStorePerformed (p : PairId) (i : Nat) (s : State) : Host.Outcome State Fault Refusal :=
  .next (match (s.pair p.val).stores[i]? with
    | none => s
    | some t =>
      if !(s.pair p.val).storeFree i then s
      else if spaceOf t.addr = .hearth ∧ !(s.arb (bankAt p.val t.addr)).holds (indexOf p.val) then s
      else s.performAt p.val i)

end Sys2Proof.Machine
end

