-- ==== Sys2Proof/Machine/Long.lean ====
section
/-! DEFINITION. The long instructions (R87, R105–R107): steps of 32 bytes, between which they may stop with the registers
holding what is left. -/

namespace Sys2Proof.Machine

/-- The address registers of a long instruction in field order, and its count register (R105). -/
def LongOp.roles (op : LongOp) (rd ra rb rc : BitVec 5) : List (BitVec 5) × BitVec 5 :=
  match op with
  | .wipe => ([ra], rb)
  | .bcopy => ([rd, ra], rb)
  | .cteq => ([ra, rb], rc)

/-- The misaligned exception of a long instruction before its first step (R105): the first address register that is no
multiple of 4, with the address; the count, with the first address register plus the count. -/
def Pair.longMisaligned (x : Pair) (op : LongOp) (rd ra rb rc : BitVec 5) : Option Exc :=
  let r := op.roles rd ra rb rc
  match r.1.find? (fun a => (x.greg a.toNat).toNat % 4 != 0) with
  | some a => some ⟨Cause.misaligned, x.greg a.toNat⟩
  | none =>
    if (x.greg r.2.toNat).toNat % 4 ≠ 0 then some ⟨Cause.misaligned, x.greg (r.1.headD 0).toNat + x.greg r.2.toNat⟩
    else none

/-- The exception of one word access of a step (R98, R105): bus error in the register window and the core-local control
block. -/
def State.longExc (s : State) (p a : Nat) (k : Access) : Option Exc :=
  match spaceOf a with
  | .window | .control => some ⟨Cause.busError, wd a⟩
  | _ => s.dataExc p a 4 k

/-- The exceptions of the accesses of a step over `n` bytes at `a`, by ascending address. -/
def State.rangeExcs (s : State) (p : Nat) (a : Word) (n : Nat) (k : Access) : List Exc :=
  (List.range (n / 4)).filterMap (fun i => s.longExc p (a + wd (4 * i)).toNat k)

/-- The place of a data cause in the order of R74. -/
def causeRank (c : Nat) : Nat :=
  if c = Cause.misaligned then 5 else if c = Cause.mpuLoad ∨ c = Cause.mpuStore then 6 else if c = Cause.busError then 7
  else if c = Cause.flueFull then 8 else 9

/-- The exception reported of those that the accesses of one step meet: the first in the order of R74, and of those alike the first
access (R98, R106). -/
def firstExc : List Exc → Option Exc
  | [] => none
  | e :: es =>
    match firstExc es with
    | some f => if causeRank f.code < causeRank e.code then some f else some e
    | none => some e

/-- The first word of a step's range that is known to be uncorrectable (R157). -/
def State.rangeFlaw (s : State) (p : Nat) (a : Word) (n : Nat) : Option Nat :=
  ((List.range (n / 4)).map (fun i => (a + wd (4 * i)).toNat)).find? (fun x => s.flawed p x)

/-- The words of a step's range in memory. -/
def State.rangeWords (s : State) (p : Nat) (a : Word) (n : Nat) : List Word :=
  (List.range (n / 4)).map (fun i => s.memWord p (a + wd (4 * i)).toNat)

/-- The words written over a step's range. -/
def State.writeRange (s : State) (p : Nat) (a : Word) (ws : List Word) : State :=
  (ws.zipIdx).foldl (fun s e =>
    let b := (a + wd (4 * e.2)).toNat
    let s := (s.noteStore p b 4).writeMem p b (wordBytes e.1)
    if spaceOf b = .hearth then s.dropWriteBack (hearthOf p) (b - 0x10000000) 4 else s) s

/-- The read of a step waits within the step until the NVM controller grants it, in the order of its read port (R179). -/
def State.readNow (s : State) (p a : Nat) : Nat → State
  | 0 => s
  | n + 1 =>
    match s.pairRead p a 4 false with
    | .done t _ => t
    | .waits t => ((t.finishUse .nvm).grant .nvm).readNow p a n

/-- A step's use of the memory of a range: one grant for up to 32 bytes (R93, R178). -/
def State.useRange (s : State) (p : Nat) (a : Word) : State :=
  match spaceOf a.toNat with
  | .hearth => s.use (bankAt p a.toNat) (indexOf p)
  | .nvm => s.readNow p a.toNat 256
  | _ => s

/-- The cycles of one read or write of a step (R93). -/
def rangeCycles (a : Word) : Nat :=
  match spaceOf a.toNat with
  | .hearth => 8
  | .nvm => 24
  | _ => 4

/-- One step of a long instruction (R106): every read and write is checked before any is performed; `reads` and `writes` are its
ranges, and `f` what it does once they pass. -/
def State.longStepOf (s : State) (p n : Nat) (reads writes : List Word) (f : State → State) : Resp :=
  match firstExc (reads.flatMap (fun a => s.rangeExcs p a n .load) ++ writes.flatMap (fun a => s.rangeExcs p a n .store)) with
  | some e => .fail s e
  | none =>
    let t := (reads ++ writes).foldl (fun s a => s.useRange p a) s
    match reads.findSome? (fun a => t.rangeFlaw p a n) with
    | some a => .fail (t.memUncorrectable p a) ⟨Cause.busError, wd a⟩
    | none => .ok ((f t).updPair p (fun x => x.advanceLoose (((reads ++ writes).map rangeCycles).sum)))

/-- One step of each long instruction (R106). -/
def State.longOne (s : State) (p : Nat) (op : LongOp) (rd ra rb rc : BitVec 5) : Resp :=
  let x := s.pair p
  let cnt := x.greg (op.roles rd ra rb rc).2.toNat
  let n := min 32 cnt.toNat
  let d := x.greg rd.toNat
  let a := x.greg ra.toNat
  let b := x.greg rb.toNat
  let m := wd n
  match op with
  | .wipe =>
    s.longStepOf p n [] [a] (fun s =>
      (s.writeRange p a (List.replicate (n / 4) 0)).updPair p (fun x => (x.setG ra.toNat (a + m)).setG rb.toNat (cnt - m)))
  | .bcopy =>
    s.longStepOf p n [a] [d] (fun s =>
      (s.writeRange p d (s.rangeWords p a n)).updPair p (fun x =>
        ((x.setG rd.toNat (d + m)).setG ra.toNat (a + m)).setG rb.toNat (cnt - m)))
  | .cteq =>
    s.longStepOf p n [a, b] [] (fun s =>
      let diff := (List.zipWith (· ^^^ ·) (s.rangeWords p a n) (s.rangeWords p b n)).foldl (· ||| ·) 0
      s.updPair p (fun x =>
        (((x.setG rd.toNat (d ||| diff)).setG ra.toNat (a + m)).setG rb.toNat (b + m)).setG rc.toNat (cnt - m)))

/-- Up to `k` steps of a long instruction; with the count at zero it retires (R87, R106, R107). A fault in a step leaves the
steps before it done. -/
def State.longSteps (s : State) (p : Nat) (op : LongOp) (rd ra rb rc : BitVec 5) : Nat → Resp
  | 0 => if (s.pair p).greg (op.roles rd ra rb rc).2.toNat = 0 then .ok (s.retireNext p (s.pair p) 0) else .ok s
  | k + 1 =>
    if (s.pair p).greg (op.roles rd ra rb rc).2.toNat = 0 then .ok (s.retireNext p (s.pair p) 0)
    else match s.longOne p op rd ra rb rc with
      | .fail t e => .fail t e
      | .ok t => t.longSteps p op rd ra rb rc k

/-- A long instruction run for up to `k` steps: the registers are checked first, the store buffer is emptied, and 2 cycles pass
(R105–R107). While the pair single-steps, one step ends it (R352). -/
def State.doLong (s : State) (p : Nat) (op : LongOp) (rd ra rb rc : BitVec 5) (k : Nat) : Resp :=
  match (s.pair p).longMisaligned op rd ra rb rc with
  | some e => .fail s e
  | none =>
    ((s.drainStores p).updPair p (fun x => x.advanceLoose 2)).longSteps p op rd ra rb rc
      (if (s.pair p).stepping then min 1 k else k)

/-- The boundary of a pair with a long instruction. -/
def State.longStep (s : State) (p : Nat) (w : Word) (op : LongOp) (k : Nat) : State :=
  s.issue p w (fun s z => match z with
    | .long o rd ra rb rc => if o = op then some (s.doLong p o rd ra rb rc k) else none
    | _ => none)

/-- WIPE (R106). -/
def execWipe (p : PairId) (w : Word) (steps : Nat) (s : State) : Host.Outcome State Fault Refusal :=
  .next (s.longStep p.val w .wipe steps)
/-- BCOPY (R106). -/
def execBcopy (p : PairId) (w : Word) (steps : Nat) (s : State) : Host.Outcome State Fault Refusal :=
  .next (s.longStep p.val w .bcopy steps)
/-- CTEQ (R106). -/
def execCteq (p : PairId) (w : Word) (steps : Nat) (s : State) : Host.Outcome State Fault Refusal :=
  .next (s.longStep p.val w .cteq steps)

end Sys2Proof.Machine
end

