-- ==== Sys2Proof/Machine/Multiplier.lean ====
section
/-! DEFINITION. The multiplier and the divider (R62, R82, R83, R101–R103). -/

namespace Sys2Proof.Machine

/-- The latency of a multiplier instruction (R101). -/
def MulOp.latency : MulOp → Nat
  | .clmul => 2
  | _ => 3

/-- The cycles that a multiplier instruction is held (R103): a clmul directly after a mul, mulh or mulhu, so that its result does not
come in the same cycle. -/
def Pair.heldMul (x : Pair) (op : MulOp) : Nat :=
  match x.mulPend.getLast? with
  | some r => r.2.2 + 1 - op.latency
  | none => 0

/-- A multiplier result issued (R101–R103), after the cycles that the instruction is held: due after its latency. -/
def Pair.issueMul (x : Pair) (op : MulOp) (a b : Word) : Pair :=
  let prod := op.product a b
  let x := if x.heldMul op = 0 then x else x.advance (x.heldMul op)
  { x with mulPend := x.mulPend ++ [(prod.1, prod.2, op.latency)] }

/-- A divide issued in this cycle: it stalls until an earlier divide's result is written (R103), and is due 18 cycles
later. -/
def Pair.issueDiv (x : Pair) (op : MulOp) (a b : Word) : Pair :=
  let x := match x.divPend with
    | some r => x.advance r.2.2
    | none => x
  let q := op.quotient a b
  { x with divPend := some (q.1, q.2, 18) }

/-- mul, mulh, mulhu, clmul, div and divu (R82, R101): a zero divisor raises divide by zero, precise with PM = 1, and then
nothing changes, else imprecise. -/
def State.doMul (s : State) (p : Nat) (op : MulOp) (ra rb : BitVec 5) : Resp :=
  let x := s.pair p
  let a := x.greg ra.toNat
  let b := x.greg rb.toNat
  if op.isDivide then
    if b = 0 ∧ x.pm then .fail s ⟨Cause.divZero, x.pc⟩
    else
      let t := s.retireNext p (x.issueDiv op a b) (if x.pm then 2 else 1)
      .ok (if b = 0 then t.updPair p (fun y => y.addImprecise Cause.divZero x.pc) else t)
  else .ok (s.retireNext p (x.issueMul op a b) 1)

/-- The boundary of a pair with an instruction of R101. -/
def State.mulStep (s : State) (p : Nat) (w : Word) (op : MulOp) : State :=
  s.issue p w (fun s z =>
    match z with
    | .mul o ra rb => if o = op then some (s.doMul p o ra rb) else none
    | _ => none)

/-- MUL (R101). -/
def execMul (p : PairId) (w : Word) (s : State) : Host.Outcome State Fault Refusal :=
  .next (s.mulStep p.val w .mul)
/-- MULH (R101). -/
def execMulh (p : PairId) (w : Word) (s : State) : Host.Outcome State Fault Refusal :=
  .next (s.mulStep p.val w .mulh)
/-- MULHU (R101). -/
def execMulhu (p : PairId) (w : Word) (s : State) : Host.Outcome State Fault Refusal :=
  .next (s.mulStep p.val w .mulhu)
/-- CLMUL (R101). -/
def execClmul (p : PairId) (w : Word) (s : State) : Host.Outcome State Fault Refusal :=
  .next (s.mulStep p.val w .clmul)
/-- DIV (R101). -/
def execDiv (p : PairId) (w : Word) (s : State) : Host.Outcome State Fault Refusal :=
  .next (s.mulStep p.val w .div)
/-- DIVU (R101). -/
def execDivu (p : PairId) (w : Word) (s : State) : Host.Outcome State Fault Refusal :=
  .next (s.mulStep p.val w .divu)

/-- MUL_RESULT (R102): the oldest pending multiplier result becomes visible; the cycles until then have passed. Between instructions
whose cycles R94 fixes it becomes visible by their count alone, and the command changes nothing; it acts where a wait, a halt or
an access outside local memory has let more cycles pass than are counted. -/
def execMulResult (p : PairId) (s : State) : Host.Outcome State Fault Refusal :=
  .next (match (s.pair p.val).mulPend with
    | r :: _ => if (s.pair p.val).unsteady then s.updPair p.val (fun x => x.advance r.2.2) else s
    | [] => s)
/-- DIV_RESULT (R102): the pending divider result becomes visible, as a multiplier result does. -/
def execDivResult (p : PairId) (s : State) : Host.Outcome State Fault Refusal :=
  .next (match (s.pair p.val).divPend with
    | some r => if (s.pair p.val).unsteady then s.updPair p.val (fun x => x.advance r.2.2) else s
    | none => s)

end Sys2Proof.Machine
end

