-- ==== Sys2Proof/Machine/System.lean ====
section
/-! DEFINITION. The system instructions (R60–R64, R67–R70, R78, R108–R111). -/

namespace Sys2Proof.Machine

/-! ## Special registers -/

/-- The least privileged ring that may read a special register; `none` for a number not in the table of R60. -/
def srReadRing (n : Nat) : Option Nat :=
  if n < 5 ∨ n = SR.pstat ∨ n = SR.lpc ∨ n = SR.lst ∨ n = SR.gcall ∨ (0x30 ≤ n ∧ n < 0x40) then some 3
  else if (0x10 ≤ n ∧ n ≤ 0x13) ∨ n = SR.evec2 ∨ n = SR.edel then some 2
  else if n = SR.evec1 ∨ n = SR.xpc ∨ n = SR.xstat ∨ (0x29 ≤ n ∧ n ≤ 0x2B) then some 1
  else if n = 0x28 then some 0
  else none

/-- The least privileged ring that may write a special register (R60). -/
def srWriteRing (n : Nat) : Option Nat :=
  if n < 4 ∨ n = SR.pstat ∨ n = SR.lpc ∨ n = SR.lst then some 3
  else if 0x10 ≤ n ∧ n ≤ 0x13 then some 2
  else if n = SR.cnt ∨ (0x14 ≤ n ∧ n ≤ 0x16) ∨ n = SR.gcall ∨ (0x29 ≤ n ∧ n ≤ 0x2B) ∨ (0x34 ≤ n ∧ n < 0x40) then some 1
  else if n = SR.xpc ∨ n = SR.xstat ∨ n = 0x28 ∨ (0x30 ≤ n ∧ n < 0x34) then some 0
  else none

/-- The causes that R73 marks delegable. -/
def delegable (k : Nat) : Bool := 2 ≤ k && k ≤ 0x10 && k != 0x09 && k != 0x0C && k != 0x0D && k != 0x0E

/-- The bits of a special register that a write stores; the reserved ones read as zero (R63). -/
def srMask (n : Nat) : Word :=
  if n = SR.ecause then 0xE000003F#32
  else if n = SR.estat then 0x3F#32
  else if n = SR.evec1 ∨ n = SR.evec2 then 0xFFFFFFFC#32
  else if n = SR.edel then wd ((List.range 17).foldl (fun v k => v + b2n (delegable k) * 2 ^ k) 0)
  else if n = SR.xstat then 0xFF3F#32
  else if n = SR.lst then 0xF0F#32
  else 0xFFFFFFFF#32

/-- A write that would place a ring more privileged than the executing one into a ring field, or ring 0 into ge4–ge15
(R61); so a PRING below ERING fails at the mts (R79). -/
def ringForbidden (n ring : Nat) (v : Word) : Bool :=
  if n = SR.estat ∨ n = SR.lst then fld 1 0 v < ring || fld 3 2 v < ring
  else if 0x30 ≤ n ∧ n < 0x40 then fld 1 0 v < ring || (0x34 ≤ n && fld 1 0 v == 0)
  else false

/-- pstat after a write from a ring (R64): ring 3 changes PM, ring 2 PM and EXL, rings 0 and 1 PM, EXL and IE; DF clears when
ring 1 writes EXL = 0. -/
def Pair.writePstat (x : Pair) (v : Word) : Pair :=
  let r := x.ring
  x.setPstat r (if r ≤ 1 then bit 2 v else x.ie) (bit 3 v) (if r ≤ 2 then bit 4 v else x.exl)
    (x.df && !(r == 1 && !bit 4 v))

/-- A special register written from a ring that may write it (R60, R62, R64). -/
def Pair.writeSr (x : Pair) (n : Nat) (v : Word) : Pair :=
  if n = SR.pstat then x.writePstat v
  else if n = SR.mh ∨ n = SR.ml then { x.setS n v with mulPend := [] }
  else if n = SR.dq ∨ n = SR.dr then { x.setS n v with divPend := none }
  else if n = SR.gcall ∧ x.ring ≠ 0 then
    x.setS n ((v &&& 0xFFFFFF00#32) ||| (x.sreg SR.gcall &&& 0xFF#32))
  else x.setS n (v &&& srMask n)

/-- A special register as mfs reads it. -/
def Pair.readSr (x : Pair) (n : Nat) : Word := if n = SR.pstat then x.pstat else x.sreg n

/-- mfs (R60, R102): illegal instruction for a number not in the table, privilege from a ring not listed. -/
def State.doMfs (s : State) (p : Nat) (w : Word) (rd : BitVec 5) (n : Nat) : Resp :=
  let x := s.pair p
  match srReadRing n with
  | none => .fail s ⟨Cause.illegal, w⟩
  | some r =>
    if r < x.ring then .fail s ⟨Cause.privilege, w⟩
    else .ok (s.retireNext p (x.setG rd.toNat (x.readSr n)) 1)

/-- mts (R60–R62, R64). A write of cnt is followed by the count of its own retirement (R63; DESIGN CHOICE, log 81: the manual does not
say whether the mts is counted on top of the value written). -/
def State.doMts (s : State) (p : Nat) (w : Word) (ra : BitVec 5) (n : Nat) : Resp :=
  let x := s.pair p
  let v := x.greg ra.toNat
  match srWriteRing n with
  | none => .fail s ⟨Cause.illegal, w⟩
  | some r =>
    if r < x.ring || ringForbidden n x.ring v then .fail s ⟨Cause.privilege, w⟩
    else .ok (s.retireNext p (x.writeSr n v) 1)

/-! ## Gates and exception return -/

/-- The gate is bad from ring c (R68). -/
def Pair.badGate (x : Pair) (n : Nat) : Bool :=
  let ge := x.sreg (SR.ge n)
  ge == 0 || x.ring < fld 1 0 ge || fld (2 * n + 1) (2 * n) (x.sreg SR.gcall) < x.ring

/-- Steps 2–5 of R68. -/
def Pair.enterGate (x : Pair) (n : Nat) : Pair :=
  let c := x.ring
  let ge := x.sreg (SR.ge n)
  let t := fld 1 0 ge
  let x := x.flushResults
  let x := (x.setS SR.lpc (x.pc + 4)).setS SR.lst (wd (256 * n + 4 * c + c))
  let x := (x.exchange c t).applyRules c t
  { (x.setPstat t x.ie x.pm x.exl x.df) with pc := ge &&& ~~~(3#32) }

/-- gate n (R68). -/
def State.doGate (s : State) (p n : Nat) : Resp :=
  let x := s.pair p
  if x.badGate n then .fail s ⟨Cause.badGate, wd n⟩ else .ok (s.setPair p (x.enterGate n))

/-- ret.g would enter a ring more privileged than the one that executed the gate or than its own (R69). -/
def Pair.badReturn (x : Pair) : Bool :=
  let lst := x.sreg SR.lst
  fld 1 0 lst < fld 3 2 lst || fld 1 0 lst < x.ring

/-- ret.g (R69). It retires and counts (log 14). -/
def State.doRetG (s : State) (p : Nat) : Resp :=
  let x := s.pair p
  if x.badReturn then .fail s ⟨Cause.privRestore, x.sreg SR.lpc⟩
  else .ok (s.setPair p ((x.retire 2).leaveGate))

/-- eret would enter a ring more privileged than the one in which the exception arose or than its own (R78, R79). -/
def Pair.badEret (x : Pair) : Bool :=
  let st := x.sreg SR.estat
  fld 1 0 st < fld 3 2 st || fld 1 0 st < x.ring

/-- The pair after an eret that is permitted (R78); it counts as nothing (R63). -/
def Pair.leaveException (x : Pair) : Pair :=
  let c := x.ring
  let st := x.sreg SR.estat
  let r := fld 1 0 st
  let x := (x.advance 3).exchange c r
  let x := x.applyRules c r
  { (x.setPstat r (bit 4 st) (bit 5 st) false (x.df && c != 1)) with pc := x.sreg SR.epc }

/-- eret (R78). -/
def State.doEret (s : State) (p : Nat) (w : Word) : Resp :=
  let x := s.pair p
  if x.ring = 3 then .fail s ⟨Cause.privilege, w⟩
  else if x.badEret then .fail s ⟨Cause.privRestore, x.sreg SR.epc⟩
  else .ok (s.setPair p x.leaveException)

/-! ## Fences and wait -/

/-- fence.m (R109): every posted store is performed. -/
def State.doFenceM (s : State) (p : Nat) : Resp :=
  let t := s.drainStores p
  let x := t.pair p
  .ok (t.retireNext p (if (s.pair p).stores.isEmpty then x else { x with unsteady := true }) 1)

/-- fence.p (R110): as fence.m, then the written rules come into force (R149), the instruction buffer is emptied (R144), and
fetches see every store of the pair. -/
def State.doFenceP (s : State) (p : Nat) : Resp :=
  let t := s.drainStores p
  let x := t.pair p
  .ok (t.retireNext p { x with mpuF := x.mpuW, mpuPend := false, ibuf := [], unfenced := [] } 4)

/-- wait (R111): completes at once in ring 0 or with a condition pending; else the pair holds issue. -/
def State.doWait (s : State) (p : Nat) : Resp :=
  let x := s.pair p
  let hold := x.ring != 0 && !s.wakes p
  .ok (s.retireNext p { x with waiting := hold, unsteady := x.unsteady || hold } 1)

/-! ## Commands -/

/-- MFS (R60). -/
def execMfs (p : PairId) (w : Word) (s : State) : Host.Outcome State Fault Refusal :=
  .next (s.issue p.val w (fun s z => match z with
    | .mfs rd n => some (s.doMfs p.val w rd n.toNat)
    | _ => none))
/-- MTS (R61). -/
def execMts (p : PairId) (w : Word) (s : State) : Host.Outcome State Fault Refusal :=
  .next (s.issue p.val w (fun s z => match z with
    | .mts ra n => some (s.doMts p.val w ra n.toNat)
    | _ => none))
/-- GATE (R68). -/
def execGate (p : PairId) (w : Word) (s : State) : Host.Outcome State Fault Refusal :=
  .next (s.issue p.val w (fun s z => match z with
    | .gate n => some (s.doGate p.val n.toNat)
    | _ => none))
/-- RET_G (R69). -/
def execRetG (p : PairId) (w : Word) (s : State) : Host.Outcome State Fault Refusal :=
  .next (s.issue p.val w (fun s z => match z with
    | .retG => some (s.doRetG p.val)
    | _ => none))
/-- ERET (R78). -/
def execEret (p : PairId) (w : Word) (s : State) : Host.Outcome State Fault Refusal :=
  .next (s.issue p.val w (fun s z => match z with
    | .eret => some (s.doEret p.val w)
    | _ => none))
/-- BRK (R108): breakpoint with the instruction's code. -/
def execBrk (p : PairId) (w : Word) (s : State) : Host.Outcome State Fault Refusal :=
  .next (s.issue p.val w (fun s z => match z with
    | .brk c => some (.fail s ⟨Cause.breakpoint, c.setWidth 32⟩)
    | _ => none))
/-- FENCE_M (R109). -/
def execFenceM (p : PairId) (w : Word) (s : State) : Host.Outcome State Fault Refusal :=
  .next (s.issue p.val w (fun s z => match z with
    | .fenceM => some (s.doFenceM p.val)
    | _ => none))
/-- FENCE_P (R110). -/
def execFenceP (p : PairId) (w : Word) (s : State) : Host.Outcome State Fault Refusal :=
  .next (s.issue p.val w (fun s z => match z with
    | .fenceP => some (s.doFenceP p.val)
    | _ => none))
/-- WAIT (R111). -/
def execWait (p : PairId) (w : Word) (s : State) : Host.Outcome State Fault Refusal :=
  .next (s.issue p.val w (fun s z => match z with
    | .wait => some (s.doWait p.val)
    | _ => none))

end Sys2Proof.Machine
end

