-- ==== Sys2Proof/Machine/Interrupts.lean ====
section
/-! DEFINITION. The exceptions that a pair takes at a boundary without an instruction of its own (R75, R80, R81, R83). -/

namespace Sys2Proof.Machine

/-- The effect of any instruction, or its precise exception. -/
def State.effect (s : State) (p : Nat) (w : Word) : Zaend → Resp
  | .alu op rd ra rb rc => s.doAlu p op rd ra rb rc
  | .imm op rd ra i => s.doImm p op rd ra i
  | .load op rd ra i => s.doLoad p op rd ra i .clean
  | .store op rs ra i => s.doStore p op rs ra i
  | .branch _ _ _ _ => .ok s
  | .branchImm _ _ _ _ => .ok s
  | .jump l off => s.doJump p l off
  | .jumpReg l ra i => s.doJumpReg p l ra i
  | .mul op ra rb => s.doMul p op ra rb
  | .long op rd ra rb rc => s.doLong p op rd ra rb rc 1
  | .mfs rd n => s.doMfs p w rd n.toNat
  | .mts ra n => s.doMts p w ra n.toNat
  | .gate n => s.doGate p n.toNat
  | .retG => s.doRetG p
  | .eret => s.doEret p w
  | .brk c => .fail s ⟨Cause.breakpoint, c.setWidth 32⟩
  | .fenceM => s.doFenceM p
  | .fenceP => s.doFenceP p
  | .wait => s.doWait p

/-- The exception that the instruction at the pair's PC raises on its fetch or precisely (R74, R75). -/
def State.nextExc (s : State) (p : Nat) : Option Exc :=
  let pc := (s.pair p).pc.toNat
  match s.fetchExc p pc with
  | some e => some e
  | none =>
    let w := s.fetchWord p pc
    match Zaend.decode w with
    | none => some ⟨Cause.illegal, w⟩
    | some z => (s.effect p w z).exc

/-- The pair stands at a boundary: it can issue, and no fetch or load of it waits for its grant (R179). -/
def State.atBoundary (s : State) (p : Nat) : Bool := s.canIssue p && (s.readOf p).isNone

/-- An asynchronous exception taken at a boundary, after what R75 puts before it: a pending imprecise arithmetic exception
and a precise exception of the next instruction. -/
def State.takeAsync (s : State) (p : Nat) (e : Exc) : State :=
  let t := s.wake p
  match (s.pair p).imp with
  | some i => (t.takeImprecise p i).afterStep p
  | none =>
    match t.nextExc p with
    | some e' => (t.raise p e').afterStep p
    | none => (t.raise p e).afterStep p

/-- DEADLINE_EXCEPTION (R81): the pending deadline exception is taken at a boundary with EXL = 0, DF = 0 and RING ≠ 0. -/
def execDeadlineException (p : PairId) (s : State) : Host.Outcome State Fault Refusal :=
  let x := s.pair p.val
  .next (match x.deadline with
    | some a => if s.atBoundary p.val && x.interruptible then s.takeAsync p.val ⟨Cause.deadline, a⟩ else s
    | none => s)

/-- INTERRUPT (R80): a pending doorbell or device interrupt is taken at a boundary with IE = 1; a pending deadline goes
first (R75). -/
def execInterrupt (p : PairId) (s : State) : Host.Outcome State Fault Refusal :=
  let x := s.pair p.val
  .next (match s.irqPending p.val with
    | some v =>
      if s.atBoundary p.val && x.interruptible && x.ie then
        s.takeAsync p.val (match x.deadline with
          | some a => ⟨Cause.deadline, a⟩
          | none => ⟨Cause.interrupt, v⟩)
      else s
    | none => s)

/-- IMPRECISE_EXCEPTION (R83): the pending imprecise exception is taken at its reporting point: seven instructions have
retired since, or the instruction at the PC is a reporting point. -/
def execImpreciseException (p : PairId) (s : State) : Host.Outcome State Fault Refusal :=
  let x := s.pair p.val
  .next (match x.imp with
    | none => s
    | some i =>
      let reports := match Zaend.decode (s.fetchWord p.val x.pc.toNat) with
        | some z => x.reports z
        | none => false
      if s.atBoundary p.val && (decide (7 ≤ i.after) || reports) then
        ((s.wake p.val).takeImprecise p.val i).afterStep p.val
      else s)

end Sys2Proof.Machine
end

