-- ==== Sys2Proof/Machine/Debug.lean ====
section
/-! DEFINITION. The debug port (R346–R352): the TAP, certificates shifted in, debug accesses, and halts. -/

namespace Sys2Proof.Machine

/-! ## The TAP -/

/-- The IDCODE (R346). -/
abbrev idcodeValue : Word := 0xB9024B67#32

/-- The states that permit an instruction of the TAP (R346). -/
def State.tapPermits (s : State) (op : Nat) : Bool :=
  if op = 0x00 ∨ op = 0x02 ∨ op = 0x04 ∨ op = 0x05 then s.lcState == 0 || s.lcState == 1 || s.lcState == 6
  else if 0x10 ≤ op ∧ op ≤ 0x12 then s.lcState != 7
  else true

/-- The words that the data register of an instruction shifts out, of those the manual gives. -/
def State.tapData (s : State) (op : Nat) : List Word :=
  if op = 0x01 then [idcodeValue] else if op = 0x12 then [s.reg Reg.LCS_DBG_RIGHTS] else []

/-- An instruction of the TAP selected, BYPASS in its place where the state does not permit it, and its data register shifted out.
Another instruction than DBG_AUTH drops the words of a certificate shifted in so far (log 53). -/
def State.tapSelect (s : State) (op : Nat) : State :=
  let op := if s.tapPermits op then op else 0xFF
  let dr := s.tapData op
  let s := { s with dport := { s.dport with instr := op, dr := dr, cert := if op = 0x10 then s.dport.cert else [] } }
  if dr.isEmpty then s else s.emit (.frame 124 op (wordsBytes dr))

/-- TAP_RESET (R346): IDCODE is selected; nothing is shifted. -/
def execTapReset (s : State) : Host.Outcome State Fault Refusal :=
  .next { s with dport := { s.dport with instr := 0x01, dr := [idcodeValue], cert := [] } }
/-- EXTEST (R346). -/
def execExtest (s : State) : Host.Outcome State Fault Refusal := .next (s.tapSelect 0x00)
/-- IDCODE (R346). -/
def execIdcode (s : State) : Host.Outcome State Fault Refusal := .next (s.tapSelect 0x01)
/-- SAMPLE_PRELOAD (R346). -/
def execSamplePreload (s : State) : Host.Outcome State Fault Refusal := .next (s.tapSelect 0x02)
/-- CLAMP (R346). -/
def execClamp (s : State) : Host.Outcome State Fault Refusal := .next (s.tapSelect 0x04)
/-- HIGHZ (R346). -/
def execHighz (s : State) : Host.Outcome State Fault Refusal := .next (s.tapSelect 0x05)
/-- DBG_STATUS (R346). -/
def execDbgStatus (s : State) : Host.Outcome State Fault Refusal := .next (s.tapSelect 0x12)
/-- BYPASS (R346). -/
def execBypass (s : State) : Host.Outcome State Fault Refusal := .next (s.tapSelect 0xFF)

/-- The bytes of a certificate shifted in as whole words, without the bytes of the last word beyond its end (R347; log 53). -/
def certBytes (ws : List Word) : List Byte :=
  let b := wordsBytes ws
  let o := 0x30 + 8 * leAt b 0x2C 1
  let n := o + 4 + leAt b o 2 + leAt b (o + 2) 2
  if n ≤ b.length ∧ b.length < n + 4 then b.take n else b

/-- DBG_AUTH (R346–R348): a word of a certificate shifted in; with its last word the certificate is presented. -/
def execDbgAuth (word : Word) (last : Bool) (s : State) : Host.Outcome State Fault Refusal :=
  let s := s.tapSelect 0x10
  .next (if s.dport.instr ≠ 0x10 then s
    else
      let ws := s.dport.cert ++ [word]
      if last then ({ s with dport := { s.dport with cert := [] } }.certPresent (certBytes ws)).1
      else { s with dport := { s.dport with cert := ws } })

/-! ## Rights -/

/-- Debug is open and its rights have not been ended (R332, R349). -/
def State.debugOpen (s : State) : Bool := s.flag Fld.LCS_STAT_DEBUG && s.flag Fld.LCS_STAT_OPEN
/-- A certificate's rights are in force: DBG_LEFT has not reached 0 (R349). -/
def State.certInForce (s : State) : Bool := s.flag Fld.LCS_STAT_DEBUG && s.reg Reg.LCS_DBG_LEFT != 0#32
/-- The hearth is granted (R350). -/
def State.hearthGranted (s : State) (h : Nat) : Bool := s.debugOpen || (s.certInForce && bit h (s.reg Reg.LCS_DBG_RIGHTS))
/-- HALT is granted. -/
def State.haltGranted (s : State) : Bool := s.debugOpen || (s.certInForce && s.flag Fld.LCS_DBG_RIGHTS_HALT)
/-- NVM_READ is granted. -/
def State.nvmGranted (s : State) : Bool := s.debugOpen || (s.certInForce && s.flag Fld.LCS_DBG_RIGHTS_NVM_READ)
/-- REG_WRITE is granted. -/
def State.regGranted (s : State) : Bool := s.debugOpen || (s.certInForce && s.flag Fld.LCS_DBG_RIGHTS_REG_WRITE)
/-- A range covers the word at an address and grants R, or W for a write (R347, R350); in the open states every range does. -/
def State.rangeGranted (s : State) (a : Nat) (wr : Bool) : Bool :=
  s.debugOpen || (s.certInForce && s.dport.ranges.any (fun r =>
    decide (r.1 ≤ a ∧ a + 4 ≤ r.1 + 2 ^ r.2.1) && (if wr then r.2.2 / 2 % 2 == 1 else r.2.2 % 2 == 1)))

/-! ## Accesses -/

/-- A debug access to the core address map of pair p is permitted (R350): a word-aligned one, as the table of R350 has it. -/
def State.debugPermits (s : State) (p a : Nat) (wr : Bool) : Bool :=
  let range := s.rangeGranted a wr
  decide (a % 4 = 0) && (match spaceOf a with
    | .loc => s.hearthGranted (hearthOf p) && range
    | .hearth => s.hearthGranted (hearthOf p) && range && !inCheckpoint a
    | .nvm => !wr && s.nvmGranted && range && !nvmClosed (a - 0x20000000) && !s.underErase (a - 0x20000000)
    | .window => range && (!wr || s.regGranted)
    | .romData | .romCode => !wr && s.debugOpen && (s.lcState == 0 || s.lcState == 1 || s.lcState == 6)
    | .control | .unmapped => false)

/-- The result of a DBG_ACCESS request, which the next capture returns (R351). -/
def State.debugResult (s : State) (data : Word) (err : Bool) : State :=
  { s with dport := { s.dport with data := data, done := true, err := err } }

/-- An access that is not permitted (R350): zeros and a bus error, an event-log entry and DBG_REFUSED. A read of a running erase's
sector first suspends the erase (R320). -/
def State.debugRefuse (s : State) (a : Word) : State :=
  let s := if spaceOf a.toNat = .nvm ∧ s.underErase (a.toNat - 0x20000000) then s.touchBank (s.readBank (a.toNat - 0x20000000)) else s
  ((s.incSat Reg.LCS_DBG_REFUSED).logEvent Src.lifecycle 2 0 a (s.reg Reg.LCS_DBG_SERIAL) 0).debugResult 0 true

/-- The result of an access to the window. -/
def State.debugWindow (r : Resp × Word) : State :=
  match r.1 with
  | .ok s => s.debugResult r.2 false
  | .fail s _ => s.debugResult 0 true

/-- The debug port's use of a memory (R178, R185): with a halt right an emergency use, else fabric inbound at a bank and index 18 at the
NVM controller. -/
def State.debugUse (s : State) (p a : Nat) : State :=
  let go := fun (s : State) (i : ArbId) (idx : Nat) => if s.haltRight then (s.takeEmergency i).grant i else s.use i idx
  match spaceOf a with
  | .hearth => go s (bankAt p a) 37
  | .nvm => go (s.touchBank (s.readBank (a - 0x20000000))) .nvm 18
  | _ => s

/-- A permitted read of the core address map of pair p. -/
def State.debugLoad (s : State) (p a : Nat) : State :=
  if spaceOf a = .window then State.debugWindow (s.windowLoad debugMaster (a - 0x40000000))
  else (s.debugUse p a).debugResult ((s.debugUse p a).memWord p a) false

/-- A permitted write to the core address map of pair p. -/
def State.debugStore (s : State) (p a : Nat) (v : Word) : State :=
  if spaceOf a = .window then State.debugWindow (s.windowStore debugMaster (a - 0x40000000) v, 0)
  else ((s.debugUse p a).writeMem p a (wordBytes v)).debugResult 0 false

/-! ## Registers of a halted pair -/

/-- The register of a pair that an ADDR of SPACE 1 names (R351), where it names one. -/
inductive PairReg where
  | general (i : Nat)
  | special (n : Nat)
  | pc
  deriving DecidableEq, Repr

/-- The register at an ADDR of SPACE 1 (R351). -/
def pairRegAt (a : Nat) : Option PairReg :=
  if a % 4 ≠ 0 then none
  else if a < 0x80 then some (.general (a / 4))
  else if 0x100 ≤ a ∧ a < 0x200 then (if (srReadRing ((a - 0x100) / 4)).isSome then some (.special ((a - 0x100) / 4)) else none)
  else if a = 0x400 then some .pc
  else none

/-- A register of a halted pair read; results of the multiplier and the divider have arrived. -/
def Pair.debugRead (x : Pair) : PairReg → Word
  | .general i => x.greg i
  | .special n => x.flushResults.readSr n
  | .pc => x.pc
/-- A register of a halted pair written; of a special register the bits that its table makes writable. -/
def Pair.debugWrite (x : Pair) (v : Word) : PairReg → Pair
  | .general i => x.setG i v
  | .special n => if (srWriteRing n).isSome then x.flushResults.writeSr n v else x
  | .pc => { x with pc := v &&& 0xFFFFFFFC#32 }

/-! ## Halts -/

/-- Halt control of pair p is permitted (R352). -/
def State.haltPermits (s : State) (p : Nat) : Bool := s.haltGranted && s.hearthGranted (hearthOf p)

/-- The pair no longer halted. -/
def State.unhalt (s : State) (p : Nat) (step : Bool) : State :=
  if !(s.pair p).halted then s
  else
    let w := Reg.LCS_HALTED (p / 32)
    (s.updPair p (fun x => { x with halted := false, stepping := step })).setReg w (s.reg w &&& ~~~(wd (2 ^ (p % 32))))

/-- A halt requested (R352). -/
def State.askHalt (s : State) (p : Nat) : State :=
  if (s.pair p).halted then s else s.updPair p (fun x => { x with haltReq := true })
/-- A resume (R352): a halt requested and not taken is withdrawn. -/
def State.resume (s : State) (p : Nat) : State := (s.unhalt p false).updPair p (fun x => { x with haltReq := false })

/-- A permitted halt-control write (R352): bit 0 halt, bit 1 resume, bit 2 single step, in that order where several are set. -/
def State.haltControl (s : State) (p : Nat) (v : Word) : State :=
  let s := if bit 0 v then s.askHalt p else s
  let s := if bit 1 v then s.resume p else s
  (if bit 2 v then s.unhalt p true else s).debugResult 0 false

/-- A halt-control write through DBG_ACCESS. -/
def State.haltWrite (s : State) (p : Nat) (a v : Word) : State := if s.haltPermits p then s.haltControl p v else s.debugRefuse a

/-! ## Commands -/

/-- A DBG_ACCESS request: the instruction selected, then the request, unless the state does not permit the instruction. -/
def State.debugAccess (s : State) (f : State → State) : State :=
  let s := s.tapSelect 0x11
  if s.dport.instr = 0x11 then f s else s

/-- DBG_READ (R350, R351). What a read of halt control returns is a free value (log 54). -/
def execDbgRead (p : PairId) (space : Fin 4) (addr : Word) (s : State) : Host.Outcome State Fault Refusal :=
  .next (s.debugAccess (fun s =>
    match space.val with
    | 0 => if s.debugPermits p.val addr.toNat false then s.debugLoad p.val addr.toNat else s.debugRefuse addr
    | 1 => match pairRegAt addr.toNat with
      | some r => if (s.pair p.val).halted then s.debugResult ((s.pair p.val).debugRead r) false else s.debugRefuse addr
      | none => s.debugRefuse addr
    | 2 => if s.haltPermits p.val then
        let r := s.freshBytes 4
        r.2.debugResult (wd (ofLe r.1)) false
      else s.debugRefuse addr
    | _ => s.debugRefuse addr))

/-- DBG_WRITE (R350, R351). -/
def execDbgWrite (p : PairId) (space : Fin 4) (addr : Word) (v : Word) (s : State) : Host.Outcome State Fault Refusal :=
  .next (s.debugAccess (fun s =>
    match space.val with
    | 0 => if s.debugPermits p.val addr.toNat true then s.debugStore p.val addr.toNat v else s.debugRefuse addr
    | 1 => match pairRegAt addr.toNat with
      | some r =>
        if (s.pair p.val).halted && s.regGranted then (s.updPair p.val (fun x => x.debugWrite v r)).debugResult 0 false
        else s.debugRefuse addr
      | none => s.debugRefuse addr
    | 2 => s.haltWrite p.val addr v
    | _ => s.debugRefuse addr))

/-- DBG_HALT (R352). -/
def execDbgHalt (p : PairId) (s : State) : Host.Outcome State Fault Refusal :=
  .next (s.debugAccess (fun s => s.haltWrite p.val 0 1#32))
/-- DBG_RESUME (R352). -/
def execDbgResume (p : PairId) (s : State) : Host.Outcome State Fault Refusal :=
  .next (s.debugAccess (fun s => s.haltWrite p.val 0 2#32))
/-- DBG_STEP (R352). -/
def execDbgStep (p : PairId) (s : State) : Host.Outcome State Fault Refusal :=
  .next (s.debugAccess (fun s => s.haltWrite p.val 0 4#32))

/-- DEBUG_HALT_TAKEN (R352, R75): at a boundary whose ring is granted and at which no exception is taken first. -/
def execDebugHaltTaken (p : PairId) (s : State) : Host.Outcome State Fault Refusal :=
  .next (if s.atBoundary p.val && s.haltDue p.val && (s.asyncExc p.val).isNone then (s.wake p.val).haltPair p.val else s)

/-- DEBUG_RIGHTS_EXPIRE (R349): DBG_LEFT of the certificate in force has reached 0. -/
def execDebugRightsExpire (s : State) : Host.Outcome State Fault Refusal :=
  .next (if s.flag Fld.LCS_STAT_DEBUG && !s.flag Fld.LCS_STAT_OPEN && s.reg Reg.LCS_DBG_LEFT == 0#32 then s.endRights else s)

end Sys2Proof.Machine
end

