-- ==== Sys2Proof/Machine/Bodies.lean ====
section
/-! DEFINITION. What supervisor firmware does in the body of a host command (R24 step 7, R121, R203, R212, R519): the job whose body
runs, host buffers (R192, R203, R204), the entries that a command names (R289, R459, R519), and stagings (R291–R294). -/

namespace Sys2Proof.Machine

/-! ## Bodies -/

/-- What a body comes to: the command is refused; its reply is staged, with the host-buffer output that goes with it; or it waits. -/
inductive Answer where
  | fail (status sub : Nat)
  | done (data : List Byte) (out : List (Nat × List Byte))
  | wait
  deriving DecidableEq, Repr

/-- What a body gives: its answer, and the state with what it has done. -/
abbrev BodyResult := Answer × State

/-- REFUSED_PARAM, SUB 0x08. -/
def badParam (s : State) : BodyResult := (.fail St.param 8, s)
/-- A refusal with a status and SUB 0. -/
def refuse (st : Nat) (s : State) : BodyResult := (.fail st 0, s)
/-- A reply of data alone. -/
def reply (data : List Byte) (s : State) : BodyResult := (.done data [], s)

/-- A body goes on where nothing refuses it. -/
def checked (bad : Option (Nat × Nat)) (s : State) (k : Unit → BodyResult) : BodyResult :=
  match bad with
  | some e => (.fail e.1 e.2, s)
  | none => k ()

/-- One of the entries that a command names is an ORPHAN: its replies carry DEGRADED (R459). -/
def State.anyOrphan (s : State) (named : List Nat) : Bool := named.any (fun i => s.mirrorState i == 2)

/-- The host link that a job's command came by. -/
def Job.link (j : Job) : Option Nat :=
  match j.src with
  | .queue l _ => some l.val
  | _ => none

/-! ## Host buffers -/

/-- A host buffer descriptor at an offset of the parameters, in its role: ADDR and LEN; none where it breaks R192 or R203. -/
def hbdAt (ps : List Byte) (o : Nat) (out : Bool) : Option (Nat × Nat) :=
  let addr := leAt ps o 8
  let len := leAt ps (o + 8) 4
  if addr % 4 = 0 ∧ len % 4 = 0 ∧ 4 ≤ len ∧ len ≤ 0x1000000 ∧ leAt ps (o + 12) 4 = b2n out then some (addr, len) else none

/-- The data of a host buffer given to a body (R204), where `data` is what host memory holds there, none where the read ends in a
completion error or timeout: they are moved through the guard of the link into the buffer that the dispatcher named, behind the
parameters (log 46). FAULT_HW where the link cannot complete the read, SUB 7 where the guard refuses a burst. A body that waits has read
nothing yet. -/
def State.withHostData (s : State) (j : Job) (len : Nat) (data : Option (List Byte)) (k : State → List Byte → BodyResult) : BodyResult :=
  match j.link, data with
  | some l, some bs =>
    if s.flag (Fld.HOST_LSTAT_LINK_UP l) then
      let bs := slice bs 0 len
      let r := State.portWrite (ceilDiv len 256) s l (j.buf + 4096) bs
      if r.2 then
        match k r.1 bs with
        | (.wait, _) => (.wait, s)
        | x => x
      else (.fail St.param 7, r.1)
    else refuse St.faultHw s
  | _, _ => refuse St.faultHw s

/-- The output for host buffers in the buffer that the dispatcher named, where it is in hearth memory (R204). -/
def State.placeOutput (s : State) (buf : Nat) (out : List (Nat × List Byte)) : State :=
  let bs := out.flatMap (·.2)
  if fabricOk buf bs.length then s.setHbytes (buf - fabricBase) bs else s

/-! ## The job of a body -/

/-- The body of a job on its pair: of the job armed there, where `mine` says that it is this command's, and its reply is not yet
staged. `named` are the entries that the command names. -/
def State.runBody (s : State) (p : Nat) (mine : Job → Bool) (named : Job → List Nat) (f : Job → State → BodyResult) : State :=
  match s.armedJob p with
  | none => s
  | some j =>
    if j.src == Stream.load || !mine j || j.reply.isSome || !s.runs p then s
    else
      let r := f j s
      let deg := s.anyOrphan (named j)
      match r.1 with
      | .wait => r.2
      | .fail st sub => r.2.endJobWith ((r.2.armedJob p).getD j) { mkReply st sub with degraded := deg }
      | .done data out => (r.2.placeOutput j.buf out).updArmed p (fun k => { k with reply := some ⟨St.ok, 0, data, out, deg, false, 0, 0, k.buf⟩ })

/-- A body of the command with an opcode. -/
def State.body (s : State) (p op : Nat) (f : Job → State → BodyResult) : State :=
  s.runBody p (fun j => j.opcode == op) (fun _ => []) f
/-- A body of a command that names entries in its parameters at the given offsets. -/
def State.bodyOn (s : State) (p op : Nat) (offs : List Nat) (f : Job → State → BodyResult) : State :=
  s.runBody p (fun j => j.opcode == op) (fun j => offs.map (fun o => leAt j.params o 4)) f

/-- A parameter field: `n` bytes at offset o. -/
def Job.arg (j : Job) (o n : Nat) : Nat := leAt j.params o n

/-- A change of a supervisor table to be made at the job's commit. -/
def State.addEffect (s : State) (p : Nat) (e : Effect) : State := s.updArmed p (fun j => { j with effects := j.effects ++ [e] })

/-! ## Entries that a command names -/

/-- What a command finds that names the copy or origin of a mirror (R459): `reads` for a command that reads the entry alone,
`conflict` for one that CONFLICT accepts. -/
def State.mirrorBad (s : State) (i : Nat) (reads conflict : Bool) : Option (Nat × Nat) :=
  let m := s.mirrorState i
  if m = 3 ∨ m = 5 then some (St.busy, 0)
  else if m = 6 ∧ !conflict then some (St.busy, 0)
  else if m = 4 ∧ !reads then some (St.param, 8)
  else none

/-- What refuses a command that names an entry of its tenant (R212, R289, R302, R459, R519): `free` is its status for a free
entry. -/
def State.entryBad (s : State) (tenant i : Nat) (free : Nat × Nat) (reads conflict : Bool) : Option (Nat × Nat) :=
  if 131071 < i then some (St.range, 0)
  else if i < 16 then some (St.policy, 4)
  else if s.isSealed || !s.ledger.established then some (St.tampered, 0)
  else if (s.entry i).isFree then some free
  else if (s.entry i).owner ≠ tenant then some (St.policy, 4)
  else s.mirrorBad i reads conflict

/-- The key in an entry that a command names: USES, LIMIT, VERSION, SLOT, PSLOT; KEY_ABSENT where the entry holds none. -/
def State.keyEntry (s : State) (tenant i : Nat) (reads : Bool) : Except (Nat × Nat) (Nat × Nat × Nat × Nat × Nat) :=
  match s.entryBad tenant i (St.keyAbsent, 0) reads false with
  | some e => .error e
  | none =>
    match (s.entry i).asKey with
    | some k => if k.2.2.2.1 = 0xFFFF then .error (St.keyAbsent, 0) else .ok k
    | none => .error (St.keyAbsent, 0)

/-- Where a command may place a new key (R290, R519): the VERSION it starts at, in a free entry that can be allocated as a key, or in
a key entry of the tenant that holds none yet. -/
def State.keyPlace (s : State) (tenant i : Nat) : Except (Nat × Nat) Nat :=
  match (s.entry i).body with
  | .free nv _ =>
    if 131071 < i then .error (St.range, 0)
    else if i < 16 then .error (St.policy, 4)
    else if s.isSealed || !s.ledger.established then .error (St.tampered, 0)
    else if (s.entry i).admitsType 2 then .ok nv
    else .error (St.param, 8)
  | _ =>
    match s.entryBad tenant i (St.param, 8) false false with
    | some e => .error e
    | none =>
      match (s.entry i).asKey with
      | some (_, _, v, sl, _) => if sl = 0xFFFF ∧ !(s.entry i).pend then .ok v else .error (St.param, 8)
      | none => .error (St.param, 8)

/-- An entry is locked by another job's set: a body waits (R293). -/
def State.lockedFor (s : State) (p i : Nat) : Bool := (s.lockedByOthers p).contains i

/-! ## Stagings -/

/-- A staging record (R291). -/
def stagingRecord (op i amount : Nat) (data : List Byte) : List Byte :=
  leBytes 1 op ++ zeros 3 ++ leBytes 4 i ++ leBytes 8 amount ++ slice data 0 32 ++ zeros 16

/-- The record of a WRITE of an entry's image (R292). -/
def writeRecord (i : Nat) (e : Entry) : List Byte := stagingRecord 3 i 0 (e.bytes i)

/-- A record staged by the armed job of pair p (R291–R294): the body goes on with the value and the digest of the staging, waits for
a lock, or is refused with its status. -/
def State.stage (s : State) (p : Nat) (rec : List Byte) (k : State → Nat → List Byte → BodyResult) : BodyResult :=
  match s.armedJob p with
  | none => (.wait, s)
  | some j =>
    let r := s.stageRecord j rec
    match r.update with
    | some u =>
      let us := j.updates ++ [u]
      k ((s.updArmed p (fun k => { k with updates := us })).stgResult p r) r.value r.digest
    | none => if r.status = St.busy ∧ s.lockedFor p (leAt rec 4 4) then (.wait, s) else (.fail r.status r.sub, s)

/-- A WRITE of an entry staged, and then a reply. -/
def State.stageEntry (s : State) (p i : Nat) (e : Entry) (data : List Byte) : BodyResult :=
  s.stage p (writeRecord i e) (fun s _ _ => reply data s)

end Sys2Proof.Machine
end

