-- ==== Sys2Proof/Machine/Admin.lean ====
section
/-! DEFINITION. The bodies of the commands of family 0x01 (R212, R214, R215, R519). -/

namespace Sys2Proof.Machine

/-- NOP (R212). -/
def execNop (p : PairId) (s : State) : Host.Outcome State Fault Refusal :=
  .next (s.body p.val 0x100 (fun _ s => reply [] s))

/-- DEV_INFO (R212): SYS.ID, CAP0, CAP1, UID, LC_STATE and BOOTS. -/
def execDevInfo (p : PairId) (s : State) : Host.Outcome State Fault Refusal :=
  .next (s.body p.val 0x101 (fun _ s =>
    reply (wordBytes (s.reg Reg.SYS_ID) ++ wordBytes (s.reg Reg.SYS_CAP0) ++ wordBytes (s.reg Reg.SYS_CAP1) ++ deviceUid ++
      leBytes 1 s.lcState ++ zeros 3 ++ leBytes 4 s.boots) s))

/-- The queue that QUEUE_CREATE describes (R212): none where a field is outside its set or a ring is not aligned (R192). -/
def queueOf (j : Job) : Option HostQueue :=
  let ok := decide (1 ≤ j.arg 0 1 ∧ j.arg 0 1 ≤ 63 ∧ j.arg 1 1 ≤ 1 ∧ j.arg 3 1 ≤ 63 ∧ j.arg 4 8 % 0x1000 = 0 ∧ j.arg 12 8 % 0x1000 = 0 ∧
    5 ≤ j.arg 20 1 ∧ j.arg 20 1 ≤ 12 ∧ 5 ≤ j.arg 21 1 ∧ j.arg 21 1 ≤ 12 ∧ j.arg 22 2 = 0)
  if ok then some { sqBase := j.arg 4 8, sqLog := j.arg 20 1, cqBase := j.arg 12 8, cqLog := j.arg 21 1, vec := j.arg 3 1 } else none

/-- QUEUE_CREATE (R193, R212, R519): the queue begins at commit. -/
def execQueueCreate (p : PairId) (s : State) : Host.Outcome State Fault Refusal :=
  .next (s.body p.val 0x102 (fun j s =>
    match queueOf j, j.link with
    | some q, some l =>
      if s.queueExists l (j.arg 0 1) then badParam s
      else reply [] (s.addEffect p.val (.createQueue l (j.arg 0 1) q (j.arg 1 1 == 1) (j.arg 2 1)))
    | _, _ => badParam s))

/-- QUEUE_DELETE (R215, R519): a queue that is being deleted already is no existing queue. -/
def execQueueDelete (p : PairId) (s : State) : Host.Outcome State Fault Refusal :=
  .next (s.body p.val 0x103 (fun j s =>
    let q := j.arg 0 1
    match j.link with
    | none => badParam s
    | some l =>
      if q = 0 ∨ 63 < q ∨ j.arg 1 3 ≠ 0 ∨ !s.queueExists l q ∨ (s.hostQueue l q).deleting.isSome then badParam s
      else reply [] (s.addEffect p.val (.deleteQueue l q))))

/-- A store to ENABLE of a unit by the supervisor, with UCTL as it reads then (R26, R28, R30). -/
def State.setEnable (s : State) (u : UnitId) (on : Nat) : BodyResult :=
  let t := s.uctlStore u ((s.reg (unitOff u) &&& 2#32) ||| wd on)
  reply (wordBytes (t.uctlRead u)) t

/-- UNIT_CTL (R26, R28, R519). -/
def execUnitCtl (p : PairId) (s : State) : Host.Outcome State Fault Refusal :=
  .next (s.body p.val 0x104 (fun j s =>
    let kind := j.arg 0 1
    let i := j.arg 1 1
    if 2 < kind ∨ 1 < j.arg 2 1 ∨ j.arg 3 1 ≠ 0 then badParam s
    else if (if kind = 2 then 64 else 16) ≤ i then refuse St.range s
    else s.setEnable (if kind = 0 then .hearth (Fin.ofNat 16 i) else if kind = 1 then .pke (Fin.ofNat 16 i) else .sym (Fin.ofNat 64 i))
      (j.arg 2 1)))

/-- TENANT_POLICY (R212, R519): in force from the commit on. -/
def execTenantPolicy (p : PairId) (s : State) : Host.Outcome State Fault Refusal :=
  .next (s.body p.val 0x105 (fun j s =>
    let f := wd (j.arg 4 4)
    if j.arg 1 3 ≠ 0 ∨ f &&& 0xFFFFFC01#32 ≠ 0 then badParam s
    else reply [] (s.addEffect p.val (.policy (j.arg 0 1) ⟨f, j.arg 8 4⟩))))

/-- SOFT_RESET (R214): the reset follows the writing of the reply. -/
def execSoftReset (p : PairId) (s : State) : Host.Outcome State Fault Refusal :=
  .next (s.body p.val 0x106 (fun j s =>
    if j.arg 0 4 ≠ 0x5A17 then badParam s else reply [] (s.addEffect p.val .softReset)))

/-- BEAT_READ (R41, R55, R212). -/
def execBeatRead (p : PairId) (s : State) : Host.Outcome State Fault Refusal :=
  .next (s.body p.val 0x107 (fun _ s =>
    reply (leBytes 8 s.beatNow ++ wordBytes (s.reg Reg.BEAT_BASKET_OFS_LO) ++ wordBytes (s.reg Reg.BEAT_BASKET_OFS_HI) ++
      wordBytes (s.reg Reg.BEAT_STATUS)) s))

end Sys2Proof.Machine
end

