-- ==== Sys2Proof/Machine/Applets.lean ====
section
/-! DEFINITION. The bodies of the commands of family 0x02: images (R117, R119, R332, R519) and sessions (R118, R119, R212, R429,
R519). -/

namespace Sys2Proof.Machine

/-! ## Images -/

/-- The length of a signature by SIG_ALG (R117, R118). -/
def imageSigLen (alg : Nat) : Nat := if alg = 3 then 3309 else 64

/-- The bytes of an image with its header and signature (R117). -/
def imageBytesOf (h : List Byte) : Nat := 256 + leAt h 0x10 4 + imageSigLen (leAt h 0x28 2)

/-- A sector of bank 0 holds the image of a session (R119). -/
def State.sectorInUse (s : State) (g : Nat) : Bool :=
  s.sessions.any (fun x => decide (x.sector ≤ g ∧ g < x.sector + ceilDiv (imageBytesOf (s.imageHeader x)) 0x10000))

/-- Sectors of bank 0 that cannot be operated on now (R119, R311 checks 6 and 8): BANK_BUSY. -/
def State.sectorsBusy (s : State) (g n : Nat) : Bool :=
  s.executing 0 || (List.range n).any (fun i => s.sectorInUse (g + i) || s.sectorBusy (g + i))

/-- Applet images are accepted in the present life-cycle state (R332). -/
def State.imagesAccepted (s : State) : Bool := decide (2 ≤ s.lcState ∧ s.lcState ≤ 5)

/-- IMAGE_STORE (R119, R332, R519): the host buffer's data are programmed from the first sector on. -/
def execImageStore (r : HostRead) (s : State) : Host.Outcome State Fault Refusal :=
  .next (s.body r.pair.val 0x200 (fun j s =>
    let g := j.arg 0 2
    match hbdAt j.params 4 false with
    | none => badParam s
    | some (_, len) =>
      let n := ceilDiv len 0x10000
      if j.arg 2 2 ≠ 0 then badParam s
      else if !s.imagesAccepted then refuse St.lifecycle s
      else if 512 < g + n then refuse St.range s
      else if s.sectorsBusy g n then refuse St.bankBusy s
      else if !s.nvmBlank (g * 0x10000) (n * 0x10000) then badParam s
      else s.withHostData j len r.data (fun t bs =>
        let t := (t.useNvm 17 0 1).nvmProgram (g * 0x10000) (padUnits bs)
        reply [] ((List.range n).foldl (fun s i => s.dropLines (g + i)) t))))

/-- The erase of a sector of bank 0 issued (R310): OPSTAT.DONE is acknowledged first. -/
def State.eraseSector0 (s : State) (g : Nat) : State :=
  let s := s.setF Fld.NVMC_OPSTAT_DONE 0
  (s.beginErase g).use .nvm 17

/-- The sector whose erase a job has issued last. -/
def Job.erasing (j : Job) : Option Nat := j.effects.findSome? (fun e => match e with
  | .progress g => some g
  | _ => none)

/-- The next sector of an IMAGE_ERASE that is not blank is erased; the body waits until the last erase has completed (R313). -/
def State.eraseNext (s : State) (p g n : Nat) : BodyResult :=
  match (List.range n).find? (fun i => !s.nvmBlank ((g + i) * 0x10000) 0x10000) with
  | none => reply [] s
  | some i =>
    let t := (s.eraseSector0 (g + i)).updArmed p (fun k => { k with effects := [.progress (g + i)] })
    (.wait, t)

/-- IMAGE_ERASE (R119, R310–R313, R519): sector by sector; FAULT_HW where a sector fails its blank verify. -/
def execImageErase (p : PairId) (s : State) : Host.Outcome State Fault Refusal :=
  .next (s.body p.val 0x201 (fun j s =>
    let g := j.arg 0 2
    let n := j.arg 2 2
    match j.erasing with
    | none =>
      if n = 0 then badParam s
      else if 512 < g + n then refuse St.range s
      else if s.sectorsBusy g n || s.eraseActive 0 then refuse St.bankBusy s
      else s.eraseNext p.val g n
    | some k =>
      if s.underErase (k * 0x10000) || s.eraseActive 0 then (.wait, s)
      else if s.flag Fld.NVMC_OPSTAT_DONE && s.getF Fld.NVMC_OPSTAT_SECTOR == k && s.getF Fld.NVMC_OPSTAT_STATUS != St.ok then
        refuse St.faultHw s
      else s.eraseNext p.val g n))

/-! ## The checks of R118 -/

/-- A segment is well formed (R117, R118 item 1). -/
def segOk (g : Nat × Nat × Nat × Word) : Bool :=
  let (b, n, _, a) := g
  decide (0x1000 ≤ b ∧ b + n ≤ 0x10000 ∧ 32 ≤ n ∧ n = 2 ^ n.log2 ∧ b % n = 0) && (a &&& 0xFFFFFCFC#32) == 0 && bit 1 a

/-- Two segments overlap. -/
def segsMeet (a b : Nat × Nat × Nat × Word) : Bool := decide (a.1 < b.1 + b.2.1 ∧ b.1 < a.1 + a.2.1)

/-- The header of an image obeys R117 and item 1 of R118. -/
def imageFormOk (h : List Byte) : Bool :=
  let ec := leAt h 0x0A 1
  let sc := leAt h 0x0B 1
  let segs := (List.range sc).map (imgSeg h)
  let sb := leAt h 0x14 4
  let ss := leAt h 0x18 4
  decide (leAt h 0 4 = 0x4C50415A ∧ leAt h 4 2 = 1 ∧ leAt h 6 2 = 0 ∧ leAt h 9 1 = 0 ∧ 1 ≤ ec ∧ ec ≤ 16 ∧ 1 ≤ sc ∧ sc ≤ 4 ∧
    ss % 32 = 0 ∧ 32 ≤ ss ∧ ss ≤ 16352 ∧ 1 ≤ leAt h 0x28 2 ∧ leAt h 0x28 2 ≤ 3) &&
  (slice h 0x2A 6).all (· == 0) && (slice h 0xF0 16).all (· == 0) && segs.all segOk &&
  (List.range sc).all (fun i => (List.range i).all (fun k => !segsMeet (imgSeg h i) (imgSeg h k))) &&
  segs.any (fun g => decide (g.1 ≤ sb ∧ sb + ss ≤ g.1 + g.2.1) && fld 1 0 g.2.2.2 == 3 && bit 8 g.2.2.2) &&
  (List.range ec).all (fun e =>
    let pc := leAt h (0x70 + 8 * e) 4
    pc % 4 == 0 && leAt h (0x74 + 8 * e) 4 != 0 && segs.any (fun g => decide (g.1 ≤ pc ∧ pc < g.1 + g.2.1) && bit 9 g.2.2.2))

/-- The bytes of a blob in the blob store by its first unit (R284). -/
def blobOff (slot : Nat) : Nat := 0x2800000 + 128 * slot

/-- The blob that a unit names: as long as its ALG says (R278–R280); where the length depends on more than ALG, the first length at
which it verifies. -/
def State.slotBlob (s : State) (slot : Nat) : List Byte :=
  let hdr := s.nbytes (blobOff slot) 32
  let alg := hdrAlg hdr
  if (0x100 ≤ alg ∧ alg < 0x120) ∨ alg = 0x400 then
    match (List.range 9).find? (fun k => (s.unwrapKey (s.nbytes (blobOff slot) (56 + 8 * k))).isSome) with
    | some k => s.nbytes (blobOff slot) (56 + 8 * k)
    | none => hdr
  else match algKeyLen alg 0 0 with
    | some n => s.nbytes (blobOff slot) (blobLen n)
    | none => hdr

/-- The signature of an image verifies under the key that SIGNER names, with usage IMAGE (R117, R118 item 2, R281). -/
def State.imageSigned (s : State) (h img sig : List Byte) : Bool :=
  match s.keyEntry (leAt h 8 1) (leAt h 0x24 4) true with
  | .error _ => false
  | .ok k =>
    let blob := s.slotBlob k.2.2.2.1
    match s.unwrapKey blob with
    | none => false
    | some key =>
      let alg := leAt h 0x28 2
      let a := hdrAlg blob
      bit 11 (hdrUsage blob) && hdrVersion blob == k.2.2.1 &&
      if alg = 1 then
        decide (0x100 ≤ a ∧ a < 0x120) && key.length == 32 &&
          (match p256.mul (ofLe key) p256.base with
            | some q =>
              let r := leAt sig 0 32
              let t := leAt sig 32 32
              decide (0 < r ∧ r < p256.n ∧ 0 < t ∧ t < p256.n) && p256.ecdsaVerify (some q) (sha256 img) r t
            | none => false)
      else if alg = 2 then
        a == 0x142 && eddsaVerify 0x42 (slice (eddsaPublic 0x42 key) 0 32) img sig == some true
      else a == 0x383 && mldsaVerify 3 (slice (mldsaPublic 3 key) 0 1952) (0#8 :: img) sig == some true

/-- What R118 refuses an image in bank 0 with, for a tenant: items 1, 3 and 2 in that order; DEVELOP waives item 2. An image of another
tenant is refused as an object of another tenant (R212; log 55). -/
def State.imageBad (s : State) (tenant sector : Nat) : Option (Nat × Nat) :=
  let h := s.nbytes (sector * 0x10000) 256
  let n := leAt h 0x10 4
  if !imageFormOk h || decide (0x2000000 < sector * 0x10000 + imageBytesOf h) then some (St.param, 8)
  else if !s.imagesAccepted then some (St.lifecycle, 0)
  else
    let img := s.nbytes (sector * 0x10000) (256 + n)
    let sig := s.nbytes (sector * 0x10000 + 256 + n) (imageSigLen (leAt h 0x28 2))
    if leAt h 8 1 ≠ tenant then some (St.policy, 4)
    else if s.lcState = 3 then none
    else if leAt h 0xC 4 < (s.policyOf tenant).floor ∨ !s.imageSigned h img sig then some (St.policy, 0)
    else none

/-! ## Sessions -/

/-- The pair that a session is loaded on: the lowest FREE pair of an enabled hearth (R519). -/
def State.freePair (s : State) : Option Nat := (s.pairsIn Role.free).find? (fun q => s.hearthEnabled (hearthOf q))

/-- The lowest handle from `n` on that names no session. -/
def State.freeHandle (s : State) : Option Nat :=
  findFrom (fun h => !s.sessions.any (fun x => x.handle == h % 0x10000)) 0x10000 (s.nextHandle % 0x10000) |>.map (· % 0x10000)

/-- PST written with LOADING for a load without RESTORE (R119 step 1). -/
def State.startLoad (s : State) (q tenant : Nat) : State :=
  s.pstWrite q (wd (2 ^ 28 * Role.loading + 2 ^ 16 * tenant + 2 ^ 12 * hearthOf q))

/-- A session record made for an image and its load started on a pair. -/
def State.openOn (s : State) (p q tenant sector handle : Nat) : State :=
  let x : Session := ⟨handle, tenant, q, sector, hearthOf q, .loading, false⟩
  let s := { s with
    sessions := s.sessions ++ [x]
    nextHandle := (handle + 1) % 0x10000 }
  (s.startLoad q tenant).addEffect p (.openSession handle)

/-- The handle of the session that a job is opening. -/
def Job.opening (j : Job) : Option Nat := j.effects.findSome? (fun e => match e with
  | .openSession h => some h
  | _ => none)

/-- The load job of a pair is armed. -/
def State.loadsOn (s : State) (q : Nat) : Bool := s.jobs.any (fun j => j.pair == q && j.src == Stream.load)

/-- The session that is being opened is loaded, or its load goes on; a load whose pair has failed starts again on another one. -/
def State.openGoesOn (s : State) (h : Nat) : BodyResult :=
  match s.sessions.find? (fun x => x.handle == h) with
  | none => refuse St.faultHw s
  | some x =>
    if x.state = .loaded then reply (leBytes 2 h ++ leBytes 2 x.pair) s
    else if s.loadsOn x.pair then (.wait, s)
    else match s.freePair with
      | none => refuse St.busy s
      | some q => (.wait, (s.setSession { x with pair := q, home := hearthOf q, state := .loading }).startLoad q x.tenant)

/-- SESSION_OPEN (R118, R119, R519): the checks, the load on a free pair, and once it is loaded the reply. -/
def execSessionOpen (p : PairId) (s : State) : Host.Outcome State Fault Refusal :=
  .next (s.body p.val 0x202 (fun j s =>
    match j.opening with
    | some h => s.openGoesOn h
    | none =>
      let g := j.arg 0 2
      if j.arg 2 2 ≠ 0 then badParam s
      else if 512 ≤ g then refuse St.range s
      else checked (s.imageBad j.tenant g) s (fun _ =>
        match s.freePair, s.freeHandle with
        | some q, some h => (.wait, s.openOn p.val q j.tenant g h)
        | _, _ => refuse St.busy s)))

/-- The session that a command names, a closing one too (R519). -/
def State.sessionOf (s : State) (j : Job) : Option Session :=
  s.sessions.find? (fun x => x.handle == j.arg 0 2 && x.tenant == j.tenant)

/-- A job runs for the session, or waits to (R519). -/
def State.sessionWork (s : State) (x : Session) : Bool :=
  s.jobs.any (fun k => k.session == some x.handle) || x.state == .loading || (x.state == .loaded && s.jobBit x.pair)

/-- SESSION_CLOSE (R519): the close waits for the session's jobs; at its commit the pair becomes FREE. -/
def execSessionClose (p : PairId) (s : State) : Host.Outcome State Fault Refusal :=
  .next (s.body p.val 0x203 (fun j s =>
    match s.sessionOf j with
    | none => (.fail St.policy 4, s)
    | some x =>
      if j.arg 2 2 ≠ 0 then badParam s
      else if s.sessionWork x then (.wait, s)
      else reply [] (s.addEffect p.val (.closeSession x.handle))))

/-- The applet entered at an entry point by the pair-resident code of ring 1, in the ring of its segment (R117, R119): the pair comes to
ring 1 from the ring it stands in, its code executes instructions that are not in the manual (log 56), and ret.g enters the
applet (R65, R67). -/
def State.enterApplet (s : State) (q : Nat) (h : List Byte) (pc : Nat) : State :=
  let ring := match ((List.range (leAt h 0x0B 1)).map (imgSeg h)).find? (fun g => decide (g.1 ≤ pc ∧ pc < g.1 + g.2.1)) with
    | some g => fld 1 0 g.2.2.2
    | none => 3
  let r := s.freshBytes 4
  r.2.updPair q (fun x =>
    let y := ((x.exchange x.ring 1).applyRules x.ring 1).ran (wd (ofLe r.1))
    let y := (y.exchange 1 ring).applyRules 1 ring
    { (y.setPstat ring x.ie x.pm false false) with pc := wd pc })

/-- SESSION_CALL (R119, R212): the entry point is entered; what the applet makes of ARGS, its reply data among it, is the applet's own
(log 56): free values, at most what R197 and R428 let a reply hold. -/
def execSessionCall (p : PairId) (s : State) : Host.Outcome State Fault Refusal :=
  .next (s.body p.val 0x204 (fun j s =>
    match s.sessions.find? (fun x => j.session == some x.handle) with
    | none => (.fail St.policy 4, s)
    | some x =>
      let h := s.imageHeader x
      match s.entryPoint x (j.arg 2 1) with
      | none => badParam s
      | some (pc, _) =>
        if (s.pair p.val).ring = 0 ∨ (s.pair p.val).exl then (.wait, s)
        else
        let n := s.freshBytes 2
        let most := match j.src with
          | .queue _ _ => 4065
          | _ => 969
        let r := n.2.freshBytes (ofLe n.1 % most)
        reply r.1 (r.2.enterApplet p.val h pc)))

/-- SESSION_BIND_HEAD (R429): BOUND, BPAIR and TENANT of the head. -/
def execSessionBindHead (p : PairId) (s : State) : Host.Outcome State Fault Refusal :=
  .next (s.body p.val 0x205 (fun j s =>
    let h := j.arg 2 1
    match s.sessionOf j with
    | none => (.fail St.policy 4, s)
    | some x =>
      if 31 < h ∨ j.arg 3 1 ≠ 0 then badParam s
      else if !s.portOn (10 + h) then refuse St.portDisabled s
      else if x.state ≠ .loaded then refuse St.busy s
      else reply [] (s.writeReg (Reg.HEAD_CFG h) (wd (2 ^ 24 * x.tenant + 2 * x.pair + 1)))))

/-- SESSION_STATUS (R519): a parked session's pair is the one that held it last. -/
def execSessionStatus (p : PairId) (s : State) : Host.Outcome State Fault Refusal :=
  .next (s.body p.val 0x206 (fun j s =>
    match s.sessionOf j with
    | none => (.fail St.policy 4, s)
    | some x =>
      if j.arg 2 2 ≠ 0 then badParam s
      else if x.state = .loading then refuse St.busy s
      else reply (leBytes 2 x.pair ++ leBytes 1 (b2n (x.state == .parked)) ++ leBytes 1 (b2n (hearthOf x.pair != x.home))) s))

end Sys2Proof.Machine
end

