-- ==== Sys2Proof/Machine/EngineCalls.lean ====
section
/-! DEFINITION. Engine jobs of supervisor firmware in the body of a command (R213, R224, R238, R261): the firmware gives the first
engine that takes work a descriptor of its own, whose checks and operation are those of the engine; and the blob store (R284). Which
engine and which hearth memory the firmware uses is its own choice (log 57). -/

namespace Sys2Proof.Machine

/-- The state that an outcome goes on in. -/
def goesOn (o : Host.Outcome State Fault Refusal) (s : State) : State :=
  match o with
  | .next t => t
  | _ => s

/-- What an engine's result other than OK ends a command with (R207, R213): its STATUS, and the SUB of its reason. -/
def engAnswer (r : EngResult) : Nat × Nat :=
  (r.status, if r.status = St.param then 8 else if r.status = St.policy ∧ r.code = 0x0B then 7
    else if r.status = St.policy ∧ r.code = 0x0C then 4 else 0)

/-- The hearth memory of a firmware job: the data placed at their offsets. -/
def State.placeData (s : State) (h : Nat) (offs : List Nat) (ins : List (List Byte)) : State :=
  (offs.zip ins).foldl (fun s x => if x.2.isEmpty then s else s.setHbytes (h * 0x400000 + x.1) x.2) s

/-- Address and length of a range at an offset of a hearth's memory, as descriptor words. -/
def rangeFields (h : Nat) (offs lens : List Nat) : List Word :=
  (offs.zip lens).flatMap (fun x => if x.2 = 0 then [0, 0] else [wd (fabricBase + h * 0x400000 + x.1), wd x.2])

/-- What a firmware job changes of the device: the uses it reserves, its random draws, and nothing of hearth memory. -/
def State.afterJob (s t : State) : State :=
  ({ s with jobs := t.jobs, rng := t.rng, free := t.free }).setReg Reg.RNG_RESEEDS (t.reg Reg.RNG_RESEEDS)

/-! ## Public-key jobs -/

/-- A public-key job: OP, PARAM, ITER_MAX, RAW, DET, KEY_INDEX, blob and inputs, and the room for its output. -/
structure PkeCall where
  op : Nat
  param : Nat
  iter : Nat := 0
  raw : Bool := false
  key : Nat := 0
  ins : List (List Byte)
  out : Nat
  deriving DecidableEq, Repr

/-- The offsets of blob, inputs and output. -/
def pkePlaces : List Nat := [0x1000, 0x10000, 0x30000, 0x34000, 0x40000]

/-- The descriptor of a call at an engine. -/
def State.pkeWords (s : State) (h : Nat) (c : PkeCall) : List Word :=
  let gen := if pkUsesSlot c.op c.param then s.slotGen h c.param else 0
  [wd (c.op + 2 ^ 8 * c.param + 2 ^ 16 * gen + 2 ^ 24 * c.iter), wd (2 ^ 7 * b2n c.raw), wd c.key, 0] ++
    rangeFields h pkePlaces (c.ins.map (·.length) ++ [c.out]) ++ [0, 0]

/-- No public-key engine takes grants. -/
def State.noPke (s : State) : Bool := (List.range 16).all (fun h => s.pkeClosed h)
/-- The first public-key engine that takes grants. -/
def State.openPke (s : State) : Option Nat := (List.range 16).find? (fun h => !s.pkeClosed h)
/-- A public-key engine that takes grants, and which nobody holds or waits for, of the lowest number. -/
def State.freePke (s : State) : Option Nat :=
  (List.range 16).find? (fun h => !s.pkeClosed h && (s.pkeArbOf h).inUse.isNone && (s.pkeArbOf h).waiting.isEmpty && (s.pkeOf h).run.isNone)

/-- PKE.JOBS and PKE.LAST after a job (R238). -/
def State.pkeCounted (s : State) (h idx : Nat) (r : EngResult) : State :=
  (s.setReg (Reg.PKE_LAST h) (wd (r.status * 2 ^ 16 + r.code * 2 ^ 8 + idx))).incWrap (Reg.PKE_JOBS h) 1

/-- A check of the result that failed twice (R235): the engine is FAILED. -/
def State.pkeBroken (s : State) (h : Nat) : State :=
  let s := s.setF (Fld.PKE_PFAULTS_FAULTS h) (min 65535 (s.getF (Fld.PKE_PFAULTS_FAULTS h) + 2))
  ((s.setF (Fld.PKE_STAT_RETRIED h) 1).setF (Fld.PKE_STAT_FAILED h) 1).flushPke h

/-- A public-key job of the firmware on pair p (R219–R235), by the operation `f`, at an engine that is granted to it at once (R178); none
where it waits for one. -/
def State.runPke (s : State) (p : Nat) (c : PkeCall) (f : HearthId → State → Host.Outcome State Fault Refusal) : Option (EngResult × State) :=
  if s.noPke then some (engRefused St.portDisabled 0x40, s)
  else s.freePke.map (fun h =>
    let s := (s.tryUse (.pke (Fin.ofNat 16 h)) (s.requesterIdx p h)).1
    let ws := s.pkeWords h c
    let curve := if pkUsesSlot c.op c.param then s.slotCurve h c.param else none
    let idx := s.requesterIdx p h
    let r : EngReq := ⟨p, idx, true, 1, h * 0x400000, []⟩
    let t := (s.placeData h pkePlaces c.ins).setHbytes r.desc (ws.flatMap wordBytes)
    match t.pkChecks h r ws curve with
    | .error e =>
      let e := engRefused e.1 e.2
      (e, s.pkeCounted h idx e)
    | .ok (t, key, ups) =>
      let t := t.setPkeRun h { req := r, words := ws, begun := true, ins := c.ins.drop 1, key := key, reserved := ups, curve := curve }
      let t := goesOn (f (Fin.ofNat 16 h) t) t
      match (t.pkeOf h).run.bind (·.result) with
      | some res => (res, (s.afterJob t).pkeCounted h idx res)
      | none =>
        let e := engRefused St.faultHw 0x31
        (e, ((s.afterJob t).pkeBroken h).pkeCounted h idx e))

/-! ## Symmetric jobs -/

/-- A symmetric job: OP, MODE, TAGLEN, IVLEN, DIR, VERIFY, KEY_INDEX, KEY2_INDEX, the blobs, IN and AUX, and the room for OUT. -/
structure SymCall where
  op : Nat
  mode : Nat := 0
  tagLen : Nat := 0
  ivLen : Nat := 0
  dec : Bool := false
  verify : Bool := false
  key : Nat
  key2 : Nat := 0
  ins : List (List Byte)
  out : Nat
  deriving DecidableEq, Repr

/-- The offsets of BLOB, BLOB2, IN, AUX and OUT. -/
def symPlaces : List Nat := [0x1000, 0x2000, 0x10000, 0x3000, 0x40000]

/-- The descriptor of a call. -/
def symWords (h : Nat) (c : SymCall) : List Word :=
  [wd (c.op + 2 ^ 8 * c.mode + 2 ^ 16 * c.tagLen + 2 ^ 24 * c.ivLen), wd (2 ^ 8 * b2n c.dec + 2 ^ 9 * b2n c.verify), wd c.key, wd c.key2] ++
    rangeFields h symPlaces (c.ins.map (·.length) ++ [c.out]) ++ [0, 0]

/-- A symmetric engine that starts descriptors and has none, of the lowest number. -/
def State.freeSym (s : State) : Option Nat :=
  (List.range 64).find? (fun i => !s.symClosed i && (s.symOf i).run.isNone && (s.symOf i).queue.isEmpty && (s.symOf i).copy.isNone &&
    !s.flag (Fld.SYM_STAT_SELFTEST (i / 4) (i % 4)))

/-- A symmetric job of the firmware on pair p (R243–R257), by the operation `f`, at an engine that starts it at once; none where it waits
for one. -/
def State.runSym (s : State) (p : Nat) (c : SymCall) (f : SymId → State → Host.Outcome State Fault Refusal) : Option (EngResult × State) :=
  if (List.range 64).all (fun i => s.symClosed i) then some (engRefused St.portDisabled 0x40, s)
  else s.freeSym.map (fun i =>
    let h := i / 4
    let ws := symWords h c
    let r : EngReq := ⟨p, s.requesterIdx p h, true, 1, h * 0x400000, []⟩
    let t := (s.placeData h symPlaces c.ins).setHbytes r.desc (ws.flatMap wordBytes)
    match t.syChecks h r ws with
    | .error e => (engRefused e.1 e.2, s)
    | .ok (t, k1, k2, ups) =>
      let t := t.setSymRun i { req := r, words := ws, begun := true, blob := c.ins.getD 0 [], ins := c.ins.drop 2, key := k1, key2 := k2, reserved := ups }
      let t := goesOn (f (Fin.ofNat 64 i) t) t
      match (t.symOf i).run.bind (·.result) with
      | some res => (res, s.afterJob t)
      | none => (engRefused St.faultHw 0x31, s.afterJob t))

/-- A body goes on with the output of an engine job, ends with its status, or waits for an engine as it stands in `s`. -/
def withJob (s : State) (r : Option (EngResult × State)) (k : State → List Byte → BodyResult) : BodyResult :=
  match r with
  | none => (.wait, s)
  | some r =>
    if r.1.status = St.ok then k r.2 r.1.out
    else
      let e := engAnswer r.1
      (.fail e.1 e.2, r.2)

/-! ## The blob store -/

/-- The units that a blob takes (R284). -/
def blobUnits (blob : List Byte) : Nat := ceilDiv blob.length 128

/-- A blob written to the lowest run of erased units, which no entry names (R284; log 58): its first unit; none where there is no
such run outside a sector that is being erased. -/
def State.storeBlob (s : State) (blob : List Byte) : Option (Nat × State) :=
  let n := blobUnits blob
  match findFrom (fun u => decide (u + n ≤ 65535) && s.nvmBlank (blobOff u) (128 * n) && !s.sectorErasing (sectorOf (blobOff u)) &&
      !s.sectorErasing (sectorOf (blobOff (u + n) - 1))) 65535 0 with
    | some u => some (u, (s.useNvm 17 1 1).nvmProgram (blobOff u) (padUnits blob))
    | none => none

end Sys2Proof.Machine
end

