-- ==== Sys2Proof/Machine/KeyCommands.lean ====
section
/-! DEFINITION. The bodies of the commands of family 0x03 (R212, R276–R286, R519), and what they share: blob headers, check values and
public keys, and keys that come by a transport blob (R283). -/

namespace Sys2Proof.Machine

/-! ## Blobs and keys -/

/-- A blob header (R278) under the device KEK. -/
def blobHeader (depth alg usage tenant index version parent limit ltag : Nat) : List Byte :=
  leBytes 1 1 ++ leBytes 1 depth ++ leBytes 2 alg ++ leBytes 2 usage ++ leBytes 1 tenant ++ zeros 1 ++ leBytes 4 index ++
    leBytes 4 version ++ leBytes 4 0xFFFFFFFF ++ leBytes 4 parent ++ leBytes 6 limit ++ leBytes 2 ltag

/-- A header at DEPTH 1. -/
def rootHeader (alg usage tenant index version limit : Nat) : List Byte :=
  blobHeader 1 alg usage tenant index version 0xFFFFFFFF limit 0

/-- LIMIT and USAGE of a new key are in their sets (R278, R281). -/
def limitOk (limit usage : Nat) : Bool := decide (1 ≤ limit ∧ limit < 2 ^ 48) && fld 14 12 (wd usage) == 0

/-- The curve of a slot as the first engine that takes grants holds it. -/
def State.curveAt (s : State) (k : Nat) : Option Curve := (s.freePke.or s.openPke).bind (fun h => s.slotCurve h k)

/-- What the public key of ALG has beside its private key (R280): none where ALG is no private key or its slot is empty. -/
def State.publicOf (s : State) (alg : Nat) (key : List Byte) : Option (List Byte) :=
  if 0x100 ≤ alg ∧ alg < 0x120 then (s.curveAt (alg - 0x100)).map (fun c => c.pubBytes (ofLe key))
  else if 0x140 ≤ alg ∧ alg ≤ 0x143 then some (ecPublic (alg - 0x100) none key)
  else if 0x210 ≤ alg ∧ alg ≤ 0x240 then
    let m := alg - 0x200
    some (slice key (20 * m) (8 * m) ++ slice key (28 * m) 8)
  else if 0x302 ≤ alg ∧ alg ≤ 0x304 then some (slice (mlkemPublic (alg - 0x300) key) 0 ((kemLens (alg - 0x300)).getD (0, 0)).1)
  else if alg = 0x382 ∨ alg = 0x383 ∨ alg = 0x385 then
    some (slice (mldsaPublic (alg - 0x380) key) 0 ((dsaLens (alg - 0x380)).getD (0, 0)).1)
  else none

/-- ALG names a private key. -/
def isPrivate (alg : Nat) : Bool := decide (0x100 ≤ alg ∧ alg ≠ 0x400)

/-- The check value that a key command returns: R252 for AES and TDEA, R285 for a private key; the manual states none for a generic
secret, and it is a free value (log 60). -/
def State.keyKcv (s : State) (alg : Nat) (key : List Byte) : List Byte × State :=
  if isAes alg || isTdea alg then (checkValue alg key, s)
  else match s.publicOf alg key with
    | some p => ((sha256 p).take 4, s)
    | none => s.freshBytes 4

/-- A key in use by a command: the entry's version, the blob and the plain key; KEY_ABSENT where the blob is not the entry's (R282). -/
def State.keyInUse (s : State) (tenant i : Nat) (reads : Bool) : Except (Nat × Nat) (List Byte × List Byte) :=
  match s.keyEntry tenant i reads with
  | .error e => .error e
  | .ok k =>
    let blob := s.slotBlob k.2.2.2.1
    match s.unwrapKey blob with
    | none => .error (St.keyAbsent, 0)
    | some key =>
      if hdrIndex blob = i ∧ hdrTenant blob = tenant ∧ hdrVersion blob = k.2.2.1 then .ok (blob, key) else .error (St.keyAbsent, 0)

/-- The transport key of a blob (R283): an AES-256 key of the tenant with usage WRAP. -/
def State.transportKey (s : State) (tenant w : Nat) : Except (Nat × Nat) (List Byte) :=
  match s.keyInUse tenant w false with
  | .error e => .error e
  | .ok (blob, key) =>
    if hdrAlg blob ≠ 3 then .error (St.keyAbsent, 0)
    else if !bit 9 (hdrUsage blob) then .error (St.policy, 7)
    else .ok key

/-- The header of a blob that a command brings fits its entry and its tenant (R278, R280, R281). -/
def State.broughtOk (s : State) (tenant i : Nat) (blob : List Byte) : Bool :=
  let alg := hdrAlg blob
  decide (56 ≤ blob.length) && leAt blob 0 1 == 1 && leAt blob 7 1 == 0 && hdrIndex blob == i && hdrTenant blob == tenant &&
    limitOk (hdrLimit blob) (hdrUsage blob).toNat &&
    !(decide (0x100 ≤ alg ∧ alg < 0x120) && (s.curveAt (alg - 0x100)).isNone)

/-- The key length that the wrapped key must have; `key` is the unwrapped key. -/
def State.keyFits (s : State) (alg : Nat) (key : List Byte) : Bool :=
  let slotLen := if 0x100 ≤ alg ∧ alg < 0x120 then ((s.curveAt (alg - 0x100)).map (·.len)).getD 0 else 0
  algKeyLen alg slotLen key.length == some key.length

/-- The key of a blob that a command brings (R283): DEPTH, the plain key, and the state with the use of the transport key
reserved. -/
def State.broughtKey (s : State) (p tenant i : Nat) (blob : List Byte) : Except (Nat × Nat) (Nat × List Byte × State) :=
  if !s.broughtOk tenant i blob then .error (St.param, 8)
  else if hdrWrapper blob = 0xFFFFFFFF then
    match s.unwrapKey blob with
    | some key => if s.keyFits (hdrAlg blob) key then .ok (hdrDepth blob, key, s) else .error (St.param, 8)
    | none => .error (St.param, 8)
  else match s.transportKey tenant (hdrWrapper blob) with
    | .error e => .error e
    | .ok tk =>
      match openBlob (kdf0 tk Label.transKw) (kdf0 tk Label.transMac) blob with
      | none => .error (St.param, 8)
      | some key =>
        if !s.keyFits (hdrAlg blob) key then .error (St.param, 8)
        else match s.reserveUses p [(hdrWrapper blob, 1)] with
          | .error e => .error (e.1, 0)
          | .ok (t, _) => .ok (1, key, t)

/-- A blob's header with another DEPTH and VERSION, at DEPTH 1 without a label path (R277, R278, R283). -/
def rewrapHeader (blob : List Byte) (depth version : Nat) : List Byte :=
  let h := putBytes (putBytes (blob.take 32) 1 (leBytes 1 depth)) 0xC (leBytes 4 version)
  if depth = 1 then putBytes (putBytes h 0x14 (leBytes 4 0xFFFFFFFF)) 0x1E (leBytes 2 0) else h

/-- A body goes on with a key blob, or ends where the device holds no root to wrap it under. -/
def withBlob (o : Option (List Byte)) (s : State) (k : List Byte → BodyResult) : BodyResult :=
  match o with
  | some b => k b
  | none => refuse St.keyAbsent s

/-- A body goes on where a check passes. -/
def withOk {α : Type} (r : Except (Nat × Nat) α) (s : State) (k : α → BodyResult) : BodyResult :=
  match r with
  | .ok a => k a
  | .error e => (.fail e.1 e.2, s)

/-- A key placed in entry i (R284, R290): its blob is stored, and then the WRITE of its entry staged; the reply follows. -/
def State.placeKey (s : State) (p tenant i version limit : Nat) (blob data : List Byte) : BodyResult :=
  match s.storeBlob blob with
  | none => refuse St.bankBusy s
  | some (u, t) => t.stageEntry p i ⟨tenant, false, false, false, (s.entry i).mir, .key 0 limit version u 0xFFFF⟩ data

/-- A key of given bytes placed under a header, its check value returned. -/
def State.placePlain (s : State) (p tenant i : Nat) (hdr key : List Byte) : BodyResult :=
  withBlob (s.wrapKey hdr key) s (fun blob =>
    let v := s.keyKcv (hdrAlg hdr) key
    v.2.placeKey p tenant i (hdrVersion hdr) (hdrLimit hdr) blob v.1)

/-! ## Jobs that sign, verify and test -/

/-- The job that signs with a key of ALG (R222, R223): OP, PARAM and its IN0; none where ALG does not sign. -/
def signJob (alg : Nat) (digest : List Byte) : Option (Nat × Nat × List Byte) :=
  if (0x100 ≤ alg ∧ alg < 0x120) ∨ alg = 0x142 ∨ alg = 0x143 then some (0x11, alg - 0x100, digest)
  else if 0x210 ≤ alg ∧ alg ≤ 0x240 then some (0x03, alg - 0x200, digest)
  else if alg = 0x382 ∨ alg = 0x383 ∨ alg = 0x385 then some (0x39, alg - 0x380, 0#8 :: digest)
  else none

/-- The operation of a signature. -/
def signOp (op : Nat) : HearthId → State → Host.Outcome State Fault Refusal :=
  if op = 0x11 then execEcSign else if op = 0x03 then execRsaPriv else execMldsaSign

/-- The job that verifies a signature under a public key of ALG (R222, R223): OP, PARAM and the inputs. -/
def verifyJob (alg : Nat) (pk digest sig : List Byte) : Option (Nat × Nat × List (List Byte)) :=
  if (0x100 ≤ alg ∧ alg < 0x120) ∨ alg = 0x142 ∨ alg = 0x143 then some (0x12, alg - 0x100, [[], pk, digest, sig])
  else if 0x210 ≤ alg ∧ alg ≤ 0x240 then
    let m := alg - 0x200
    some (0x02, m, [[], pk.take (8 * m), sig, pk.drop (8 * m)])
  else if alg = 0x382 ∨ alg = 0x383 ∨ alg = 0x385 then some (0x3A, alg - 0x380, [[], pk, 0#8 :: digest, sig])
  else none

/-- The operation of a verification. -/
def verifyOp (op : Nat) : HearthId → State → Host.Outcome State Fault Refusal :=
  if op = 0x12 then execEcVerify else if op = 0x02 then execRsaPub else execMldsaVerify

/-- A body goes on where a test holds. -/
def tested (ok : Bool) (s : State) (k : State → BodyResult) : BodyResult := if ok then k s else refuse St.faultHw s

/-- The peer of the test agreement: the base point, with which the secret is the public key's own X coordinate or u. -/
def State.testPeer (s : State) (param : Nat) : Option (List Byte × Nat) :=
  if param = 0x40 then some (leBytes 32 9, 32)
  else if param = 0x41 then some (leBytes 56 5, 56)
  else (s.curveAt param).map (fun c => (c.pubBytes 1, (c.pubBytes 1).length / 2))

/-- The test job of a private key with its blob and public key (R285, step 2): one signing, agreement or decapsulation, as its usage
permits, checked against the public key. The manual gives no message, and no status of a test that fails (log 96). -/
def State.testJob (s : State) (p i : Nat) (blob pk : List Byte) (k : State → BodyResult) : BodyResult :=
  let alg := hdrAlg blob
  let usage := hdrUsage blob
  let call := fun (op param : Nat) (ins : List (List Byte)) (raw : Bool) (out : Nat) =>
    ({ op := op, param := param, iter := if op = 0x39 then 255 else 0, raw := raw, key := i, ins := ins, out := out } : PkeCall)
  if bit 6 usage then
    let m := if 0x210 ≤ alg ∧ alg ≤ 0x240 then leBytes (8 * (alg - 0x200)) 2 else zeros 32
    match signJob alg m with
    | none => k s
    | some (op, param, x) =>
      withJob s (s.runPke p (call op param [blob, x, [], []] false 4640) (signOp op)) (fun t sig =>
        match verifyJob alg pk m sig with
        | none => k t
        | some (op, param, ins) =>
          withJob s (t.runPke p (call op param ins false 512) (verifyOp op)) (fun t out =>
            tested (if op = 0x02 then out == m else out == validBytes true) t k))
  else if !bit 7 usage then k s
  else if 0x302 ≤ alg ∧ alg ≤ 0x304 then
    let ct := ((kemLens (alg - 0x300)).getD (0, 0)).2
    withJob s (s.runPke p (call 0x31 (alg - 0x300) [[], pk, [], []] true (ct + 32)) execMlkemEncap) (fun t x =>
      withJob s (t.runPke p (call 0x32 (alg - 0x300) [blob, x.take ct, [], []] true 32) execMlkemDecap) (fun t y =>
        tested (y == x.drop ct) t k))
  else match s.testPeer (alg - 0x100) with
    | none => k s
    | some (u, n) =>
      withJob s (s.runPke p (call 0x13 (alg - 0x100) [blob, u, [], []] true n) execEcAgree) (fun t x => tested (x == pk.take n) t k)

/-! ## Entries freed -/

/-- WRITEs of entries staged in the order given, and then a reply. -/
def State.stageAll (s : State) (p : Nat) (data : List Byte) : List (Nat × Entry) → BodyResult
  | [] => reply data s
  | (i, e) :: us => s.stage p (writeRecord i e) (fun t _ _ => State.stageAll t p data us)

/-- Two entries in ascending index order, as one job stages them (R293). -/
def twoEntries (a b : Nat × Entry) : List (Nat × Entry) := if a.1 < b.1 then [a, b] else [b, a]

/-- An entry freed (R290). The mirror entry of an origin goes with it, and the partner of a pair in force is told to drop its copy
(R464; log 63). -/
def State.freeEntry (s : State) (p i : Nat) : BodyResult :=
  let e := (s.entry i).freed
  match s.mirrorOf i with
  | some (m, node, r, st, _) =>
    if !(s.entry i).mir then s.stageAll p [] [(i, e)]
    else if s.lockedFor p i || s.lockedFor p m then (.wait, s)
    else
      let t := if st = 1 ∨ st = 2 then s.addEffect p (.send ⟨WvType.mdrop, node, mdropPayload i r⟩) else s
      t.stageAll p [] (twoEntries (i, e) (m, (s.entry m).freed))
  | none => s.stageAll p [] [(i, e)]

/-! ## Commands -/

/-- KEY_IMPORT (R277, R282, R283, R519). A device blob is taken in the version being created and at DEPTH 1 only (log 61). -/
def execKeyImport (p : PairId) (s : State) : Host.Outcome State Fault Refusal :=
  .next (s.bodyOn p.val 0x300 [0] (fun j s =>
    let i := j.arg 0 4
    let blob := j.params.drop 4
    withOk (s.keyPlace j.tenant i) s (fun v =>
      if s.lockedFor p.val i then (.wait, s)
      else withOk (s.broughtKey p.val j.tenant i blob) s (fun b =>
        if hdrWrapper blob = 0xFFFFFFFF ∧ (hdrVersion blob ≠ v ∨ hdrDepth blob ≠ 1) then badParam s
        else b.2.2.placePlain p.val j.tenant i (rewrapHeader blob 1 v) b.2.1))))

/-- The template of a derived key (R276, R277): ALG, USAGE and LIMIT, which the command does not carry, are free values among those
that R277 admits (log 62). -/
def State.childTemplate (s : State) (tenant parent i version depth ltag : Nat) : List Byte × State :=
  let f := s.freshBytes 9
  let k := ofLe (f.1.take 1) % 6
  let alg := if k = 0 then 1 else if k = 1 then 2 else if k = 2 then 3 else if k = 3 then 0x10 else if k = 4 then 0x11 else 0x400
  (blobHeader depth alg ((wd (leAt f.1 1 2)) &&& 0x8BFF#32).toNat tenant i version parent (leAt f.1 3 6 % (2 ^ 48 - 1) + 1) ltag, f.2)

/-- KEY_DERIVE (R276, R277, R519): one DERIVE job, the child's blob stored and its entry staged. -/
def execKeyDerive (p : PairId) (s : State) : Host.Outcome State Fault Refusal :=
  .next (s.bodyOn p.val 0x301 [0, 4] (fun j s =>
    let a := j.arg 0 4
    let i := j.arg 4 4
    withOk (s.keyInUse j.tenant a false) s (fun par =>
      withOk (s.keyPlace j.tenant i) s (fun v =>
        if s.lockedFor p.val i then (.wait, s)
        else
          let t := s.childTemplate j.tenant a i v (hdrDepth par.1 + 1) (leAt j.params 8 2)
          let label := slice j.params 8 32
          let c : SymCall := { op := 6, key := a, key2 := i, ins := [par.1, [], [], label ++ t.1], out := 128 }
          withJob s (t.2.runSym p.val c execDerive) (fun s blob =>
            let kcv := match s.unwrapKey blob with
              | some k => s.keyKcv (hdrAlg blob) k
              | none => s.freshBytes 4
            kcv.2.placeKey p.val j.tenant i v (hdrLimit t.1) blob kcv.1)))))

/-- The public-key job that generates a key of ALG: OP, PARAM, and the length of the public key before its blob. -/
def State.keygenJob (s : State) (alg : Nat) : Option (Nat × Nat × Nat) :=
  if 0x100 ≤ alg ∧ alg < 0x144 then (ecLens (alg - 0x100) (s.curveAt (alg - 0x100))).map (fun l => (0x10, alg - 0x100, l.2.1))
  else if 0x302 ≤ alg ∧ alg ≤ 0x304 then (kemLens (alg - 0x300)).map (fun l => (0x30, alg - 0x300, l.1))
  else (dsaLens (alg - 0x380)).map (fun l => (0x38, alg - 0x380, l.1))

/-- The operation of a key generation. -/
def keygenOp (op : Nat) : HearthId → State → Host.Outcome State Fault Refusal :=
  if op = 0x10 then execEcKeygen else if op = 0x30 then execMlkemKeygen else execMldsaKeygen

/-- ALG is one of R280. -/
def algKnown (alg : Nat) : Bool := (algKeyLen alg 1 1).isSome

/-- KEY_GENERATE (R277, R519): a symmetric key or generic secret from the RNG, an RSA key made by the firmware (log 60), or a key pair
generated by an engine. -/
def execKeyGenerate (p : PairId) (s : State) : Host.Outcome State Fault Refusal :=
  .next (s.bodyOn p.val 0x302 [0] (fun j s =>
    let i := j.arg 0 4
    let alg := j.arg 4 2
    withOk (s.keyPlace j.tenant i) s (fun v =>
      let hdr := rootHeader alg (j.arg 6 2) j.tenant i v (j.arg 8 8)
      if !limitOk (j.arg 8 8) (j.arg 6 2) || !algKnown alg then badParam s
      else if s.lockedFor p.val i then (.wait, s)
      else if !s.rngHealthy then refuse St.faultHw s
      else if isPrivate alg ∧ ¬(0x210 ≤ alg ∧ alg ≤ 0x240) then
        match s.keygenJob alg with
        | none => if s.noPke then refuse St.portDisabled s else refuse St.curve s
        | some (op, param, n) =>
          let c : PkeCall := { op := op, param := param, key := i, ins := [[], hdr, [], []], out := n + 256 }
          withJob s (s.runPke p.val c (keygenOp op)) (fun s out =>
            s.placeKey p.val j.tenant i v (j.arg 8 8) (out.drop n) ((sha256 (out.take n)).take 4))
      else
        let n := (algKeyLen alg 0 (Config.genericLen % 64 + 1)).getD 0
        let d := s.drawHw n
        d.2.placePlain p.val j.tenant i hdr (if isTdea alg then d.1.map oddParity else d.1))))

/-- KEY_REPLACE_STAGE (R285 step 1, R286). -/
def execKeyReplaceStage (p : PairId) (s : State) : Host.Outcome State Fault Refusal :=
  .next (s.bodyOn p.val 0x303 [0] (fun j s =>
    let i := j.arg 0 4
    let blob := j.params.drop 4
    withOk (s.keyEntry j.tenant i false) s (fun k =>
      if (s.entry i).pend then refuse St.keyReplacing s
      else if s.lockedFor p.val i then (.wait, s)
      else withOk (s.broughtKey p.val j.tenant i blob) s (fun b =>
        let hdr := rewrapHeader blob b.1 (k.2.2.1 + 1)
        withBlob (b.2.2.wrapKey hdr b.2.1) s (fun nb =>
          let v := b.2.2.keyKcv (hdrAlg hdr) b.2.1
          match v.2.storeBlob nb with
          | none => refuse St.bankBusy s
          | some (u, t) =>
            let e := s.entry i
            t.stageEntry p.val i { e with pend := true, body := .key k.1 k.2.1 k.2.2.1 k.2.2.2.1 u } v.1)))))

/-- KEY_REPLACE_SWITCH (R285 steps 2 and 3, R286). -/
def execKeyReplaceSwitch (p : PairId) (s : State) : Host.Outcome State Fault Refusal :=
  .next (s.bodyOn p.val 0x304 [0] (fun j s =>
    let i := j.arg 0 4
    withOk (s.keyEntry j.tenant i false) s (fun k =>
      if !(s.entry i).pend then refuse St.keyAbsent s
      else
        let blob := s.slotBlob k.2.2.2.2
        match s.unwrapKey blob with
        | none => refuse St.keyAbsent s
        | some key =>
          let v := s.keyKcv (hdrAlg blob) key
          let flip := fun (t : State) =>
            let e := t.entry i
            t.stageEntry p.val i { e with pend := false, body := .key 0 (hdrLimit blob) (k.2.2.1 + 1) k.2.2.2.2 0xFFFF } []
          if v.1 ≠ slice j.params 4 4 then badParam v.2
          else if s.lockedFor p.val i then (.wait, s)
          else if !isPrivate (hdrAlg blob) then flip v.2
          else match s.publicOf (hdrAlg blob) key with
            | some pk => s.testJob p.val i blob pk flip
            | none => flip v.2)))

/-- KEY_INFO (R212). -/
def execKeyInfo (p : PairId) (s : State) : Host.Outcome State Fault Refusal :=
  .next (s.bodyOn p.val 0x305 [0] (fun j s =>
    let i := j.arg 0 4
    withOk (s.keyEntry j.tenant i true) s (fun k =>
      let h := s.nbytes (blobOff k.2.2.2.1) 32
      reply (leBytes 2 (hdrAlg h) ++ leBytes 2 (hdrUsage h).toNat ++ leBytes 4 k.2.2.1 ++ leBytes 8 k.1 ++ leBytes 8 k.2.1 ++
        leBytes 1 (b2n (s.entry i).pend) ++ zeros 3) s)))

/-- KEY_DESTROY (R286, R290): both versions go with the entry, which is freed (log 59). -/
def execKeyDestroy (p : PairId) (s : State) : Host.Outcome State Fault Refusal :=
  .next (s.bodyOn p.val 0x306 [0] (fun j s =>
    let i := j.arg 0 4
    withOk (s.keyEntry j.tenant i false) s (fun _ => s.freeEntry p.val i)))

/-- KEY_PUBLIC (R212, R289): of entry 0 for every tenant. -/
def execKeyPublic (p : PairId) (s : State) : Host.Outcome State Fault Refusal :=
  .next (s.bodyOn p.val 0x307 [0] (fun j s =>
    let i := j.arg 0 4
    let key := if i = 0 then
        (if s.isSealed || !s.ledger.established then .error (St.tampered, 0)
        else match (s.entry 0).asKey with
          | some k => match s.unwrapKey (s.slotBlob k.2.2.2.1) with
            | some key => .ok (s.slotBlob k.2.2.2.1, key)
            | none => .error (St.keyAbsent, 0)
          | none => .error (St.keyAbsent, 0))
      else s.keyInUse j.tenant i true
    withOk key s (fun b =>
      let alg := hdrAlg b.1
      if !isPrivate alg then refuse St.keyAbsent s
      else match s.publicOf alg b.2 with
        | some pk => reply pk s
        | none => if s.noPke then refuse St.portDisabled s else refuse St.curve s)))

end Sys2Proof.Machine
end

