-- ==== Sys2Proof/Machine/LedgerCommands.lean ====
section
/-! DEFINITION. The bodies of the commands of family 0x04 (R212, R216, R289–R301, R464, R469, R519). -/

namespace Sys2Proof.Machine

/-- LEDGER_READ (R212, R216, R289, R459): the committed image and the command that changed it last. -/
def execLedgerRead (p : PairId) (s : State) : Host.Outcome State Fault Refusal :=
  .next (s.bodyOn p.val 0x400 [0] (fun j s =>
    let i := j.arg 0 4
    let bad :=
      if 131071 < i then some (St.range, 0)
      else if 2 ≤ i ∧ i < 16 then some (St.policy, 4)
      else if s.isSealed || !s.ledger.established then some (St.tampered, 0)
      else if 16 ≤ i ∧ (s.entry i).owner ≠ j.tenant then some (St.policy, 4)
      else s.mirrorBad i true true
    checked bad s (fun _ =>
      let l := s.ledger.lastJ.get (fun _ => (0, 0, 0, 0)) i
      reply (s.imageOf i (s.entryMac i) ++ leBytes 4 l.1 ++ leBytes 2 l.2.1 ++ leBytes 1 l.2.2.1 ++ leBytes 1 l.2.2.2) s)))

/-- COUNTER_INC (R292, R294). -/
def execCounterInc (p : PairId) (s : State) : Host.Outcome State Fault Refusal :=
  .next (s.bodyOn p.val 0x401 [0] (fun j s =>
    let i := j.arg 0 4
    if j.arg 4 4 ≠ 0 then badParam s
    else checked (s.entryBad j.tenant i (St.param, 8) false false) s (fun _ =>
      s.stage p.val (stagingRecord 1 i (j.arg 8 8) []) (fun s v _ => reply (leBytes 8 v) s))))

/-- COUNTER_INC_ATTESTED (R292, R301): the digest of the staging signed with entry 0. -/
def execCounterIncAttested (p : PairId) (s : State) : Host.Outcome State Fault Refusal :=
  .next (s.bodyOn p.val 0x402 [0] (fun j s =>
    let i := j.arg 0 4
    if j.arg 4 4 ≠ 0 then badParam s
    else checked (s.entryBad j.tenant i (St.param, 8) false false) s (fun _ =>
      s.stage p.val (stagingRecord 4 i (j.arg 8 8) (slice j.params 16 32)) (fun s v dig =>
        match (s.entry 0).asKey with
        | none => refuse St.keyAbsent s
        | some k =>
          let c : PkeCall := { op := 0x11, param := 0, key := 0, ins := [s.slotBlob k.2.2.2.1, dig, [], []], out := 64 }
          withJob s (s.runPke p.val c execEcSign) (fun s sig => reply (leBytes 8 v ++ sig) s)))))

/-- TOKEN_ISSUE (R290, R300, R519): into a free entry that may be a token, or a token entry of the tenant. -/
def execTokenIssue (p : PairId) (s : State) : Host.Outcome State Fault Refusal :=
  .next (s.bodyOn p.val 0x403 [0] (fun j s =>
    let i := j.arg 0 4
    let e := s.entry i
    let e' : Entry := ⟨j.tenant, false, false, false, e.mir, .token (j.arg 4 4) (slice j.params 8 16)⟩
    let bad :=
      if 131071 < i then some (St.range, 0)
      else if i < 16 then some (St.policy, 4)
      else if s.isSealed || !s.ledger.established then some (St.tampered, 0)
      else if e.isFree then (if e.admitsType 3 then none else some (St.param, 8))
      else if e.owner ≠ j.tenant then some (St.policy, 4)
      else if e.body.type ≠ 3 then some (St.param, 8)
      else s.mirrorBad i false false
    if j.arg 4 4 = 0 then badParam s
    else checked bad s (fun _ => s.stageEntry p.val i e' [])))

/-- The pulse of TOKEN_REDEEM staged (R438, R519). -/
def State.redeemPulse (s : State) (p act len remain : Nat) : BodyResult :=
  if act = 0xFF then reply (leBytes 4 remain) s
  else match s.armedJob p with
    | none => (.wait, s)
    | some j =>
      match s.pulseRefusal j act len with
      | some e => (.fail e.1 (if e.1 = St.param then 8 else 0), s)
      | none => reply (leBytes 4 remain) (s.updArmed p (fun j => { j with pulses := j.pulses ++ [⟨act, len⟩] }))

/-- TOKEN_REDEEM (R292, R296, R344, R438, R519). -/
def execTokenRedeem (p : PairId) (s : State) : Host.Outcome State Fault Refusal :=
  .next (s.bodyOn p.val 0x404 [0] (fun j s =>
    let i := j.arg 0 4
    let act := j.arg 4 1
    if (15 < act ∧ act ≠ 0xFF) ∨ j.arg 5 3 ≠ 0 then badParam s
    else if act ≠ 0xFF ∧ (s.lcState = 2 ∨ s.lcState = 4) then refuse St.lifecycle s
    else if act ≠ 0xFF ∧ s.flag (Fld.ACT_CFG_TEN_EN act) ∧ s.getF (Fld.ACT_CFG_TENANT act) ≠ j.tenant then (.fail St.policy 4, s)
    else checked (s.entryBad j.tenant i (St.param, 8) false false) s (fun _ =>
      s.stage p.val (stagingRecord 2 i 0 (slice j.params 12 32)) (fun s v _ => s.redeemPulse p.val act (j.arg 8 4) v))))

/-- The body that an entry of a type starts with where it is allocated (R290). -/
def allocatedBody (ty : Nat) (b : Body) : Body :=
  let nf := match b with
    | .free nv fl => (nv, fl)
    | _ => (1, 0)
  if ty = 1 then .counter nf.2 nf.1 else if ty = 2 then .key 0 0 nf.1 0xFFFF 0xFFFF else .token 0 (zeros 16)

/-- ENTRY_ALLOC (R290, R519). -/
def execEntryAlloc (p : PairId) (s : State) : Host.Outcome State Fault Refusal :=
  .next (s.body p.val 0x405 (fun j s =>
    let ty := j.arg 0 1
    if ty = 0 ∨ 3 < ty ∨ j.arg 1 3 ≠ 0 then badParam s
    else if s.isSealed || !s.ledger.established then refuse St.tampered s
    else match s.allocIndex ty [] with
      | none => refuse St.range s
      | some i => s.stageEntry p.val i ⟨j.tenant, false, false, false, false, allocatedBody ty (s.entry i).body⟩ (leBytes 4 i)))

/-- ENTRY_FREE (R289, R290, R459, R519). -/
def execEntryFree (p : PairId) (s : State) : Host.Outcome State Fault Refusal :=
  .next (s.bodyOn p.val 0x406 [0] (fun j s =>
    let i := j.arg 0 4
    checked (s.entryBad j.tenant i (St.param, 8) false true) s (fun _ =>
      if (s.entry i).body.type = 4 then badParam s else s.freeEntry p.val i)))

/-! ## ENTRY_MIRROR -/

/-- A handover begun at the job's commit (R465), after the WRITEs given. -/
def State.stageHandover (s : State) (p : Nat) (h : Handover) (us : List (Nat × Entry)) : BodyResult :=
  (s.addEffect p (.handover h)).stageAll p [] us

/-- An origin unpaired by a job (R464). -/
def State.stageUnpair (s : State) (p i m node r : Nat) : BodyResult :=
  (s.addEffect p (.send ⟨WvType.mdrop, node, mdropPayload i r⟩)).stageAll p []
    (twoEntries (i, { s.entry i with mir := false }) (m, (s.entry m).freed))

/-- ENTRY_MIRROR of an entry that has a mirror entry, by its STATE (R464, R469). -/
def State.remirror (s : State) (p i node m node0 r st : Nat) : BodyResult :=
  let own := decide (node = s.ownNode)
  if st = 3 then refuse St.busy s
  else if st = 6 then
    if own then s.stageAll p [] (twoEntries (i, { s.entry i with mir := false }) (m, (s.entry m).freed)) else refuse St.busy s
  else if !own && !s.reachable node then badParam s
  else if st = 4 then
    if s.reachable node0 then badParam s
    else if own then s.stageAll p [] [(m, (s.entry m).freed)]
    else
      let m' := ((s.allocIndex 4 [i]).map (fun a => min a m)).getD m
      s.stageHandover p ⟨i, m', node, 0, 1, 0, 0⟩ [(m, (s.entry m).freed)]
  else if own then s.stageUnpair p i m node0 r
  else s.stageHandover p ⟨i, m, node, node0, r, st, 0⟩ []

/-- ENTRY_MIRROR (R464, R465, R469): pairing, handover, unpairing, promotion, and the end of a conflict. -/
def execEntryMirror (p : PairId) (s : State) : Host.Outcome State Fault Refusal :=
  .next (s.bodyOn p.val 0x407 [0] (fun j s =>
    let i := j.arg 0 4
    let node := j.arg 4 2
    let e := s.entry i
    if j.arg 6 2 ≠ 0 then badParam s
    else if 131071 < i then refuse St.range s
    else if i < 16 then (.fail St.policy 4, s)
    else if s.isSealed || !s.ledger.established then refuse St.tampered s
    else if e.isFree ∨ e.body.type = 4 then badParam s
    else if s.lockedFor p.val i then (.wait, s)
    else match (if e.mir then s.mirrorOf i else none) with
      | some (m, node0, r, st, _) => s.remirror p.val i node m node0 r st
      | none =>
        if node = s.ownNode ∨ !s.reachable node then badParam s
        else match s.allocIndex 4 [i] with
          | none => refuse St.range s
          | some m => s.stageHandover p.val ⟨i, m, node, 0, b2n e.mir, 0, 0⟩ []))

end Sys2Proof.Machine
end

