-- ==== Sys2Proof/Machine/CryptoCommands.lean ====
section
/-! DEFINITION. The bodies of the commands of family 0x05 (R212, R213, R222–R231, R245–R252, R519). -/

namespace Sys2Proof.Machine

/-- Bytes filled with zeros to n. -/
def zeroPad (bs : List Byte) (n : Nat) : List Byte := bs ++ zeros (n - bs.length)

/-! ## Symmetric commands -/

/-- The parameters of SYM_CRYPT are in their sets (R212, R213): MODE by the OP, the IV, and AAD only for GCM and CCM. -/
def cryptParamsOk (j : Job) (op : Nat) : Bool :=
  let mode := j.arg 4 1
  let iv := j.arg 6 1
  let aad := j.params.length - 56
  decide (mode ≤ (if op = 1 then 4 else 1) ∧ j.arg 5 1 ≤ 1 ∧ iv ≤ 16 ∧ aad ≤ (if op = 1 ∧ 3 ≤ mode then 4000 else 0)) &&
    (slice j.params (8 + iv) (16 - iv)).all (· == 0)

/-- SYM_CRYPT (R213, R245–R247). -/
def execSymCrypt (r : HostRead) (s : State) : Host.Outcome State Fault Refusal :=
  .next (s.bodyOn r.pair.val 0x500 [0] (fun j s =>
    let i := j.arg 0 4
    let mode := j.arg 4 1
    let dec := j.arg 5 1 == 1
    let tg := j.arg 7 1
    match hbdAt j.params 24 false, hbdAt j.params 40 true with
    | some (_, inLen), some (outAddr, outLen) =>
      withOk (s.keyInUse j.tenant i false) s (fun k =>
        let alg := hdrAlg k.1
        let op := if isAes alg then 1 else 2
        if !(isAes alg || isTdea alg) then refuse St.keyAbsent s
        else if !cryptParamsOk j op then badParam s
        else if 65536 < inLen then refuse St.range s
        else
          let aead := op = 1 ∧ 3 ≤ mode
          let n := if aead ∧ dec then inLen - tg else inLen
          if outLen < n then badParam s
          else s.withHostData j inLen r.data (fun s m =>
            let aux := slice j.params 8 (j.arg 6 1) ++ j.params.drop 56
            let c : SymCall := { op := op, mode := mode, tagLen := tg, ivLen := j.arg 6 1, dec := dec, key := i, ins := [k.1, [], m, aux]
                                 out := inLen + 16 }
            withJob s (s.runSym r.pair.val c (if op = 1 then execCipher else execTdea)) (fun s out =>
              (.done (zeroPad (if aead ∧ !dec then out.drop n else []) 16) [(outAddr, out.take n)], s))))
    | _, _ => badParam s))

/-- MAC (R213, R248). -/
def execMac (r : HostRead) (s : State) : Host.Outcome State Fault Refusal :=
  .next (s.bodyOn r.pair.val 0x501 [0] (fun j s =>
    let i := j.arg 0 4
    let verify := j.arg 5 1 == 1
    let tg := j.arg 6 1
    let mac := slice j.params 8 16
    match hbdAt j.params 24 false with
    | none => badParam s
    | some (_, inLen) =>
      if j.arg 4 1 ≠ 0 ∨ 1 < j.arg 5 1 ∨ j.arg 7 1 ≠ 0 ∨ 16 < tg ∨ (verify ∧ !(mac.drop tg).all (· == 0)) then badParam s
      else withOk (s.keyInUse j.tenant i false) s (fun k =>
        if !(isAes (hdrAlg k.1) || isTdea (hdrAlg k.1)) then refuse St.keyAbsent s
        else if 65536 < inLen then refuse St.range s
        else s.withHostData j inLen r.data (fun s m =>
          let c : SymCall := { op := 3, tagLen := tg, verify := verify, key := i, ins := [k.1, [], m, if verify then mac.take tg else []]
                               out := 16 }
          withJob s (s.runSym r.pair.val c execSymMac) (fun s out => reply (if verify then out else zeroPad out 16) s)))))

/-- PIN_TRANSLATE (R251): a block of 8 bytes is the first 8 bytes of its field. -/
def execPinTranslate (p : PairId) (s : State) : Host.Outcome State Fault Refusal :=
  .next (s.bodyOn p.val 0x502 [0, 4] (fun j s =>
    withOk (s.keyInUse j.tenant (j.arg 0 4) false) s (fun a =>
      withOk (s.keyInUse j.tenant (j.arg 4 4) false) s (fun b =>
        let aux := slice j.params 8 14
        let c : SymCall := { op := 4, key := j.arg 0 4, key2 := j.arg 4 4, ins := [a.1, b.1, slice j.params 22 (pinLen (j.arg 8 1)), aux]
                             out := 16 }
        withJob s (s.runSym p.val c execSymPinTranslate) (fun s out => reply (zeroPad out 16) s)))))

/-! ## Public-key commands -/

/-- SIGN (R222, R223, R234): by the key's own ALG; ML-DSA runs with an empty context and ITER_MAX 255 (log 64). -/
def execSign (p : PairId) (s : State) : Host.Outcome State Fault Refusal :=
  .next (s.bodyOn p.val 0x503 [0] (fun j s =>
    let i := j.arg 0 4
    if j.arg 6 2 ≠ 0 then badParam s
    else withOk (s.keyInUse j.tenant i false) s (fun k =>
      match (if hdrAlg k.1 = j.arg 4 2 then signJob (j.arg 4 2) (j.params.drop 8) else none) with
      | none => refuse St.keyAbsent s
      | some (op, param, m) =>
        let c : PkeCall := { op := op, param := param, iter := if op = 0x39 then 255 else 0, key := i, ins := [k.1, m, [], []], out := 4640 }
        withJob s (s.runPke p.val c (signOp op)) (fun s sig => reply sig s))))

/-- VERIFY (R222, R223): an RSA signature is valid where RSA_PUB of it is the digest (log 64). -/
def execVerify (p : PairId) (s : State) : Host.Outcome State Fault Refusal :=
  .next (s.bodyOn p.val 0x504 [0] (fun j s =>
    let i := j.arg 0 4
    let data := j.params.drop 8
    let n := j.arg 6 2
    let digest := data.drop n
    if data.length < n then badParam s
    else withOk (s.keyInUse j.tenant i true) s (fun k =>
      if hdrAlg k.1 ≠ j.arg 4 2 ∨ (signJob (j.arg 4 2) []).isNone then refuse St.keyAbsent s
      else match s.publicOf (j.arg 4 2) k.2 with
        | none => if s.noPke then refuse St.portDisabled s else refuse St.curve s
        | some pk =>
          match verifyJob (j.arg 4 2) pk digest (data.take n) with
          | none => refuse St.keyAbsent s
          | some (op, param, ins) =>
            if op = 0x02 ∧ digest.length ≠ 8 * param then badParam s
            else
              let c : PkeCall := { op := op, param := param, key := 0, ins := ins, out := 512 }
              withJob s (s.runPke p.val c (verifyOp op)) (fun s out => reply (if op = 0x02 then validBytes (out == digest) else out) s))))

/-- The template of a shared key (R277, R283): ALG, USAGE and LIMIT, which the command does not carry, are free values that fit a
shared key of 32 bytes (log 62). -/
def State.sharedTemplate (s : State) (tenant i version : Nat) : List Byte × State :=
  let f := s.freshBytes 9
  let alg := if ofLe (f.1.take 1) % 2 = 0 then 3 else 0x400
  (rootHeader alg ((wd (leAt f.1 1 2)) &&& 0x8FFF#32).toNat tenant i version (leAt f.1 3 6 % (2 ^ 48 - 1) + 1), f.2)

/-- KEM_DECAP (R223, R227, R277, R519): the shared key as a key of OUT_INDEX. -/
def execKemDecap (p : PairId) (s : State) : Host.Outcome State Fault Refusal :=
  .next (s.bodyOn p.val 0x505 [0, 4] (fun j s =>
    let a := j.arg 0 4
    let i := j.arg 4 4
    withOk (s.keyInUse j.tenant a false) s (fun k =>
      let alg := hdrAlg k.1
      if ¬(0x302 ≤ alg ∧ alg ≤ 0x304) then refuse St.keyAbsent s
      else withOk (s.keyPlace j.tenant i) s (fun v =>
        if s.lockedFor p.val i then (.wait, s)
        else
          let t := s.sharedTemplate j.tenant i v
          let c : PkeCall := { op := 0x32, param := alg - 0x300, key := a, ins := [k.1, j.params.drop 8, t.1, []], out := 128 }
          withJob s (t.2.runPke p.val c execMlkemDecap) (fun s blob =>
            let kcv := match s.unwrapKey blob with
              | some z => s.keyKcv (hdrAlg blob) z
              | none => s.freshBytes 4
            kcv.2.placeKey p.val j.tenant i v (hdrLimit t.1) blob kcv.1)))))

/-- RANDOM (R266, R268). -/
def execRandom (p : PairId) (s : State) : Host.Outcome State Fault Refusal :=
  .next (s.body p.val 0x506 (fun j s =>
    let n := j.arg 0 4
    if n = 0 ∨ 4064 < n then badParam s
    else if !s.rngHealthy then refuse St.faultHw s
    else
      let r := s.drawHw n
      reply r.1 r.2))

/-- A vetted curve installed on every engine that takes grants (R231). -/
def State.installEverywhere (s : State) (k : Nat) (c : Curve) : State :=
  ((List.range 16).filter (fun h => !s.pkeClosed h)).foldl (fun s h => s.installCurve h k c) s

/-- CURVE_LOAD (R230, R231): vetted on one engine, and installed on all. -/
def execCurveLoad (p : PairId) (s : State) : Host.Outcome State Fault Refusal :=
  .next (s.body p.val 0x507 (fun j s =>
    let k := j.arg 0 1
    let rec0 := j.params.drop 4
    if 31 < k ∨ j.arg 1 3 ≠ 0 then badParam s
    else
      let c : PkeCall := { op := 0x40, param := k, key := 0, ins := [[], rec0, [], []], out := rec0.length + 8 }
      withJob s (s.runPke p.val c execCurveVet) (fun s _ => reply [] (s.installEverywhere k (Curve.parse rec0)))))

end Sys2Proof.Machine
end

