-- ==== Sys2Proof/Machine/PortCommands.lean ====
section
/-! DEFINITION. The bodies of the commands of families 0x06 and 0x07 (R212, R383, R397, R418, R435, R449, R455, R456, R519, R520). -/

namespace Sys2Proof.Machine

/-! ## Ports -/

/-- PORT_CTL (R26, R344, R519). -/
def execPortCtl (p : PairId) (s : State) : Host.Outcome State Fault Refusal :=
  .next (s.body p.val 0x600 (fun j s =>
    let n := j.arg 0 1
    let on := j.arg 1 1
    if 1 < on ∨ j.arg 2 2 ≠ 0 then badParam s
    else if 127 < n then refuse St.range s
    else if 56 ≤ n ∧ n ≤ 71 ∧ on = 1 ∧ (s.lcState = 2 ∨ s.lcState = 4) then refuse St.lifecycle s
    else s.setEnable (.port (Fin.ofNat 128 n)) on))

/-- The registers of the class status of a port (R520). -/
def classStatus (n : Nat) : List Nat :=
  if n < 2 then [Reg.HOST_LSTAT n]
  else if n < 10 then [Reg.WEAVE_LSTAT (n - 2)]
  else if n < 42 then [Reg.HEAD_STAT (n - 10)]
  else if n < 50 then [Reg.CRT_STAT (n - 42), Reg.CRT_WRES (n - 42)]
  else if n < 54 then [Reg.RF_STAT (n - 50)]
  else if n < 56 then [Reg.SC_STAT (n - 54)]
  else if n < 72 then [Reg.ACT_STAT (n - 56), Reg.ACT_LAST_J (n - 56)]
  else if n < 120 then [Reg.WALE_WSTAT (n - 72)]
  else if n < 124 then [Reg.WALE_CASESTAT]
  else if n = 124 then [Reg.LCS_STAT]
  else if n = 126 then [Reg.BEAT_STATUS]
  else if n = 127 then [Reg.TAMP_STAT]
  else []

/-- PORT_STATUS (R519, R520), as the supervisor reads the registers. -/
def execPortStatus (p : PairId) (s : State) : Host.Outcome State Fault Refusal :=
  .next (s.body p.val 0x601 (fun j s =>
    let n := j.arg 0 1
    if j.arg 1 3 ≠ 0 then badParam s
    else if 127 < n then refuse St.range s
    else reply (wordBytes (s.uctlRead (.port (Fin.ofNat 128 n))) ++ wordsBytes ((classStatus n).map (s.windowRead p.val))) s))

/-- HEAD_LIST (R212, R431). -/
def execHeadList (p : PairId) (s : State) : Host.Outcome State Fault Refusal :=
  .next (s.body p.val 0x602 (fun _ s => reply (wordBytes (s.reg Reg.HEAD_PRESENT)) s))

/-- The body of CART_CTL with an OP; every row refuses an OP outside the set (R203). PORT_ABSENT with no cartridge in the slot. -/
def State.cartBody (s : State) (p op : Nat) : State :=
  s.runBody p (fun j => j.opcode == 0x603 && (j.arg 1 1 == op || decide (3 < j.arg 1 1))) (fun _ => []) (fun j s =>
    let k := j.arg 0 1
    if 7 < k ∨ 3 < j.arg 1 1 ∨ j.arg 2 2 ≠ 0 then badParam s
    else if !s.portOn (42 + k) then refuse St.portDisabled s
    else if s.slotState k = Slot.empty then refuse St.portAbsent s
    else
      let t := s.cartCtl k op
      reply (leBytes 4 (t.slotState k)) t)

/-- CART_CTL_MOUNT (R380): CART_CTL with OP 0. -/
def execCartCtlMount (p : PairId) (s : State) : Host.Outcome State Fault Refusal := .next (s.cartBody p.val 0)
/-- CART_CTL_SLEEP (R383): OP 1. -/
def execCartCtlSleep (p : PairId) (s : State) : Host.Outcome State Fault Refusal := .next (s.cartBody p.val 1)
/-- CART_CTL_WAKE (R383): OP 2. -/
def execCartCtlWake (p : PairId) (s : State) : Host.Outcome State Fault Refusal := .next (s.cartBody p.val 2)
/-- CART_CTL_RELEASE (R383): OP 3. -/
def execCartCtlRelease (p : PairId) (s : State) : Host.Outcome State Fault Refusal := .next (s.cartBody p.val 3)

/-- RF_CTL (R397): the supervisor writes CFG.MODE. -/
def execRfCtl (p : PairId) (s : State) : Host.Outcome State Fault Refusal :=
  .next (s.body p.val 0x604 (fun j s =>
    let f := j.arg 0 1
    if 3 < f ∨ 2 < j.arg 1 1 ∨ j.arg 2 2 ≠ 0 then badParam s
    else reply [] (s.rfCfgWrite f (setFld 1 0 (j.arg 1 1) (s.reg (Reg.RF_CFG f))))))

/-- The body of TAG_ACCESS with a value of WRITE; both rows refuse a value outside the set (R203). -/
def State.tagBody (s : State) (p wr : Nat) (f : Job → Nat → Nat → State → BodyResult) : State :=
  s.runBody p (fun j => j.opcode == 0x605 && (j.arg 1 1 == wr || decide (1 < j.arg 1 1))) (fun _ => []) (fun j s =>
    let u := j.arg 0 1
    let b := j.arg 2 2
    if 3 < u ∨ 1 < j.arg 1 1 ∨ 1023 < b then badParam s
    else if j.tenant ≠ s.getF (Fld.RF_CFG_TENANT u) then (.fail St.policy 4, s)
    else f j u b s)

/-- TAG_ACCESS_READ (R417, R418): the block through the window. -/
def execTagAccessRead (p : PairId) (s : State) : Host.Outcome State Fault Refusal :=
  .next (s.tagBody p.val 0 (fun _ u b s => reply (s.tagBlock u b) s))

/-- TAG_ACCESS_WRITE (R416, R418): the block staged, and in the reply as it is applied at release. -/
def execTagAccessWrite (p : PairId) (s : State) : Host.Outcome State Fault Refusal :=
  .next (s.tagBody p.val 1 (fun j u b s =>
    let d := slice j.params 4 16
    if !s.portOn (50 + u) then refuse St.portDisabled s
    else reply d (s.stageFrame p.val ⟨50 + u, 0, b, d⟩)))

/-! ## SC_APDU -/

/-- The offset in its hearth's memory of the buffer that firmware names for exchanges of contact port n: descriptor, TX at +0x1000, RX
at +0x10000 (log 57). -/
def cardBuffer (p n : Nat) : Nat := hearthOf p * 0x400000 + 0x2C0000 + 0x20000 * n

/-- Region 7 of the port's guard opened over the buffer (R154, R204; log 46). -/
def State.openGuard (s : State) (n o : Nat) : State :=
  ((s.pgStore n 14 (wd (fabricBase + o))).pgStore n 15 (wd (2 ^ 31 + 17 * 2 ^ 8 + 3))).pgApplyNow n

/-- The exchange of SC_APDU submitted (R435): RXCAP is the largest answer to the form of the APDU that a reply holds. -/
def State.submitApdu (s : State) (p n : Nat) (apdu : List Byte) : BodyResult :=
  let o := cardBuffer p n
  let cap := if extendedApdu apdu then 4064 else 258
  let ws : List Word := [2, wd apdu.length, wd (fabricBase + o + 0x1000), wd (fabricBase + o + 0x10000), wd cap, 0, 0, 0]
  let t := ((s.openGuard (54 + n) o).setHbytes o (wordsBytes ws)).setHbytes (o + 0x1000) apdu
  match t.scSubmit p n (wd (fabricBase + o)) with
  | .ok u => (.wait, u.addEffect p (.progress 1))
  | _ => (.wait, s)

/-- The result of the exchange: its answer, or its status (R435, R436, R207). -/
def State.apduResult (s : State) (p n : Nat) : BodyResult :=
  let o := cardBuffer p n
  let w := wd (leAt (s.hbytes (o + 24) 4) 0 4)
  if !bit 0 w then (.wait, s)
  else if fld 31 16 w = St.ok then reply (s.hbytes (o + 0x10000) (leAt (s.hbytes (o + 28) 4) 0 4)) s
  else if fld 31 16 w = St.param ∧ fld 15 8 w = 2 then (.fail St.param 7, s)
  else
    let e := engAnswer (engRefused (fld 31 16 w) (fld 15 8 w))
    (.fail e.1 e.2, s)

/-- SC_APDU (R435, R436): an exchange of the supervisor's, whose end the body waits for. -/
def execScApdu (p : PairId) (s : State) : Host.Outcome State Fault Refusal :=
  .next (s.body p.val 0x606 (fun j s =>
    let n := j.arg 0 1
    if n < 54 ∨ 55 < n ∨ j.arg 1 3 ≠ 0 then badParam s
    else if j.effects.contains (.progress 1) then s.apduResult p.val (n - 54)
    else if !s.portOn n then refuse St.portDisabled s
    else if j.params.length = 4 then badParam s
    else s.submitApdu p.val (n - 54) (j.params.drop 4)))

/-! ## Basket -/

/-- BASKET_STATUS (R212): the manual lays out no FLAGS, which are a free value (log 65). -/
def execBasketStatus (p : PairId) (s : State) : Host.Outcome State Fault Refusal :=
  .next (s.body p.val 0x700 (fun _ s =>
    let f := s.freshBytes 2
    reply (leBytes 2 s.ownNode ++ leBytes 2 (s.getF Fld.WEAVE_MEMBERS_COUNT) ++ leBytes 2 (s.getF Fld.WEAVE_BSTAT_MASTER_NODE) ++ f.1) f.2))

/-- "CHLBSK01". -/
def magicBasket : List Byte := ascii [67, 72, 76, 66, 83, 75, 48, 49]

/-- The form of a REQUEST (R455): statement, signature and a transport blob. -/
def requestFormOk (r : List Byte) : Bool :=
  decide (164 ≤ r.length) && r.take 8 == magicBasket && decide (leAt r 32 2 ≤ 2047 ∧ leAt r 35 1 ≤ 1) &&
    hdrWrapper (r.drop 108) != 0xFFFFFFFF

/-- A REQUEST is permitted (R455): the authority signed it for this device, which is no member yet. -/
def State.requestPermitted (s : State) (r : List Byte) : Bool :=
  let auth := wordsBytes ((List.range 8).map (fun i => s.reg (Reg.WEAVE_AUTH i)))
  !auth.all (· == 0) && eddsaVerify 0x42 auth (r.take 44) (slice r 44 64) == some true && slice r 16 16 == deviceUid && !s.member

/-- A body's change of state where its reply is staged. -/
def BodyResult.onDone (r : BodyResult) (f : State → State) : BodyResult :=
  match r.1 with
  | .done d o => (.done d o, f r.2)
  | a => (a, r.2)

/-- A body's reply data in place of those staged. -/
def BodyResult.withReply (r : BodyResult) (data : List Byte) : BodyResult :=
  match r.1 with
  | .done _ o => (.done data o, r.2)
  | a => (a, r.2)

/-- BASKET_ADMIT (R455): BK imported into BKEY_INDEX, its load counting one use (R424, R226), and the basket joined at commit. -/
def execBasketAdmit (p : PairId) (s : State) : Host.Outcome State Fault Refusal :=
  .next (s.body p.val 0x701 (fun j s =>
    let r := j.params
    let i := leAt r 40 4
    let tn := s.getF Fld.WEAVE_CFG_TENANT
    let blob := r.drop 108
    if !requestFormOk r then badParam s
    else if !s.requestPermitted r then refuse St.policy s
    else withOk (s.keyPlace tn i) s (fun v =>
      if s.lockedFor p.val i then (.wait, s)
      else withOk (s.broughtKey p.val tn i blob) s (fun b =>
        if hdrAlg blob ≠ 3 then refuse St.keyAbsent s
        else if fld 1 0 (hdrUsage blob) ≠ 3 then (.fail St.policy 7, s)
        else
          let res := b.2.2.placePlain p.val tn i (rewrapHeader blob 1 v) b.2.1
          BodyResult.withReply (BodyResult.onDone res (fun s =>
            (s.updArmed p.val (fun k => { k with updates := k.updates ++ [.keyUse i 1 v] })).addEffect p.val
              (.joinBasket (leAt r 32 2) (leAt r 34 1) (leAt r 35 1 == 1) (leAt r 8 8) i b.2.1))) (leBytes 2 (leAt r 32 2))))))

/-- BASKET_LEAVE (R456): at commit. -/
def execBasketLeave (p : PairId) (s : State) : Host.Outcome State Fault Refusal :=
  .next (s.body p.val 0x702 (fun _ s => reply [] (s.addEffect p.val .leave)))

/-- LINK_REKEY (R449): on a keyed link. -/
def execLinkRekey (p : PairId) (s : State) : Host.Outcome State Fault Refusal :=
  .next (s.body p.val 0x703 (fun j s =>
    let l := j.arg 0 1
    if 7 < l ∨ j.arg 1 3 ≠ 0 then badParam s
    else if !s.linkOn l then refuse St.portDisabled s
    else reply [] (s.startRekey l)))

end Sys2Proof.Machine
end

