-- ==== Sys2Proof/Machine/Management.lean ====
section
/-! DEFINITION. The bodies of the commands of families 0x08 and 0x09 (R20, R212, R336, R339, R348, R349, R485, R489, R490). -/

namespace Sys2Proof.Machine

/-! ## Life cycle and debug -/

/-- LC_READ (R212, R354). -/
def execLcRead (p : PairId) (s : State) : Host.Outcome State Fault Refusal :=
  .next (s.body p.val 0x800 (fun _ s =>
    reply (leBytes 1 s.lcState ++ leBytes 1 (fld 23 16 s.lcsStat) ++ zeros 2 ++ deviceUid) s))

/-- LC_NONCE (R336). -/
def execLcNonce (p : PairId) (s : State) : Host.Outcome State Fault Refusal :=
  .next (s.body p.val 0x801 (fun _ s =>
    if !s.rngHealthy then refuse St.faultHw s
    else
      let r := s.newNonce
      reply r.1 r.2))

/-- LC_TRANSITION (R214, R339, R341): the reset follows the writing of the reply. -/
def execLcTransition (p : PairId) (s : State) : Host.Outcome State Fault Refusal :=
  .next (s.body p.val 0x802 (fun j s =>
    if j.arg 1 3 ≠ 0 then badParam s
    else match s.lcPresent (j.arg 0 1) (j.params.drop 4) with
      | (.error (st, sub), t) => (.fail st sub, t)
      | (.ok (r, owner), t) => reply [] ((t.lcRecord r owner).lcReset p.val)))

/-- DEBUG_CERT (R347–R349). -/
def execDebugCert (p : PairId) (s : State) : Host.Outcome State Fault Refusal :=
  .next (s.body p.val 0x803 (fun j s =>
    let r := s.certPresent j.params
    if r.2 then reply (wordBytes (r.1.reg Reg.LCS_DBG_RIGHTS)) r.1 else refuse St.lifecycle r.1))

/-- DEBUG_CLOSE (R349). -/
def execDebugClose (p : PairId) (s : State) : Host.Outcome State Fault Refusal :=
  .next (s.body p.val 0x804 (fun _ s => reply [] s.closeRights))

/-! ## Management -/

/-- The most data that a reply holds by a job's stream (R197, R428, R454). -/
def Job.replyRoom (j : Job) : Nat :=
  match j.src with
  | .queue _ _ => 4064
  | _ => 968

/-- TELEMETRY (R20): the manual names neither groups nor values; what is sampled is free (log 66). -/
def execTelemetry (p : PairId) (s : State) : Host.Outcome State Fault Refusal :=
  .next (s.body p.val 0x900 (fun j s =>
    if j.arg 2 2 ≠ 0 then badParam s
    else
      let n := s.freshBytes 2
      let r := n.2.freshBytes (ofLe n.1 % (j.replyRoom + 1))
      reply r.1 r.2))

/-- The entries that EVENT_READ copies (R485): `n` is the SEQ of the next entry. -/
def State.logCopy (s : State) (n start count : Nat) : List LogEntry :=
  let d := (n + 0x10000 - start) % 0x10000
  let h := s.log.length
  if d = 0 ∨ 32768 < d then [] else (s.log.drop (h - min d h)).take count

/-- EVENT_READ (R485). -/
def execEventRead (p : PairId) (s : State) : Host.Outcome State Fault Refusal :=
  .next (s.body p.val 0x901 (fun j s =>
    let count := j.arg 2 2
    match hbdAt j.params 4 true with
    | none => badParam s
    | some (addr, len) =>
      if count = 0 ∨ 4096 < count ∨ len < 32 * count then badParam s
      else
        let n := s.getF Fld.SYS_LOG_STAT_NEXT
        let es := s.logCopy n (j.arg 0 2) count
        let next := match es.getLast? with
          | some e => (e.seq + 1) % 0x10000
          | none => n
        let t := if es.isEmpty then s else s.addEffect p.val (.logMark next)
        (.done (leBytes 2 next ++ zeros 2 ++ wordBytes (s.reg Reg.SYS_LOG_OVF)) [(addr, es.flatMap (·.bytes))], t)))

/-- ASH_LIST (R489). -/
def execAshList (p : PairId) (s : State) : Host.Outcome State Fault Refusal :=
  .next (s.body p.val 0x902 (fun _ s =>
    reply ((List.range 4).flatMap (fun k => leBytes 1 (b2n (s.ashValid k)) ++ zeros 3 ++ leBytes 8 (s.ashBeat k))) s))

/-- ASH_READ (R490). -/
def execAshRead (p : PairId) (s : State) : Host.Outcome State Fault Refusal :=
  .next (s.body p.val 0x903 (fun j s =>
    let k := j.arg 0 1
    match hbdAt j.params 4 true with
    | none => badParam s
    | some (addr, len) =>
      if 3 < k ∨ j.arg 1 3 ≠ 0 then badParam s
      else if !s.ashValid k then reply (leBytes 4 0) s
      else if len < 0x40000 then badParam s
      else
        let r := s.ashOpen k
        if r.1 = St.ok then (.done (leBytes 4 r.2.length) [(addr, r.2)], s) else refuse r.1 s))

/-- ASH_CLEAR (R489); not with another erase active in bank 1 (R319; log 91). -/
def execAshClear (p : PairId) (s : State) : Host.Outcome State Fault Refusal :=
  .next (s.body p.val 0x904 (fun j s =>
    let k := j.arg 0 1
    if 3 < k ∨ j.arg 1 3 ≠ 0 then badParam s
    else if s.eraseActive 1 then refuse St.bankBusy s
    else reply [] (s.ashErase k)))

end Sys2Proof.Machine
end

