-- ==== Sys2Proof/Machine/Dispatch.lean ====
section
/-! DEFINITION. The meaning of every command: one arm per constructor of `Instr`. -/

namespace Sys2Proof.Machine

/-- The effect of a command on everything but the queue. -/
def exec (i : Instr) (s : State) : Host.Outcome State Fault Refusal :=
  match i with
  | .registerWrite m a v => Sys2Proof.Machine.execRegisterWrite m a v s
  | .unitEnable m u => Sys2Proof.Machine.execUnitEnable m u s
  | .unitDisable m u => Sys2Proof.Machine.execUnitDisable m u s
  | .unitDrained u => Sys2Proof.Machine.execUnitDrained u s
  | .pinEdge t => Sys2Proof.Machine.execPinEdge t s
  | .sourceLost src t => Sys2Proof.Machine.execSourceLost src t s
  | .beatTick t => Sys2Proof.Machine.execBeatTick t s
  | .nominalWrite m v => Sys2Proof.Machine.execNominalWrite m v s
  | .wdogWrite m v => Sys2Proof.Machine.execWdogWrite m v s
  | .wdogKick m v => Sys2Proof.Machine.execWdogKick m v s
  | .wdogExpire => Sys2Proof.Machine.execWdogExpire s
  | .jobStart p => Sys2Proof.Machine.execJobStart p s
  | .slotOverrun p => Sys2Proof.Machine.execSlotOverrun p s
  | .deadlineReached p => Sys2Proof.Machine.execDeadlineReached p s
  | .deadlineException p => Sys2Proof.Machine.execDeadlineException p s
  | .interrupt p => Sys2Proof.Machine.execInterrupt p s
  | .impreciseException p => Sys2Proof.Machine.execImpreciseException p s
  | .mulResult p => Sys2Proof.Machine.execMulResult p s
  | .divResult p => Sys2Proof.Machine.execDivResult p s
  | .storePerformed p k => Sys2Proof.Machine.execStorePerformed p k s
  | .add p w => Sys2Proof.Machine.execAdd p w s
  | .sub p w => Sys2Proof.Machine.execSub p w s
  | .addv p w => Sys2Proof.Machine.execAddv p w s
  | .subv p w => Sys2Proof.Machine.execSubv p w s
  | .and_ p w => Sys2Proof.Machine.execAnd p w s
  | .or_ p w => Sys2Proof.Machine.execOr p w s
  | .xor_ p w => Sys2Proof.Machine.execXor p w s
  | .andn p w => Sys2Proof.Machine.execAndn p w s
  | .sll p w => Sys2Proof.Machine.execSll p w s
  | .srl p w => Sys2Proof.Machine.execSrl p w s
  | .sra p w => Sys2Proof.Machine.execSra p w s
  | .slt p w => Sys2Proof.Machine.execSlt p w s
  | .sltu p w => Sys2Proof.Machine.execSltu p w s
  | .clz p w => Sys2Proof.Machine.execClz p w s
  | .pop p w => Sys2Proof.Machine.execPop p w s
  | .bswap p w => Sys2Proof.Machine.execBswap p w s
  | .csel p w => Sys2Proof.Machine.execCsel p w s
  | .addi p w => Sys2Proof.Machine.execAddi p w s
  | .andi p w => Sys2Proof.Machine.execAndi p w s
  | .ori p w => Sys2Proof.Machine.execOri p w s
  | .xori p w => Sys2Proof.Machine.execXori p w s
  | .slti p w => Sys2Proof.Machine.execSlti p w s
  | .sltiu p w => Sys2Proof.Machine.execSltiu p w s
  | .lui p w => Sys2Proof.Machine.execLui p w s
  | .slli p w => Sys2Proof.Machine.execSlli p w s
  | .srli p w => Sys2Proof.Machine.execSrli p w s
  | .srai p w => Sys2Proof.Machine.execSrai p w s
  | .ldw p w chk => Sys2Proof.Machine.execLdw p w chk s
  | .ldh p w chk => Sys2Proof.Machine.execLdh p w chk s
  | .ldhu p w chk => Sys2Proof.Machine.execLdhu p w chk s
  | .ldb p w chk => Sys2Proof.Machine.execLdb p w chk s
  | .ldbu p w chk => Sys2Proof.Machine.execLdbu p w chk s
  | .stw p w => Sys2Proof.Machine.execStw p w s
  | .sth p w => Sys2Proof.Machine.execSth p w s
  | .stb p w => Sys2Proof.Machine.execStb p w s
  | .beq p w => Sys2Proof.Machine.execBeq p w s
  | .bne p w => Sys2Proof.Machine.execBne p w s
  | .blt p w => Sys2Proof.Machine.execBlt p w s
  | .bge p w => Sys2Proof.Machine.execBge p w s
  | .bltu p w => Sys2Proof.Machine.execBltu p w s
  | .bgeu p w => Sys2Proof.Machine.execBgeu p w s
  | .beqi p w => Sys2Proof.Machine.execBeqi p w s
  | .bnei p w => Sys2Proof.Machine.execBnei p w s
  | .blti p w => Sys2Proof.Machine.execBlti p w s
  | .bgei p w => Sys2Proof.Machine.execBgei p w s
  | .bltui p w => Sys2Proof.Machine.execBltui p w s
  | .bgeui p w => Sys2Proof.Machine.execBgeui p w s
  | .j p w => Sys2Proof.Machine.execJ p w s
  | .jal p w => Sys2Proof.Machine.execJal p w s
  | .jr p w => Sys2Proof.Machine.execJr p w s
  | .jalr p w => Sys2Proof.Machine.execJalr p w s
  | .mul p w => Sys2Proof.Machine.execMul p w s
  | .mulh p w => Sys2Proof.Machine.execMulh p w s
  | .mulhu p w => Sys2Proof.Machine.execMulhu p w s
  | .clmul p w => Sys2Proof.Machine.execClmul p w s
  | .div p w => Sys2Proof.Machine.execDiv p w s
  | .divu p w => Sys2Proof.Machine.execDivu p w s
  | .wipe p w steps => Sys2Proof.Machine.execWipe p w steps s
  | .bcopy p w steps => Sys2Proof.Machine.execBcopy p w steps s
  | .cteq p w steps => Sys2Proof.Machine.execCteq p w steps s
  | .mfs p w => Sys2Proof.Machine.execMfs p w s
  | .mts p w => Sys2Proof.Machine.execMts p w s
  | .gate p w => Sys2Proof.Machine.execGate p w s
  | .retG p w => Sys2Proof.Machine.execRetG p w s
  | .eret p w => Sys2Proof.Machine.execEret p w s
  | .brk p w => Sys2Proof.Machine.execBrk p w s
  | .fenceM p w => Sys2Proof.Machine.execFenceM p w s
  | .fenceP p w => Sys2Proof.Machine.execFenceP p w s
  | .wait_ p w => Sys2Proof.Machine.execWait p w s
  | .lockstepMismatch p kind pc => Sys2Proof.Machine.execLockstepMismatch p kind pc s
  | .selftestDone p pass => Sys2Proof.Machine.execSelftestDone p pass s
  | .roleLoading m p v => Sys2Proof.Machine.execRoleLoading m p v s
  | .roleFree m p v => Sys2Proof.Machine.execRoleFree m p v s
  | .roleSpare m p v => Sys2Proof.Machine.execRoleSpare m p v s
  | .roleRetired m p v => Sys2Proof.Machine.execRoleRetired m p v s
  | .roleSupervisor m p v => Sys2Proof.Machine.execRoleSupervisor m p v s
  | .commit p v => Sys2Proof.Machine.execCommit p v s
  | .scrubLine unit bank corrected uncorrectable => Sys2Proof.Machine.execScrubLine unit bank corrected uncorrectable s
  | .scrubWriteback unit addr => Sys2Proof.Machine.execScrubWriteback unit addr s
  | .scrubOverrun unit => Sys2Proof.Machine.execScrubOverrun unit s
  | .mpuWrite p r v => Sys2Proof.Machine.execMpuWrite p r v s
  | .pgRegionWrite m n r v => Sys2Proof.Machine.execPgRegionWrite m n r v s
  | .pgApply m n v => Sys2Proof.Machine.execPgApply m n v s
  | .portBurst n wr addr data => Sys2Proof.Machine.execPortBurst n wr addr data s
  | .channelWrite m c v => Sys2Proof.Machine.execChannelWrite m c v s
  | .flueStore p c k v => Sys2Proof.Machine.execFlueStore p c k v s
  | .flueDeliver p c v => Sys2Proof.Machine.execFlueDeliver p c v s
  | .flueRelease p c v => Sys2Proof.Machine.execFlueRelease p c v s
  | .flueFabricWrite m c ws => Sys2Proof.Machine.execFlueFabricWrite m c ws s
  | .arbGrant a => Sys2Proof.Machine.execArbGrant a s
  | .emergencyGrant a r => Sys2Proof.Machine.execEmergencyGrant a r s
  | .arbCfgWrite m a v => Sys2Proof.Machine.execArbCfgWrite m a v s
  | .sqTailWrite l q v => Sys2Proof.Machine.execSqTailWrite l q v s
  | .cqHeadWrite l q v => Sys2Proof.Machine.execCqHeadWrite l q v s
  | .commandTake l q hdr params adm => Sys2Proof.Machine.execCommandTake l q hdr params adm s
  | .replyWrite src tag => Sys2Proof.Machine.execReplyWrite src tag s
  | .aqEnable l v => Sys2Proof.Machine.execAqEnable l v s
  | .aqDisable l v => Sys2Proof.Machine.execAqDisable l v s
  | .linkLoss l => Sys2Proof.Machine.execLinkLoss l s
  | .bar0Malformed l tlp => Sys2Proof.Machine.execBar0Malformed l tlp s
  | .nop p => Sys2Proof.Machine.execNop p s
  | .devInfo p => Sys2Proof.Machine.execDevInfo p s
  | .queueCreate p => Sys2Proof.Machine.execQueueCreate p s
  | .queueDelete p => Sys2Proof.Machine.execQueueDelete p s
  | .unitCtl p => Sys2Proof.Machine.execUnitCtl p s
  | .tenantPolicy p => Sys2Proof.Machine.execTenantPolicy p s
  | .softReset p => Sys2Proof.Machine.execSoftReset p s
  | .beatRead p => Sys2Proof.Machine.execBeatRead p s
  | .imageStore r => Sys2Proof.Machine.execImageStore r s
  | .imageErase p => Sys2Proof.Machine.execImageErase p s
  | .sessionOpen p => Sys2Proof.Machine.execSessionOpen p s
  | .sessionClose p => Sys2Proof.Machine.execSessionClose p s
  | .sessionCall p => Sys2Proof.Machine.execSessionCall p s
  | .sessionBindHead p => Sys2Proof.Machine.execSessionBindHead p s
  | .sessionStatus p => Sys2Proof.Machine.execSessionStatus p s
  | .keyImport p => Sys2Proof.Machine.execKeyImport p s
  | .keyDerive p => Sys2Proof.Machine.execKeyDerive p s
  | .keyGenerate p => Sys2Proof.Machine.execKeyGenerate p s
  | .keyReplaceStage p => Sys2Proof.Machine.execKeyReplaceStage p s
  | .keyReplaceSwitch p => Sys2Proof.Machine.execKeyReplaceSwitch p s
  | .keyInfo p => Sys2Proof.Machine.execKeyInfo p s
  | .keyDestroy p => Sys2Proof.Machine.execKeyDestroy p s
  | .keyPublic p => Sys2Proof.Machine.execKeyPublic p s
  | .ledgerRead p => Sys2Proof.Machine.execLedgerRead p s
  | .counterInc p => Sys2Proof.Machine.execCounterInc p s
  | .counterIncAttested p => Sys2Proof.Machine.execCounterIncAttested p s
  | .tokenIssue p => Sys2Proof.Machine.execTokenIssue p s
  | .tokenRedeem p => Sys2Proof.Machine.execTokenRedeem p s
  | .entryAlloc p => Sys2Proof.Machine.execEntryAlloc p s
  | .entryFree p => Sys2Proof.Machine.execEntryFree p s
  | .entryMirror p => Sys2Proof.Machine.execEntryMirror p s
  | .symCrypt r => Sys2Proof.Machine.execSymCrypt r s
  | .mac r => Sys2Proof.Machine.execMac r s
  | .pinTranslate p => Sys2Proof.Machine.execPinTranslate p s
  | .sign p => Sys2Proof.Machine.execSign p s
  | .verify p => Sys2Proof.Machine.execVerify p s
  | .kemDecap p => Sys2Proof.Machine.execKemDecap p s
  | .random p => Sys2Proof.Machine.execRandom p s
  | .curveLoad p => Sys2Proof.Machine.execCurveLoad p s
  | .portCtl p => Sys2Proof.Machine.execPortCtl p s
  | .portStatus p => Sys2Proof.Machine.execPortStatus p s
  | .headList p => Sys2Proof.Machine.execHeadList p s
  | .cartCtlMount p => Sys2Proof.Machine.execCartCtlMount p s
  | .cartCtlSleep p => Sys2Proof.Machine.execCartCtlSleep p s
  | .cartCtlWake p => Sys2Proof.Machine.execCartCtlWake p s
  | .cartCtlRelease p => Sys2Proof.Machine.execCartCtlRelease p s
  | .rfCtl p => Sys2Proof.Machine.execRfCtl p s
  | .tagAccessRead p => Sys2Proof.Machine.execTagAccessRead p s
  | .tagAccessWrite p => Sys2Proof.Machine.execTagAccessWrite p s
  | .scApdu p => Sys2Proof.Machine.execScApdu p s
  | .basketStatus p => Sys2Proof.Machine.execBasketStatus p s
  | .basketAdmit p => Sys2Proof.Machine.execBasketAdmit p s
  | .basketLeave p => Sys2Proof.Machine.execBasketLeave p s
  | .linkRekey p => Sys2Proof.Machine.execLinkRekey p s
  | .lcRead p => Sys2Proof.Machine.execLcRead p s
  | .lcNonce p => Sys2Proof.Machine.execLcNonce p s
  | .lcTransition p => Sys2Proof.Machine.execLcTransition p s
  | .debugCert p => Sys2Proof.Machine.execDebugCert p s
  | .debugClose p => Sys2Proof.Machine.execDebugClose p s
  | .telemetry p => Sys2Proof.Machine.execTelemetry p s
  | .eventRead p => Sys2Proof.Machine.execEventRead p s
  | .ashList p => Sys2Proof.Machine.execAshList p s
  | .ashRead p => Sys2Proof.Machine.execAshRead p s
  | .ashClear p => Sys2Proof.Machine.execAshClear p s
  | .pkeSubmit p h v => Sys2Proof.Machine.execPkeSubmit p h v s
  | .bound h => Sys2Proof.Machine.execBound h s
  | .modexp h => Sys2Proof.Machine.execModexp h s
  | .rsaPub h => Sys2Proof.Machine.execRsaPub h s
  | .rsaPriv h => Sys2Proof.Machine.execRsaPriv h s
  | .ecKeygen h => Sys2Proof.Machine.execEcKeygen h s
  | .ecSign h => Sys2Proof.Machine.execEcSign h s
  | .ecVerify h => Sys2Proof.Machine.execEcVerify h s
  | .ecAgree h => Sys2Proof.Machine.execEcAgree h s
  | .ecPointCheck h => Sys2Proof.Machine.execEcPointCheck h s
  | .mlkemKeygen h => Sys2Proof.Machine.execMlkemKeygen h s
  | .mlkemEncap h => Sys2Proof.Machine.execMlkemEncap h s
  | .mlkemDecap h => Sys2Proof.Machine.execMlkemDecap h s
  | .mldsaKeygen h => Sys2Proof.Machine.execMldsaKeygen h s
  | .mldsaSign h => Sys2Proof.Machine.execMldsaSign h s
  | .mldsaVerify h => Sys2Proof.Machine.execMldsaVerify h s
  | .curveVet h => Sys2Proof.Machine.execCurveVet h s
  | .slotInstall h => Sys2Proof.Machine.execSlotInstall h s
  | .slotClear h => Sys2Proof.Machine.execSlotClear h s
  | .ntt h => Sys2Proof.Machine.execNtt h s
  | .pkeJobComplete h => Sys2Proof.Machine.execPkeJobComplete h s
  | .pkeParityFault h => Sys2Proof.Machine.execPkeParityFault h s
  | .pkeSelftestDone h pass => Sys2Proof.Machine.execPkeSelftestDone h pass s
  | .symSubmit p e v => Sys2Proof.Machine.execSymSubmit p e v s
  | .cipher e => Sys2Proof.Machine.execCipher e s
  | .tdea e => Sys2Proof.Machine.execTdea e s
  | .symMac e => Sys2Proof.Machine.execSymMac e s
  | .symPinTranslate e => Sys2Proof.Machine.execSymPinTranslate e s
  | .kcv e => Sys2Proof.Machine.execKcv e s
  | .derive e => Sys2Proof.Machine.execDerive e s
  | .copyCkpt e => Sys2Proof.Machine.execCopyCkpt e s
  | .symJobComplete e => Sys2Proof.Machine.execSymJobComplete e s
  | .symParityFault e => Sys2Proof.Machine.execSymParityFault e s
  | .symSelftestDone e pass => Sys2Proof.Machine.execSymSelftestDone e pass s
  | .rngDataRead p => Sys2Proof.Machine.execRngDataRead p s
  | .rngSourceFail k test => Sys2Proof.Machine.execRngSourceFail k test s
  | .rngRestart m v => Sys2Proof.Machine.execRngRestart m v s
  | .rngStartupDone k pass => Sys2Proof.Machine.execRngStartupDone k pass s
  | .rngReseed => Sys2Proof.Machine.execRngReseed s
  | .rngKatStart m v => Sys2Proof.Machine.execRngKatStart m v s
  | .rngKatDone => Sys2Proof.Machine.execRngKatDone s
  | .ctrAdd p v => Sys2Proof.Machine.execCtrAdd p v s
  | .tokenUse p v => Sys2Proof.Machine.execTokenUse p v s
  | .ledgerWrite p v => Sys2Proof.Machine.execLedgerWrite p v s
  | .attAdd p v => Sys2Proof.Machine.execAttAdd p v s
  | .ridxWrite m r => Sys2Proof.Machine.execRidxWrite m r s
  | .groupClose => Sys2Proof.Machine.execGroupClose s
  | .commitRecordDone => Sys2Proof.Machine.execCommitRecordDone s
  | .nvmProgram p chk readback => Sys2Proof.Machine.execNvmProgram p chk readback s
  | .nvmErase p => Sys2Proof.Machine.execNvmErase p s
  | .nvmSuspend p => Sys2Proof.Machine.execNvmSuspend p s
  | .nvmResume p => Sys2Proof.Machine.execNvmResume p s
  | .nvmConfig p => Sys2Proof.Machine.execNvmConfig p s
  | .nvmAck p => Sys2Proof.Machine.execNvmAck p s
  | .eraseAutoResume b => Sys2Proof.Machine.execEraseAutoResume b s
  | .eraseComplete b verify => Sys2Proof.Machine.execEraseComplete b verify s
  | .patrolSector weak => Sys2Proof.Machine.execPatrolSector weak s
  | .refreshDone => Sys2Proof.Machine.execRefreshDone s
  | .gate2Nonce p => Sys2Proof.Machine.execGate2Nonce p s
  | .gate2Transition p => Sys2Proof.Machine.execGate2Transition p s
  | .gate2Cert p => Sys2Proof.Machine.execGate2Cert p s
  | .gate2Close p => Sys2Proof.Machine.execGate2Close p s
  | .tapReset => Sys2Proof.Machine.execTapReset s
  | .extest => Sys2Proof.Machine.execExtest s
  | .idcode => Sys2Proof.Machine.execIdcode s
  | .samplePreload => Sys2Proof.Machine.execSamplePreload s
  | .clamp => Sys2Proof.Machine.execClamp s
  | .highz => Sys2Proof.Machine.execHighz s
  | .dbgAuth word last => Sys2Proof.Machine.execDbgAuth word last s
  | .dbgStatus => Sys2Proof.Machine.execDbgStatus s
  | .bypass => Sys2Proof.Machine.execBypass s
  | .dbgRead p space addr => Sys2Proof.Machine.execDbgRead p space addr s
  | .dbgWrite p space addr v => Sys2Proof.Machine.execDbgWrite p space addr v s
  | .dbgHalt p => Sys2Proof.Machine.execDbgHalt p s
  | .dbgResume p => Sys2Proof.Machine.execDbgResume p s
  | .dbgStep p => Sys2Proof.Machine.execDbgStep p s
  | .debugHaltTaken p => Sys2Proof.Machine.execDebugHaltTaken p s
  | .debugRightsExpire => Sys2Proof.Machine.execDebugRightsExpire s
  | .waleSample n level => Sys2Proof.Machine.execWaleSample n level s
  | .batterySample mon level => Sys2Proof.Machine.execBatterySample mon level s
  | .monitorEvent mon => Sys2Proof.Machine.execMonitorEvent mon s
  | .tamperReset => Sys2Proof.Machine.execTamperReset s
  | .vbatLow => Sys2Proof.Machine.execVbatLow s
  | .backupChangeover toBattery => Sys2Proof.Machine.execBackupChangeover toBattery s
  | .quarLift m v => Sys2Proof.Machine.execQuarLift m v s
  | .mcfgWrite m mon v => Sys2Proof.Machine.execMcfgWrite m mon v s
  | .bistStart m v => Sys2Proof.Machine.execBistStart m v s
  | .bistDone detected => Sys2Proof.Machine.execBistDone detected s
  | .waleReseed m n v => Sys2Proof.Machine.execWaleReseed m n v s
  | .waleSeedLoaded n => Sys2Proof.Machine.execWaleSeedLoaded n s
  | .cartInsert k => Sys2Proof.Machine.execCartInsert k s
  | .cartResponse k r => Sys2Proof.Machine.execCartResponse k r s
  | .cartTimeout x => Sys2Proof.Machine.execCartTimeout x s
  | .cartRemove k => Sys2Proof.Machine.execCartRemove k s
  | .crtSubmit p k v => Sys2Proof.Machine.execCrtSubmit p k v s
  | .crtStage p k v => Sys2Proof.Machine.execCrtStage p k v s
  | .cartBlockConfirmed k => Sys2Proof.Machine.execCartBlockConfirmed k s
  | .jopen p readOk => Sys2Proof.Machine.execJopen p readOk s
  | .jclose p => Sys2Proof.Machine.execJclose p s
  | .jcheck p => Sys2Proof.Machine.execJcheck p s
  | .jdiscard p => Sys2Proof.Machine.execJdiscard p s
  | .rfModeWrite m f v => Sys2Proof.Machine.execRfModeWrite m f v s
  | .rfSubmit p f v => Sys2Proof.Machine.execRfSubmit p f v s
  | .raw f ans => Sys2Proof.Machine.execRaw f ans s
  | .rfApdu f ans => Sys2Proof.Machine.execRfApdu f ans s
  | .inventory f cards => Sys2Proof.Machine.execInventory f cards s
  | .rfActivate f ans => Sys2Proof.Machine.execRfActivate f ans s
  | .fieldReset f => Sys2Proof.Machine.execFieldReset f s
  | .rfDeactivate f => Sys2Proof.Machine.execRfDeactivate f s
  | .rfExchangeDone f => Sys2Proof.Machine.execRfExchangeDone f s
  | .fieldIdleOff f => Sys2Proof.Machine.execFieldIdleOff f s
  | .fieldDetect f => Sys2Proof.Machine.execFieldDetect f s
  | .fieldLoss f => Sys2Proof.Machine.execFieldLoss f s
  | .reqa f => Sys2Proof.Machine.execReqa f s
  | .wupa f => Sys2Proof.Machine.execWupa f s
  | .anticollision f cl nvb bits => Sys2Proof.Machine.execAnticollision f cl nvb bits s
  | .select f cl uid => Sys2Proof.Machine.execSelect f cl uid s
  | .hlta f => Sys2Proof.Machine.execHlta f s
  | .rats f param => Sys2Proof.Machine.execRats f param s
  | .pps f dsi dri => Sys2Proof.Machine.execPps f dsi dri s
  | .deselect f => Sys2Proof.Machine.execDeselect f s
  | .tagRead f r => Sys2Proof.Machine.execTagRead f r s
  | .tagWrite f inf => Sys2Proof.Machine.execTagWrite f inf s
  | .pwd f inf => Sys2Proof.Machine.execPwd f inf s
  | .auth1 f inf => Sys2Proof.Machine.execAuth1 f inf s
  | .auth2 f inf => Sys2Proof.Machine.execAuth2 f inf s
  | .info f inf => Sys2Proof.Machine.execInfo f inf s
  | .tkeyLoad p f v => Sys2Proof.Machine.execTkeyLoad p f v s
  | .tagStage p f v => Sys2Proof.Machine.execTagStage p f v s
  | .tagStoreLoad p f off chk => Sys2Proof.Machine.execTagStoreLoad p f off chk s
  | .headProbe hd => Sys2Proof.Machine.execHeadProbe hd s
  | .present hd hid => Sys2Proof.Machine.execPresent hd hid s
  | .keyx2 hd rh fseq tagOk => Sys2Proof.Machine.execKeyx2 hd rh fseq tagOk s
  | .keyxTimeout hd => Sys2Proof.Machine.execKeyxTimeout hd s
  | .headCmd hd fseq tagOk hdr params adm => Sys2Proof.Machine.execHeadCmd hd fseq tagOk hdr params adm s
  | .hkeyLoad p hd v => Sys2Proof.Machine.execHkeyLoad p hd v s
  | .headStage p hd v => Sys2Proof.Machine.execHeadStage p hd v s
  | .scSubmit p n v => Sys2Proof.Machine.execScSubmit p n v s
  | .scActivate n r => Sys2Proof.Machine.execScActivate n r s
  | .scApduExchange n r => Sys2Proof.Machine.execScApduExchange n r s
  | .scDeactivate n => Sys2Proof.Machine.execScDeactivate n s
  | .scExchangeDone n => Sys2Proof.Machine.execScExchangeDone n s
  | .actStage p v => Sys2Proof.Machine.execActStage p v s
  | .actPulseStart n t => Sys2Proof.Machine.execActPulseStart n t s
  | .actPulseEnd n t => Sys2Proof.Machine.execActPulseEnd n t s
  | .actReadback n t rb => Sys2Proof.Machine.execActReadback n t rb s
  | .hello l f => Sys2Proof.Machine.execHello l f s
  | .khello l fr prio flags master members => Sys2Proof.Machine.execKhello l fr prio flags master members s
  | .rekey l fr rn => Sys2Proof.Machine.execRekey l fr rn s
  | .route l fr entries => Sys2Proof.Machine.execRoute l fr entries s
  | .time l fr btime master => Sys2Proof.Machine.execTime l fr btime master s
  | .beatMark l t => Sys2Proof.Machine.execBeatMark l t s
  | .msg l fr hdr params adm => Sys2Proof.Machine.execMsg l fr hdr params adm s
  | .mreply l fr hdr data => Sys2Proof.Machine.execMreply l fr hdr data s
  | .mupd l fr u => Sys2Proof.Machine.execMupd l fr u s
  | .mack l fr u => Sys2Proof.Machine.execMack l fr u s
  | .mcopy l fr u => Sys2Proof.Machine.execMcopy l fr u s
  | .mdrop l fr u => Sys2Proof.Machine.execMdrop l fr u s
  | .msyncOriginQuery l fr u => Sys2Proof.Machine.execMsyncOriginQuery l fr u s
  | .msyncAnswer l fr u => Sys2Proof.Machine.execMsyncAnswer l fr u s
  | .msyncCopyQuery l fr u => Sys2Proof.Machine.execMsyncCopyQuery l fr u s
  | .msyncVerdict l fr u => Sys2Proof.Machine.execMsyncVerdict l fr u s
  | .helloTimer l => Sys2Proof.Machine.execHelloTimer l s
  | .khelloTimer l => Sys2Proof.Machine.execKhelloTimer l s
  | .neighbourLost l => Sys2Proof.Machine.execNeighbourLost l s
  | .routeTimer l => Sys2Proof.Machine.execRouteTimer l s
  | .timeTimer => Sys2Proof.Machine.execTimeTimer s
  | .rekeyTimeout l => Sys2Proof.Machine.execRekeyTimeout l s
  | .mupdResend k => Sys2Proof.Machine.execMupdResend k s
  | .mirrorWaitExpire k => Sys2Proof.Machine.execMirrorWaitExpire k s
  | .bkeyLoad p v => Sys2Proof.Machine.execBkeyLoad p v s
  | .powerOn => Sys2Proof.Machine.execPowerOn s
  | .pinReset ns => Sys2Proof.Machine.execPinReset ns s
  | .supplyFall rail mv => Sys2Proof.Machine.execSupplyFall rail mv s
  | .boot env => Sys2Proof.Machine.execBoot env s
  | .gate0Ready p => Sys2Proof.Machine.execGate0Ready p s
  | .gate0Reset p => Sys2Proof.Machine.execGate0Reset p s
  | .ashWrite p => Sys2Proof.Machine.execAshWrite p s
  | .ashErase p => Sys2Proof.Machine.execAshErase p s
  | .floor p => Sys2Proof.Machine.execFloor p s
  | .ashOpen p => Sys2Proof.Machine.execAshOpen p s
  | .logWrite p v => Sys2Proof.Machine.execLogWrite p v s
  | .logIdxWrite m v => Sys2Proof.Machine.execLogIdxWrite m v s
  | .mgtEntrySent => Sys2Proof.Machine.execMgtEntrySent s
  | .lowWordRead m a => Sys2Proof.Machine.execLowWordRead m a s
  | .mapidxWrite m v => Sys2Proof.Machine.execMapidxWrite m v s
  | .hostLinkUp l speed width => Sys2Proof.Machine.execHostLinkUp l speed width s
  | .weaveSyncGained l => Sys2Proof.Machine.execWeaveSyncGained l s
  | .weaveSyncLost l => Sys2Proof.Machine.execWeaveSyncLost l s
  | .backupDomainReset => Sys2Proof.Machine.execBackupDomainReset s
  | .backupTick => Sys2Proof.Machine.execBackupTick s
  | .vbatLowEnd => Sys2Proof.Machine.execVbatLowEnd s

end Sys2Proof.Machine
end

