-- ==== Sys2Proof/Certificates/Slice0/Obligations.lean ====
section
/-! DEFINITION. The statements about the model. A statement that a command answers a next state gives that state by the
model's own operations on registers, pairs and memories; what those leave unchanged is theirs. -/

open Sys2Proof Sys2Proof.Machine

/-! ## The queue and the outcome -/

/-- R-queue (the row's own rule): a step takes the command at the front of the queue and runs it with the queue's rest; with
nothing waiting the block idles (log 2). -/
def Obligations.StepRunsTheFrontCommand : Prop :=
  (∀ (c : Instr) (s : State), step { s with pending := c :: s.pending } = exec c s) ∧
  (∀ s : State, s.pending = [] → step s = .next s)

/-! ## Reset -/

/-- What a power-on reset leaves, where the manual gives the value: RSTCAUSE.POR (R471); the PC of every pair 0xFFFF_0000 and
its pstat, registers and doorbells zero (R66); every MPU region of SIZE 5 and disabled (R146); pairs 0 and 1 of hearth 0 in SUPERVISOR,
pair 31 of every hearth in SPARE and every other in FREE (R12, R116); the Beat counter at 0 and BEAT.NOMINAL at 10,000 (R41, R45, R55). -/
def Obligations.PowerOnResetState : Prop :=
  State.reset.reg Reg.SYS_RSTCAUSE = 1#32 ∧
  (∀ p : PairId, (State.reset.pair p.val).pc = 0xFFFF0000#32 ∧ (State.reset.pair p.val).sreg SR.pstat = 0 ∧
    (State.reset.pair p.val).dbPend0 = 0 ∧ (State.reset.pair p.val).dbMask1 = 0 ∧
    (∀ r : Nat, (State.reset.pair p.val).greg r = 0) ∧
    (∀ i : Nat, ruleAttr (State.reset.pair p.val).mpuF i = 0x500#32 ∧ ruleBase (State.reset.pair p.val).mpuF i = 0) ∧
    State.reset.role p.val = (if p.val < 2 then Role.supervisor else if indexOf p.val = 31 then Role.spare else Role.free)) ∧
  State.reset.beatNow = 0 ∧ State.reset.nominal = 10000 ∧ State.reset.pending = []

/-- R66: a pair reset leaves the pair in ring 0 with IE, EXL, DF and PM 0, at 0xFFFF_0000 for its first fetch, and with every general
register zero, whatever it keeps of its self-test record. -/
def Obligations.PairResetLeavesRingZero : Prop :=
  ∀ passes : List Nat,
    let x : Pair := { Pair.reset with passes := passes }
    x.ring = 0 ∧ x.ie = false ∧ x.exl = false ∧ x.df = false ∧ x.pm = false ∧ x.pc = 0xFFFF0000#32 ∧ ∀ r : Nat, x.greg r = 0

/-! ## Instructions of a pair -/

/-- The state in which the instruction at the PC of pair p has been fetched: the pair is awake, and the fetch has used what it
needs (R111, R143, R179). -/
def Sys2Proof.Machine.State.fetched (s : State) (p : Nat) : State :=
  match (s.wake p).fetchAt p (s.pair p).pc.toNat with
  | .ready t => t
  | _ => s.wake p

/-- The state in which instruction `z` of pair p takes effect: fetched, and the registers that it reads written (R92). -/
def Sys2Proof.Machine.State.begun (s : State) (p : Nat) (z : Zaend) : State := (s.fetched p).updPair p (fun x => x.await z)

/-- An instruction of pair p that has left the state `s`: a pair that single-steps halts again (R352), but where the read of the
instruction still waits (R179). -/
def Sys2Proof.Machine.State.ended (s : State) (p : Nat) : State := if (s.readOf p).isSome then s else s.afterStep p

/-- Pair p stands at a boundary where the word `w` is fetched without an exception or a wait and decodes to `z`, with no imprecise
exception, deadline, interrupt or halt to take before it (R75); an instruction whose read has waited is past them. -/
structure Sys2Proof.Machine.State.Executes (s : State) (p : Nat) (w : Word) (z : Zaend) : Prop where
  issues : s.canIssue p = true
  noImprecise : (s.pair p).imp = none
  fetches : s.fetchExc p (s.pair p).pc.toNat = none
  word : s.fetchWord p (s.pair p).pc.toNat = w
  ready : (s.wake p).fetchAt p (s.pair p).pc.toNat = .ready (s.fetched p)
  decodes : Zaend.decode w = some z
  noAsync : (s.begun p z).readOf p = none → (s.begun p z).asyncExc p = none
  noHalt : (s.begun p z).readOf p = none → (s.begun p z).haltDue p = false

/-- Instruction `z` of pair p, of `n` cycles, leaves `v` in register rd and goes on at the next word (R63). -/
def Sys2Proof.Machine.State.wrote (s : State) (p : Nat) (z : Zaend) (rd : BitVec 5) (v : Word) (n : Nat) : State :=
  ((s.begun p z).setPair p { (((s.begun p z).pair p).setG rd.toNat v).retire n with pc := (s.pair p).pc + 4 }).ended p

/-- Instruction `z` of pair p, of `n` cycles, goes on at `t`. -/
def Sys2Proof.Machine.State.went (s : State) (p : Nat) (z : Zaend) (t : Word) (n : Nat) : State :=
  ((s.begun p z).setPair p { ((s.begun p z).pair p).retire n with pc := t }).ended p

/-- R96: what each RI integer instruction leaves in rd; the shift amount of slli, srli and srai is imm[4:0]. -/
def Obligations.ImmediateInstructionsWriteTheirResults : Prop :=
  ∀ (s : State) (p : PairId) (w : Word) (rd ra : BitVec 5) (i : BitVec 16),
    let a := (s.pair p.val).greg ra.toNat
    let runs := fun op => s.Executes p.val w (.imm op rd ra i)
    let leaves := fun op v => s.wrote p.val (.imm op rd ra i) rd v 1
    (runs .addi → exec (.addi p w) s = .next (leaves .addi (a + i.signExtend 32))) ∧
    (runs .andi → exec (.andi p w) s = .next (leaves .andi (a &&& i.setWidth 32))) ∧
    (runs .ori → exec (.ori p w) s = .next (leaves .ori (a ||| i.setWidth 32))) ∧
    (runs .xori → exec (.xori p w) s = .next (leaves .xori (a ^^^ i.setWidth 32))) ∧
    (runs .slti → exec (.slti p w) s = .next (leaves .slti (if a.toInt < (i.signExtend 32).toInt then 1 else 0))) ∧
    (runs .sltiu → exec (.sltiu p w) s = .next (leaves .sltiu (if a.toNat < (i.signExtend 32).toNat then 1 else 0))) ∧
    (runs .lui → exec (.lui p w) s = .next (leaves .lui (i.setWidth 32 <<< 16))) ∧
    (runs .slli → exec (.slli p w) s = .next (leaves .slli (a <<< (i.toNat % 32)))) ∧
    (runs .srli → exec (.srli p w) s = .next (leaves .srli (a >>> (i.toNat % 32)))) ∧
    (runs .srai → exec (.srai p w) s = .next (leaves .srai (a.sshiftRight (i.toNat % 32))))

/-- R99: a taken branch adds the word offset, shifted left by 2, to its own PC and takes 2 cycles; one not taken goes on at the next
word in 1. bltui and bgeui compare with imm8 zero-extended, the others sign-extended. R99, R100: j and jal add the 26-bit word
offset to the PC; jr and jalr go to ra + imm where it is aligned, in 3 cycles; jal and jalr leave the return address in g1, the
target being taken before g1 is written. An unaligned target raises misaligned with the target, and neither g1 nor the PC
changes. -/
def Obligations.BranchesAndJumpsGoWhereTheySay : Prop :=
  (∀ (s : State) (p : PairId) (w : Word) (ra rb : BitVec 5) (off : BitVec 16) (i : BitVec 8) (o13 : BitVec 13),
    let pc := (s.pair p.val).pc
    let a := (s.pair p.val).greg ra.toNat
    let b := (s.pair p.val).greg rb.toNat
    let runs := fun c => s.Executes p.val w (.branch c ra rb off)
    let runsI := fun c => s.Executes p.val w (.branchImm c ra i o13)
    let goes := fun c (q : Prop) [Decidable q] =>
      if q then s.went p.val (.branch c ra rb off) (pc + off.signExtend 32 <<< 2) 2 else s.went p.val (.branch c ra rb off) (pc + 4) 1
    let goesI := fun c (q : Prop) [Decidable q] =>
      if q then s.went p.val (.branchImm c ra i o13) (pc + o13.signExtend 32 <<< 2) 2
      else s.went p.val (.branchImm c ra i o13) (pc + 4) 1
    let sx : Word := i.signExtend 32
    let zx : Word := i.setWidth 32
    (runs .eq → exec (.beq p w) s = .next (goes .eq (a = b))) ∧
    (runs .ne → exec (.bne p w) s = .next (goes .ne (a ≠ b))) ∧
    (runs .lt → exec (.blt p w) s = .next (goes .lt (a.toInt < b.toInt))) ∧
    (runs .ge → exec (.bge p w) s = .next (goes .ge (b.toInt ≤ a.toInt))) ∧
    (runs .ltu → exec (.bltu p w) s = .next (goes .ltu (a.toNat < b.toNat))) ∧
    (runs .geu → exec (.bgeu p w) s = .next (goes .geu (b.toNat ≤ a.toNat))) ∧
    (runsI .eq → exec (.beqi p w) s = .next (goesI .eq (a = sx))) ∧
    (runsI .ne → exec (.bnei p w) s = .next (goesI .ne (a ≠ sx))) ∧
    (runsI .lt → exec (.blti p w) s = .next (goesI .lt (a.toInt < sx.toInt))) ∧
    (runsI .ge → exec (.bgei p w) s = .next (goesI .ge (sx.toInt ≤ a.toInt))) ∧
    (runsI .ltu → exec (.bltui p w) s = .next (goesI .ltu (a.toNat < zx.toNat))) ∧
    (runsI .geu → exec (.bgeui p w) s = .next (goesI .geu (zx.toNat ≤ a.toNat)))) ∧
  (∀ (s : State) (p : PairId) (w : Word) (ra : BitVec 5) (i : BitVec 16) (off : BitVec 26),
    let pc := (s.pair p.val).pc
    let t := (s.pair p.val).greg ra.toNat + i.signExtend 32
    let linked := fun z (t : Word) n => ((s.begun p.val z).setPair p.val
      { (((s.begun p.val z).pair p.val).setG 1 (pc + 4)).retire n with pc := t }).ended p.val
    let unaligned := fun z => ((s.begun p.val z).raise p.val ⟨Cause.misaligned, t⟩).ended p.val
    (s.Executes p.val w (.jump false off) → exec (.j p w) s = .next (s.went p.val (.jump false off) (pc + off.signExtend 32 <<< 2) 2)) ∧
    (s.Executes p.val w (.jump true off) → exec (.jal p w) s = .next (linked (.jump true off) (pc + off.signExtend 32 <<< 2) 2)) ∧
    (s.Executes p.val w (.jumpReg false ra i) → t &&& 3#32 = 0#32 → exec (.jr p w) s = .next (s.went p.val (.jumpReg false ra i) t 3)) ∧
    (s.Executes p.val w (.jumpReg true ra i) → t &&& 3#32 = 0#32 → exec (.jalr p w) s = .next (linked (.jumpReg true ra i) t 3)) ∧
    (s.Executes p.val w (.jumpReg false ra i) → t &&& 3#32 ≠ 0#32 → exec (.jr p w) s = .next (unaligned (.jumpReg false ra i))) ∧
    (s.Executes p.val w (.jumpReg true ra i) → t &&& 3#32 ≠ 0#32 → exec (.jalr p w) s = .next (unaligned (.jumpReg true ra i))))

/-- R95: what each instruction of major 0x01 leaves in rd; a and b are ra and rb before the instruction, and addv and subv here are
those that do not overflow (R82). Nothing else changes but the PC, cnt and what the cycles bring at the multiplier. R82, R83: an
overflow of addv or subv. With PM = 1 it is precise: rd and the PC of the instruction stand, and overflow is raised with the PC
in eval. With PM = 0 rd takes the wrapped result and the exception is pending with the PC of the instruction. R101–R103: a
multiplier instruction leaves mh and ml as they are and its product pending, due 3 cycles after it, clmul 2, after the cycles
that it is held where an earlier one is pending; a divide with none pending leaves quotient and remainder pending, due 18 cycles
after it, and with one pending stalls until that one is written; a zero divisor with PM = 0 gives all ones and the dividend, and
divide by zero is pending. Where more cycles have passed than are counted, MUL_RESULT and DIV_RESULT make the oldest pending
result visible (R102); else the count of cycles does, and they change nothing. -/
def Obligations.ArithmeticResultsAndExceptions : Prop :=
  (∀ (s : State) (p : PairId) (w : Word) (rd ra rb rc : BitVec 5),
    let a := (s.pair p.val).greg ra.toNat
    let b := (s.pair p.val).greg rb.toNat
    let c := (s.pair p.val).greg rc.toNat
    let runs := fun op => s.Executes p.val w (.alu op rd ra rb rc)
    let leaves := fun op v => s.wrote p.val (.alu op rd ra rb rc) rd v 1
    (runs .add → exec (.add p w) s = .next (leaves .add (a + b))) ∧
    (runs .sub → exec (.sub p w) s = .next (leaves .sub (a - b))) ∧
    (runs .and_ → exec (.and_ p w) s = .next (leaves .and_ (a &&& b))) ∧
    (runs .or_ → exec (.or_ p w) s = .next (leaves .or_ (a ||| b))) ∧
    (runs .xor_ → exec (.xor_ p w) s = .next (leaves .xor_ (a ^^^ b))) ∧
    (runs .andn → exec (.andn p w) s = .next (leaves .andn (a &&& ~~~b))) ∧
    (runs .sll → exec (.sll p w) s = .next (leaves .sll (a <<< (b.toNat % 32)))) ∧
    (runs .srl → exec (.srl p w) s = .next (leaves .srl (a >>> (b.toNat % 32)))) ∧
    (runs .sra → exec (.sra p w) s = .next (leaves .sra (a.sshiftRight (b.toNat % 32)))) ∧
    (runs .slt → exec (.slt p w) s = .next (leaves .slt (if a.toInt < b.toInt then 1 else 0))) ∧
    (runs .sltu → exec (.sltu p w) s = .next (leaves .sltu (if a.toNat < b.toNat then 1 else 0))) ∧
    (runs .clz → exec (.clz p w) s = .next (leaves .clz (wd (clzWord a)))) ∧
    (runs .pop → exec (.pop p w) s = .next (leaves .pop (wd (popWord a)))) ∧
    (runs .bswap → exec (.bswap p w) s = .next (leaves .bswap (wd (ofLe (wordBytes a).reverse)))) ∧
    (runs .csel → exec (.csel p w) s = .next (leaves .csel (if c ≠ 0 then a else b))) ∧
    (runs .addv → (a + b).toInt = a.toInt + b.toInt →
      exec (.addv p w) s = .next (s.wrote p.val (.alu .addv rd ra rb rc) rd (a + b) (if (s.pair p.val).pm then 2 else 1))) ∧
    (runs .subv → (a - b).toInt = a.toInt - b.toInt →
      exec (.subv p w) s = .next (s.wrote p.val (.alu .subv rd ra rb rc) rd (a - b) (if (s.pair p.val).pm then 2 else 1)))) ∧
  (∀ (s : State) (p : PairId) (w : Word) (rd ra rb rc : BitVec 5),
    let x := s.pair p.val
    let a := x.greg ra.toNat
    let b := x.greg rb.toNat
    let begun := fun op => s.begun p.val (.alu op rd ra rb rc)
    let runs := fun op => s.Executes p.val w (.alu op rd ra rb rc)
    let precise := fun op => ((begun op).raise p.val ⟨Cause.overflow, x.pc⟩).ended p.val
    let late := fun op (v : Word) => (((begun op).setPair p.val
      { (((begun op).pair p.val).setG rd.toNat v).retire 1 with pc := x.pc + 4 }).updPair p.val
        (fun y => { y with imp := some ⟨Cause.overflow, x.pc, 0, false⟩ })).ended p.val
    (runs .addv → (a + b).toInt ≠ a.toInt + b.toInt →
      (x.pm = true → exec (.addv p w) s = .next (precise .addv)) ∧ (x.pm = false → exec (.addv p w) s = .next (late .addv (a + b)))) ∧
    (runs .subv → (a - b).toInt ≠ a.toInt - b.toInt →
      (x.pm = true → exec (.subv p w) s = .next (precise .subv)) ∧ (x.pm = false → exec (.subv p w) s = .next (late .subv (a - b))))) ∧
  ((∀ (s : State) (p : PairId) (w : Word) (ra rb : BitVec 5),
    let x := s.pair p.val
    let a := x.greg ra.toNat
    let b := x.greg rb.toNat
    let begun := fun op => s.begun p.val (.mul op ra rb)
    let runs := fun op => s.Executes p.val w (.mul op ra rb)
    let left := fun op (y : Pair) n => (begun op).setPair p.val { y.retire n with pc := x.pc + 4 }
    let pends := fun op (v : BitVec 64) n =>
      (left op { (begun op).pair p.val with mulPend := [(v.extractLsb' 32 32, v.extractLsb' 0 32, n)] } 1).ended p.val
    let held := fun op => (left op (((begun op).pair p.val).issueMul op a b) 1).ended p.val
    let divided := fun op (q r : Word) n => left op { (begun op).pair p.val with divPend := some (q, r, 18) } n
    let divides := fun op (q r : Word) n => (divided op q r n).ended p.val
    let stalled := fun op n => (left op (((begun op).pair p.val).issueDiv op a b) n).ended p.val
    let byZero := fun op => ((divided op 0xFFFFFFFF#32 a 1).updPair p.val
      (fun y => { y with imp := some ⟨Cause.divZero, x.pc, 0, false⟩ })).ended p.val
    let zeroFault := fun op => ((begun op).raise p.val ⟨Cause.divZero, x.pc⟩).ended p.val
    let n := if x.pm then 2 else 1
    (x.mulPend = [] → runs .mul → exec (.mul p w) s = .next (pends .mul (BitVec.ofInt 64 (a.toInt * b.toInt)) 3)) ∧
    (x.mulPend = [] → runs .mulh → exec (.mulh p w) s = .next (pends .mulh (BitVec.ofInt 64 (a.toInt * b.toNat)) 3)) ∧
    (x.mulPend = [] → runs .mulhu → exec (.mulhu p w) s = .next (pends .mulhu (BitVec.ofNat 64 (a.toNat * b.toNat)) 3)) ∧
    (x.mulPend = [] → runs .clmul → exec (.clmul p w) s = .next (pends .clmul (clmulWord a b) 2)) ∧
    (runs .mul → exec (.mul p w) s = .next (held .mul)) ∧
    (runs .mulh → exec (.mulh p w) s = .next (held .mulh)) ∧
    (runs .mulhu → exec (.mulhu p w) s = .next (held .mulhu)) ∧
    (runs .clmul → exec (.clmul p w) s = .next (held .clmul)) ∧
    (x.divPend = none → runs .div → b ≠ 0#32 → exec (.div p w) s = .next
      (divides .div (BitVec.ofInt 32 (a.toInt.tdiv b.toInt)) (BitVec.ofInt 32 (a.toInt.tmod b.toInt)) n)) ∧
    (x.divPend = none → runs .divu → b ≠ 0#32 → exec (.divu p w) s = .next (divides .divu (a / b) (a % b) n)) ∧
    (runs .div → b ≠ 0#32 → exec (.div p w) s = .next (stalled .div n)) ∧
    (runs .divu → b ≠ 0#32 → exec (.divu p w) s = .next (stalled .divu n)) ∧
    (x.divPend = none → runs .div → b = 0#32 → x.pm = false → exec (.div p w) s = .next (byZero .div)) ∧
    (x.divPend = none → runs .divu → b = 0#32 → x.pm = false → exec (.divu p w) s = .next (byZero .divu)) ∧
    (runs .div → b = 0#32 → x.pm = true → exec (.div p w) s = .next (zeroFault .div)) ∧
    (runs .divu → b = 0#32 → x.pm = true → exec (.divu p w) s = .next (zeroFault .divu))) ∧
  (∀ (s : State) (p : PairId) (h l : Word) (n : Nat) (rest : List (Word × Word × Nat)),
    (s.pair p.val).mulPend = (h, l, n) :: rest →
    exec (.mulResult p) s = .next (if (s.pair p.val).unsteady then s.updPair p.val (fun x => x.advance n) else s) ∧
    (rest = [] → (((s.pair p.val).advance n).mulPend = [] ∧ ((s.pair p.val).advance n).sreg SR.mh = h ∧
      ((s.pair p.val).advance n).sreg SR.ml = l))) ∧
  (∀ (s : State) (p : PairId) (q r : Word) (n : Nat), (s.pair p.val).divPend = some (q, r, n) →
    exec (.divResult p) s = .next (if (s.pair p.val).unsteady then s.updPair p.val (fun x => x.advance n) else s) ∧
    ((s.pair p.val).advance n).divPend = none ∧ ((s.pair p.val).advance n).sreg SR.dq = q ∧ ((s.pair p.val).advance n).sreg SR.dr = r))

/-- The state in which a load of pair p over `n` bytes at `a` reads: a device access waits for every posted store, a strongly ordered
one as R150 says. -/
def Sys2Proof.Machine.State.ordered (s : State) (p a n : Nat) : State :=
  if s.isDevice p a n then s.drainStores p else s.orderStrong p a n

/-- The read of a load from memory: one from hearth memory or the NVM window may wait for its grant (R178, R179). -/
def Sys2Proof.Machine.State.reading (s : State) (p a n : Nat) : Read :=
  if spaceOf a = .hearth ∨ spaceOf a = .nvm then (s.ordered p a n).pairRead p a n false
  else .done (s.ordered p a n) ((s.ordered p a n).memBytes p a n)

/-- What the pair sees of bytes read at `a`: its own posted stores lie over them (R98). -/
def Sys2Proof.Machine.State.seen (s : State) (p a : Nat) (bs : List Byte) : Nat :=
  ofLe (bs.zipIdx.map (fun b => (s.pair p).overlay (a + b.2) b.1))

/-- Pair p with `v` in register rd after a load from `a` that left the state `s`: rd is usable after the load's cycles (R92, R93). -/
def Sys2Proof.Machine.State.filled (s : State) (p a : Nat) (rd : BitVec 5) (v : Word) : State :=
  (s.setPair p { ((s.pair p).loaded rd.toNat v (loadDelay a)).retire 1 with
    pc := ((s.pair p).loaded rd.toNat v (loadDelay a)).pc + 4 }).ended p

/-- The outcome of a store of pair p that left the state `s`, of `n` cycles: it goes on at the next word. -/
def Sys2Proof.Machine.State.storedAt (s : State) (p n : Nat) : State :=
  (s.setPair p { (s.pair p).retire n with pc := (s.pair p).pc + 4 }).ended p

/-- R97, R98: a load whose checks pass. From memory rd takes the bytes at ra + sext(imm16) as the pair sees them, extended as the
instruction says, once its read is performed; a corrected word is counted, and one that reads uncorrectable, or is known to be,
raises bus error with the address (R157). From the core-local block and the register window (ldw only) rd takes the register's
word, or the unit raises its bus error. R93, R97, R151: a store to memory whose checks pass enters the store buffer with the low
bytes of rs, or holds issue until it is performed in a device region; one to the core-local block or the window (stw only)
follows the posted stores and is that unit's. STORE_PERFORMED performs a posted store that waits for no earlier one, in hearth
memory once the bank is granted to the pair, where it takes the place of a write-back that it overtakes (R162); without the
grant or before an earlier one nothing changes. R97, R98: an access that a check refuses raises that check's exception, and
changes nothing else than what a refused flue access records (R170): no register, no memory. -/
def Obligations.LoadsAndStoresMoveTheirBytes : Prop :=
  (∀ (s : State) (p : PairId) (w : Word) (rd ra : BitVec 5) (i : BitVec 16),
    let a := ((s.pair p.val).greg ra.toNat + i.signExtend 32).toNat
    let z := fun op => Zaend.load op rd ra i
    let b := fun op => s.begun p.val (z op)
    let d := (b .ldw).drainStores p.val
    let runs := fun op n => s.Executes p.val w (z op) ∧ (b op).dataExc p.val a n .load = none
    let mem := spaceOf a ≠ .control ∧ spaceOf a ≠ .window
    let reads := fun op n t bs => mem ∧ (b op).reading p.val a n = .done t bs
    let clean := fun op n t bs => reads op n t bs ∧ t.flawed p.val a = false
    let broken := fun (t : State) => ((t.memUncorrectable p.val a).raise p.val ⟨Cause.busError, wd a⟩).ended p.val
    (∀ t bs, let v := t.seen p.val a bs
      (runs .ldw 4 → clean .ldw 4 t bs → exec (.ldw p w .clean) s = .next (t.filled p.val a rd (wd v))) ∧
      (runs .ldh 2 → clean .ldh 2 t bs → exec (.ldh p w .clean) s = .next (t.filled p.val a rd ((BitVec.ofNat 16 v).signExtend 32))) ∧
      (runs .ldhu 2 → clean .ldhu 2 t bs → exec (.ldhu p w .clean) s = .next (t.filled p.val a rd (wd v))) ∧
      (runs .ldb 1 → clean .ldb 1 t bs → exec (.ldb p w .clean) s = .next (t.filled p.val a rd ((BitVec.ofNat 8 v).signExtend 32))) ∧
      (runs .ldbu 1 → clean .ldbu 1 t bs → exec (.ldbu p w .clean) s = .next (t.filled p.val a rd (wd v))) ∧
      (runs .ldw 4 → clean .ldw 4 t bs → exec (.ldw p w .corrected) s = .next ((t.memCorrected p.val a).filled p.val a rd (wd v))) ∧
      (runs .ldw 4 → reads .ldw 4 t bs → exec (.ldw p w .uncorrectable) s = .next (broken t)) ∧
      (runs .ldh 2 → reads .ldh 2 t bs → t.flawed p.val a = true → ∀ chk, exec (.ldh p w chk) s = .next (broken t)) ∧
      (runs .ldb 1 → reads .ldb 1 t bs → t.flawed p.val a = true → ∀ chk, exec (.ldb p w chk) s = .next (broken t))) ∧
    (∀ t chk, mem → runs .ldw 4 → (b .ldw).reading p.val a 4 = .waits t → exec (.ldw p w chk) s = .next (t.ended p.val)) ∧
    (spaceOf a = .control → runs .ldw 4 → ∀ chk, exec (.ldw p w chk) s = .next (d.filled p.val a rd (d.ctlLoad p.val (a - 0x10000)))) ∧
    (spaceOf a = .window → runs .ldw 4 → ∀ chk t v, d.devLoad p.val (a - 0x40000000) = (.ok t, v) →
      exec (.ldw p w chk) s = .next (t.filled p.val a rd v)) ∧
    (spaceOf a = .window → runs .ldw 4 → ∀ chk t e v, d.devLoad p.val (a - 0x40000000) = (.fail t e, v) →
      exec (.ldw p w chk) s = .next ((t.raise p.val e).ended p.val))) ∧
  ((∀ (s : State) (p : PairId) (w : Word) (rs ra : BitVec 5) (i : BitVec 16),
    let a := ((s.pair p.val).greg ra.toNat + i.signExtend 32).toNat
    let v := (s.pair p.val).greg rs.toNat
    let b := fun op => s.begun p.val (.store op rs ra i)
    let runs := fun op n => s.Executes p.val w (.store op rs ra i) ∧ (b op).dataExc p.val a n .store = none
    let mem := spaceOf a ≠ .control ∧ spaceOf a ≠ .window
    let posted := fun op n => ((b op).post p.val ⟨a, n, v, (b op).isStrong p.val a n⟩).storedAt p.val 1
    let direct := fun op n => ((b op).performNow p.val a n v).storedAt p.val 1
    let goes := fun op n => if (b op).isDevice p.val a n then direct op n else posted op n
    let d := if ((b .stw).pair p.val).stores.isEmpty then b .stw
      else ((b .stw).drainStores p.val).updPair p.val (fun x => x.advanceLoose 0)
    let slow := fun (t : State) => (t.setPair p.val { ({ t.pair p.val with unsteady := true } : Pair).retire 20 with
      pc := (t.pair p.val).pc + 4 }).ended p.val
    (mem → runs .stw 4 → exec (.stw p w) s = .next (goes .stw 4)) ∧
    (mem → runs .sth 2 → exec (.sth p w) s = .next (goes .sth 2)) ∧
    (mem → runs .stb 1 → exec (.stb p w) s = .next (goes .stb 1)) ∧
    (spaceOf a = .control → runs .stw 4 → ∀ t, d.ctlStore p.val (a - 0x10000) v = .ok t → exec (.stw p w) s = .next (t.storedAt p.val 4)) ∧
    (spaceOf a = .window → runs .stw 4 → ∀ t, d.devStore p.val (a - 0x40000000) v = .ok t →
      exec (.stw p w) s = .next (slow t)) ∧
    (spaceOf a = .control → runs .stw 4 → ∀ t e, d.ctlStore p.val (a - 0x10000) v = .fail t e →
      exec (.stw p w) s = .next ((t.raise p.val e).ended p.val)) ∧
    (spaceOf a = .window → runs .stw 4 → ∀ t e, d.devStore p.val (a - 0x40000000) v = .fail t e →
      exec (.stw p w) s = .next ((t.raise p.val e).ended p.val))) ∧
  (∀ (s : State) (p : PairId) (i : Nat) (t : PostedStore), (s.pair p.val).stores[i]? = some t →
    let written := s.writeMem p.val t.addr (leBytes t.size t.value.toNat)
    let bank := bankAt p.val t.addr
    let freed := written.dropWriteBack (hearthOf p.val) (t.addr - 0x10000000) t.size
    let after := fun (u : State) => (u.updPair p.val (fun x => { x with stores := x.stores.eraseIdx i })).askStores p.val
    ((s.pair p.val).storeFree i = true → spaceOf t.addr ≠ .hearth → exec (.storePerformed p i) s = .next (after written)) ∧
    ((s.pair p.val).storeFree i = true → spaceOf t.addr = .hearth → (s.arb bank).holds (indexOf p.val) = true →
      exec (.storePerformed p i) s = .next (after (freed.setArb bank ((freed.arb bank).leave (indexOf p.val))))) ∧
    ((s.pair p.val).storeFree i = false ∨ (spaceOf t.addr = .hearth ∧ (s.arb bank).holds (indexOf p.val) = false) →
      exec (.storePerformed p i) s = .next s))) ∧
  (∀ (s : State) (p : PairId) (w : Word) (r ra : BitVec 5) (i : BitVec 16) (e : Exc),
    let a := ((s.pair p.val).greg ra.toNat + i.signExtend 32).toNat
    let raised := fun z n => (((s.begun p.val z).noteWrongSize p.val a n e).raise p.val e).ended p.val
    (∀ op, s.Executes p.val w (.load op r ra i) → (s.begun p.val (.load op r ra i)).dataExc p.val a op.size .load = some e → ∀ chk,
      exec (match op with
        | .ldw => .ldw p w chk
        | .ldh => .ldh p w chk
        | .ldhu => .ldhu p w chk
        | .ldb => .ldb p w chk
        | .ldbu => .ldbu p w chk) s = .next (raised (.load op r ra i) op.size)) ∧
    (∀ op, s.Executes p.val w (.store op r ra i) → (s.begun p.val (.store op r ra i)).dataExc p.val a op.size .store = some e →
      exec (match op with
        | .stw => .stw p w
        | .sth => .sth p w
        | .stb => .stb p w) s = .next (raised (.store op r ra i) op.size)) ∧
    (∀ n k, 0 < n → a % n ≠ 0 → s.dataExc p.val a n k = some ⟨Cause.misaligned, wd a⟩))

/-- R105–R107: a long instruction whose registers pass follows the pair's posted stores. With its count at zero it completes with no
access. A step whose accesses pass their checks moves up to 32 bytes: wipe zeroes them, bcopy copies them, cteq folds the differences
of two ranges into rd; the addresses advance and the count falls by what was moved, and the instruction completes when the count is
zero. It runs up to `k` steps, one while the pair single-steps, and a step that faults leaves those before it done. -/
def Obligations.LongInstructionsRunInSteps : Prop :=
  ∀ (s : State) (p : PairId) (w : Word) (rd ra rb rc : BitVec 5) (k : Nat),
    let z := fun op => Zaend.long op rd ra rb rc
    let b := fun op => ((s.begun p.val (z op)).drainStores p.val).updPair p.val (fun x => x.advanceLoose 2)
    let ok := fun op => s.Executes p.val w (z op) ∧ ((s.begun p.val (z op)).pair p.val).longMisaligned op rd ra rb rc = none
    let g := fun op (r : BitVec 5) => ((b op).pair p.val).greg r.toNat
    let done := fun (t : State) => t.setPair p.val { (t.pair p.val).retire 0 with pc := (t.pair p.val).pc + 4 }
    let n := fun op (c : BitVec 5) => min 32 (g op c).toNat
    let stepped := fun op (c : BitVec 5) (t : State) (cycles : Nat) =>
      let u := t.updPair p.val (fun x => x.advanceLoose cycles)
      (if (g op c).toNat ≤ 32 then done u else u).ended p.val
    let free := fun op (x : BitVec 5) (m : Nat) (acc : Access) => (b op).rangeExcs p.val (g op x) m acc = []
    let used := fun op (xs : List (BitVec 5)) => xs.foldl (fun t x => t.useRange p.val (g op x)) (b op)
    let sound := fun op (xs : List (BitVec 5)) (x : BitVec 5) (m : Nat) => (used op xs).rangeFlaw p.val (g op x) m = none
    let steps := fun op => (b op).longSteps p.val op rd ra rb rc (if ((s.begun p.val (z op)).pair p.val).stepping then min 1 k else k)
    let ends := fun r => match r with
      | Resp.ok t => t.ended p.val
      | .fail t e => (t.raise p.val e).ended p.val
    (ok .wipe → g .wipe rb = 0#32 → exec (.wipe p w k) s = .next ((done (b .wipe)).ended p.val)) ∧
    (ok .bcopy → g .bcopy rb = 0#32 → exec (.bcopy p w k) s = .next ((done (b .bcopy)).ended p.val)) ∧
    (ok .cteq → g .cteq rc = 0#32 → exec (.cteq p w k) s = .next ((done (b .cteq)).ended p.val)) ∧
    (ok .wipe → g .wipe rb ≠ 0#32 → let m := n .wipe rb
      free .wipe ra m .store →
      exec (.wipe p w 1) s =
        .next (stepped .wipe rb (((used .wipe [ra]).writeRange p.val (g .wipe ra) (List.replicate (m / 4) 0)).updPair p.val
        (fun y => (y.setG ra.toNat (g .wipe ra + wd m)).setG rb.toNat (g .wipe rb - wd m))) (rangeCycles (g .wipe ra)))) ∧
    (ok .bcopy → g .bcopy rb ≠ 0#32 → let m := n .bcopy rb
      free .bcopy ra m .load → free .bcopy rd m .store → sound .bcopy [ra, rd] ra m →
      exec (.bcopy p w 1) s = .next (stepped .bcopy rb (((used .bcopy [ra, rd]).writeRange p.val (g .bcopy rd)
        ((used .bcopy [ra, rd]).rangeWords p.val (g .bcopy ra) m)).updPair p.val (fun y => ((y.setG rd.toNat (g .bcopy rd + wd m)).setG
          ra.toNat (g .bcopy ra + wd m)).setG rb.toNat (g .bcopy rb - wd m)))
            (rangeCycles (g .bcopy ra) + rangeCycles (g .bcopy rd)))) ∧
    (ok .cteq → g .cteq rc ≠ 0#32 → let m := n .cteq rc
      free .cteq ra m .load → free .cteq rb m .load → sound .cteq [ra, rb] ra m → sound .cteq [ra, rb] rb m →
      let u := used .cteq [ra, rb]
      exec (.cteq p w 1) s = .next (stepped .cteq rc (u.updPair p.val (fun y => (((y.setG rd.toNat (g .cteq rd |||
        (List.zipWith (· ^^^ ·) (u.rangeWords p.val (g .cteq ra) m) (u.rangeWords p.val (g .cteq rb) m)).foldl (· ||| ·) 0)).setG
          ra.toNat (g .cteq ra + wd m)).setG rb.toNat (g .cteq rb + wd m)).setG rc.toNat (g .cteq rc - wd m)))
            (rangeCycles (g .cteq ra) + rangeCycles (g .cteq rb)))) ∧
    (ok .wipe → exec (.wipe p w k) s = .next (ends (steps .wipe))) ∧
    (ok .bcopy → exec (.bcopy p w k) s = .next (ends (steps .bcopy))) ∧
    (ok .cteq → exec (.cteq p w k) s = .next (ends (steps .cteq)))

/-! ## System instructions and exceptions -/

/-- After a change of ring from c to t the stacks are exchanged, and else g2 stands (R67): `x` before, `y` after. -/
def Sys2Proof.Machine.Pair.Exchanged (x y : Pair) (c t : Nat) : Prop :=
  (t = c → y.greg 2 = x.greg 2) ∧
  (t ≠ c → y.sreg (SR.gs c) = x.greg 2 ∧ y.greg 2 = x.sreg (SR.gs t)) ∧
  (∀ r, r ≠ 2 → y.greg r = x.greg r)

/-- R68, R69, R78: what gate, ret.g and eret leave where they are permitted. R68, R69, R78, R108: where gate, ret.g and eret are
refused they raise bad gate, PRIV_RESTORE or privilege and change nothing else; brk always raises breakpoint with its code. -/
def Obligations.GatesAndReturnsChangeRings : Prop :=
  (∀ (s : State) (p : PairId) (w : Word),
    let x := s.pair p.val
    let c := x.ring
    (∀ n : BitVec 8, s.Executes p.val w (.gate n) →
      let ge := x.sreg (SR.ge n.toNat)
      let t := fld 1 0 ge
      ge ≠ 0#32 → t ≤ c → c ≤ fld (2 * n.toNat + 1) (2 * n.toNat) (x.sreg SR.gcall) →
      ∃ u, exec (.gate p w) s = .next u ∧
        let y := u.pair p.val
        y.sreg SR.lpc = x.pc + 4 ∧ y.sreg SR.lst = wd (256 * n.toNat + 4 * c + c) ∧ y.ring = t ∧
        y.ie = x.ie ∧ y.pm = x.pm ∧ y.exl = x.exl ∧ y.df = x.df ∧ y.pc = ge &&& 0xFFFFFFFC#32 ∧ x.Exchanged y c t) ∧
    (s.Executes p.val w .retG →
      let r := fld 1 0 (x.sreg SR.lst)
      fld 3 2 (x.sreg SR.lst) ≤ r → c ≤ r →
      ∃ u, exec (.retG p w) s = .next u ∧
        let y := u.pair p.val
        y.ring = r ∧ y.pc = x.sreg SR.lpc ∧ y.ie = x.ie ∧ y.exl = x.exl ∧ y.sreg SR.lpc = x.sreg SR.lpc ∧
        y.sreg SR.lst = x.sreg SR.lst ∧ x.Exchanged y c r) ∧
    (s.Executes p.val w .eret →
      let st := x.sreg SR.estat
      let r := fld 1 0 st
      c ≠ 3 → fld 3 2 st ≤ r → c ≤ r →
      ∃ u, exec (.eret p w) s = .next u ∧
        let y := u.pair p.val
        y.ring = r ∧ y.pc = x.sreg SR.epc ∧ y.ie = bit 4 st ∧ y.pm = bit 5 st ∧ y.exl = false ∧
        y.df = (x.df && c != 1) ∧ x.Exchanged y c r)) ∧
  (∀ (s : State) (p : PairId) (w : Word),
    let x := s.pair p.val
    let traps := fun z (e : Exc) => ((s.begun p.val z).raise p.val e).ended p.val
    (∀ n : BitVec 8, s.Executes p.val w (.gate n) →
      (x.sreg (SR.ge n.toNat) = 0#32 ∨ x.ring < fld 1 0 (x.sreg (SR.ge n.toNat)) ∨
        fld (2 * n.toNat + 1) (2 * n.toNat) (x.sreg SR.gcall) < x.ring) →
      exec (.gate p w) s = .next (traps (.gate n) ⟨Cause.badGate, wd n.toNat⟩)) ∧
    (s.Executes p.val w .retG → (fld 1 0 (x.sreg SR.lst) < fld 3 2 (x.sreg SR.lst) ∨ fld 1 0 (x.sreg SR.lst) < x.ring) →
      exec (.retG p w) s = .next (traps .retG ⟨Cause.privRestore, x.sreg SR.lpc⟩)) ∧
    (s.Executes p.val w .eret → x.ring = 3 → exec (.eret p w) s = .next (traps .eret ⟨Cause.privilege, w⟩)) ∧
    (s.Executes p.val w .eret → x.ring ≠ 3 →
      (fld 1 0 (x.sreg SR.estat) < fld 3 2 (x.sreg SR.estat) ∨ fld 1 0 (x.sreg SR.estat) < x.ring) →
      exec (.eret p w) s = .next (traps .eret ⟨Cause.privRestore, x.sreg SR.epc⟩)) ∧
    (∀ c : BitVec 8, s.Executes p.val w (.brk c) → exec (.brk p w) s = .next (traps (.brk c) ⟨0x0F, c.setWidth 32⟩)))

/-- R60–R64: mfs reads a special register of the table into rd from a ring that may read it, and else raises illegal instruction or
privilege; mts of pstat changes PM, and EXL from rings 0–2, and IE from rings 0 and 1; mts of mh or ml cancels what the
multiplier still owes; mts of evec1 stores ENTRY from rings 0 and 1; a ring field may not name a ring more privileged; every
other mts that its ring permits stores the register's bits. R109–R111: fence.m performs every posted store; fence.p also brings
the written rules into force, empties the instruction buffer and lets fetches see the pair's stores; wait holds issue in rings
1–3 with nothing pending, and else completes. -/
def Obligations.SystemInstructionsAct : Prop :=
  (∀ (s : State) (p : PairId) (w : Word) (r : BitVec 5) (n : BitVec 8),
    let x := s.pair p.val
    let v := x.greg r.toNat
    let y := (s.begun p.val (.mfs r n)).pair p.val
    let traps := fun z (e : Exc) => ((s.begun p.val z).raise p.val e).ended p.val
    let puts := fun (n : BitVec 8) (f : Pair → Pair) => ((s.begun p.val (.mts r n)).setPair p.val
      { (f ((s.begun p.val (.mts r n)).pair p.val)).retire 1 with pc := x.pc + 4 }).ended p.val
    (∀ k, s.Executes p.val w (.mfs r n) → srReadRing n.toNat = some k → x.ring ≤ k →
      exec (.mfs p w) s = .next (s.wrote p.val (.mfs r n) r (if n.toNat = SR.pstat then y.pstat else y.sreg n.toNat) 1)) ∧
    (∀ k, s.Executes p.val w (.mfs r n) → srReadRing n.toNat = some k → k < x.ring →
      exec (.mfs p w) s = .next (traps (.mfs r n) ⟨Cause.privilege, w⟩)) ∧
    (s.Executes p.val w (.mfs r n) → srReadRing n.toNat = none → exec (.mfs p w) s = .next (traps (.mfs r n) ⟨Cause.illegal, w⟩)) ∧
    (s.Executes p.val w (.mts r 0x08) → exec (.mts p w) s = .next (puts 0x08 (fun y => y.setPstat x.ring
      (if x.ring ≤ 1 then bit 2 v else x.ie) (bit 3 v) (if x.ring ≤ 2 then bit 4 v else x.exl)
      (x.df && !(x.ring == 1 && !bit 4 v))))) ∧
    (s.Executes p.val w (.mts r 0x00) → exec (.mts p w) s = .next (puts 0x00 (fun y => { y.setS SR.mh v with mulPend := [] }))) ∧
    (s.Executes p.val w (.mts r 0x14) → x.ring ≤ 1 →
      exec (.mts p w) s = .next (puts 0x14 (fun y => y.setS SR.evec1 (v &&& 0xFFFFFFFC#32)))) ∧
    (s.Executes p.val w (.mts r 0x13) → x.ring ≤ 2 → (fld 1 0 v < x.ring ∨ fld 3 2 v < x.ring) →
      exec (.mts p w) s = .next (traps (.mts r 0x13) ⟨Cause.privilege, w⟩)) ∧
    (∀ k, s.Executes p.val w (.mts r n) → srWriteRing n.toNat = some k → x.ring ≤ k → ringForbidden n.toNat x.ring v = false →
      exec (.mts p w) s = .next (puts n (fun y => y.writeSr n.toNat v))) ∧
    (∀ k, s.Executes p.val w (.mts r n) → srWriteRing n.toNat = some k → k < x.ring →
      exec (.mts p w) s = .next (traps (.mts r n) ⟨Cause.privilege, w⟩)) ∧
    (s.Executes p.val w (.mts r n) → srWriteRing n.toNat = none → exec (.mts p w) s = .next (traps (.mts r n) ⟨Cause.illegal, w⟩))) ∧
  (∀ (s : State) (p : PairId) (w : Word),
    let dm := (s.begun p.val .fenceM).drainStores p.val
    let dp := (s.begun p.val .fenceP).drainStores p.val
    let b := s.begun p.val .wait
    let y := b.pair p.val
    let left := fun (u : State) (x : Pair) n => (u.setPair p.val { x.retire n with pc := (u.pair p.val).pc + 4 }).ended p.val
    (s.Executes p.val w .fenceM → (dm.pair p.val).stores = [] ∧ exec (.fenceM p w) s = .next (left dm
      (if ((s.begun p.val .fenceM).pair p.val).stores.isEmpty then dm.pair p.val else { dm.pair p.val with unsteady := true }) 1)) ∧
    (s.Executes p.val w .fenceP → (dp.pair p.val).stores = [] ∧ exec (.fenceP p w) s = .next (left dp
      { dp.pair p.val with mpuF := (dp.pair p.val).mpuW, mpuPend := false, ibuf := [], unfenced := [] } 4)) ∧
    (s.Executes p.val w .wait → (s.pair p.val).ring ≠ 0 → b.wakes p.val = false →
      exec (.wait_ p w) s = .next (left b { y with waiting := true, unsteady := true } 1)) ∧
    (s.Executes p.val w .wait → ((s.pair p.val).ring = 0 ∨ b.wakes p.val = true) →
      exec (.wait_ p w) s = .next (left b { y with waiting := false } 1)))

/-- R76, R77, R81: entry of an exception with code k and eval v into a pair with EXL = DF = 0: epc, ecause, eval and estat, the ring
and its bits, the stack, and the PC at the entry that the ring, edel and the vectors choose; a deadline exception that is taken
is pending no more. R84, R85: an exception in a pair with EXL = 1 and DF = 0 leaves epc, eval and estat; xpc and xstat name it,
and the handler of Furdauc leaves the pair in ring 1 at evec1 with ecause.DFLT, DF and EXL set and IE clear. R75, R80, R81, R83:
at a boundary with EXL = DF = 0 in rings 1–3, a pending deadline is taken with bits [31:0] of A, a pending doorbell or device
interrupt with IE = 1 and no deadline, where the next instruction raises nothing; a pending imprecise exception is taken once
seven instructions have retired after its cause. -/
def Obligations.ExceptionsEnterTheirRing : Prop :=
  (∀ (s : State) (p : PairId) (k : Nat) (v : Word),
    let x := s.pair p.val
    let c := x.ring
    let t := if c = 0 then 0 else if c = 3 ∧ bit k (x.sreg SR.edel) = true then 2 else 1
    let y := (s.raise p.val ⟨k, v⟩).pair p.val
    k < 64 → x.df = false → x.exl = false →
    y.sreg SR.epc = x.pc ∧ y.sreg SR.ecause = wd k ∧ y.sreg SR.eval = v ∧
    y.sreg SR.estat = wd (c + 4 * c + 16 * b2n x.ie + 32 * b2n x.pm) ∧
    y.ring = t ∧ y.ie = false ∧ y.exl = true ∧ y.pm = x.pm ∧ y.df = false ∧ y.imp = none ∧
    y.pc = (if c = 0 then 0xFFFF0080#32 else if t = 2 then x.sreg SR.evec2 &&& 0xFFFFFFFC#32 else x.sreg SR.evec1 &&& 0xFFFFFFFC#32) ∧
    x.Exchanged y c t ∧ y.mulPend = [] ∧ y.divPend = none ∧ y.lmem = x.lmem ∧ y.sreg SR.cnt = x.sreg SR.cnt ∧
    y.sreg SR.lpc = x.sreg SR.lpc ∧ y.sreg SR.lst = x.sreg SR.lst ∧ y.deadline = (if k = 0x0E then none else x.deadline)) ∧
  (∀ (s : State) (p : PairId) (k : Nat) (v : Word),
    let x := s.pair p.val
    let y := (s.raise p.val ⟨k, v⟩).pair p.val
    k < 64 → x.exl = true → x.df = false →
    y.sreg SR.xpc = x.pc ∧ y.sreg SR.xstat = wd (k + 256 * fld 5 0 (x.sreg SR.ecause) + 2 ^ 14 * x.ring) ∧
    y.sreg SR.epc = x.sreg SR.epc ∧ y.sreg SR.eval = x.sreg SR.eval ∧ y.sreg SR.estat = x.sreg SR.estat ∧
    y.sreg SR.ecause = x.sreg SR.ecause ||| 0x40000000#32 ∧
    y.ring = 1 ∧ y.df = true ∧ y.exl = true ∧ y.ie = false ∧ y.pm = x.pm ∧ y.pc = x.sreg SR.evec1 &&& 0xFFFFFFFC#32) ∧
  (∀ (s : State) (p : PairId),
    let x := s.pair p.val
    let t := s.wake p.val
    (∀ a, s.atBoundary p.val = true → x.interruptible = true → x.imp = none → x.deadline = some a → t.nextExc p.val = none →
      exec (.deadlineException p) s = .next ((t.raise p.val ⟨0x0E, a⟩).afterStep p.val)) ∧
    (∀ v, s.atBoundary p.val = true → x.interruptible = true → x.ie = true → x.imp = none → x.deadline = none →
      s.irqPending p.val = some v → t.nextExc p.val = none →
      exec (.interrupt p) s = .next ((t.raise p.val ⟨0x01, v⟩).afterStep p.val)) ∧
    (∀ i, s.atBoundary p.val = true → x.imp = some i → 7 ≤ i.after → x.df = false → x.exl = false →
      exec (.impreciseException p) s = .next ((t.setPair p.val ((t.pair p.val).enter i.code i.pc true i.multi)).afterStep p.val)))

/-! ## Masters -/

/-- Pair p reaches offset o of the window with a word access of kind k, which its unit decides in the state `b` (R74, R98, R145, R151):
the pair runs, no imprecise exception is pending, no check refuses the access, and the posted stores have been performed. -/
def Sys2Proof.Machine.State.Accesses (s : State) (p o : Nat) (k : Access) (b : State) : Prop :=
  s.runs p = true ∧ (s.pair p).imp = none ∧ s.dataExc p (0x40000000 + o) 4 k = none ∧ b = s.drainStores p ∧ (b.pair p).imp = none

/-- Master m may write the register at offset o, and its store is taken in the state `b` (R151, R165, R512): a pair in SUPERVISOR
or in ring 0 that reaches the register, or ring 0 code as master 722. -/
def Sys2Proof.Machine.State.Masters (s : State) (m o : Nat) (b : State) : Prop :=
  (m < 512 ∧ s.Accesses m o .store b ∧ b.mayWrite m = true) ∨ (m = 722 ∧ b = s)

/-! ## Pairs -/

/-- The role of pair p in a state whose PST is written with `v` by a permitted transition: ROLE, TENANT, HOME, RESTORE and XH (R116). -/
def Sys2Proof.Machine.State.pstWritten (s : State) (p : Nat) (v : Word) : State :=
  let o := Reg.HRT_PST (hearthOf p) (indexOf p)
  s.setReg o (setFld 31 28 (fld 31 28 v) (setFld 23 16 (fld 23 16 v) (setFld 15 12 (fld 15 12 v) (setFld 3 3 (fld 3 3 v)
    (setFld 2 2 (b2n (fld 15 12 v ≠ hearthOf p)) (s.reg o))))))

/-- R31, R47, R120, R521: the notice of an admitted or abandoned job arms its pair: A, W and NODL in the slot timer, OVERRUN clear,
the Beat of the start, PST.JOB set and REPLAY set for a rerun only; the job runs, and neither registers nor memory of the pair
change. No job starts while one is armed or between commit store and step 5 of R125 (log 45), on a disabled hearth, or in a
quarantine on another pair than a supervisor; a session whose checkpoint does not verify is lost. R48, R50, R129, R483: W Beats
after the start OVERRUN sets, and an event-log entry names pair, J and opcode; W = 0 never overruns, nor does a pair before its
W Beats are over. At A an armed job is abandoned: its reply carries DEADLINE, its engine requests are cancelled, its session is
restored, and the pair has the deadline exception pending with bits [31:0] of A; the log entry names J, opcode and source state
(log 78), and A. A job abandoned before, whose rerun has not started, ends too. Before A nothing happens. -/
def Obligations.SlotTimersRunFromJobStart : Prop :=
  (∀ (s : State) (p : PairId) (j : Job), s.startable p.val = some j →
    let stops := s.jobBit p.val = true ∨ (s.quarantined = true ∧ s.isSupervisor p.val = false) ∨ s.commitsOn p.val = true ∨
      (j.phase = .admitted ∧ s.hearthEnabled (hearthOf p.val) = false)
    let verified := ∀ x, s.sessionOn p.val = some x → s.ckVerify.contains p.val = true →
      s.ckVerifies (hearthOf p.val) (ckOff p.val (s.cksel p.val)) (s.sessionSize x) = true
    (¬stops → verified → ∃ t, exec (.jobStart p) s = .next t ∧
      (t.pair p.val).slot = ⟨j.a.getD 0, j.w, j.a.isNone, true, false, s.beatNow⟩ ∧
      t.jobBit p.val = true ∧ (t.flag (Fld.HRT_PST_REPLAY (hearthOf p.val) (indexOf p.val)) = true ↔ j.phase = .abandoned) ∧
      (t.pair p.val).g = (s.pair p.val).g ∧ (t.pair p.val).pc = (s.pair p.val).pc ∧ (t.pair p.val).lmem = (s.pair p.val).lmem ∧
      t.hmem = s.hmem ∧ ∀ q, q ≠ p.val → t.pair q = s.pair q) ∧
    (stops → exec (.jobStart p) s = .next s) ∧
    (∀ x, ¬stops → s.sessionOn p.val = some x → s.ckVerify.contains p.val = true →
      s.ckVerifies (hearthOf p.val) (ckOff p.val (s.cksel p.val)) (s.sessionSize x) = false →
      exec (.jobStart p) s = .next (s.loseSession p.val x))) ∧
  (∀ (s : State) (p : PairId),
    let t := (s.pair p.val).slot
    let due := fun (ph : JobPhase) => s.jobs.find? (fun j => j.pair == p.val && j.phase == ph && (j.due s.beatNow).isSome)
    (t.armed = true → t.overrun = false → t.w ≠ 0 → t.start + t.w ≤ s.beatNow →
      let j := s.armedJob p.val
      exec (.slotOverrun p) s = .next ((s.updPair p.val (fun x => { x with slot := { x.slot with overrun := true } })).logEvent Src.pair 7
        p.val ((j.map (·.j)).getD 0) (wd ((j.map (·.opcode)).getD 0)) 0)) ∧
    ((t.w = 0 ∨ t.armed = false ∨ t.overrun = true ∨ s.beatNow < t.start + t.w) → exec (.slotOverrun p) s = .next s) ∧
    (∀ j a, due .running = some j → j.a = some a →
      let e := ((s.endJob j 0x0200 0).cancelEngines p.val false).restoreInPlace p.val
      let e := e.updPair p.val (fun x => { x with deadline := some (wd (a % 2 ^ 32)) })
      exec (.deadlineReached p) s = .next (e.logEvent Src.pair 6 p.val j.j (wd (j.opcode + 2 ^ 16 * e.getF Fld.BEAT_STATUS_ACTIVE)) a)) ∧
    (∀ j a, due .running = none → due .abandoned = some j → j.a = some a →
      let e := s.endJob j 0x0200 0
      exec (.deadlineReached p) s = .next (e.logEvent Src.pair 6 p.val j.j (wd (j.opcode + 2 ^ 16 * e.getF Fld.BEAT_STATUS_ACTIVE)) a)) ∧
    ((∀ j ∈ s.jobs, j.pair = p.val → j.phase = .running ∨ j.phase = .abandoned → ∀ a, j.a = some a → s.beatNow < a) →
      exec (.deadlineReached p) s = .next s))

/-- R31, R115, R119, R134, R237: a PST write of a transition that R115 lists takes effect whole: LOADING from FREE or SPARE arms the
load job on an enabled hearth; FREE from SPARE, from LOADING, whose load job is disarmed, or from a session without an armed job
cancels the pair's engine requests, COPY_CKPT among them; SPARE from FREE and RETIRED from FREE or SPARE write the role;
SUPERVISOR is taken by a SPARE of hearth 0 while fewer than two pairs hold it, which then starts in the supervisor image (log
77). Any other transition changes nothing. R114, R132: a mismatch records itself in MISM, or in OVER alone while MISM holds one;
it puts the pair in SELFTEST, decides the job's fate, cancels the pair's engine requests, stops its flues and clears its copies,
posted accesses, doorbells and pending exceptions, and is logged. A self-test that passes counts in TRANSIENTS and leaves the
pair wiped, its gates programmed, and SPARE, or RETIRED where the passes within WINDOW reach LIMIT; one that fails leaves it
RETIRED. A pair in no self-test has none to end. -/
def Obligations.RolesChangeOnlyAsListed : Prop :=
  (∀ (s b : State) (m : Master) (p : PairId) (v : Word), s.Masters m.val (Reg.HRT_PST (hearthOf p.val) (indexOf p.val)) b →
    let r := b.role p.val
    let w := b.pstWritten p.val v
    (fld 31 28 v = 1 → (r = Role.free ∨ r = Role.spare) → exec (.roleLoading m p v) s = .next (w.armLoad p.val v)) ∧
    (fld 31 28 v = 1 → (r = Role.free ∨ r = Role.spare) → w.hearthEnabled (hearthOf p.val) = false → exec (.roleLoading m p v) s = .next w) ∧
    (fld 31 28 v = 0 → (r = Role.spare ∨ (r = Role.session ∧ b.jobBit p.val = false)) →
      exec (.roleFree m p v) s = .next (w.cancelEngines p.val true)) ∧
    (fld 31 28 v = 0 → r = Role.loading → exec (.roleFree m p v) s = .next ((w.disarmLoad p.val).cancelEngines p.val true)) ∧
    (fld 31 28 v = 3 → r = Role.free → exec (.roleSpare m p v) s = .next w) ∧
    (fld 31 28 v = 6 → (r = Role.free ∨ r = Role.spare) → exec (.roleRetired m p v) s = .next w) ∧
    (fld 31 28 v = 4 → r = Role.spare → hearthOf p.val = 0 → (b.pairsIn Role.supervisor).length < 2 →
      exec (.roleSupervisor m p v) s = .next (w.startSupervisor p.val (w.pair p.val).restart.programGates 0)) ∧
    (fld 31 28 v = 0 → (r = Role.free ∨ r = Role.supervisor ∨ r = Role.selftest ∨ r = Role.retired ∨
      (r = Role.session ∧ b.jobBit p.val = true)) → exec (.roleFree m p v) s = .next b) ∧
    (fld 31 28 v = 3 → r ≠ Role.free → exec (.roleSpare m p v) s = .next b) ∧
    (fld 31 28 v = 1 → r ≠ Role.free → r ≠ Role.spare → exec (.roleLoading m p v) s = .next b) ∧
    (fld 31 28 v = 6 → r ≠ Role.free → r ≠ Role.spare → exec (.roleRetired m p v) s = .next b) ∧
    (fld 31 28 v = 4 → (r ≠ Role.spare ∨ hearthOf p.val ≠ 0 ∨ 2 ≤ (b.pairsIn Role.supervisor).length) →
      exec (.roleSupervisor m p v) s = .next b)) ∧
  (∀ (s : State) (p : PairId),
    let h := hearthOf p.val
    (∀ (k : Fin 4) (pc : Word), s.role p.val ≠ Role.selftest → s.role p.val ≠ Role.retired →
      let a := if s.flag (Fld.HRT_MISM_VALID h) = true then s.setF (Fld.HRT_MISM_OVER h) 1
        else (s.setReg (Reg.HRT_MISM h) (setFld 31 31 1 (setFld 29 27 k.val (setFld 20 16 (indexOf p.val)
          (s.reg (Reg.HRT_MISM h)))))).setReg (Reg.HRT_MISM_PC h) pc
      let b := (((a.setRole p.val Role.selftest).mismatchJob p.val (s.isSupervisor p.val)).cancelEngines p.val true).flueStop p.val
      exec (.lockstepMismatch p k pc) s = .next ((((b.clearCopies p.val).dropAccesses p.val).updPair p.val (fun x => { x with
        dbPend0 := 0, dbPend1 := 0, dbMask0 := 0, dbMask1 := 0, deadline := none, imp := none, waiting := false
        haltReq := false, stepping := false, slot := { x.slot with armed := false } })).logEvent Src.pair 1 p.val pc (wd k.val) 0)) ∧
    (∀ (k : Fin 4) (pc : Word), (s.role p.val = Role.selftest ∨ s.role p.val = Role.retired) →
      exec (.lockstepMismatch p k pc) s = .next s) ∧
    (s.role p.val = Role.selftest →
      let past := (s.pair p.val).passes.filter (fun t => decide (s.beatNow < t + s.getF (Fld.HRT_RPOL_WINDOW h)))
      let limit := s.getF (Fld.HRT_RPOL_LIMIT h)
      ∃ t : State, t.pair p.val = { Pair.reset.programGates with passes := s.beatNow :: past } ∧ t.hmem = s.hmem ∧
        t.regs = (s.incF (Fld.HRT_PST_TRANSIENTS h (indexOf p.val))).regs ∧ (∀ q, q ≠ p.val → t.pair q = s.pair q) ∧
        ((limit = 0 ∨ past.length + 1 < limit) →
          exec (.selftestDone p true) s = .next ((t.setRole p.val Role.spare).logEvent Src.pair 2 p.val 0 0 0)) ∧
        (limit ≠ 0 → limit ≤ past.length + 1 →
          exec (.selftestDone p true) s = .next ((t.setRole p.val Role.retired).logEvent Src.pair 3 p.val 0 0 0))) ∧
    (s.role p.val = Role.selftest →
      exec (.selftestDone p false) s = .next ((s.setRole p.val Role.retired).logEvent Src.pair 3 p.val 0 0 0)) ∧
    (∀ ok, s.role p.val ≠ Role.selftest → exec (.selftestDone p ok) s = .next s))

/-- Step 2 of R125: the checkpoint of the session of job j written, where it has one. -/
def Sys2Proof.Machine.State.checkpointed (s : State) (p : Nat) (j : Job) : State :=
  match s.jobSession j with
  | some x => s.writeCheckpoint p x j.j.toNat j.attempt
  | none => s

/-- R49, R125, R157: the store of 0x0000_C3E1 to COMMIT by a pair with an armed job, before its deadline and outside a quarantine, from a session
region without uncorrectable words, writes the checkpoint, disarms the slot timer, clears PST.JOB and hands the job's set to the ledger under
J, once (R127): a set marked applied, or a job without updates, goes on to the release of its outputs. At or after A nothing is released and the job is abandoned; any other value, or no armed job, raises bus error at the register. -/
def Obligations.CommitTakesOnlyItsKeyFromAnArmedPair : Prop :=
  ∀ (s b : State) (p : PairId) (v : Word), s.Accesses p.val (Reg.HRT_COMMIT (hearthOf p.val)) .store b →
    let refused := b.raise p.val ⟨Cause.busError, wd (0x40000000 + Reg.HRT_COMMIT (hearthOf p.val))⟩
    (∀ j, b.armedJob p.val = some j → j.src ≠ .load → (∀ a, j.a = some a → b.beatNow < a) → b.quarantined = false →
      (∀ x, b.jobSession j = some x → b.regionFlawed p.val x = false) →
      let k := { j with phase := .committing, portsOff := j.ports.filter (fun n => !(b.checkpointed p.val j).portOn n) }
      let c := ((b.checkpointed p.val j).setJob j k).disarm p.val
      exec (.commit p 0xC3E1#32) s = .next (c.handSet p.val k) ∧ (c.pair p.val).slot.armed = false ∧ c.jobBit p.val = false ∧
        (c.pair p.val).g = (b.pair p.val).g ∧ (c.pair p.val).lmem = (b.pair p.val).lmem ∧ c.ledger = b.ledger ∧
        (j.updates ≠ [] → (c.ledger.applied.get (fun _ => (0, [])) p.val).1 ≠ j.j → c.proofFails j.updates = none →
          c.handSet p.val k = { c with ledger := { c.ledger with openSets := c.ledger.openSets ++ [⟨j.j, p.val, j.updates, []⟩] } }) ∧
        ((j.updates = [] ∨ (c.ledger.applied.get (fun _ => (0, [])) p.val).1 = j.j) → c.handSet p.val k = c.releaseJob k false)) ∧
    (∀ j a, b.armedJob p.val = some j → j.src ≠ .load → j.a = some a → a ≤ b.beatNow →
      exec (.commit p 0xC3E1#32) s = .next (b.abandonAtDeadline p.val j a)) ∧
    (∀ j, b.armedJob p.val = some j → v ≠ 0xC3E1#32 → exec (.commit p v) s = .next refused) ∧
    (b.armedJob p.val = none → exec (.commit p v) s = .next refused)

/-! ## Beat -/

/-- R36, R39: an edge on the pin of an enabled port 126 is measured. Of an unqualified source an edge one nominal period after the
edge before it, within 2 %, counts towards the 16 that qualify it, with the period between the last two; an edge elsewhere
starts the count again, and the first edge begins it. Of a qualified source an edge in one of the windows 1 to 4 after the last
good one restarts the count and gives the period, in use where the pin disciplines the generator; an edge outside them fails the
period before whose window it comes. With the port disabled an edge is ignored. A source without a good edge by the end of
window 4 is lost. R35, R38, R41: a Beat ends between 0.98 and 1.02 nominal periods after the one before it, in holdover exactly
the last measured period after it; COUNT goes up by one, modulo 2^48, and while no source can be trusted so does FREE_BEATS.
With no command waiting for a supervisor pair and no refresh in progress, memories, pairs and the ledger are as before. At
another time no Beat ends. -/
def Obligations.BeatSourcesAndTheCounter : Prop :=
  (∀ (s : State) (t e k : Nat),
    let m := s.beat.pin
    let d := 100 * (t - e) * s.nominal
    let window := fun k => 1 ≤ k ∧ k ≤ 4 ∧ (100 * k - 2) * xtalHz ≤ d ∧ d ≤ (100 * k + 2) * xtalHz
    let pin := fun (x : SourceMeas) => { s with beat := { s.beat with pin := x } }
    (s.portOn 126 = false → exec (.pinEdge t) s = .next s) ∧
    (s.portOn 126 = true → s.flag Fld.BEAT_STATUS_PIN_QUAL = false →
      (m.lastEdge = none → exec (.pinEdge t) s = .next (pin { m with lastEdge := some t, good := 0 })) ∧
      (m.lastEdge = some e → window 1 → m.good < 15 → exec (.pinEdge t) s = .next (pin { m with lastEdge := some t, good := m.good + 1 })) ∧
      (m.lastEdge = some e → window 1 → m.good = 15 → exec (.pinEdge t) s = .next
        (((pin { lastGood := some t, lastEdge := some t, failed := [], good := 16, period := t - e }).setF
          Fld.BEAT_STATUS_PIN_QUAL 1).reselect)) ∧
      (m.lastEdge = some e → ¬window 1 → exec (.pinEdge t) s = .next (pin { m with lastEdge := some t, good := 0 }))) ∧
    (s.portOn 126 = true → s.flag Fld.BEAT_STATUS_PIN_QUAL = true → m.lastGood = some e →
      (window k → k ∉ m.failed →
        let u := pin { m with lastGood := some t, lastEdge := some t, failed := [], period := (t - e) / k }
        exec (.pinEdge t) s = .next (if s.getF Fld.BEAT_STATUS_ACTIVE = 0
          then ({ u with beat := { u.beat with period := (t - e) / k } } : State).syncMeas else u)) ∧
      ((∀ k, ¬window k) → d < 402 * xtalHz → ∃ n, n ≤ 5 ∧ exec (.pinEdge t) s = .next
        (pin { m with lastEdge := some t, failed := n :: m.failed }))) ∧
    (∀ src, s.flag (qualOf src) = true → (s.measOf src).lastGood = some e → 402 * xtalHz ≤ d →
      exec (.sourceLost src t) s = .next ((((((s.setF (qualOf src) 0).setF Fld.BEAT_STATUS_LOSS 1).setMeas src {})).logEvent
        Src.beat 1 0 0 0 0).reselect true)) ∧
    (∀ src, (s.flag (qualOf src) = false ∨ (s.measOf src).lastGood = none ∨ ((s.measOf src).lastGood = some e ∧ d < 402 * xtalHz)) →
      exec (.sourceLost src t) s = .next s)) ∧
  (∀ (s : State) (t : Nat),
    (s.beatInRange t = true → s.intake = [] → s.refresh = none → ∃ u, exec (.beatTick t) s = .next u ∧ u.beat.count = s.beat.count + 1 ∧
      u.beat.lastT = t ∧ u.pairs = s.pairs ∧ u.hmem = s.hmem ∧ u.nvm = s.nvm ∧ u.ledger = s.ledger) ∧
    (s.beatInRange t = false → exec (.beatTick t) s = .next s) ∧
    ((t < s.beat.lastT ∨ 100 * (t - s.beat.lastT) * s.nominal < 98 * xtalHz ∨ 102 * xtalHz < 100 * (t - s.beat.lastT) * s.nominal) →
      s.beatInRange t = false) ∧
    (s.beat.lastT ≤ t → s.lengthOk s.beat.period = true → s.beat.holdover = true → s.beat.aligning = none →
      (s.beatInRange t = true ↔ t - s.beat.lastT = s.beat.period)))

/-- R40, R45: a write of NOMINAL within 1,000–100,000 while LOCK is clear sets HZ and recomputes CPB_MIN and MARGIN; any other is
ignored as a whole. -/
def Obligations.NominalRateRecomputesItsValues : Prop :=
  ∀ (s b : State) (m : Master) (v : Word), s.Masters m.val Reg.BEAT_NOMINAL b →
    let n := fld 16 0 v
    (b.flag Fld.BEAT_CTRL_LOCK = false → 1000 ≤ n → n ≤ 100000 →
      exec (.nominalWrite m v) s = .next (((b.setF Fld.BEAT_NOMINAL_HZ n).setF Fld.BEAT_CPB_MIN_CYCLES (470000000 * 98 / (100 * n))).setF
        Fld.BEAT_MARGIN_BEATS (max 20 ((920000 + 470000000 * 98 / (100 * n) - 1) / (470000000 * 98 / (100 * n)))))) ∧
    ((b.flag Fld.BEAT_CTRL_LOCK = true ∨ n < 1000 ∨ 100000 < n) → exec (.nominalWrite m v) s = .next b)

/-- R54: before EN a write sets LIMIT and then, with EN and a LIMIT other than 0, starts the count at zero; after EN it is ignored.
Each Beat counts one while EN is set. A kick with 0x0000_B3A7 restarts the count and any other value is ignored. A count that reaches LIMIT resets the device
with RSTCAUSE.WDOG. -/
def Obligations.WatchdogStartsKicksAndExpires : Prop :=
  (∀ (s b : State) (m : Master) (v : Word), s.Masters m.val Reg.BEAT_WDOG b →
    (b.flag Fld.BEAT_WDOG_EN = false → bit 31 v = true → fld 23 0 v ≠ 0 → exec (.wdogWrite m v) s = .next
      { (((b.setF Fld.BEAT_WDOG_LIMIT (fld 23 0 v)).setF Fld.BEAT_WDOG_EN 1)) with beat := { b.beat with wdogCount := 0 } }) ∧
    (b.flag Fld.BEAT_WDOG_EN = false → (bit 31 v = false ∨ fld 23 0 v = 0) →
      exec (.wdogWrite m v) s = .next (b.setF Fld.BEAT_WDOG_LIMIT (fld 23 0 v))) ∧
    (b.flag Fld.BEAT_WDOG_EN = true → exec (.wdogWrite m v) s = .next b)) ∧
  (∀ (s b : State) (m : Master) (v : Word), s.Masters m.val Reg.BEAT_WDOG_KICK b →
    exec (.wdogKick m 0xB3A7#32) s = .next { b with beat := { b.beat with wdogCount := 0 } } ∧
    (v ≠ 0xB3A7#32 → exec (.wdogKick m v) s = .next b)) ∧
  (∀ (s : State) (t : Nat), s.beatInRange t = true → s.flag Fld.BEAT_WDOG_EN = true → s.intake = [] → s.refresh = none →
    ∃ u : State, exec (.beatTick t) s = .next u ∧ u.beat.wdogCount = s.beat.wdogCount + 1) ∧
  (∀ s : State,
    (s.flag Fld.BEAT_WDOG_EN = true → s.getF Fld.BEAT_WDOG_LIMIT ≤ s.beat.wdogCount →
      exec .wdogExpire s = .next (s.deviceReset 0x8#32)) ∧
    ((s.flag Fld.BEAT_WDOG_EN = false ∨ s.beat.wdogCount < s.getF Fld.BEAT_WDOG_LIMIT) → exec .wdogExpire s = .next s))

/-! ## Units, memory, flues, arbiters -/

/-- R26, R28, R30: clearing ENABLE of a unit in service stops it accepting work, ends what it has queued, and reads drained at once
where nothing has started; setting ENABLE returns it to service and ends a drain; a drain in progress ends, with DRAINEV,
once the last started item has. -/
def Obligations.UnitsLeaveAndReturnToService : Prop :=
  (∀ (s b : State) (m : Master) (u : UnitId), s.Masters m.val (unitOff u) b →
    let kept := (b.drainSync u).setF ⟨unitOff u, 1, 1⟩ (fld 1 1 (b.reg (unitOff u)))
    let off := (((kept.setF ⟨unitOff u, 0, 0⟩ 0).setF ⟨unitOff u, 30, 30⟩ 1).armPort u false).flushUnit u
    (kept.enableTakes u true = true → exec (.unitEnable m u) s = .next
      (((kept.setF ⟨unitOff u, 0, 0⟩ 1).setF ⟨unitOff u, 30, 30⟩ 0).armPort u true)) ∧
    (kept.enableTakes u true = false → exec (.unitEnable m u) s = .next kept) ∧
    (kept.enableTakes u false = true → kept.unitOn u = true → exec (.unitDisable m u) s = .next (off.drainSync u)) ∧
    ((kept.enableTakes u false = false ∨ kept.unitOn u = false) → exec (.unitDisable m u) s = .next kept)) ∧
  (∀ (s : State) (u : UnitId),
    let due := s.unitOn u = false ∧ bit 30 (s.reg (unitOff u)) = true ∧ s.unitEmpty u = true
    (due → exec (.unitDrained u) s = .next ((s.setF ⟨unitOff u, 30, 30⟩ 0).setF ⟨unitOff u, 2, 2⟩ 1)) ∧
    (¬due → exec (.unitDrained u) s = .next s))

/-- R512, R513: a register write by a pair without the right raises bus error at the register, and one by a host link is dropped and
counted in its MALF_CNT; the block changes by nothing else. Said of the commands that go through the one check. R6, R8, R9: a
register that only holds what is written takes a permitted write field by field: HRT<n>.RPOL here, whose fields are RW; a read
of BEAT.COUNT_LO, by a pair or by a host link, copies bits [47:32] into the reader's hold, from which COUNT_HI is then read, and
a host link's returns the low word. -/
def Obligations.RegisterWritesAndReadsOfMasters : Prop :=
  (∀ (s b : State) (m : Master) (v : Word) (u : UnitId) (a : ArbId) (c : Fin 2048) (n : PortId) (r : Fin 16),
    let refused := fun o (e : Host.Outcome State Fault Refusal) =>
      (m.val < 512 → s.Accesses m.val o .store b → b.mayWrite m.val = false →
        e = .next (b.raise m.val ⟨Cause.busError, wd (0x40000000 + o)⟩)) ∧
      (m.val = 512 ∨ m.val = 513 → e = .next (s.incSat (Reg.HOST_MALF_CNT (m.val - 512))))
    refused Reg.BEAT_NOMINAL (exec (.nominalWrite m v) s) ∧ refused Reg.BEAT_WDOG (exec (.wdogWrite m v) s) ∧
    refused Reg.BEAT_WDOG_KICK (exec (.wdogKick m v) s) ∧ refused (unitOff u) (exec (.unitEnable m u) s) ∧
    refused (unitOff u) (exec (.unitDisable m u) s) ∧ refused (arbCfgOf a) (exec (.arbCfgWrite m a v) s) ∧
    refused (Reg.CHAN_W0 c.val) (exec (.channelWrite m c v) s) ∧ refused (pgWord n.val r.val) (exec (.pgRegionWrite m n r v) s) ∧
    refused (Reg.PG_PGCTL n.val) (exec (.pgApply m n v) s)) ∧
  ((∀ (s b : State) (m : Master) (h : HearthId) (v : Word), s.Masters m.val (Reg.HRT_RPOL h.val) b →
    exec (.registerWrite m (wd (0x40000000 + Reg.HRT_RPOL h.val)) v) s = .next (b.writeReg (Reg.HRT_RPOL h.val) v)) ∧
  (∀ (s b : State) (m : Master), m.val < 512 → s.Accesses m.val Reg.BEAT_COUNT_LO .load b →
    exec (.lowWordRead m (wd (0x40000000 + Reg.BEAT_COUNT_LO))) s = .next
      { b with holds := b.holds.set zeroWord (mkey m.val Reg.BEAT_COUNT_HI) (wd (b.beatNow / 2 ^ 32)) }) ∧
  (∀ (s : State) (l : Fin 2),
    let m := 512 + l.val
    exec (.lowWordRead (Fin.ofNat 1024 m) (wd (0x40000000 + Reg.BEAT_COUNT_LO))) s = .next
      (({ s with holds := s.holds.set zeroWord (mkey m Reg.BEAT_COUNT_HI) (wd (s.beatNow / 2 ^ 32)) } : State).emit
        (.hostData l.val (wd (s.beatNow % 2 ^ 32))))))

/-- R147, R148, R149: an MPU write from rings 0 and 1 stores BASE or, with SIZE within 5–32, ATTR into the written rule set, with PEND set, and
leaves the rules in force; with SIZE outside 5–32 it is ignored; where two enabled regions would overlap it raises MPU overlap with the region, and from rings 2 and 3 MPU store. -/
def Obligations.MpuWritesGoToTheWrittenRules : Prop :=
  ∀ (s : State) (p : PairId) (i : Fin 16) (v : Word), s.runs p.val = true →
    let b := s.drainStores p.val
    let base := (b.pair p.val).mpuW.set mpuReset (8 * i.val) (v &&& 0xFFFFFFE0#32)
    let attr := (b.pair p.val).mpuW.set mpuReset (8 * i.val + 4) (v &&& 0x80003FFF#32)
    let clash := fun (t : Table Word) => overlapsAny (ruleBase t) (ruleAttr t) 16 i.val
    let puts := fun (t : Table Word) => b.updPair p.val (fun x => { x with mpuW := t, mpuPend := true })
    ((s.pair p.val).ring ≤ 1 → clash base = false → exec (.mpuWrite p (Fin.ofNat 32 (2 * i.val)) v) s = .next (puts base)) ∧
    ((s.pair p.val).ring ≤ 1 → 5 ≤ fld 13 8 v → fld 13 8 v ≤ 32 → clash attr = false →
      exec (.mpuWrite p (Fin.ofNat 32 (2 * i.val + 1)) v) s = .next (puts attr)) ∧
    ((s.pair p.val).ring ≤ 1 → 5 ≤ fld 13 8 v → fld 13 8 v ≤ 32 → clash attr = true →
      exec (.mpuWrite p (Fin.ofNat 32 (2 * i.val + 1)) v) s = .next (b.raiseAt p.val ⟨Cause.mpuOverlap, wd i.val⟩)) ∧
    ((s.pair p.val).ring ≤ 1 → clash base = true →
      exec (.mpuWrite p (Fin.ofNat 32 (2 * i.val)) v) s = .next (b.raiseAt p.val ⟨Cause.mpuOverlap, wd i.val⟩)) ∧
    ((s.pair p.val).ring ≤ 1 → (fld 13 8 v < 5 ∨ 32 < fld 13 8 v) → exec (.mpuWrite p (Fin.ofNat 32 (2 * i.val + 1)) v) s = .next b) ∧
    (∀ r : Fin 32, 2 ≤ (s.pair p.val).ring →
      exec (.mpuWrite p r v) s = .next (s.raiseAt p.val ⟨Cause.mpuStore, wd (0x10000 + 4 * r.val)⟩))

/-- R155: a region word of a port guard is written unless SIZE is outside 5–32 or two enabled regions would overlap, when OVL sets;
PG_APPLY with APPLY = 1 brings the written regions into force. R153, R157, R178: a burst that an enabled region of the guard in
force permits, within hearth memory and outside the checkpoint areas, is granted its banks as fabric inbound, moves its bytes
and is counted; one that reads an uncorrectable word moves nothing; any other moves nothing, and its address, direction and
length are recorded. Where nobody uses or waits for a bank, its grants change no memory. -/
def Obligations.PortGuardsCheckBursts : Prop :=
  (∀ (s b : State) (m : Master) (n : PortId) (i : Fin 8) (v : Word),
    let at_ := Reg.PG_UCTL n.val + 0x20 + 8 * i.val
    let base := b.setReg at_ (v &&& 0xFFFFFFE0#32)
    let attr := b.setReg (at_ + 4) (v &&& 0x80003F03#32)
    let clash := fun (t : State) => overlapsAny (t.pgBase n.val) (t.pgAttr n.val) 8 i.val
    let even : Fin 16 := Fin.ofNat 16 (2 * i.val)
    let odd : Fin 16 := Fin.ofNat 16 (2 * i.val + 1)
    let ovl := b.setF (Fld.PG_PGSTAT_OVL n.val) 1
    (s.Masters m.val at_ b →
      (clash base = false → exec (.pgRegionWrite m n even v) s = .next base) ∧
      (clash base = true → exec (.pgRegionWrite m n even v) s = .next ovl)) ∧
    (s.Masters m.val (at_ + 4) b →
      (5 ≤ fld 13 8 v → fld 13 8 v ≤ 32 → clash attr = false → exec (.pgRegionWrite m n odd v) s = .next attr) ∧
      (5 ≤ fld 13 8 v → fld 13 8 v ≤ 32 → clash attr = true → exec (.pgRegionWrite m n odd v) s = .next ovl) ∧
      ((fld 13 8 v < 5 ∨ 32 < fld 13 8 v) → exec (.pgRegionWrite m n odd v) s = .next b)) ∧
    (s.Masters m.val (Reg.PG_PGCTL n.val) b →
      (bit 0 v = true → exec (.pgApply m n v) s = .next { b with guards := b.guards.set (fun _ => []) n.val (b.pgWritten n.val) }) ∧
      (bit 0 v = false → exec (.pgApply m n v) s = .next b))) ∧
  (∀ (s : State) (n : PortId) (wr : Bool) (a : Nat) (data : List Byte), data ≠ [] → data.length ≤ 256 →
    let g := s.useBanks 37 (a - 0x80000000) data.length
    (s.pgPermits n.val a data.length wr = true → (wr = true ∨ s.hflawed (a - 0x80000000) data.length = false) →
      ∃ t, exec (.portBurst n wr a data) s = .next t ∧ t.pairs = g.pairs ∧ t.nvm = g.nvm ∧
        t.hmem = (if wr then g.hmem.setBytes zeroByte (a - 0x80000000) data else g.hmem) ∧
        t.reg (Reg.PG_XFER_CNT n.val) = g.reg (Reg.PG_XFER_CNT n.val) + 1#32) ∧
    (s.pgPermits n.val a data.length false = true → s.hflawed (a - 0x80000000) data.length = true →
      exec (.portBurst n false a data) s = .next g) ∧
    (s.pgPermits n.val a data.length wr = false →
      exec (.portBurst n wr a data) s = .next (((s.setReg (Reg.PG_FAULT_ADDR n.val) (wd a)).setReg (Reg.PG_FAULT_INFO n.val)
        (wd (2 ^ 31 + 2 ^ 9 * b2n wr + data.length % 512))).incSat (Reg.PG_REFUSE_CNT n.val))) ∧
    ((∀ h b, (s.bankArbOf h b).inUse = none ∧ (s.bankArbOf h b).waiting = []) → g.hmem = s.hmem ∧ g.pairs = s.pairs ∧ g.nvm = s.nvm))

/-- R160–R163, R299: the next due line of a bank that nobody claims is read, and where all its words verify memory is left alone; the last line of
a pass counts the pass and begins the next; a queued corrected word leaves the queue in a free cycle; a
pass unfinished after 6,000,000 Beats sets the overrun flag once. -/
def Obligations.ScrubReadsDueLines : Prop :=
  ∀ (s : State) (u : Fin 17) (b : Fin 16) (co un : BitVec 8) (a : Nat),
    let x := s.scrubUnit u.val
    let i := x.lines b.val
    let o := b.val * 0x40000 + i * 32
    let y : ScrubUnit := { x with pos := x.pos.set (fun _ => 0) b.val (i + 1) }
    let r := if u.val ≠ 16 ∧ b.val = 0 then s.setReg (Reg.HRT_SCRUB_POS u.val) (wd o) else s
    let free := x.passStart ≤ s.beatNow ∧ i < x.due s.beatNow ∧ s.bankBusy u.val b.val = false
    let clean := ∀ k : Fin 8, lineCheck co un k = .clean ∧ (u.val = 16 ∨ s.hasFlaw ((u.val * 0x400000 + (o + 4 * k.val)) / 4) = false)
    (free → clean → y.done = false → exec (.scrubLine u b co un) s = .next (r.setScrub u.val y)) ∧
    (free → clean → y.done = true → exec (.scrubLine u b co un) s = .next
      ((r.setScrub u.val { y with pos := [], overran := false, passStart := max s.beatNow (x.passStart + 6000000) }).setF
        ⟨scrubReg u.val, 23, 0⟩ (min 0xFFFFFF (fld 23 0 (r.reg (scrubReg u.val)) + 1)))) ∧
    (¬free → exec (.scrubLine u b co un) s = .next s) ∧
    (s.bankBusy u.val (a / 0x40000) = false →
      exec (.scrubWriteback u a) s = .next (s.setScrub u.val { x with writeBack := x.writeBack.erase a })) ∧
    (s.bankBusy u.val (a / 0x40000) = true → exec (.scrubWriteback u a) s = .next s) ∧
    (x.passStart + 6000000 ≤ s.beatNow → x.done = false → x.overran = false →
      exec (.scrubOverrun u) s = .next (((s.setScrub u.val { x with overran := true }).setF ⟨scrubReg u.val, 31, 31⟩ 1).logEvent
        Src.memory 2 u.val 0 0 0)) ∧
    ((s.beatNow < x.passStart + 6000000 ∨ x.done = true ∨ x.overran = true) → exec (.scrubOverrun u) s = .next s)

/-- R166–R170: while EN = 1 the bound sender's stores fill an empty slot, its store to word 7 delivers it (FULL, SEQ + 1, the
doorbell), and a full slot raises flue full; the receiver's store to word 7 frees a full slot and zeroes it; a pair that is
neither raises bus error. A whole message of another master is delivered by the same rule, or refused as a whole. R167: a write
of a channel's binding, before the lock and with sender and receiver that differ, sets EN, RECV and SEND, clears FULL, zeroes
the slot and sets SEQ to 0; with EN = 1 and SEND = RECV or SEND = 1,023, and after the lock, it is ignored. -/
def Obligations.FluesCarryMessagesOfTheirEnds : Prop :=
  ((∀ (s b : State) (p : PairId) (c : Fin 2048) (i : Fin 7) (v : Word), s.Accesses p.val (slotOff c.val i.val) .store b →
    let sends := b.flueEnabled c.val = true ∧ b.isSender c.val p.val = true
    let a := wd (0x40000000 + (0x20000 + 32 * c.val + 4 * i.val))
    (sends → b.flueIsFull c.val = false → exec (.flueStore p c i v) s = .next (b.setReg (0x20000 + 32 * c.val + 4 * i.val) v)) ∧
    (sends → b.flueIsFull c.val = true →
      exec (.flueStore p c i v) s = .next ((b.flueRefuse c.val p.val true true).raise p.val ⟨Cause.flueFull, a⟩)) ∧
    ((b.flueEnabled c.val = false ∨ b.isSender c.val p.val = false) →
      exec (.flueStore p c i v) s = .next ((b.flueRefuse c.val p.val false true).raise p.val ⟨Cause.busError, a⟩))) ∧
  (∀ (s b : State) (p : PairId) (c : Fin 2048) (v : Word), s.Accesses p.val (slotOff c.val 7) .store b →
    let full := b.flueIsFull c.val
    let sends := b.flueEnabled c.val = true ∧ b.isSender c.val p.val = true
    let receives := b.flueEnabled c.val = true ∧ b.isSender c.val p.val = false ∧ b.isReceiver c.val p.val = true
    let a := wd (0x40000000 + (0x20000 + 32 * c.val + 28))
    ((s.isReceiver c.val p.val && s.flueEnabled c.val) = false →
      (sends → full = false → exec (.flueDeliver p c v) s = .next ((b.setReg (0x20000 + 32 * c.val + 28) v).deliver c.val)) ∧
      (sends → full = true → exec (.flueDeliver p c v) s = .next ((b.flueRefuse c.val p.val true true).raise p.val ⟨Cause.flueFull, a⟩)) ∧
      ((b.flueEnabled c.val = false ∨ (b.isSender c.val p.val = false ∧ b.isReceiver c.val p.val = false)) →
        exec (.flueDeliver p c v) s = .next ((b.flueRefuse c.val p.val false true).raise p.val ⟨Cause.busError, a⟩))) ∧
    ((s.isSender c.val p.val && s.flueEnabled c.val) = false →
      (receives → full = true → exec (.flueRelease p c v) s = .next ((b.setF (Fld.CHAN_W0_FULL c.val) 0).zeroSlot c.val)) ∧
      (receives → full = false → exec (.flueRelease p c v) s = .next b))) ∧
  (∀ (s : State) (m : Master) (c : Fin 2048) (ws : List Word), 512 ≤ m.val → ws.length = 8 →
    let sends := s.flueEnabled c.val = true ∧ s.isSender c.val m.val = true
    (sends → s.flueIsFull c.val = false → exec (.flueFabricWrite m c ws) s = .next
      (((List.range 8).foldl (fun s i => s.setReg (0x20000 + 32 * c.val + 4 * i) (ws.getD i 0)) s).deliver c.val)) ∧
    (sends → s.flueIsFull c.val = true → exec (.flueFabricWrite m c ws) s = .next (s.flueRefuse c.val m.val true true)) ∧
    (¬sends → exec (.flueFabricWrite m c ws) s = .next (s.flueRefuse c.val m.val false true)))) ∧
  (∀ (s b : State) (m : Master) (c : Fin 2048) (v : Word), s.Masters m.val (Reg.CHAN_W0 c.val) b →
    (b.flag Fld.FLUE_CTRL_LOCK = false → (bit 31 v = false ∨ (fld 9 0 v ≠ fld 25 16 v ∧ fld 9 0 v ≠ 1023)) →
      exec (.channelWrite m c v) s = .next (((b.setReg (Reg.CHAN_W0 c.val)
        (wd (2 ^ 31 * b2n (bit 31 v) + 2 ^ 16 * fld 25 16 v + fld 9 0 v))).zeroSlot c.val).setF (Fld.CHAN_W1_SEQ c.val) 0)) ∧
    ((b.flag Fld.FLUE_CTRL_LOCK = true ∨ (bit 31 v = true ∧ (fld 9 0 v = fld 25 16 v ∨ fld 9 0 v = 1023))) →
      exec (.channelWrite m c v) s = .next b))

/-- R180: on the main path the requester granted has the highest rank of the waiting ones, and among those of its rank comes first
after the one granted last, counting upward and wrapping. -/
def Obligations.MainPathIsRoundRobinWithinTheTopRank : Prop :=
  ∀ (x : Arbiter) (cfg : Word) (w : Waiter), x.mainPick cfg = some w →
    w ∈ x.waiting ∧ (∀ v ∈ x.waiting, rankOf cfg v.cls ≤ rankOf cfg w.cls) ∧
    (∀ v ∈ x.waiting, rankOf cfg v.cls = rankOf cfg w.cls → turnAfter x.last w.idx ≤ turnAfter x.last v.idx)

/-- R178–R182, R184: at a bank or the NVM controller the use in progress ends and one waiting request is granted: the resource is in
use by it, and the other requests have waited through one grant more. The end of a use reads the line that a pair's read waits
for; an emergency use ends without more. At a public-key engine in service with no job in progress the granted requester's job
starts, and one in progress goes on; an engine out of service ends its waiting requests. R185, R188: an emergency use of the NVM
controller by a refresh, or of a bank or the NVM controller by a debug port with a halt right, is granted at once and takes back
the grant in use, whose requester keeps its turn, and REVOKED records it; nobody else has emergency use, and the engines know
none. An ARB_CFG write with FB_N outside 4–64 is ignored as a whole, and another is stored; one that sets FB_EN begins to count
the grants (R181). -/
def Obligations.ArbitersGrantAndAreRevoked : Prop :=
  ((∀ (s : State) (a : ArbId), (∀ h, a ≠ .pke h) →
    let x := s.arb a
    let cfg := s.reg (arbCfgOf a)
    let idle := s.setArb a { x with inUse := none, emergency := false }
    exec (.arbGrant a) s = .next ((s.finishUse a).grant a) ∧
    (∀ w, x.inUse = none → x.pick cfg = some w → (x.granted w (fbEn cfg)).starving cfg = [] →
      ∃ t : State, exec (.arbGrant a) s = .next t ∧ (t.arb a).inUse = some w.idx ∧ (t.arb a).last = w.idx ∧
        (t.arb a).waiting.map (·.idx) = (x.waiting.eraseP (fun v => v.idx == w.idx)).map (·.idx) ∧
        (t.arb a).waiting.map (·.waited) = (x.waiting.eraseP (fun v => v.idx == w.idx)).map (·.waited + 1) ∧
        t.hmem = s.hmem ∧ t.pairs = s.pairs ∧ t.nvm = s.nvm) ∧
    (x.inUse.isSome = true → x.emergency = true → s.finishUse a = idle) ∧
    (∀ h b k r, a = .bank h b → x.inUse = some k → k < 32 → x.emergency = false → r ∈ s.reads → r.pair = 32 * h.val + k → r.data = none →
      spaceOf r.line = .hearth → hearthBank r.line = b.val →
      s.finishUse a = (idle.latchRead (32 * h.val + k)).askStores (32 * h.val + k)) ∧
    (∀ k r, a = .nvm → x.inUse = some k → k < 16 → x.emergency = false → s.portHead k = some r →
      s.finishUse a = (idle.latchRead r.pair).presentPort k)) ∧
  (∀ (s : State) (h : HearthId),
    let t := s.grant (.pke h)
    (s.pkeClosed h.val = false → (s.pkeArbOf h.val).inUse = none →
      (∀ i, (t.pkeArbOf h.val).inUse = some i → exec (.arbGrant (.pke h)) s = .next (t.pkeStart h.val i)) ∧
      ((t.pkeArbOf h.val).inUse = none → exec (.arbGrant (.pke h)) s = .next t)) ∧
    (s.pkeClosed h.val = false → (s.pkeArbOf h.val).inUse.isSome = true → exec (.arbGrant (.pke h)) s = .next s) ∧
    (s.pkeClosed h.val = true → (s.pkeOf h.val).run = none → exec (.arbGrant (.pke h)) s = .next (s.flushPke h.val)) ∧
    (s.pkeClosed h.val = true → (s.pkeOf h.val).run.isSome = true → exec (.arbGrant (.pke h)) s = .next s))) ∧
  ((∀ (s : State) (a : ArbId) (r : EmergencyUser),
    let x := s.arb a
    let may := (a = .nvm ∧ r = .nvmRefresh ∧ s.refresh.isSome = true) ∨
      ((a = .nvm ∨ ∃ h b, a = .bank h b) ∧ r = .debugHalt ∧ s.haltRight = true)
    (may → x.emergency = false →
      ∃ t : State, exec (.emergencyGrant a r) s = .next t ∧ (t.arb a).inUse = some 63 ∧ (t.arb a).emergency = true ∧
      (t.arb a).revoked = x.inUse.or x.revoked ∧ (t.arb a).waiting.map (·.idx) = x.inUse.toList ++ x.waiting.map (·.idx) ∧
      (t.arb a).waiting.map (·.waited) = x.inUse.toList.map (fun _ => 0) ++ x.waiting.map (·.waited + 1) ∧
      (x.inUse.isSome = true → bit 29 (t.reg (arbStatOf a)) = true) ∧ t.hmem = s.hmem ∧ t.pairs = s.pairs ∧ t.nvm = s.nvm) ∧
    (¬may → exec (.emergencyGrant a r) s = .next s)) ∧
  (∀ (s b : State) (m : Master) (a : ArbId) (v : Word), s.Masters m.val (arbCfgOf a) b →
    let t := b.setReg (arbCfgOf a) (v &&& 0xFFFFF0FF#32)
    ((fld 30 24 v < 4 ∨ 64 < fld 30 24 v) → exec (.arbCfgWrite m a v) s = .next b) ∧
    (4 ≤ fld 30 24 v → fld 30 24 v ≤ 64 → bit 31 (b.reg (arbCfgOf a)) = true → exec (.arbCfgWrite m a v) s = .next t) ∧
    (4 ≤ fld 30 24 v → fld 30 24 v ≤ 64 → bit 31 (b.reg (arbCfgOf a)) = false →
      ((a = .nvm ∨ ∃ h, a = .pke h) → exec (.arbCfgWrite m a v) s = .next (t.setArb a { t.arb a with fallback := 0 })) ∧
      (∀ h k, a = .bank h k → exec (.arbCfgWrite m a v) s = .next
        ((List.range 16).foldl (fun s b => s.setBankArb h.val b { s.bankArbOf h.val b with fallback := 0 }) t)))))

/-! ## Host links -/

/-- R195, R196: a doorbell of a queue that exists stores an index below the ring size and leaves all else; a larger one sets QERR
with reason 1 or 4 and stores nothing; a doorbell of a queue that does not exist is ignored. R195, R198, R200, R202: a complete
command at the head of a queue in service, in the queue's turn, is taken: the head moves past its entries, NEXT_SEQ follows its
SEQ, and the command joins those taken; one whose header fails a check gets a reply with STATUS and SUB and no job, and one that
passes is posted to the dispatcher. One above 4,064 bytes, or larger than its ring, puts the queue into its error state and ends
with SUB 3 (reason 2 first: log 92). An incomplete one waits, and the turn passes on. R43, R46: W is ceil(C / CPB_MIN) Beats; a
job with D ≠ 0 is admitted exactly where t + 2W + MARGIN ≤ A, with A = T_arr + D; one with D = 0 always is. -/
def Obligations.HostQueuesTakeAndAdmitCommands : Prop :=
  (∀ (s : State) (l : Fin 2) (q : Fin 64) (v : Word),
    let k := qkey l.val q.val
    let x := s.hostQueue l.val q.val
    (s.queueExists l.val q.val = true → fld 11 0 v < 2 ^ x.sqLog →
      exec (.sqTailWrite l q v) s = .next (s.setF (Fld.HOST_SQ_TAIL_TAIL k) (fld 11 0 v))) ∧
    (s.queueExists l.val q.val = true → 2 ^ x.sqLog ≤ fld 11 0 v →
      exec (.sqTailWrite l q v) s = .next ((s.setF (Fld.HOST_QERR_VALID k) 1).setF (Fld.HOST_QERR_REASON k) 1)) ∧
    (s.queueExists l.val q.val = true → fld 11 0 v < 2 ^ x.cqLog →
      exec (.cqHeadWrite l q v) s = .next (s.setF (Fld.HOST_CQ_HEAD_HEAD k) (fld 11 0 v))) ∧
    (s.queueExists l.val q.val = true → 2 ^ x.cqLog ≤ fld 11 0 v →
      exec (.cqHeadWrite l q v) s = .next ((s.setF (Fld.HOST_QERR_VALID k) 1).setF (Fld.HOST_QERR_REASON k) 4)) ∧
    (s.queueExists l.val q.val = false → exec (.sqTailWrite l q v) s = .next s ∧ exec (.cqHeadWrite l q v) s = .next s)) ∧
  (∀ (s : State) (l : Fin 2) (q : Fin 64) (h : List Word) (ps : List Byte) (adm : Admission),
    let k := qkey l.val q.val
    let n := 1 + ceilDiv (hdrLen h) 32
    let src := Stream.queue l q
    let b := { s with hostTurn := s.hostTurn.set (fun _ => 63) l.val q.val }
    let priv := b.flag (Fld.HOST_QSTAT_PRIV k)
    let check := b.headerCheck h ps 4064 q.val (b.getF (Fld.HOST_QERR_NEXT_SEQ k)) src
      (priv || cmdTenant h == b.getF (Fld.HOST_QSTAT_TENANT k)) (fun o => !o.admin || priv)
    let t := (b.consume l.val q.val n h).takeCommand src h
    let tooBig := fun reason => ((((((b.consume l.val q.val 1 h).setF (Fld.HOST_QERR_VALID k) 1).setF (Fld.HOST_QERR_REASON k) reason).setF
      (Fld.HOST_QSTAT_ERR k) 1).syncQerr l.val).takeCommand src h).refuseCommand src (hdrTag h) St.param 3
    let size := 2 ^ (s.hostQueue l.val q.val).sqLog
    let may := s.mayTake l.val q.val = true ∧ s.hasTurn l.val q.val = true ∧ s.available l.val q.val ≠ 0 ∧ h.length = 8
    (may → hdrLen h ≤ 4064 → n ≤ size - 1 → n ≤ s.available l.val q.val → ps.length = hdrLen h →
      (∀ st sub, check = some (st, sub) → exec (.commandTake l q h ps adm) s = .next (t.refuseCommand src (hdrTag h) st sub)) ∧
      (check = none → exec (.commandTake l q h ps adm) s = .next (t.postCommand l.val src h ps adm))) ∧
    (may → 4064 < hdrLen h → exec (.commandTake l q h ps adm) s = .next (tooBig 2)) ∧
    (may → hdrLen h ≤ 4064 → size - 1 < n → exec (.commandTake l q h ps adm) s = .next (tooBig 3)) ∧
    (may → hdrLen h ≤ 4064 → n ≤ size - 1 → (s.available l.val q.val < n ∨ ps.length ≠ hdrLen h) →
      exec (.commandTake l q h ps adm) s = .next b) ∧
    (¬may → exec (.commandTake l q h ps adm) s = .next s)) ∧
  (∀ (s : State) (c w d tArr : Nat),
    let cpb := s.getF Fld.BEAT_CPB_MIN_CYCLES
    (cpb ≠ 0 → s.worstCase c 0 = (c + cpb - 1) / cpb) ∧ s.admits w 0 tArr = true ∧
    (d ≠ 0 → (s.admits w d tArr = true ↔ s.beatNow + 2 * w + s.getF Fld.BEAT_MARGIN_BEATS ≤ tArr + d)))

/-- R196, R208, R210: the reply of a command leaves for its stream in turn; one whose stream has ended is discarded and counted; one
that must wait, and a command without a reply, change nothing. R190, R191, R202, R210, R217: AQ_CTL with EN = 1 starts the admin
queue from its ring registers; EN = 0 ends it and what it has taken; the loss of a link ends every queue of it, clears LINK_UP
and EN, sets RETRAIN, and is logged and signalled on vector 64; training sets LINK_UP with speed and width; a malformed write is
counted, and a malformed read changes nothing; one that fails the end-to-end CRC, where it is checked, is counted as such (log
93). -/
def Obligations.RepliesAndLinkEvents : Prop :=
  (∀ (s : State) (src : Stream) (tag : Nat) (t : Taken) (r : Reply),
    s.taken.find? (fun t => t.src == src && t.tag == tag && t.reply.isSome) = some t → t.reply = some r →
    (t.lost = false → s.replyWaits t = false → exec (.replyWrite src tag) s = .next (s.sendReply t r)) ∧
    (t.lost = false → s.replyWaits t = true → exec (.replyWrite src tag) s = .next s) ∧
    (t.lost = true → exec (.replyWrite src tag) s = .next ((s.discardReply t).replyDone t)) ∧
    (∀ g : Nat, s.taken.all (fun t => !(t.src == src && t.tag == g && t.reply.isSome)) = true → g ≠ tag →
      exec (.replyWrite src g) s = .next s)) ∧
  (∀ (s : State) (l : Fin 2) (v : Word),
    let was := s.flag (Fld.HOST_AQ_CTL_EN l.val)
    let w := s.writeReg (Reg.HOST_AQ_CTL l.val) v
    let vec := w.getF (Fld.HOST_AQ_CTL_VEC l.val)
    let sq := w.aqRing (Reg.HOST_AQ_SQ_LO l.val) (Reg.HOST_AQ_SQ_HI l.val)
    let cq := w.aqRing (Reg.HOST_AQ_CQ_LO l.val) (Reg.HOST_AQ_CQ_HI l.val)
    let ended := (List.range 64).foldl (fun s q =>
      let t := s.abandonStream (.queue l (Fin.ofNat 64 q))
      if t.queueExists l.val q then t.endQueue l.val q else t) s
    (bit 31 v = true → was = false → exec (.aqEnable l v) s = .next (w.startQueue l.val 0
      { sqBase := sq.1, sqLog := sq.2, cqBase := cq.1, cqLog := cq.2, vec := vec } true 0)) ∧
    (bit 31 v = true → was = true → exec (.aqEnable l v) s = .next (w.setHostQueue l.val 0 { w.hostQueue l.val 0 with vec := vec })) ∧
    (bit 31 v = false → was = true → exec (.aqDisable l v) s = .next ((w.abandonStream (.queue l 0)).endQueue l.val 0)) ∧
    (bit 31 v = false → was = false → exec (.aqDisable l v) s = .next w) ∧
    exec (.linkLoss l) s = .next (((((((ended.setF (Fld.HOST_AQ_CTL_EN l.val) 0).setF (Fld.HOST_LSTAT_RETRAIN l.val) 1).setF
      (Fld.HOST_LSTAT_LINK_UP l.val) 0).setF (Fld.HOST_LSTAT_SPEED l.val) 0).setF (Fld.HOST_LSTAT_WIDTH l.val) 0).logEvent
        Src.host 1 l.val 0 0 0).emit (.msix l.val 64)) ∧
    exec (.bar0Malformed l ⟨true, true⟩) s = .next (s.incSat (Reg.HOST_MALF_CNT l.val)) ∧
    exec (.bar0Malformed l ⟨false, true⟩) s = .next s ∧
    (∀ wr, s.flag (Fld.HOST_LCTL_ECRC l.val) = true → exec (.bar0Malformed l ⟨wr, false⟩) s = .next (s.incSat (Reg.HOST_ECRC_CNT l.val))) ∧
    (∀ (g : Fin 4) (n : Fin 3), g.val ≠ 0 → n.val ≠ 0 → exec (.hostLinkUp l g n) s = .next
      (((s.setF (Fld.HOST_LSTAT_LINK_UP l.val) 1).setF (Fld.HOST_LSTAT_SPEED l.val) g.val).setF (Fld.HOST_LSTAT_WIDTH l.val) n.val)))

/-! ## Bodies of host commands -/

/-- The body of a host command with opcode `op` runs: job j is armed on pair p, comes from a host, a head or a basket link, has no reply
staged yet, and its pair runs. -/
structure Sys2Proof.Machine.State.Serves (s : State) (p op : Nat) (j : Job) : Prop where
  armed : s.armedJob p = some j
  isIt : j.opcode = op
  notLoad : j.src ≠ .load
  unstaged : j.reply = none
  runs : s.runs p = true

/-- From state t, the OK reply of a body begun in s staged for the job armed on p: data, and what goes to the host buffer, placed in the
dispatcher's buffer where it is in hearth memory. It carries DEGRADED where an entry named is an ORPHAN (R459). -/
def Sys2Proof.Machine.State.answers (s t : State) (p : Nat) (named : List Nat) (data : List Byte)
    (out : List (Nat × List Byte) := []) (buf : Nat := 0) : State :=
  (t.placeOutput buf out).updArmed p (fun k => { k with reply := some ⟨St.ok, 0, data, out, s.anyOrphan named, false, 0, 0, k.buf⟩ })

/-- The data of a host buffer of `len` bytes reach the body of job j in the state t (R204): its command came by a link that is up, host
memory holds `bs`, and the link's guard passes the bursts that move them behind the parameters in the dispatcher's buffer (log 46). -/
def Sys2Proof.Machine.State.Moves (s : State) (j : Job) (len : Nat) (bs : List Byte) (t : State) : Prop :=
  ∃ l, j.link = some l ∧ s.flag (Fld.HOST_LSTAT_LINK_UP l) = true ∧ bs.length = len ∧
    State.portWrite (ceilDiv len 256) s l (j.buf + 4096) bs = (t, true)

/-- From state t, the job j of a body begun in s ended with a status and SUB: nothing it staged commits. -/
def Sys2Proof.Machine.State.declines (s t : State) (p : Nat) (j : Job) (named : List Nat) (st sub : Nat) : State :=
  t.endJobWith ((t.armedJob p).getD j) { mkReply st sub with degraded := s.anyOrphan named }

/-- R212, R214, R215, R519: what the commands of family 1 reply with and leave to be done at their commit, under the parameter checks
that each makes; a value outside its set ends the job with REFUSED_PARAM, SUB 8. -/
def Obligations.AdministrationCommandsReply : Prop :=
  ∀ (s : State) (p : PairId) (j : Job),
    let a := j.arg
    let ok := fun t data => s.answers t p.val [] data
    let bad := s.declines s p.val j [] St.param 8
    (s.Serves p.val 0x100 j → exec (.nop p) s = .next (ok s [])) ∧
    (s.Serves p.val 0x101 j → exec (.devInfo p) s = .next (ok s (wordBytes (s.reg Reg.SYS_ID) ++ wordBytes (s.reg Reg.SYS_CAP0) ++
      wordBytes (s.reg Reg.SYS_CAP1) ++ deviceUid ++ leBytes 1 s.lcState ++ zeros 3 ++ leBytes 4 s.boots))) ∧
    (∀ l q, s.Serves p.val 0x102 j → j.link = some l → queueOf j = some q → s.queueExists l (a 0 1) = false →
      exec (.queueCreate p) s = .next (ok (s.addEffect p.val (.createQueue l (a 0 1) q (a 1 1 == 1) (a 2 1))) [])) ∧
    (∀ l, s.Serves p.val 0x102 j → j.link = some l → s.queueExists l (a 0 1) = true → exec (.queueCreate p) s = .next bad) ∧
    (s.Serves p.val 0x102 j → (a 0 1 = 0 ∨ 63 < a 0 1) → exec (.queueCreate p) s = .next bad) ∧
    (∀ l, s.Serves p.val 0x103 j → j.link = some l → 1 ≤ a 0 1 → a 0 1 ≤ 63 → a 1 3 = 0 → s.queueExists l (a 0 1) = true →
      (s.hostQueue l (a 0 1)).deleting = none →
      exec (.queueDelete p) s = .next (ok (s.addEffect p.val (.deleteQueue l (a 0 1))) [])) ∧
    (∀ l, s.Serves p.val 0x103 j → j.link = some l → s.queueExists l (a 0 1) = false → exec (.queueDelete p) s = .next bad) ∧
    (∀ u, s.Serves p.val 0x104 j → a 2 1 ≤ 1 → a 3 1 = 0 →
      ((∃ h, a 0 1 = 0 ∧ a 1 1 = h.val ∧ u = UnitId.hearth h) ∨ (∃ h, a 0 1 = 1 ∧ a 1 1 = h.val ∧ u = UnitId.pke h) ∨
        (∃ i, a 0 1 = 2 ∧ a 1 1 = i.val ∧ u = UnitId.sym i)) →
      let t := s.uctlStore u ((s.reg (unitOff u) &&& 2#32) ||| wd (a 2 1))
      exec (.unitCtl p) s = .next (ok t (wordBytes (t.uctlRead u)))) ∧
    (s.Serves p.val 0x104 j → 2 < a 0 1 → exec (.unitCtl p) s = .next bad) ∧
    (s.Serves p.val 0x105 j → a 1 3 = 0 → wd (a 4 4) &&& 0xFFFFFC01#32 = 0#32 →
      exec (.tenantPolicy p) s = .next (ok (s.addEffect p.val (.policy (a 0 1) ⟨wd (a 4 4), a 8 4⟩)) [])) ∧
    (s.Serves p.val 0x105 j → wd (a 4 4) &&& 0xFFFFFC01#32 ≠ 0#32 → exec (.tenantPolicy p) s = .next bad) ∧
    (s.Serves p.val 0x106 j → a 0 4 = 0x5A17 → exec (.softReset p) s = .next (ok (s.addEffect p.val .softReset) [])) ∧
    (s.Serves p.val 0x106 j → a 0 4 ≠ 0x5A17 → exec (.softReset p) s = .next bad) ∧
    (s.Serves p.val 0x107 j → exec (.beatRead p) s = .next (ok s (leBytes 8 s.beatNow ++ wordBytes (s.reg Reg.BEAT_BASKET_OFS_LO) ++
      wordBytes (s.reg Reg.BEAT_BASKET_OFS_HI) ++ wordBytes (s.reg Reg.BEAT_STATUS))))

/-- R117–R119, R204, R429, R519: images are stored and erased in sectors that are in range and not in use; a session is opened on the lowest
FREE pair, loads, and replies its handle and pair once it is loaded; it is closed when its jobs are done; a call enters the
image's entry point. -/
def Obligations.ImagesAndSessions : Prop :=
  ∀ (s : State) (p : PairId) (j : Job),
    let a := j.arg
    let g := a 0 2
    let ok := fun t data => s.answers t p.val [] data
    let no := fun st sub => s.declines s p.val j [] st sub
    (∀ x len data t, s.Serves p.val 0x200 j → hbdAt j.params 4 false = some (x, len) → a 2 2 = 0 → s.imagesAccepted = true →
      g + ceilDiv len 0x10000 ≤ 512 → s.sectorsBusy g (ceilDiv len 0x10000) = false →
      s.nvmBlank (g * 0x10000) (ceilDiv len 0x10000 * 0x10000) = true → s.Moves j len data t →
      exec (.imageStore ⟨p, some data⟩) s = .next (ok ((List.range (ceilDiv len 0x10000)).foldl (fun s i => s.dropLines (g + i))
        ((t.useNvm 17 0 1).nvmProgram (g * 0x10000) (padUnits data))) [])) ∧
    (∀ x len, s.Serves p.val 0x200 j → hbdAt j.params 4 false = some (x, len) → a 2 2 = 0 → s.imagesAccepted = true →
      g + ceilDiv len 0x10000 ≤ 512 → s.sectorsBusy g (ceilDiv len 0x10000) = true →
      ∀ data, exec (.imageStore ⟨p, data⟩) s = .next (no St.bankBusy 0)) ∧
    (∀ x len, s.Serves p.val 0x200 j → hbdAt j.params 4 false = some (x, len) → a 2 2 = 0 → s.imagesAccepted = true →
      g + ceilDiv len 0x10000 ≤ 512 → s.sectorsBusy g (ceilDiv len 0x10000) = false →
      s.nvmBlank (g * 0x10000) (ceilDiv len 0x10000 * 0x10000) = true → exec (.imageStore ⟨p, none⟩) s = .next (no St.faultHw 0)) ∧
    (s.Serves p.val 0x201 j → j.erasing = none → a 2 2 ≠ 0 → g + a 2 2 ≤ 512 → s.sectorsBusy g (a 2 2) = false →
      s.eraseActive 0 = false → (∀ i < a 2 2, s.nvmBlank ((g + i) * 0x10000) 0x10000 = true) → exec (.imageErase p) s = .next (ok s [])) ∧
    (∀ i, s.Serves p.val 0x201 j → j.erasing = none → a 2 2 ≠ 0 → g + a 2 2 ≤ 512 → s.sectorsBusy g (a 2 2) = false →
      s.eraseActive 0 = false → (List.range (a 2 2)).find? (fun i => !s.nvmBlank ((g + i) * 0x10000) 0x10000) = some i →
      exec (.imageErase p) s = .next ((s.eraseSector0 (g + i)).updArmed p.val (fun k => { k with effects := [.progress (g + i)] }))) ∧
    (∀ q h, s.Serves p.val 0x202 j → j.opening = none → a 2 2 = 0 → g < 512 → s.imageBad j.tenant g = none →
      s.freePair = some q → s.freeHandle = some h → exec (.sessionOpen p) s = .next (s.openOn p.val q j.tenant g h)) ∧
    (s.Serves p.val 0x202 j → j.opening = none → a 2 2 = 0 → g < 512 → s.imageBad j.tenant g = none → s.freePair = none →
      exec (.sessionOpen p) s = .next (no St.busy 0)) ∧
    (∀ h x, s.Serves p.val 0x202 j → j.opening = some h → s.sessions.find? (fun y => y.handle == h) = some x → x.state = .loaded →
      exec (.sessionOpen p) s = .next (ok s (leBytes 2 h ++ leBytes 2 x.pair))) ∧
    (∀ x, s.Serves p.val 0x203 j → s.sessionOf j = some x → a 2 2 = 0 → s.sessionWork x = false →
      exec (.sessionClose p) s = .next (ok (s.addEffect p.val (.closeSession x.handle)) [])) ∧
    (∀ x, s.Serves p.val 0x203 j → s.sessionOf j = some x → a 2 2 = 0 → s.sessionWork x = true → exec (.sessionClose p) s = .next s) ∧
    (∀ x pc w, s.Serves p.val 0x204 j → s.sessions.find? (fun y => j.session == some y.handle) = some x →
      s.entryPoint x (a 2 1) = some (pc, w) → (s.pair p.val).ring ≠ 0 → (s.pair p.val).exl = false →
      ∃ data, ∃ t : State, t.hmem = s.hmem ∧ t.pairs = s.pairs ∧ exec (.sessionCall p) s =
        .next (ok (t.enterApplet p.val (s.imageHeader x) pc) data)) ∧
    (∀ x, s.Serves p.val 0x205 j → s.sessionOf j = some x → a 2 1 ≤ 31 → a 3 1 = 0 → s.portOn (10 + a 2 1) = true →
      x.state = .loaded → exec (.sessionBindHead p) s = .next
        (ok (s.writeReg (Reg.HEAD_CFG (a 2 1)) (wd (2 ^ 24 * x.tenant + 2 * x.pair + 1))) [])) ∧
    (∀ x, s.Serves p.val 0x206 j → s.sessionOf j = some x → a 2 2 = 0 → x.state ≠ .loading →
      exec (.sessionStatus p) s = .next (ok s (leBytes 2 x.pair ++ leBytes 1 (b2n (x.state == .parked)) ++
        leBytes 1 (b2n (hearthOf x.pair != x.home))))) ∧
    (s.sessionOf j = none → (s.Serves p.val 0x203 j → exec (.sessionClose p) s = .next (no St.policy 4)) ∧
      (s.Serves p.val 0x205 j → exec (.sessionBindHead p) s = .next (no St.policy 4)) ∧
      (s.Serves p.val 0x206 j → exec (.sessionStatus p) s = .next (no St.policy 4)))

/-- The record `rec` staged by the job armed on pair p in s, with the value and the digest of the staging: t is the state after it,
the update at the end of the job's updates (R291–R294). -/
def Sys2Proof.Machine.State.Stages (s : State) (p : Nat) (rec : List Byte) (t : State) (value : Nat) (digest : List Byte) : Prop :=
  ∃ j u, s.armedJob p = some j ∧ (s.stageRecord j rec).update = some u ∧ (s.stageRecord j rec).value = value ∧
    (s.stageRecord j rec).digest = digest ∧
    t = (s.updArmed p (fun k => { k with updates := j.updates ++ [u] })).stgResult p (s.stageRecord j rec)

/-- A key blob placed in entry i in s: stored in the blob store, and the WRITE of its entry staged (R284, R290). -/
def Sys2Proof.Machine.State.PlacesKey (s : State) (p tenant i version limit : Nat) (blob : List Byte) (t : State) : Prop :=
  ∃ unit u v d, s.storeBlob blob = some (unit, u) ∧
    u.Stages p (writeRecord i ⟨tenant, false, false, false, (s.entry i).mir, .key 0 limit version unit 0xFFFF⟩) t v d

/-- R276, R277, R282–R286, R290, R519: a key is imported, derived or generated into an entry that may hold it, replaced by its stage and
switch, whose private key first signs a test message (log 96), reported and destroyed; each change of the ledger is a WRITE staged for the job's commit; a key that the entry does not
hold ends the job with what names the reason. -/
def Obligations.KeyCommandsPlaceAndReportKeys : Prop :=
  ∀ (s : State) (p : PairId) (j : Job),
    let a := j.arg
    let i := a 0 4
    let tn := j.tenant
    let ok := fun t data => s.answers t p.val [i] data
    let no := fun e => s.declines s p.val j [i] (Prod.fst e) (Prod.snd e)
    (∀ v d key t nb kcv u x, s.Serves p.val 0x300 j → s.keyPlace tn i = .ok v → s.lockedFor p.val i = false →
      let blob := j.params.drop 4
      let hdr := rewrapHeader blob 1 v
      s.broughtKey p.val tn i blob = .ok (d, key, t) →
      (hdrWrapper blob = 0xFFFFFFFF → hdrVersion blob = v ∧ hdrDepth blob = 1) → t.wrapKey hdr key = some nb →
      t.keyKcv (hdrAlg hdr) key = (kcv, u) → u.PlacesKey p.val tn i (hdrVersion hdr) (hdrLimit hdr) nb x →
      exec (.keyImport p) s = .next (ok x kcv)) ∧
    (∀ e, s.Serves p.val 0x300 j → s.keyPlace tn i = .error e → exec (.keyImport p) s = .next (no e)) ∧
    (s.Serves p.val 0x300 j → (∃ v, s.keyPlace tn i = .ok v) → s.lockedFor p.val i = true → exec (.keyImport p) s = .next s) ∧
    (∀ par v r u k kcv w x, s.Serves p.val 0x301 j → s.keyInUse tn i false = .ok par → s.keyPlace tn (a 4 4) = .ok v →
      s.lockedFor p.val (a 4 4) = false →
      let t := s.childTemplate tn i (a 4 4) v (hdrDepth par.1 + 1) (leAt j.params 8 2)
      t.2.runSym p.val { op := 6, key := i, key2 := a 4 4, ins := [par.1, [], [], slice j.params 8 32 ++ t.1], out := 128 } execDerive =
        some (r, u) → r.status = St.ok → u.unwrapKey r.out = some k → u.keyKcv (hdrAlg r.out) k = (kcv, w) →
      w.PlacesKey p.val tn (a 4 4) v (hdrLimit t.1) r.out x →
      exec (.keyDerive p) s = .next (s.answers x p.val [i, a 4 4] kcv)) ∧
    (∀ v r u x, s.Serves p.val 0x302 j → s.keyPlace tn i = .ok v → limitOk (a 8 8) (a 6 2) = true → s.lockedFor p.val i = false →
      s.rngHealthy = true →
        ∀ op param n, (a 4 2 = 0x302 ∧ (op, param, n) = (0x30, 2, 800) ∨ a 4 2 = 0x142 ∧ (op, param, n) = (0x10, 0x42, 32)) →
      let ins := [[], rootHeader (a 4 2) (a 6 2) tn i v (a 8 8), [], []]
      s.runPke p.val { op := op, param := param, key := i, ins := ins, out := n + 256 } (keygenOp op) = some (r, u) →
      r.status = St.ok → u.PlacesKey p.val tn i v (a 8 8) (r.out.drop n) x →
      exec (.keyGenerate p) s = .next (ok x ((sha256 (r.out.take n)).take 4))) ∧
    (∀ v nb kcv u x, s.Serves p.val 0x302 j → s.keyPlace tn i = .ok v → limitOk (a 8 8) (a 6 2) = true → s.lockedFor p.val i = false →
      s.rngHealthy = true → a 4 2 = 3 →
      let hdr := rootHeader 3 (a 6 2) tn i v (a 8 8)
      (s.drawHw 32).2.wrapKey hdr (s.drawHw 32).1 = some nb → (s.drawHw 32).2.keyKcv (hdrAlg hdr) (s.drawHw 32).1 = (kcv, u) →
      u.PlacesKey p.val tn i (hdrVersion hdr) (hdrLimit hdr) nb x → exec (.keyGenerate p) s = .next (ok x kcv)) ∧
    (s.Serves p.val 0x302 j → (∃ v, s.keyPlace tn i = .ok v) → limitOk (a 8 8) (a 6 2) = false →
      exec (.keyGenerate p) s = .next (no (St.param, 8))) ∧
    (∀ k b nb kcv u unit t x y z, s.Serves p.val 0x303 j → s.keyEntry tn i false = .ok k → (s.entry i).pend = false →
      s.lockedFor p.val i = false → s.broughtKey p.val tn i (j.params.drop 4) = .ok b →
      let hdr := rewrapHeader (j.params.drop 4) b.1 (k.2.2.1 + 1)
      b.2.2.wrapKey hdr b.2.1 = some nb → b.2.2.keyKcv (hdrAlg hdr) b.2.1 = (kcv, u) → u.storeBlob nb = some (unit, t) →
      t.Stages p.val (writeRecord i { s.entry i with pend := true, body := .key k.1 k.2.1 k.2.2.1 k.2.2.2.1 unit }) x y z →
      exec (.keyReplaceStage p) s = .next (ok x kcv)) ∧
    (∀ k, s.Serves p.val 0x303 j → s.keyEntry tn i false = .ok k → (s.entry i).pend = true →
      exec (.keyReplaceStage p) s = .next (no (St.keyReplacing, 0))) ∧
    (∀ k key kcv u x y z, s.Serves p.val 0x304 j → s.keyEntry tn i false = .ok k → (s.entry i).pend = true →
      let blob := s.slotBlob k.2.2.2.2
      s.unwrapKey blob = some key → s.keyKcv (hdrAlg blob) key = (kcv, u) → kcv = slice j.params 4 4 →
      s.lockedFor p.val i = false → isPrivate (hdrAlg blob) = false →
      u.Stages p.val (writeRecord i { u.entry i with pend := false, body := .key 0 (hdrLimit blob) (k.2.2.1 + 1) k.2.2.2.2 0xFFFF }) x y z →
      exec (.keyReplaceSwitch p) s = .next (ok x [])) ∧
    (∀ k key kcv pk op param x r1 op' param' ins r2 u t w y z v, s.Serves p.val 0x304 j → s.keyEntry tn i false = .ok k →
      (s.entry i).pend = true →
      let blob := s.slotBlob k.2.2.2.2
      let m := if 0x210 ≤ hdrAlg blob ∧ hdrAlg blob ≤ 0x240 then leBytes (8 * (hdrAlg blob - 0x200)) 2 else zeros 32
      s.unwrapKey blob = some key → s.keyKcv (hdrAlg blob) key = (kcv, u) → kcv = slice j.params 4 4 → s.lockedFor p.val i = false →
      isPrivate (hdrAlg blob) = true → s.publicOf (hdrAlg blob) key = some pk → bit 6 (hdrUsage blob) = true →
      signJob (hdrAlg blob) m = some (op, param, x) →
      u.runPke p.val { op := op, param := param, iter := if op = 0x39 then 255 else 0, key := i, ins := [blob, x, [], []], out := 4640 }
        (signOp op) = some (r1, t) → r1.status = St.ok → verifyJob (hdrAlg blob) pk m r1.out = some (op', param', ins) →
      t.runPke p.val { op := op', param := param', iter := if op' = 0x39 then 255 else 0, key := i, ins := ins, out := 512 }
        (verifyOp op') = some (r2, w) → r2.status = St.ok → r2.out = (if op' = 0x02 then m else validBytes true) →
      w.Stages p.val (writeRecord i { w.entry i with pend := false, body := .key 0 (hdrLimit blob) (k.2.2.1 + 1) k.2.2.2.2 0xFFFF }) y z v →
      exec (.keyReplaceSwitch p) s = .next (ok y [])) ∧
    (∀ k key kcv u, s.Serves p.val 0x304 j → s.keyEntry tn i false = .ok k → (s.entry i).pend = true →
      s.unwrapKey (s.slotBlob k.2.2.2.2) = some key → s.keyKcv (hdrAlg (s.slotBlob k.2.2.2.2)) key = (kcv, u) →
      kcv ≠ slice j.params 4 4 → exec (.keyReplaceSwitch p) s = .next (s.declines u p.val j [i] St.param 8)) ∧
    (∀ k, s.Serves p.val 0x305 j → s.keyEntry tn i true = .ok k →
      let h := s.nbytes (blobOff k.2.2.2.1) 32
      exec (.keyInfo p) s = .next (ok s (leBytes 2 (hdrAlg h) ++ leBytes 2 (hdrUsage h).toNat ++ leBytes 4 k.2.2.1 ++ leBytes 8 k.1 ++
        leBytes 8 k.2.1 ++ leBytes 1 (b2n (s.entry i).pend) ++ zeros 3))) ∧
    (∀ k x y z, s.Serves p.val 0x306 j → s.keyEntry tn i false = .ok k → s.mirrorOf i = none →
      s.Stages p.val (writeRecord i (s.entry i).freed) x y z → exec (.keyDestroy p) s = .next (ok x [])) ∧
    (∀ b pk, s.Serves p.val 0x307 j → i ≠ 0 → s.keyInUse tn i true = .ok b → isPrivate (hdrAlg b.1) = true →
      s.publicOf (hdrAlg b.1) b.2 = some pk → exec (.keyPublic p) s = .next (ok s pk)) ∧
    (∀ e, s.keyEntry tn i false = .error e → (s.Serves p.val 0x303 j → exec (.keyReplaceStage p) s = .next (no e)) ∧
      (s.Serves p.val 0x304 j → exec (.keyReplaceSwitch p) s = .next (no e)) ∧ (s.Serves p.val 0x306 j →
        exec (.keyDestroy p) s = .next (no e)))

/-- R216, R289–R301, R438, R464, R519: a ledger read gives the committed image with the command that changed it last; the other commands
of family 4 stage their record and reply with its value; one that meets a lock of another job's set waits, and one whose
record is refused ends with the staging's status. -/
def Obligations.LedgerCommandsStageTheirRecords : Prop :=
  ∀ (s : State) (p : PairId) (j : Job),
    let a := j.arg
    let i := a 0 4
    let tn := j.tenant
    let usable := 16 ≤ i ∧ i ≤ 131071 ∧ s.isSealed = false ∧ s.ledger.established = true
    let ok := fun t data => s.answers t p.val [i] data
    let no := fun st sub => s.declines s p.val j [i] st sub
    let inc := stagingRecord 1 i (a 8 8) []
    (s.Serves p.val 0x400 j → usable → (s.entry i).owner = tn → s.mirrorBad i true true = none →
      let l := s.ledger.lastJ.get (fun _ => (0, 0, 0, 0)) i
      exec (.ledgerRead p) s = .next (ok s (s.imageOf i (s.entryMac i) ++ leBytes 4 l.1 ++ leBytes 2 l.2.1 ++ leBytes 1 l.2.2.1 ++
        leBytes 1 l.2.2.2))) ∧
    (s.Serves p.val 0x400 j → usable → (s.entry i).owner ≠ tn → exec (.ledgerRead p) s = .next (no St.policy 4)) ∧
    (s.Serves p.val 0x400 j → 131071 < i → exec (.ledgerRead p) s = .next (no St.range 0)) ∧
    (∀ t v d, s.Serves p.val 0x401 j → a 4 4 = 0 → s.entryBad tn i (St.param, 8) false false = none → s.Stages p.val inc t v d →
      exec (.counterInc p) s = .next (ok t (leBytes 8 v))) ∧
    (s.Serves p.val 0x401 j → a 4 4 = 0 → s.entryBad tn i (St.param, 8) false false = none → (s.stageRecord j inc).update = none →
      leAt inc 4 4 = i → exec (.counterInc p) s = .next (if (s.stageRecord j inc).status = St.busy ∧ s.lockedFor p.val i = true then s
        else no (s.stageRecord j inc).status (s.stageRecord j inc).sub)) ∧
    (∀ e, s.Serves p.val 0x401 j → a 4 4 = 0 → s.entryBad tn i (St.param, 8) false false = some e →
      exec (.counterInc p) s = .next (no e.1 e.2)) ∧
    (∀ t v d k r u, s.Serves p.val 0x402 j → a 4 4 = 0 → s.entryBad tn i (St.param, 8) false false = none →
      s.Stages p.val (stagingRecord 4 i (a 8 8) (slice j.params 16 32)) t v d → (t.entry 0).asKey = some k →
      t.runPke p.val { op := 0x11, param := 0, key := 0, ins := [t.slotBlob k.2.2.2.1, d, [], []], out := 64 } execEcSign = some (r, u) →
      r.status = St.ok → exec (.counterIncAttested p) s = .next (ok u (leBytes 8 v ++ r.out))) ∧
    (∀ t v d, s.Serves p.val 0x403 j → a 4 4 ≠ 0 → usable → ((s.entry i).isFree = true ∧ (s.entry i).admitsType 3 = true ∨
        (s.entry i).isFree = false ∧ (s.entry i).owner = tn ∧ (s.entry i).body.type = 3 ∧ s.mirrorBad i false false = none) →
      s.Stages p.val (writeRecord i ⟨tn, false, false, false, (s.entry i).mir, .token (a 4 4) (slice j.params 8 16)⟩) t v d →
      exec (.tokenIssue p) s = .next (ok t [])) ∧
    (∀ t v d, s.Serves p.val 0x404 j → a 4 1 = 0xFF → a 5 3 = 0 → s.entryBad tn i (St.param, 8) false false = none →
      s.Stages p.val (stagingRecord 2 i 0 (slice j.params 12 32)) t v d → exec (.tokenRedeem p) s = .next (ok t (leBytes 4 v))) ∧
    (∀ t v d k, s.Serves p.val 0x404 j → a 4 1 ≤ 15 → a 5 3 = 0 → s.lcState ≠ 2 → s.lcState ≠ 4 →
      s.flag (Fld.ACT_CFG_TEN_EN (a 4 1)) = false → s.entryBad tn i (St.param, 8) false false = none →
      s.Stages p.val (stagingRecord 2 i 0 (slice j.params 12 32)) t v d → t.armedJob p.val = some k →
      t.pulseRefusal k (a 4 1) (a 8 4) = none →
      exec (.tokenRedeem p) s = .next (ok (t.updArmed p.val (fun k => { k with pulses := k.pulses ++ [⟨a 4 1, a 8 4⟩] })) (leBytes 4 v))) ∧
    (∀ e t v d, s.Serves p.val 0x405 j → 1 ≤ a 0 1 → a 0 1 ≤ 3 → a 1 3 = 0 → s.isSealed = false → s.ledger.established = true →
      s.allocIndex (a 0 1) [] = some e →
      s.Stages p.val (writeRecord e ⟨tn, false, false, false, false, allocatedBody (a 0 1) (s.entry e).body⟩) t v d →
      exec (.entryAlloc p) s = .next (s.answers t p.val [] (leBytes 4 e))) ∧
    (∀ t v d, s.Serves p.val 0x406 j → s.entryBad tn i (St.param, 8) false true = none → (s.entry i).body.type ≠ 4 →
      s.mirrorOf i = none → s.Stages p.val (writeRecord i (s.entry i).freed) t v d → exec (.entryFree p) s = .next (ok t [])) ∧
    (∀ m, s.Serves p.val 0x407 j → a 6 2 = 0 → usable → (s.entry i).isFree = false → (s.entry i).body.type ≠ 4 → (s.entry i).mir = false →
      s.lockedFor p.val i = false → a 4 2 ≠ s.ownNode → s.reachable (a 4 2) = true → s.allocIndex 4 [i] = some m →
      exec (.entryMirror p) s = .next (s.answers (s.addEffect p.val (.handover ⟨i, m, a 4 2, 0, 0, 0, 0⟩)) p.val [] [])) ∧
    (s.Serves p.val 0x407 j → a 6 2 = 0 → usable → (s.entry i).isFree = false → (s.entry i).body.type ≠ 4 → (s.entry i).mir = false →
      s.lockedFor p.val i = false → (a 4 2 = s.ownNode ∨ s.reachable (a 4 2) = false) →
      exec (.entryMirror p) s = .next (s.declines s p.val j [] St.param 8))

/-- R212, R213, R222–R231, R245–R251, R266, R277, R283, R519: each command of family 5 runs one engine job with the key of the entry it
names, and its reply is what that job gives; random data come from a healthy RNG alone; a vetted curve is installed on every
engine that takes grants. -/
def Obligations.CryptoCommandsRunOneEngineJob : Prop :=
  ∀ (s : State) (p : PairId) (j : Job),
    let a := j.arg
    let i := a 0 4
    let tn := j.tenant
    let ok := fun t data => s.answers t p.val [i] data
    (∀ x n oa on k t m r u, s.Serves p.val 0x500 j → hbdAt j.params 24 false = some (x, n) → hbdAt j.params 40 true = some (oa, on) →
      s.keyInUse tn i false = .ok k → (isAes (hdrAlg k.1) || isTdea (hdrAlg k.1)) = true →
      let op := if isAes (hdrAlg k.1) then 1 else 2
      let aead := op = 1 ∧ 3 ≤ a 4 1
      let len := if aead ∧ a 5 1 = 1 then n - a 7 1 else n
      cryptParamsOk j op = true → n ≤ 65536 → len ≤ on → s.Moves j n m t →
      let ins := [k.1, [], m, slice j.params 8 (a 6 1) ++ j.params.drop 56]
      t.runSym p.val ⟨op, a 4 1, a 7 1, a 6 1, a 5 1 == 1, false, i, 0, ins, n + 16⟩ (if op = 1 then execCipher else execTdea) =
        some (r, u) → r.status = St.ok →
      exec (.symCrypt ⟨p, some m⟩) s = .next
        (s.answers u p.val [i] (zeroPad (if aead ∧ a 5 1 ≠ 1 then r.out.drop len else []) 16) [(oa, r.out.take len)] j.buf)) ∧
    (∀ x n k t m r u, s.Serves p.val 0x501 j → hbdAt j.params 24 false = some (x, n) → a 4 1 = 0 → a 5 1 ≤ 1 → a 7 1 = 0 → a 6 1 ≤ 16 →
      (a 5 1 = 1 → ((slice j.params 8 16).drop (a 6 1)).all (· == 0) = true) →
      s.keyInUse tn i false = .ok k → (isAes (hdrAlg k.1) || isTdea (hdrAlg k.1)) = true → n ≤ 65536 → s.Moves j n m t →
      t.runSym p.val { op := 3, tagLen := a 6 1, verify := a 5 1 == 1, key := i, out := 16, ins :=
        [k.1, [], m, if a 5 1 = 1 then (slice j.params 8 16).take (a 6 1) else []] } execSymMac = some (r, u) → r.status = St.ok →
      exec (.mac ⟨p, some m⟩) s = .next (ok u (if a 5 1 = 1 then r.out else zeroPad r.out 16))) ∧
    (∀ x y r u, s.Serves p.val 0x502 j → s.keyInUse tn i false = .ok x → s.keyInUse tn (a 4 4) false = .ok y →
      let ins := [x.1, y.1, slice j.params 22 (pinLen (a 8 1)), slice j.params 8 14]
      s.runSym p.val { op := 4, key := i, key2 := a 4 4, ins := ins, out := 16 } execSymPinTranslate = some (r, u) → r.status = St.ok →
      exec (.pinTranslate p) s = .next (s.answers u p.val [i, a 4 4] (zeroPad r.out 16))) ∧
    (∀ k op param m r u, s.Serves p.val 0x503 j → a 6 2 = 0 → s.keyInUse tn i false = .ok k → hdrAlg k.1 = a 4 2 →
      signJob (a 4 2) (j.params.drop 8) = some (op, param, m) →
      s.runPke p.val { op := op, param := param, iter := if op = 0x39 then 255 else 0, key := i, ins := [k.1, m, [], []], out := 4640 }
        (signOp op) = some (r, u) → r.status = St.ok → exec (.sign p) s = .next (ok u r.out)) ∧
    (∀ k pk op param ins r u, s.Serves p.val 0x504 j → a 6 2 ≤ (j.params.drop 8).length → s.keyInUse tn i true = .ok k →
      hdrAlg k.1 = a 4 2 → (signJob (a 4 2) []).isSome = true → s.publicOf (a 4 2) k.2 = some pk →
      verifyJob (a 4 2) pk ((j.params.drop 8).drop (a 6 2)) ((j.params.drop 8).take (a 6 2)) = some (op, param, ins) →
      let digest := (j.params.drop 8).drop (a 6 2)
      (op = 0x02 → digest.length = 8 * param) →
      s.runPke p.val { op := op, param := param, key := 0, ins := ins, out := 512 } (verifyOp op) = some (r, u) → r.status = St.ok →
      exec (.verify p) s = .next (ok u (if op = 0x02 then validBytes (r.out == digest) else r.out))) ∧
    (∀ k v r u z kcv w x, s.Serves p.val 0x505 j → s.keyInUse tn i false = .ok k → 0x302 ≤ hdrAlg k.1 → hdrAlg k.1 ≤ 0x304 →
      s.keyPlace tn (a 4 4) = .ok v → s.lockedFor p.val (a 4 4) = false →
      let t := s.sharedTemplate tn (a 4 4) v
      t.2.runPke p.val { op := 0x32, param := hdrAlg k.1 - 0x300, key := i, ins := [k.1, j.params.drop 8, t.1, []], out := 128 }
        execMlkemDecap = some (r, u) → r.status = St.ok → u.unwrapKey r.out = some z → u.keyKcv (hdrAlg r.out) z = (kcv, w) →
      w.PlacesKey p.val tn (a 4 4) v (hdrLimit t.1) r.out x → exec (.kemDecap p) s = .next (s.answers x p.val [i, a 4 4] kcv)) ∧
    (s.Serves p.val 0x506 j → 1 ≤ i → i ≤ 4064 → s.rngHealthy = true →
      exec (.random p) s = .next (s.answers (s.drawHw i).2 p.val [] (s.drawHw i).1)) ∧
    (s.Serves p.val 0x506 j → 1 ≤ i → i ≤ 4064 → s.rngHealthy = false →
      exec (.random p) s = .next (s.declines s p.val j [] St.faultHw 0)) ∧
    (s.Serves p.val 0x506 j → (i = 0 ∨ 4064 < i) → exec (.random p) s = .next (s.declines s p.val j [] St.param 8)) ∧
    (∀ r u, s.Serves p.val 0x507 j → a 0 1 ≤ 31 → a 1 3 = 0 →
      let c := j.params.drop 4
      s.runPke p.val { op := 0x40, param := a 0 1, key := 0, ins := [[], c, [], []], out := c.length + 8 } execCurveVet = some (r, u) →
      r.status = St.ok → exec (.curveLoad p) s = .next (s.answers (u.installEverywhere (a 0 1) (Curve.parse c)) p.val [] [])) ∧
    (∀ e, s.keyInUse tn i false = .error e → (s.Serves p.val 0x502 j →
      exec (.pinTranslate p) s = .next (s.declines s p.val j [i, a 4 4] e.1 e.2)) ∧
      (s.Serves p.val 0x505 j → exec (.kemDecap p) s = .next (s.declines s p.val j [i, a 4 4] e.1 e.2)))

/-- R26, R383, R397, R416–R418, R435, R449, R455, R456, R519, R520: what the commands of families 6 and 7 do and reply with; a port, slot,
unit or head outside its set is refused, a command of a disabled port with REFUSED_PORT_DISABLED. -/
def Obligations.PortAndBasketCommandsReply : Prop :=
  ∀ (s : State) (p : PairId) (j : Job),
    let a := j.arg
    let n := a 0 1
    let ok := fun t data => s.answers t p.val [] data
    let no := fun st sub => s.declines s p.val j [] st sub
    (∀ m : PortId, s.Serves p.val 0x600 j → n = m.val → a 1 1 ≤ 1 → a 2 2 = 0 → (56 ≤ n → n ≤ 71 → a 1 1 = 1 →
      s.lcState ≠ 2 ∧ s.lcState ≠ 4) →
      let t := s.uctlStore (.port m) ((s.reg (unitOff (.port m)) &&& 2#32) ||| wd (a 1 1))
      exec (.portCtl p) s = .next (ok t (wordBytes (t.uctlRead (.port m))))) ∧
    (s.Serves p.val 0x600 j → 56 ≤ n → n ≤ 71 → a 1 1 = 1 → a 2 2 = 0 → (s.lcState = 2 ∨ s.lcState = 4) →
      exec (.portCtl p) s = .next (no St.lifecycle 0)) ∧
    (∀ m : PortId, s.Serves p.val 0x601 j → n = m.val → a 1 3 = 0 → exec (.portStatus p) s = .next
      (ok s (wordBytes (s.uctlRead (.port m)) ++ wordsBytes ((classStatus n).map (s.windowRead p.val))))) ∧
    (s.Serves p.val 0x602 j → exec (.headList p) s = .next (ok s (wordBytes (s.reg Reg.HEAD_PRESENT)))) ∧
    (s.Serves p.val 0x603 j → n ≤ 7 → a 2 2 = 0 → s.portOn (42 + n) = true → s.slotState n ≠ Slot.empty →
      let done := fun op => ok (s.cartCtl n op) (leBytes 4 ((s.cartCtl n op).slotState n))
      (a 1 1 = 0 → exec (.cartCtlMount p) s = .next (done 0)) ∧ (a 1 1 = 1 → exec (.cartCtlSleep p) s = .next (done 1)) ∧
      (a 1 1 = 2 → exec (.cartCtlWake p) s = .next (done 2)) ∧ (a 1 1 = 3 → exec (.cartCtlRelease p) s = .next (done 3))) ∧
    (s.Serves p.val 0x603 j → n ≤ 7 → a 2 2 = 0 → s.portOn (42 + n) = false → a 1 1 = 0 →
      exec (.cartCtlMount p) s = .next (no St.portDisabled 0)) ∧
    (s.Serves p.val 0x603 j → n ≤ 7 → a 2 2 = 0 → s.portOn (42 + n) = true → s.slotState n = Slot.empty → a 1 1 = 0 →
      exec (.cartCtlMount p) s = .next (no St.portAbsent 0)) ∧
    (s.Serves p.val 0x604 j → n ≤ 3 → a 1 1 ≤ 2 → a 2 2 = 0 →
      exec (.rfCtl p) s = .next (ok (s.rfCfgWrite n (setFld 1 0 (a 1 1) (s.reg (Reg.RF_CFG n)))) [])) ∧
    (s.Serves p.val 0x605 j → n ≤ 3 → a 2 2 ≤ 1023 → j.tenant = s.getF (Fld.RF_CFG_TENANT n) →
      (a 1 1 = 0 → exec (.tagAccessRead p) s = .next (ok s (s.tagBlock n (a 2 2)))) ∧
      (a 1 1 = 1 → s.portOn (50 + n) = true → let d := slice j.params 4 16
        exec (.tagAccessWrite p) s = .next (ok (s.stageFrame p.val ⟨50 + n, 0, a 2 2, d⟩) d))) ∧
    (s.Serves p.val 0x605 j → n ≤ 3 → a 2 2 ≤ 1023 → j.tenant ≠ s.getF (Fld.RF_CFG_TENANT n) →
      (a 1 1 = 0 → exec (.tagAccessRead p) s = .next (no St.policy 4)) ∧ (a 1 1 = 1 → exec (.tagAccessWrite p) s = .next (no St.policy 4))) ∧
    (s.Serves p.val 0x606 j → 54 ≤ n → n ≤ 55 → a 1 3 = 0 → j.effects.contains (.progress 1) = true →
      let w := wd (leAt (s.hbytes (cardBuffer p.val (n - 54) + 24) 4) 0 4)
      (bit 0 w = false → exec (.scApdu p) s = .next s) ∧
      (bit 0 w = true → fld 31 16 w = St.ok → exec (.scApdu p) s = .next (ok s (s.hbytes (cardBuffer p.val (n - 54) + 0x10000)
        (leAt (s.hbytes (cardBuffer p.val (n - 54) + 28) 4) 0 4))))) ∧
    (s.Serves p.val 0x606 j → 54 ≤ n → n ≤ 55 → a 1 3 = 0 → j.effects.contains (.progress 1) = false → s.portOn n = false →
      exec (.scApdu p) s = .next (no St.portDisabled 0)) ∧
    (s.Serves p.val 0x700 j → ∃ flags, ∃ t : State, t.regs = s.regs ∧ t.pairs = s.pairs ∧ t.hmem = s.hmem ∧ exec (.basketStatus p) s = .next
      (ok t (leBytes 2 s.ownNode ++ leBytes 2 (s.getF Fld.WEAVE_MEMBERS_COUNT) ++ leBytes 2 (s.getF Fld.WEAVE_BSTAT_MASTER_NODE) ++
        flags))) ∧
    (∀ v key t nb kcv u x d, s.Serves p.val 0x701 j → requestFormOk j.params = true → s.requestPermitted j.params = true →
      let i := a 40 4
      let tn := s.getF Fld.WEAVE_CFG_TENANT
      let blob := j.params.drop 108
      let hdr := rewrapHeader blob 1 v
      s.keyPlace tn i = .ok v → s.lockedFor p.val i = false → s.broughtKey p.val tn i blob = .ok (d, key, t) → hdrAlg blob = 3 →
      fld 1 0 (hdrUsage blob) = 3 → t.wrapKey hdr key = some nb → t.keyKcv (hdrAlg hdr) key = (kcv, u) →
      u.PlacesKey p.val tn i (hdrVersion hdr) (hdrLimit hdr) nb x →
      exec (.basketAdmit p) s = .next (ok ((x.updArmed p.val (fun k => { k with updates := k.updates ++ [.keyUse i 1 v] })).addEffect p.val
        (.joinBasket (a 32 2) (a 34 1) (a 35 1 == 1) (a 8 8) i key)) (leBytes 2 (a 32 2)))) ∧
    (s.Serves p.val 0x701 j → requestFormOk j.params = true → s.requestPermitted j.params = false →
      exec (.basketAdmit p) s = .next (no St.policy 0)) ∧
    (s.Serves p.val 0x702 j → exec (.basketLeave p) s = .next (ok (s.addEffect p.val .leave) [])) ∧
    (s.Serves p.val 0x703 j → n ≤ 7 → a 1 3 = 0 → s.linkOn n = true → exec (.linkRekey p) s = .next (ok (s.startRekey n) [])) ∧
    (s.Serves p.val 0x703 j → n ≤ 7 → a 1 3 = 0 → s.linkOn n = false → exec (.linkRekey p) s = .next (no St.portDisabled 0))

/-- R20, R212, R336, R339, R341, R348, R349, R485, R489, R490: the life-cycle state and device identity are read; a nonce is drawn from a
healthy RNG and kept; an accepted request records its transition and resets the device, a refused one and a refused
certificate end with their reason; events, and the Cinder Ash, are read and cleared. -/
def Obligations.LifecycleAndManagementCommandsReply : Prop :=
  ∀ (s : State) (p : PairId) (j : Job),
    let a := j.arg
    let k := a 0 1
    let ok := fun t data => s.answers t p.val [] data
    let no := fun st sub => s.declines s p.val j [] st sub
    (s.Serves p.val 0x800 j →
      exec (.lcRead p) s = .next (ok s (leBytes 1 s.lcState ++ leBytes 1 (fld 23 16 s.lcsStat) ++ zeros 2 ++ deviceUid))) ∧
    (s.Serves p.val 0x801 j → s.rngHealthy = true → exec (.lcNonce p) s = .next (ok s.newNonce.2 s.newNonce.1) ∧
      s.newNonce.2.dport.nonce = some s.newNonce.1) ∧
    (s.Serves p.val 0x801 j → s.rngHealthy = false → exec (.lcNonce p) s = .next (no St.faultHw 0)) ∧
    (∀ r owner, s.Serves p.val 0x802 j → a 1 3 = 0 → s.lcCheck k (j.params.drop 4) = .ok (r, owner) →
      exec (.lcTransition p) s = .next
        (ok (({ s with dport := { s.dport with nonce := none } }.lcRecord r owner).lcReset p.val) [])) ∧
    (∀ st sub reason, s.Serves p.val 0x802 j → a 1 3 = 0 → s.lcCheck k (j.params.drop 4) = .error (st, sub, reason) →
      exec (.lcTransition p) s = .next
        (s.declines ({ s with dport := { s.dport with nonce := none } }.lastRef reason) p.val j [] st sub)) ∧
    (s.Serves p.val 0x803 j → s.certReason j.params = none →
      exec (.debugCert p) s = .next (ok (s.certPresent j.params).1 (wordBytes ((s.certPresent j.params).1.reg Reg.LCS_DBG_RIGHTS)))) ∧
    (∀ r, s.Serves p.val 0x803 j → s.certReason j.params = some r →
      exec (.debugCert p) s = .next (s.declines (s.lastRef r) p.val j [] St.lifecycle 0)) ∧
    (s.Serves p.val 0x804 j → exec (.debugClose p) s = .next (ok (if s.flag Fld.LCS_STAT_OPEN then s else s.endRights) [])) ∧
    (s.Serves p.val 0x900 j → a 2 2 = 0 → ∃ data, ∃ t : State, t.regs = s.regs ∧ t.pairs = s.pairs ∧ t.hmem = s.hmem ∧
      exec (.telemetry p) s = .next (ok t data)) ∧
    (∀ addr len, s.Serves p.val 0x901 j → hbdAt j.params 4 true = some (addr, len) → 1 ≤ a 2 2 → a 2 2 ≤ 4096 → 32 * a 2 2 ≤ len →
      let n := s.getF Fld.SYS_LOG_STAT_NEXT
      let es := s.logCopy n (a 0 2) (a 2 2)
      let next := (es.getLast?.map (fun e => (e.seq + 1) % 0x10000)).getD n
      exec (.eventRead p) s = .next (s.answers (if es.isEmpty then s else s.addEffect p.val (.logMark next)) p.val []
        (leBytes 2 next ++ zeros 2 ++ wordBytes (s.reg Reg.SYS_LOG_OVF)) [(addr, es.flatMap (·.bytes))] j.buf)) ∧
    (s.Serves p.val 0x902 j → exec (.ashList p) s = .next (ok s ((List.range 4).flatMap (fun k => leBytes 1 (b2n (s.ashValid k)) ++ zeros 3 ++
      leBytes 8 (s.ashBeat k))))) ∧
    (∀ addr len d, s.Serves p.val 0x903 j → hbdAt j.params 4 true = some (addr, len) → k ≤ 3 → a 1 3 = 0 →
      (s.ashValid k = false → exec (.ashRead p) s = .next (ok s (leBytes 4 0))) ∧
      (s.ashValid k = true → 0x40000 ≤ len → s.ashOpen k = (St.ok, d) →
        exec (.ashRead p) s = .next (s.answers s p.val [] (leBytes 4 d.length) [(addr, d)] j.buf))) ∧
    (s.Serves p.val 0x904 j → k ≤ 3 → a 1 3 = 0 → s.eraseActive 1 = false → exec (.ashClear p) s = .next (ok (s.ashErase k) [])) ∧
    (s.Serves p.val 0x904 j → k ≤ 3 → a 1 3 = 0 → s.eraseActive 1 = true → exec (.ashClear p) s = .next (no St.bankBusy 0)) ∧
    (s.Serves p.val 0x904 j → 3 < k → exec (.ashClear p) s = .next (no St.param 8))

/-! ## Engines -/

/-- Public-key engine h runs `run`, whose operation is `op`; it has no result yet and no self-test goes on (R233, R235). -/
structure Sys2Proof.Machine.State.PkeRuns (s : State) (h op : Nat) (run : EngRun) : Prop where
  isIt : (s.pkeOf h).run = some run
  open_ : run.result = none
  notTesting : run.testing = false
  opIs : descOp run.words = op

/-- The running job's result `r` held at engine h until it completes. -/
def Sys2Proof.Machine.State.pkeHolds (t : State) (h : Nat) (run : EngRun) (r : EngResult) : State :=
  t.setPke h { t.pkeOf h with run := some { run with result := some r } }

/-- R223, R228, R232: what the running operation of a public-key engine gives from its inputs: MODEXP and RSA_PUB the modular power, an
RSA private operation the CRT result where it checks, verifications VALID, agreement the shared secret, BOUND K and B, the
transforms theirs; an operand outside its range gives REFUSED_RANGE, CODE 8; an RSA result that fails its check is a fault. -/
def Obligations.PublicKeyOperationsCompute : Prop :=
  ∀ (s : State) (h : HearthId) (run : EngRun),
    let m := pkParam run.words
    let n := ofLe (run.inp 0)
    let x := ofLe (run.inp 1)
    let e := ofLe (run.inp 2)
    let runs := fun op => s.PkeRuns h.val op run
    let all := fun out => s.pkeHolds h.val run (engOk out)
    let range := s.pkeHolds h.val run (engRefused St.range 0x08)
    (runs 0x01 → n % 2 = 1 → 2 ^ (64 * m - 64) < n → 0 < x → x < n → exec (.modexp h) s = .next (all (leBytes (8 * m) (x ^ e % n)))) ∧
    (runs 0x01 → (n % 2 = 0 ∨ n ≤ 2 ^ (64 * m - 64) ∨ x = 0 ∨ n ≤ x) → exec (.modexp h) s = .next range) ∧
    (runs 0x02 → n % 2 = 1 → 2 ^ (64 * m - 64) < n → 0 < x → x < n → e % 2 = 1 → 3 ≤ e → e < n →
      exec (.rsaPub h) s = .next (all (leBytes (8 * m) (x ^ e % n)))) ∧
    (runs 0x02 → (x = 0 ∨ n ≤ x ∨ e % 2 = 0) → exec (.rsaPub h) s = .next range) ∧
    (∀ k, k = RsaKey.parse m run.key → runs 0x03 → 1 < n → n + 1 < k.n → k.ok m = true → (k.priv n) ^ k.e % k.n = n →
      exec (.rsaPriv h) s = .next (all (leBytes (8 * m) (k.priv n)))) ∧
    (∀ k, k = RsaKey.parse m run.key → runs 0x03 → 1 < n → n + 1 < k.n → k.ok m = true → (k.priv n) ^ k.e % k.n ≠ n →
      exec (.rsaPriv h) s = .next (s.pkeFault h.val run)) ∧
    (∀ c, runs 0x12 → run.curve = some c → let r := leAt (run.inp 2) 0 c.nLen
      let g := leAt (run.inp 2) c.nLen c.nLen
      c.pointOk (leAt (run.inp 0) 0 c.len) (leAt (run.inp 0) c.len c.len) = true → 0 < r → r < c.n → 0 < g → g < c.n →
        exec (.ecVerify h) s = .next
        (all (validBytes (c.ecdsaVerify (some (leAt (run.inp 0) 0 c.len, leAt (run.inp 0) c.len c.len)) (run.inp 1) r g)))) ∧
    (∀ c, runs 0x12 → run.curve = some c → c.pointOk (leAt (run.inp 0) 0 c.len) (leAt (run.inp 0) c.len c.len) = false →
      exec (.ecVerify h) s = .next range) ∧
    (runs 0x13 → run.curve = none → m = 0x40 → pkRaw run.words = true →
      (if (x25519 run.key (run.inp 0)).all (· == 0) then exec (.ecAgree h) s = .next range
        else exec (.ecAgree h) s = .next (all (x25519 run.key (run.inp 0))))) ∧
    (∀ c, runs 0x14 → run.curve = some c → leAt (run.inp 0) 0 c.len < c.p → leAt (run.inp 0) c.len c.len < c.p →
      exec (.ecPointCheck h) s = .next (all (validBytes (c.pointOk (leAt (run.inp 0) 0 c.len) (leAt (run.inp 0) c.len c.len))))) ∧
    (runs 0x32 → pkRaw run.words = true →
      exec (.mlkemDecap h) s = .next (all (slice (mlkemDecap m run.key (run.inp 0)) 0 32))) ∧
    (∀ b, runs 0x3A → contextOk (run.inp 1) = true → mldsaVerify m (run.inp 0) (run.inp 1) (run.inp 2) = some b →
      exec (.mldsaVerify h) s = .next (all (validBytes b))) ∧
    (runs 0x00 → ∃ k b, exec (.bound h) s = .next (all (leBytes 4 k ++ leBytes 4 b))) ∧
    (runs 0x41 → (aesCmac s.vetKey ((run.inp 0).take ((run.inp 0).length - 8))).take 8 = (run.inp 0).drop ((run.inp 0).length - 8) →
      8 ≤ (run.inp 0).length →
      exec (.slotInstall h) s = .next (all [])) ∧
    (runs 0x41 → (aesCmac s.vetKey ((run.inp 0).take ((run.inp 0).length - 8))).take 8 ≠ (run.inp 0).drop ((run.inp 0).length - 8) →
      8 ≤ (run.inp 0).length →
      exec (.slotInstall h) s = .next (s.pkeHolds h.val run (engRefused St.curve 0x18))) ∧
    (runs 0x42 → exec (.slotClear h) s = .next (all [])) ∧
    (runs 0x48 → m = 1 → (∀ j < 256, leAt (run.inp 0) (2 * j) 2 < 3329) →
      exec (.ntt h) s = .next (all ((ntt3329 (coeffs 2 (run.inp 0))).flatMap (leBytes 2)))) ∧
    (runs 0x48 → m = 1 → (∃ j < 256, 3329 ≤ leAt (run.inp 0) (2 * j) 2) →
      exec (.ntt h) s = .next (s.pkeHolds h.val run (engRefused St.range 0x08)))

/-- R245–R253: what the running operation of a symmetric engine gives: the cipher of its mode, the MAC or VALID, the translated PIN
block, the check value, the child's blob; COPY_CKPT gives the record under the destination's key where the old CMAC holds, and
otherwise leaves zeros with FAULT_HW, CODE 0x33. -/
def Obligations.SymmetricOperationsCompute : Prop :=
  ∀ (s : State) (i : SymId) (run : EngRun),
    let ws := run.words
    let m := run.inp 0
    let aux := run.inp 1
    let iv := aux.take (syIvLen ws)
    let aad := aux.drop (syIvLen ws)
    let runs := fun op => (s.symOf i.val).run = some run ∧ run.begun = true ∧ run.result = none ∧ descOp ws = op
    let holds := fun (t : State) (r : EngResult) => t.setSymRun i.val { run with result := some r }
    let gives := fun out => holds s (engOk out)
    (runs 1 → syMode ws = 0 → syDecrypt ws = false → exec (.cipher i) s = .next (gives (ecb (aesEnc run.key) 16 m))) ∧
    (runs 1 → syMode ws = 1 → syDecrypt ws = true → exec (.cipher i) s = .next (gives (cbcDec (aesDec run.key) 16 iv m))) ∧
    (runs 1 → syMode ws = 2 → exec (.cipher i) s = .next (gives (ctrWith run.key 128 iv m))) ∧
    (runs 1 → syMode ws = 3 → syDecrypt ws = false → let c := gcmCrypt run.key iv m
      exec (.cipher i) s = .next (gives (c ++ (gcmTag run.key iv aad c).take (syTagLen ws)))) ∧
    (runs 1 → syMode ws = 3 → syDecrypt ws = true → let c := m.take (m.length - syTagLen ws)
      (gcmTag run.key iv aad c).take (syTagLen ws) ≠ m.drop (m.length - syTagLen ws) →
      exec (.cipher i) s = .next (holds s (engRefused St.param 0x12))) ∧
    (runs 2 → syMode ws = 0 → syDecrypt ws = false → exec (.tdea i) s = .next (gives (ecb (tdeaEnc run.key) 8 m))) ∧
    (runs 2 → syMode ws = 1 → syDecrypt ws = false → exec (.tdea i) s = .next (gives (cbcEnc (tdeaEnc run.key) 8 aux m))) ∧
    (let mac := (cmacAlg (hdrAlg run.blob) run.key m).take (syTagLen ws)
    (runs 3 → syVerify ws = false → exec (.symMac i) s = .next (gives mac)) ∧
      (runs 3 → syVerify ws = true → exec (.symMac i) s = .next (gives (leBytes 4 (if mac = aux then 1 else 0))))) ∧
    (∀ pin, runs 4 → pinOf (leAt aux 0 1) (pinDecrypt (leAt aux 0 1) run.key (panDigits aux) m) = some pin → leAt aux 1 1 = 0 →
      exec (.symPinTranslate i) s = .next (gives (pinEncrypt 0 run.key2 (panDigits aux) (pinBuild 0 pin [])))) ∧
    (runs 4 → pinOf (leAt aux 0 1) (pinDecrypt (leAt aux 0 1) run.key (panDigits aux) m) = none →
      exec (.symPinTranslate i) s = .next (holds s (engRefused St.param 0x0F))) ∧
    (∀ pin, runs 4 → pinOf (leAt aux 0 1) (pinDecrypt (leAt aux 0 1) run.key (panDigits aux) m) = some pin → leAt aux 1 1 ≠ 0 →
      s.rngHealthy = false → exec (.symPinTranslate i) s = .next (holds s (engRefused St.faultHw 0x32))) ∧
    (runs 5 → exec (.kcv i) s = .next (holds s (engOk (checkValue (hdrAlg run.blob) run.key)))) ∧
    (∀ b, runs 6 → s.wrapKey (aux.drop 32) (childKey run.key (aux.take 32) (aux.drop 32)) = some b →
      exec (.derive i) s = .next (gives b)) ∧
    (runs 7 → let g := engRange ws 2
      let d := engRange ws 4
      let r := s.engRead (640 + i.val) g.1 g.2
      let hs := (g.1 - fabricBase) / 0x400000
      let hd := (d.1 - fabricBase) / 0x400000
      (s.ckMac hs (r.1.take 32) (r.1.drop 32) = slice (r.1.take 32) 0x18 8 → exec (.copyCkpt i) s = .next
        (holds r.2 (engOk ((r.1.take 32).take 0x18 ++ s.ckMac hd (r.1.take 32) (r.1.drop 32) ++ r.1.drop 32)))) ∧
      (s.ckMac hs (r.1.take 32) (r.1.drop 32) ≠ slice (r.1.take 32) 0x18 8 → exec (.copyCkpt i) s = .next
        (holds (r.2.engWrite (640 + i.val) d.1 (zeros d.2)) (engRefused St.faultHw 0x33))))

/-- R223, R230, R234, R235: the operations that need random data draw it from a healthy RNG, and end with FAULT_HW, CODE 0x32 where
it is not healthy; key generation gives the public key and the blob; a signature is given out where it verifies and is a fault
where it does not; ML-DSA signing that exceeds ITER_MAX ends with BUSY; the curve vetting gives the record with its CMAC or the
code of the first check that fails. R263–R270: RNG words come from the queue while the generator is healthy and holds more than
its reserve; a failed test marks its source and counts; a restart request is kept and its passed test clears the mark; the queue
fills to 4096 bytes; a known-answer test runs on the input registers. -/
def Obligations.RandomizedOperationsAndRng : Prop :=
  (∀ (s : State) (h : HearthId) (run : EngRun),
    let m := pkParam run.words
    let runs := fun op => s.PkeRuns h.val op run
    let noRng := fun (t : State) => t.pkeHolds h.val run (engRefused St.faultHw 0x32)
    let drawn := fun n => s.drawHw n
    (s.rngHealthy = false → (runs 0x10 → exec (.ecKeygen h) s = .next (noRng s)) ∧ (runs 0x30 → exec (.mlkemKeygen h) s = .next (noRng s)) ∧
      (runs 0x38 → exec (.mldsaKeygen h) s = .next (noRng s)) ∧ (runs 0x40 → exec (.curveVet h) s = .next (noRng s))) ∧
    (∀ c b, runs 0x10 → s.rngHealthy = true → run.curve = some c → let d := (drawn (c.len + 8)).1
      let key := leBytes c.len (drawBelow d (c.n - 1) + 1)
      m < 32 → s.wrapKey (run.inp 0) key = some b →
      exec (.ecKeygen h) s = .next ((drawn (c.len + 8)).2.pkeHolds h.val run (engOk (c.pubBytes (ofLe key) ++ b)))) ∧
    (∀ c, runs 0x11 → run.curve = some c → 0 < ofLe run.key → ofLe run.key < c.n → s.rngHealthy = true →
      let r := drawn (c.nLen + 8)
      let g := c.ecdsaSign (ofLe run.key) (drawBelow r.1 (c.n - 1) + 1) (run.inp 0)
      let ok := g.1 ≠ 0 ∧ g.2 ≠ 0 ∧ c.ecdsaVerify (c.mul (ofLe run.key) c.base) (run.inp 0) g.1 g.2 = true
      (ok → exec (.ecSign h) s = .next (r.2.pkeHolds h.val run (engOk (leBytes c.nLen g.1 ++ leBytes c.nLen g.2)))) ∧
      (¬ok → exec (.ecSign h) s = .next (s.pkeFault h.val run))) ∧
    (runs 0x11 → run.curve = none → m = 0x42 → let sg := slice (eddsaSign 0x42 run.key (run.inp 0)) 0 64
      let ok := eddsaVerify 0x42 (ecPublic 0x42 none run.key) (run.inp 0) sg = some true
      (ok → exec (.ecSign h) s = .next (s.pkeHolds h.val run (engOk sg))) ∧ (¬ok → exec (.ecSign h) s = .next (s.pkeFault h.val run))) ∧
    (∀ b, runs 0x30 → s.rngHealthy = true → m = 3 → s.wrapKey (run.inp 0) (drawn 64).1 = some b →
      exec (.mlkemKeygen h) s = .next ((drawn 64).2.pkeHolds h.val run (engOk (slice (mlkemPublic 3 (drawn 64).1) 0 1184 ++ b)))) ∧
    (runs 0x31 → mlkemKeyOk m (run.inp 0) = true → s.rngHealthy = true → m = 3 → pkRaw run.words = true →
      let d := s.drawHw 32
      let r := mlkemEncap 3 (run.inp 0) d.1
      exec (.mlkemEncap h) s = .next (d.2.pkeHolds h.val run (engOk (slice r.1 0 1088 ++ slice r.2 0 32)))) ∧
    (runs 0x31 → mlkemKeyOk m (run.inp 0) = false →
      exec (.mlkemEncap h) s = .next (s.pkeHolds h.val run (engRefused St.range 0x08))) ∧
    (∀ b, runs 0x38 → s.rngHealthy = true → m = 3 → s.wrapKey (run.inp 0) (drawn 32).1 = some b →
      exec (.mldsaKeygen h) s = .next ((drawn 32).2.pkeHolds h.val run (engOk (slice (mldsaPublic 3 (drawn 32).1) 0 1952 ++ b)))) ∧
    (runs 0x39 → contextOk (run.inp 0) = true → pkDet run.words = true → m = 3 →
      let r := mldsaSign 3 run.key (run.inp 0) (zeros 32)
      let sg := slice r.1 0 3309
      let ok := mldsaVerify 3 (slice (mldsaPublic 3 run.key) 0 1952) (run.inp 0) sg = some true
      (max 1 r.2 ≤ pkIterMax run.words → ok → exec (.mldsaSign h) s = .next (s.pkeHolds h.val run ⟨St.ok, 0, sg, max 1 r.2⟩)) ∧
      (max 1 r.2 ≤ pkIterMax run.words → ¬ok → exec (.mldsaSign h) s = .next (s.pkeFault h.val run)) ∧
      (pkIterMax run.words < max 1 r.2 →
        exec (.mldsaSign h) s = .next (s.pkeHolds h.val run ⟨St.busy, 0x20, [], pkIterMax run.words⟩))) ∧
    (runs 0x40 → s.rngHealthy = true → let c := Curve.parse (run.inp 0)
      let d := drawn 5760
      let verdict := c.vet (leAt (run.inp 0) 3 1) (fun k n => drawBelow (slice d.1 (72 * k) 72) n)
      (verdict = none → exec (.curveVet h) s = .next (d.2.pkeHolds h.val run (engOk ((run.inp 0) ++
        (aesCmac s.vetKey (run.inp 0)).take 8)))) ∧
      (∀ code, verdict = some code → exec (.curveVet h) s = .next (d.2.pkeHolds h.val run (engRefused St.curve code))))) ∧
  ((∀ (s b : State) (p : PairId), s.Accesses p.val Reg.RNG_DATA .load b →
    let short := b.rngHealthy = false ∨ b.rng.level < b.getF Fld.RNG_RESERVE_BYTES + 4
    (short → exec (.rngDataRead p) s = .next ((b.setF Fld.RNG_STAT_SHORT 1).raise p.val ⟨Cause.busError, wd (0x40000000 + Reg.RNG_DATA)⟩)) ∧
    (¬short → exec (.rngDataRead p) s = .next (b.takeRandom 4).2 ∧ (b.takeRandom 4).2.rng.level = b.rng.level - 4)) ∧
  (∀ (s b : State) (m : Master) (v : Word), s.Masters m.val Reg.RNG_RESTART b →
    exec (.rngRestart m v) s = .next (b.setReg Reg.RNG_RESTART (b.reg Reg.RNG_RESTART ||| (v &&& 15#32)))) ∧
  (∀ (s b : State) (m : Master) (v : Word), s.Masters m.val Reg.RNG_KAT_CTL b →
    (bit 8 v = false → fld 1 0 v ≠ 3 → exec (.rngKatStart m v) s = .next (b.setF Fld.RNG_KAT_CTL_TARGET (fld 1 0 v))) ∧
    (bit 8 v = true → fld 1 0 v = 3 → exec (.rngKatStart m v) s = .next (b.setF Fld.RNG_KAT_CTL_BUSY 1))) ∧
  (∀ (s : State) (i : Fin 4), s.porHeld = false →
    (∃ t, exec (.rngSourceFail i .repetition) s = .next t ∧ bit (16 + i.val) (t.reg Reg.RNG_STAT) = true ∧
      t.getF (Fld.RNG_SHC_RCT_FAILS i.val) = min (2 ^ 16 - 1) (s.getF (Fld.RNG_SHC_RCT_FAILS i.val) + 1) ∧ t.hmem = s.hmem) ∧
    (∃ t, exec (.rngSourceFail i .proportion) s = .next t ∧ bit (16 + i.val) (t.reg Reg.RNG_STAT) = true ∧
      t.getF (Fld.RNG_SHC_APT_FAILS i.val) = min (2 ^ 16 - 1) (s.getF (Fld.RNG_SHC_APT_FAILS i.val) + 1) ∧ t.hmem = s.hmem)) ∧
  (∀ (s : State) (i : Fin 4) (pass : Bool),
    (bit i.val (s.reg Reg.RNG_RESTART) = false → exec (.rngStartupDone i pass) s = .next s) ∧
    (bit i.val (s.reg Reg.RNG_RESTART) = true → ∃ t, exec (.rngStartupDone i true) s = .next t ∧
      bit i.val (t.reg Reg.RNG_RESTART) = false ∧ bit (16 + i.val) (t.reg Reg.RNG_STAT) = false) ∧
    (bit i.val (s.reg Reg.RNG_RESTART) = true → ∃ t, exec (.rngStartupDone i false) s = .next t ∧
      bit i.val (t.reg Reg.RNG_RESTART) = false ∧ bit (16 + i.val) (t.reg Reg.RNG_STAT) = true)) ∧
  (∀ (s : State), (s.rngHealthy = false → exec .rngReseed s = .next s) ∧
    (s.rngHealthy = true → s.rng.level < 4096 → s.rng.made < 65536 → ∃ t, exec .rngReseed s = .next t ∧
      t.rng.level = min 4096 (s.rng.level + (65536 - s.rng.made)) ∧ t.rng.made = min 65536 (s.rng.made + (4096 - s.rng.level)) ∧
      t.regs = s.regs) ∧
    (s.rngHealthy = true → s.rng.level < 4096 → 65536 ≤ s.rng.made → ∃ t, exec .rngReseed s = .next t ∧ t.rng.level = 4096 ∧
      t.rng.made = 4096 - s.rng.level ∧ t.regs = (s.incSat Reg.RNG_RESEEDS).regs)) ∧
  (∀ (s : State), (s.flag Fld.RNG_KAT_CTL_BUSY = false → exec .rngKatDone s = .next s) ∧
    (s.flag Fld.RNG_KAT_CTL_BUSY = true → ∃ t, exec .rngKatDone s = .next t ∧ t.flag Fld.RNG_KAT_CTL_BUSY = false ∧
      ∀ w < 16, t.reg (Reg.RNG_KAT_OUT w) = wd (leAt (katResult (s.getF Fld.RNG_KAT_CTL_TARGET) s.katIn).1 (4 * w) 4))))

/-- R218, R219, R240, R241, R243: a submission that breaks R218 or R240 is a bus error at SUBMIT; at an engine that takes no grants
or starts nothing it ends at once with PORT_DISABLED, CODE 0x40; else it waits at the arbiter of the public-key engine, or in
the symmetric engine's queue, and starts there at once where the engine is free. R235, R238: a job that has its result is
completed: the output goes to its range only with STATUS OK, the result record is written, LAST and JOBS follow it, the engine
is idle and its arbiter's use has ended. A fault wipes the job and starts the self-test, whose pass returns the reservation and
runs the job again from its descriptor; a second fault, or a self-test that fails, ends the job with FAULT_HW, CODE 0x31, and
marks the engine FAILED. R257, R261: a symmetric job completes in the same way; a fault ends it at once with FAULT_HW and starts
the self-test, whose failure marks FAILED. -/
def Obligations.EngineJobsWaitRunAndEnd : Prop :=
  ((∀ (s b : State) (p : PairId) (h : HearthId) (v : Word), s.Accesses p.val (Reg.PKE_SUBMIT h.val) .store b →
    let e := b.pkeOf h.val
    let has := e.reqs.any (fun r => r.pair == p.val) = true ∨ ∃ r, e.run = some r ∧ r.req.pair = p.val
    let busErr := b.raise p.val ⟨Cause.busError, wd (0x40000000 + Reg.PKE_SUBMIT h.val)⟩
    (has → exec (.pkeSubmit p h v) s = .next busErr) ∧
    (v.toNat % 64 ≠ 0 → exec (.pkeSubmit p h v) s = .next busErr) ∧
    (hearthOf p.val ≠ h.val → b.isSupervisor p.val = false → exec (.pkeSubmit p h v) s = .next busErr) ∧
    (∀ r, ¬has → b.submission p.val h.val v false = some r → b.pkeClosed h.val = true →
      exec (.pkeSubmit p h v) s = .next (b.endPkeRequest h.val r St.portDisabled 0x40)) ∧
    (∀ r, ¬has → b.submission p.val h.val v false = some r → b.pkeClosed h.val = false →
      ∃ t, exec (.pkeSubmit p h v) s = .next t ∧ (t.pkeOf h.val).reqs = e.reqs ++ [r] ∧
        (t.pkeArbOf h.val).waiting = (b.pkeArbOf h.val).waiting ++ [⟨r.idx, b2n r.sup, 0, false, none⟩] ∧ t.hmem = b.hmem ∧ t.regs =
          b.regs)) ∧
  (∀ (s b : State) (p : PairId) (i : SymId) (v : Word), s.Accesses p.val (Reg.SYM_SUBMIT (i.val / 4) (i.val % 4)) .store b →
    b.isSupervisor p.val = false →
    let e := b.symOf i.val
    (e.queue.any (fun r => r.pair == p.val) = true ∨ 8 ≤ e.queue.length ∨
        (∃ r, e.run = some r ∧ r.req.pair = p.val ∧ descOp r.words ≠ 7) → exec (.symSubmit p i v) s = .next
      (b.raise p.val ⟨Cause.busError, wd (0x40000000 + Reg.SYM_SUBMIT (i.val / 4) (i.val % 4))⟩)) ∧
    (∀ r, e.queue = [] → e.run = none → b.submission p.val (i.val / 4) v false = some r → b.symClosed i.val = true →
      exec (.symSubmit p i v) s = .next (b.endSymRequest r St.portDisabled 0x40)) ∧
    (∀ r run, e.queue = [] → e.run = some run → run.begun = true → run.req.pair ≠ p.val →
      b.submission p.val (i.val / 4) v false = some r → b.symClosed i.val = false →
      ∃ t, exec (.symSubmit p i v) s = .next t ∧ t.symOf i.val = { e with queue := [r] } ∧ t.hmem = b.hmem ∧ t.pairs = b.pairs))) ∧
  ((∀ (s : State) (h : HearthId) (run : EngRun), (s.pkeOf h.val).run = some run →
    let record := fun (r : EngResult) => wordBytes (wd (r.status * 2 ^ 16 + r.code * 2 ^ 8 + 1)) ++
      wordBytes (wd (r.iter * 2 ^ 24 + r.out.length))
    let ended := fun (r : EngResult) (t : State) => (t.pkeOf h.val).run = none ∧ t.getF (Fld.PKE_STAT_BUSY h.val) = 0 ∧
      (t.pkeArbOf h.val).inUse = none ∧ t.reg (Reg.PKE_LAST h.val) = wd (r.status * 2 ^ 16 + r.code * 2 ^ 8 + run.req.idx)
    (∀ r, run.result = some r → s.pkeClosed h.val = false → r.status ≠ St.ok → bit 0 (run.words.getD 1 0) = false →
      ∃ t, exec (.pkeJobComplete h) s = .next t ∧ ended r t ∧ t.hmem = (s.setHbytes (run.req.desc + 56) (record r)).hmem ∧ t.pairs =
        s.pairs) ∧
    (∀ r u, run.result = some r → r.status = St.ok → bit 0 (run.words.getD 1 0) = false →
      u = (s.pkSlotEffect h.val run).engWrite (704 + h.val) (engRange run.words 4).1 r.out → u.pkeClosed h.val = false →
      ∃ t, exec (.pkeJobComplete h) s = .next t ∧ ended r t ∧ t.hmem = (u.setHbytes (run.req.desc + 56) (record r)).hmem ∧ t.pairs =
        u.pairs) ∧
    (run.result = none → exec (.pkeJobComplete h) s = .next s) ∧
    (run.testing = true → exec (.pkeParityFault h) s = .next s) ∧
    (run.testing = false → run.retried = false →
      ∃ t, exec (.pkeParityFault h) s = .next t ∧ (t.pkeOf h.val).run = some { run.wiped with testing := true } ∧
        t.getF (Fld.PKE_STAT_SELFTEST h.val) = 1) ∧
    (run.testing = false → run.retried = true →
      ∃ t, exec (.pkeParityFault h) s = .next t ∧
        (t.pkeOf h.val).run = some { run.wiped with result := some (engRefused St.faultHw 0x31) } ∧ t.getF (Fld.PKE_STAT_FAILED h.val) = 1) ∧
    (run.testing = true → let u := s.setF (Fld.PKE_STAT_SELFTEST h.val) 0
      exec (.pkeSelftestDone h true) s = .next
        (((u.returnUses run).setF (Fld.PKE_STAT_RETRIED h.val) 1).pkeTake h.val run.req (u.descWords run.req) true) ∧
      ∃ t, exec (.pkeSelftestDone h false) s = .next t ∧
        (t.pkeOf h.val).run = some { run.wiped with testing := false, result := some (engRefused St.faultHw 0x31) } ∧
        t.getF (Fld.PKE_STAT_FAILED h.val) = 1)) ∧
  (∀ (s : State) (i : SymId) (run : EngRun), (s.symOf i.val).run = some run → run.begun = true →
    let h := i.val / 4
    let k := i.val % 4
    (∀ r, run.result = some r → s.symClosed i.val = false → (s.symOf i.val).queue = [] → (s.symOf i.val).copy = none →
      r.status ≠ St.ok → r.code ≠ 0x33 → bit 0 (run.words.getD 1 0) = false →
      ∃ t, exec (.symJobComplete i) s = .next t ∧ (t.symOf i.val).run = none ∧ t.getF (Fld.SYM_STAT_BUSY h k) = 0 ∧ t.pairs = s.pairs ∧
        t.hmem = (s.setHbytes (run.req.desc + 56) (wordBytes (wd (r.status * 2 ^ 16 + r.code * 2 ^ 8 + 1)) ++
          wordBytes (wd r.out.length))).hmem) ∧
    (∀ r, run.result = some r → let t := if r.code = 0x33 then (s.symEnd i.val run r).copyLost run else s.symEnd i.val run r
      exec (.symJobComplete i) s = .next (if t.symClosed i.val = true then t.flushSym i.val else t.symStart i.val)) ∧
    (run.result = none → exec (.symJobComplete i) s = .next s) ∧
    (∃ t, exec (.symParityFault i) s = .next t ∧ (t.symOf i.val).run = none ∧ t.flag (Fld.SYM_STAT_SELFTEST h k) = true ∧
      t.flag (Fld.SYM_STAT_FAULTED h k) = true)) ∧
  (∀ (s : State) (i : SymId), s.flag (Fld.SYM_STAT_SELFTEST (i.val / 4) (i.val % 4)) = true →
    (∃ t, exec (.symSelftestDone i false) s = .next t ∧ t.flag (Fld.SYM_STAT_FAILED (i.val / 4) (i.val % 4)) = true ∧
      (t.symOf i.val).queue = []) ∧
    ((s.symOf i.val).run = none → (s.symOf i.val).queue = [] → (s.symOf i.val).copy = none →
      exec (.symSelftestDone i true) s = .next (s.setF (Fld.SYM_STAT_SELFTEST (i.val / 4) (i.val % 4)) 0))))

/-! ## Ledger, event log, NVM, gates -/

/-- R291–R294, R301: the store to STG<15> by a pair with an armed job takes its record: accepted, its update joins the job's set and
the result registers tell STATUS OK and the value; refused, the set stands and they tell the status; STG is zeroed either way.
What a record gives: a counter's sum, a token's count less one under its proof, and the reasons of refusal. R296, R299, R302:
the open group closes with the next LSN and the images that its sets make; when its record is programmed the directory holds its
images, LSN is its own, and its sets are finished; a sealed ledger closes and commits nothing. RIDX gives the image of an entry
to its owner and to a supervisor pair, and zeros with DENIED to another tenant's pair and while the ledger is sealed; a word of
it that is uncorrectable is replaced, DERR_IDX names the entry and DIRERR is set. -/
def Obligations.LedgerGroupsCommitStagedSets : Prop :=
  ((∀ (s b : State) (p : PairId) (v : Word) (j : Job), s.Accesses p.val (Reg.LEDG_STG 15) .store b → b.armedJob p.val = some j →
    j.src ≠ .load →
    j.updates.length < 16 →
    let c := b.setMreg p.val (Reg.LEDG_STG 15) v
    let r := c.stageRecord j (c.stgRecord p.val)
    let us := j.updates ++ r.update.toList
    let t := ((c.clearStg p.val).updArmed p.val (fun k => { k with updates := us })).stgResult p.val r
    let op := fld 7 0 (s.mreg p.val (Reg.LEDG_STG 0))
    (op = 1 → exec (.ctrAdd p v) s = .next t) ∧ (op = 2 → exec (.tokenUse p v) s = .next t) ∧ (op = 3 → exec (.ledgerWrite p v) s = .next t) ∧
    (op = 4 → exec (.attAdd p v) s = .next t)) ∧
  (∀ (s b : State) (p : PairId) (v : Word), s.Accesses p.val (Reg.LEDG_STG 15) .store b → b.armedJob p.val = none →
    fld 7 0 (s.mreg p.val (Reg.LEDG_STG 0)) = 1 →
    exec (.ctrAdd p v) s = .next (b.raise p.val ⟨Cause.busError, wd (0x40000000 + Reg.LEDG_STG 15)⟩)) ∧
  (∀ (s : State) (i n v nv : Nat) (d : List Byte), (s.entry i).body = .counter v nv → (s.entry i).att = false →
    (0 < n → v + n < 2 ^ 64 → s.stageCounter i n false d = ⟨St.ok, 0, some (.ctrAdd i n), v + n, []⟩) ∧
    (n = 0 ∨ 2 ^ 64 ≤ v + n → s.stageCounter i n false d = stagedBad St.range 0)) ∧
  (∀ (s : State) (i r : Nat) (d x : List Byte), (s.entry i).body = .token r d →
    ((sha256 x).take 16 = d → 0 < r → s.stageToken i x = ⟨St.ok, 0, some (.tokenUse i x), r - 1, []⟩) ∧
    ((sha256 x).take 16 = d → r = 0 → s.stageToken i x = stagedBad St.policy 5) ∧
    ((sha256 x).take 16 ≠ d → s.stageToken i x = stagedBad St.policy 6)) ∧
  (∀ (s : State) (j : Job) (rec : List Byte), s.isSealed = true → s.stageRecord j rec = stagedBad St.tampered 0)) ∧
  ((∀ (s : State), s.ledger.closing = none → s.ledger.openSets ≠ [] → s.isSealed = false →
    let ts := s.ledger.openGroup
    s.ledger.mirrored ts = [] → (s.ledger.head.map s.ledger.openFits).getD false = true →
    ∃ t, exec .groupClose s = .next t ∧
      t.ledger.closing = some ⟨s.ledger.nextLsn, (setIndices ts).map (fun i => (i, applySets ts i (s.entry i))), false⟩ ∧
      t.ledger.closingSets = ts ∧ t.ledger.openSets = s.ledger.openSets.drop ts.length ∧ t.ledger.nextLsn = s.ledger.nextLsn + 1 ∧
      t.ledger.dir = s.ledger.dir ∧ t.pairs = s.pairs ∧ t.hmem = s.hmem ∧ t.nvm = s.nvm) ∧
  (∀ (s : State) (g : Group), s.ledger.closing = some g → s.ledger.unacked = [] → s.isSealed = false →
    ((s.ledger.finalGroup g).images.map (·.1)).Nodup →
    ∃ c : State, exec .commitRecordDone s = .next (s.ledger.closingSets.foldl (fun c u => c.finishSet s.ledger.expired u) c) ∧
      (∀ im ∈ (s.ledger.finalGroup g).images, c.entry im.1 = im.2) ∧ c.ledger.closing = none ∧
      (∀ i, (∀ im ∈ (s.ledger.finalGroup g).images, im.1 ≠ i) → c.entry i = s.entry i) ∧
      c.reg Reg.LEDG_LSN_LO = wd ((s.ledger.finalGroup g).lsn % 2 ^ 32) ∧ c.hmem = s.hmem ∧ c.pairs = s.pairs) ∧
  (∀ (s : State), (s.isSealed = true ∨ s.ledger.closing = none ∨ s.ledger.unacked ≠ []) → exec .commitRecordDone s = .next s) ∧
  (∀ (s : State), (s.isSealed = true ∨ s.ledger.closing.isSome = true ∨ s.ledger.openSets = []) → exec .groupClose s = .next s) ∧
  (∀ (s b : State) (m : Master) (k : Nat) (v : Word), (m.val < 512 ∧ k = m.val ∧ s.Accesses m.val Reg.LEDG_RIDX .store b) ∨
      (m.val = 722 ∧ k = 0 ∧ b = s) →
    let i := fld 16 0 v
    let own := b.isSupervisor k = true ∨ i ≤ 1 ∨ (b.entry i).owner = b.pairTenant k
    (∃ t, exec (.ridxWrite m ⟨v, .clean⟩) s = .next t ∧ t.mreg k Reg.LEDG_RIDX = wd i ∧ t.hmem = b.hmem ∧ t.pairs = b.pairs ∧
      t.ledger = b.ledger ∧ t.regs = b.regs ∧
      (b.isSealed = true ∨ b.ledger.established = false ∨ ¬own →
        t.mreg k Reg.LEDG_RSTAT = 0xC0000000#32 ∧ ∀ w < 8, t.mreg k (Reg.LEDG_RDATA w) = 0) ∧
      (b.isSealed = false → b.ledger.established = true → own → t.mreg k Reg.LEDG_RSTAT = 0x80000000#32 ∧
        ∀ w < 8, t.mreg k (Reg.LEDG_RDATA w) = wd (leAt (b.imageOf i (b.entryMac i)) (4 * w) 4))) ∧
    ∃ t, exec (.ridxWrite m ⟨v, .uncorrectable⟩) s = .next t ∧ t.flag Fld.LEDG_STAT_DIRERR = true ∧ t.reg Reg.LEDG_DERR_IDX = wd i ∧
      t.mreg k Reg.LEDG_RIDX = wd i ∧ t.ledger = b.ledger ∧ t.hmem = b.hmem))

/-- R483, R486, R487, R492: a supervisor pair's store to LOG_W<7> registers the entry that its words spell; another pair's is a bus error.
LOG_IDX gives its reader the entry with that SEQ, or zeros. The management port sends an entry's line and goes on to the next. -/
def Obligations.LogEntriesAreWrittenReadAndSent : Prop :=
  (∀ (s b : State) (p : PairId) (v : Word), s.Accesses p.val (Reg.SYS_LOG_W 7) .store b →
    (b.isSupervisor p.val = true → exec (.logWrite p v) s = .next (b.setReg (Reg.SYS_LOG_W 7) v).takeLogWords) ∧
    (b.isSupervisor p.val = false →
      exec (.logWrite p v) s = .next (b.raise p.val ⟨Cause.busError, wd (0x40000000 + Reg.SYS_LOG_W 7)⟩))) ∧
  (∀ (s b : State) (m : Master) (k : Nat) (v : Word), ((m.val = 512 ∨ m.val = 513) ∧ k = m.val ∧ b = s) ∨
      (s.Masters m.val Reg.SYS_LOG_IDX b ∧ k = identOf m.val) →
    ∃ t, exec (.logIdxWrite m v) s = .next t ∧ t.mreg k Reg.SYS_LOG_IDX = wd (fld 15 0 v) ∧ t.log = b.log ∧ t.regs = b.regs ∧
      (∀ e, b.log.find? (fun e => e.seq == fld 15 0 v) = some e →
        ∀ w < 8, t.mreg k (Reg.SYS_LOG_DATA w) = wd (leAt e.bytes (4 * w) 4)) ∧
      (b.log.find? (fun e => e.seq == fld 15 0 v) = none → ∀ w < 8, t.mreg k (Reg.SYS_LOG_DATA w) = 0)) ∧
  (∀ (s : State), (s.mgtSending = none → exec .mgtEntrySent s = .next s) ∧
    ∀ e, s.mgtSending = some e →
      exec .mgtEntrySent s = .next { (s.emit (.mgt e.line)) with mgtSending := s.mgtQueue.head?, mgtQueue := s.mgtQueue.drop 1 })

/-- Pair p stands at gate n's entry in ring 0 and asks for function f (R59, R310). -/
def Sys2Proof.Machine.State.Asks (s : State) (p n f : Nat) : Prop := s.atGate p n = true ∧ s.gateArg p 3 = f

/-- R310–R316, R318: the routines of gate 1. Each refuses in the order of R311 with STATUS and CODE, and otherwise does its work and
returns OK: PROGRAM writes a blank range and gives the CRC-32C of its data, ERASE starts an erase, SUSPEND and RESUME hold and
release it, CONFIG writes CTRL, ACK clears the flags named. -/
def Obligations.NvmRoutinesCheckAndAct : Prop :=
  ∀ (s : State) (p : PairId),
    let q := p.val
    let a := s.gateArg q
    let no := fun st code => s.gateReturn q [st, code]
    (∀ chk rb, s.Asks q 1 1 →
      let o := a 4
      let src := a 5
      let len := a 6
      let fits := o % 32 = 0 ∧ src % 4 = 0 ∧ 32 ≤ len ∧ len ≤ 256 ∧ len % 32 = 0 ∧ o % 256 + len ≤ 256
      let bufferOk := (spaceOf src = .loc ∨ (spaceOf src = .hearth ∧ inCheckpoint src = false ∧ inCheckpoint (src + len - 1) = false)) ∧
        spaceOf (src + len - 1) = spaceOf src ∧ mpuPermits (s.pair q).mpuF 1 src len .load = true
      let flawed := (List.range (len / 4)).any (fun k => s.flawed q (src + 4 * k)) = true
      (¬fits → exec (.nvmProgram p chk rb) s = .next (no St.param 2)) ∧
      (fits → 0x8000000 < o + len → exec (.nvmProgram p chk rb) s = .next (no St.range 3)) ∧
      (fits → o + len ≤ 0x8000000 → routineRange o = false → exec (.nvmProgram p chk rb) s = .next (no St.policy 4)) ∧
      (fits → o + len ≤ 0x8000000 → routineRange o = true → ¬bufferOk → exec (.nvmProgram p chk rb) s = .next (no St.param 5)) ∧
      (fits → o + len ≤ 0x8000000 → routineRange o = true → bufferOk → s.executing (bankOf o) = true →
        exec (.nvmProgram p chk rb) s = .next (no St.bankBusy 6)) ∧
      (fits → o + len ≤ 0x8000000 → routineRange o = true → bufferOk → s.executing (bankOf o) = false →
        s.sectorBusy (sectorOf o) = false → s.nvmBlank o len = false → exec (.nvmProgram p chk rb) s = .next (no St.param 9)) ∧
      (fits → o + len ≤ 0x8000000 → routineRange o = true → bufferOk → s.executing (bankOf o) = false →
        s.sectorBusy (sectorOf o) = true → exec (.nvmProgram p chk rb) s = .next (no St.bankBusy 8)) ∧
      (fits → o + len ≤ 0x8000000 → routineRange o = true → bufferOk → s.executing (bankOf o) = false →
        s.sectorBusy (sectorOf o) = false → s.nvmBlank o len = true → (chk = .uncorrectable ∨ flawed) →
        exec (.nvmProgram p chk rb) s = .next (no St.faultHw 0x0A)) ∧
      (fits → o + len ≤ 0x8000000 → routineRange o = true → bufferOk → s.executing (bankOf o) = false →
        s.sectorBusy (sectorOf o) = false → s.nvmBlank o len = true → chk ≠ .uncorrectable → ¬flawed →
        exec (.nvmProgram p chk true) s = .next ((((s.useNvm 17 (bankOf o) 1).dropLines (sectorOf o)).nvmProgram o
          (s.viewBytes q src len)).gateReturn q [St.ok, (crc32c (s.viewBytes q src len)).toNat]))) ∧
    (s.Asks q 1 2 →
      (2048 ≤ a 4 → exec (.nvmErase p) s = .next (no St.range 3)) ∧
      (a 4 < 2048 → routineRange (a 4 * 0x10000) = true → s.executing (a 4 / 512) = true → exec (.nvmErase p) s = .next (no St.bankBusy 6)) ∧
      (a 4 < 2048 → routineRange (a 4 * 0x10000) = true → s.executing (a 4 / 512) = false → s.eraseActive (a 4 / 512) = true →
        exec (.nvmErase p) s = .next (no St.bankBusy 7)) ∧
      (a 4 < 2048 → routineRange (a 4 * 0x10000) = true → s.executing (a 4 / 512) = false → s.eraseActive (a 4 / 512) = false →
        s.sectorBusy (a 4) = false → let b := Reg.NVMC_BANKST (a 4 / 512)
        exec (.nvmErase p) s = .next ((((s.setReg b (setFld 31 28 2 (setFld 27 27 0 (setFld 8 0 (a 4 % 512) (s.reg b))))).dropLines (a 4)).use
          .nvm 17).gateReturn q [St.ok]))) ∧
    (s.Asks q 1 3 → (4 ≤ a 4 → exec (.nvmSuspend p) s = .next (no St.range 3)) ∧
      (a 4 < 4 → s.eraseActive (a 4) = false → exec (.nvmSuspend p) s = .next (no St.param 0x0C)) ∧
      (a 4 < 4 → s.eraseActive (a 4) = true →
        exec (.nvmSuspend p) s = .next (((s.touchBank (a 4)).setF (Fld.NVMC_BANKST_XSUSP (a 4)) 1).gateReturn q [St.ok]))) ∧
    (s.Asks q 1 4 → (a 4 < 4 → s.flag (Fld.NVMC_BANKST_XSUSP (a 4)) = false → exec (.nvmResume p) s = .next (no St.param 0x0C)) ∧
      (a 4 < 4 → s.eraseActive (a 4) = true → s.flag (Fld.NVMC_BANKST_XSUSP (a 4)) = true → exec (.nvmResume p) s = .next
        ((((s.setF (Fld.NVMC_BANKST_XSUSP (a 4)) 0).setF (Fld.NVMC_BANKST_STATE (a 4)) 2).startRefresh).gateReturn q [St.ok]))) ∧
    (s.Asks q 1 5 → (fld 31 4 (wd (a 4)) ≠ 0 → exec (.nvmConfig p) s = .next (no St.param 1)) ∧
      (fld 31 4 (wd (a 4)) = 0 → s.flag Fld.NVMC_CTRL_LOCK = true → fld 0 0 (wd (a 4)) ≠ s.getF Fld.NVMC_CTRL_DO0 →
        exec (.nvmConfig p) s = .next (no St.policy 4)) ∧
      (fld 31 4 (wd (a 4)) = 0 → s.flag Fld.NVMC_CTRL_LOCK = false → ∃ t : State, exec (.nvmConfig p) s = .next (t.gateReturn q [St.ok]) ∧
        t.getF Fld.NVMC_CTRL_DO0 = fld 0 0 (wd (a 4)) ∧ t.flag Fld.NVMC_CTRL_LOCK = bit 3 (wd (a 4)) ∧
        t.getF (Fld.NVMC_BANKST_DO 0) = fld 0 0 (wd (a 4)) ∧ t.hmem = s.hmem ∧ t.pairs = s.pairs ∧ t.nvm = s.nvm)) ∧
    (s.Asks q 1 6 → (fld 31 3 (wd (a 4)) ≠ 0 → exec (.nvmAck p) s = .next (no St.param 1)) ∧
      (wd (a 4) = 1 → exec (.nvmAck p) s = .next ((s.setF Fld.NVMC_OPSTAT_DONE 0).gateReturn q [St.ok])) ∧
      (wd (a 4) = 2 → exec (.nvmAck p) s = .next ((s.setF Fld.NVMC_REFRESH_DONE 0).gateReturn q [St.ok])) ∧
      (wd (a 4) = 4 → exec (.nvmAck p) s = .next ((s.setF Fld.NVMC_PATROL_OVERRUN 0).gateReturn q [St.ok])))

/-- R313, R317, R318, R323, R328, R329: an erase that ends leaves its sector blank, its bank idle and OPSTAT; one that fails its verify
records FAULT_HW and counts; a pool sector erased leaves the log; a suspended erase that no SUSPEND holds resumes; the patrol reads
the sector due, and a weak one of banks 0 and 1 is refreshed, whose copying takes bank 1 and its own; the refresh leaves the sector's
content as it was. -/
def Obligations.ErasesPatrolAndRefresh : Prop :=
  (∀ (s : State) (b : Fin 4) (ok : Bool), s.getF (Fld.NVMC_BANKST_STATE b.val) ≠ 2 → exec (.eraseComplete b ok) s = .next s) ∧
  (∀ (s : State) (b : Fin 4), s.getF (Fld.NVMC_BANKST_STATE b.val) = 2 → s.refresh = none → s.refreshQueue = [] →
    (∀ x ∈ s.ledger.sectors, x.weak = false) →
    let g := s.eraseSector b.val
    (b.val < 2 → (∀ x ∈ s.ledger.sectors, x.retired = false) →
      (∃ t, exec (.eraseComplete b true) s = .next t ∧ t.reg Reg.NVMC_OPSTAT = wd (2 ^ 31 + g * 2 ^ 16) ∧
        t.getF (Fld.NVMC_BANKST_STATE b.val) = 0 ∧ t.nvm = (s.nvmErase (g * 0x10000) 0x10000).nvm ∧
        t.nvmSpent = (s.nvmErase (g * 0x10000) 0x10000).nvmSpent ∧ t.hmem = s.hmem ∧ t.pairs = s.pairs) ∧
      ∃ t, exec (.eraseComplete b false) s = .next t ∧ t.reg Reg.NVMC_OPSTAT = wd (2 ^ 31 + g * 2 ^ 16 + St.faultHw) ∧
        t.getF Fld.NVMC_ERASES_FAILS = min 65535 (s.getF Fld.NVMC_ERASES_FAILS + 1) ∧ t.hmem = s.hmem ∧ t.pairs = s.pairs) ∧
    (2 ≤ b.val → ∃ t, exec (.eraseComplete b true) s = .next t ∧ t.reg Reg.NVMC_OPSTAT = wd (2 ^ 31 + g * 2 ^ 16) ∧
      t.ledger.sectors = s.ledger.sectors.filter (fun x => x.p != 2 * (g % 512) + b.val % 2) ∧ t.nvm = s.nvm ∧ t.hmem = s.hmem)) ∧
  (∀ (s : State) (b : Fin 4),
    (s.getF (Fld.NVMC_BANKST_STATE b.val) ≠ 3 ∨ s.flag (Fld.NVMC_BANKST_XSUSP b.val) = true → exec (.eraseAutoResume b) s = .next s) ∧
    (s.getF (Fld.NVMC_BANKST_STATE b.val) = 3 → s.flag (Fld.NVMC_BANKST_XSUSP b.val) = false → s.refreshQueue = [] →
      exec (.eraseAutoResume b) s = .next (s.setF (Fld.NVMC_BANKST_STATE b.val) 2))) ∧
  (∀ (s : State), let g := s.getF Fld.NVMC_PATROL_SECTOR
    (s.beatNow < s.patrolStart + g * 421875 → exec (.patrolSector false) s = .next s) ∧
    (s.patrolStart + g * 421875 ≤ s.beatNow → s.beatNow < s.patrolStart + 864000000 → g + 1 < 2048 →
      exec (.patrolSector false) s = .next (s.setF Fld.NVMC_PATROL_SECTOR (g + 1))) ∧
    (s.patrolStart + g * 421875 ≤ s.beatNow → s.beatNow < s.patrolStart + 864000000 → g < 1022 → s.refresh = none →
      s.refreshQueue = [] → s.getF (Fld.NVMC_BANKST_STATE (g / 512)) = 0 → s.getF (Fld.NVMC_BANKST_STATE 1) = 0 →
      ∃ t, exec (.patrolSector true) s = .next t ∧ t.refresh = some ⟨g, .copy⟩ ∧ t.refreshQueue = [] ∧ t.getF Fld.NVMC_REFRESH_SECTOR = g ∧
        t.getF (Fld.NVMC_BANKST_STATE (g / 512)) = 5 ∧ t.getF (Fld.NVMC_BANKST_STATE 1) = 5)) ∧
  (∀ (s : State), (s.refresh = none → exec .refreshDone s = .next s) ∧
    (∀ r, s.refresh = some r → (s.refreshMay (r.sector / 512) && s.refreshMay 1) = false → exec .refreshDone s = .next s) ∧
    ∀ r, s.refresh = some r → (s.refreshMay (r.sector / 512) && s.refreshMay 1) = true → r.sector < 1022 → s.refreshQueue = [] →
      ∃ t, exec .refreshDone s = .next t ∧ t.refresh = none ∧ t.hmem = s.hmem ∧
        t.nbytes (r.sector * 0x10000) 0x10000 =
          s.nbytes (if r.phase = .erase ∨ r.phase = .program then 0x3FF0000 else r.sector * 0x10000) 0x10000)

/-- R336, R339, R341, R348, R349, R353: the services of gate 2, of ring 1 code: the nonce written to its buffer, a transition's request and a
certificate judged as the controller does, and the rights closed; R482, R488, R490: those of gate 0 that concern the dumps. A
function number outside the gate's set returns REFUSED_PARAM, CODE 1. -/
def Obligations.GateServicesOfLifecycleAndAsh : Prop :=
  ∀ (s : State) (p : PairId),
    let q := p.val
    let a := s.gateArg q
    let buf := fun x n k => s.gateBuffer q x n k = true
    let ret := fun (t : State) res => t.gateReturn q res
    (s.atGate q 2 = false → exec (.gate2Nonce p) s = .next s ∧ exec (.gate2Close p) s = .next s) ∧
    (s.atGate q 2 = true → 4 < a 3 → exec (.gate2Nonce p) s = .next (ret s [St.param, 1])) ∧
    (s.Asks q 2 1 → (a 5 < 32 ∨ ¬buf (a 4) 32 .store → exec (.gate2Nonce p) s = .next (ret s [St.param, 5])) ∧
      (32 ≤ a 5 → buf (a 4) 32 .store → s.rngHealthy = false → exec (.gate2Nonce p) s = .next (ret s [St.faultHw])) ∧
      (32 ≤ a 5 → buf (a 4) 32 .store → s.rngHealthy = true →
        exec (.gate2Nonce p) s = .next (ret (s.newNonce.2.writeMem q (a 4) s.newNonce.1) [St.ok]))) ∧
    (s.Asks q 2 2 → buf (a 4) (a 5) .load →
      let b := s.viewBytes q (a 4) (a 5)
      let c := { s with dport := { s.dport with nonce := none } }
      (∀ st sub why, s.lcCheck (s.gateTarget b) b = .error (st, sub, why) →
        exec (.gate2Transition p) s = .next (ret (c.lastRef why) [st, sub])) ∧
      (∀ r owner, s.lcCheck (s.gateTarget b) b = .ok (r, owner) →
        exec (.gate2Transition p) s = .next ((ret (c.lcRecord r owner) [St.ok]).lcReset q))) ∧
    (s.Asks q 2 3 → buf (a 4) (a 5) .load →
      let b := s.viewBytes q (a 4) (a 5)
      (s.certReason b = none → exec (.gate2Cert p) s = .next
        (ret (s.certPresent b).1 [St.ok, ((s.certPresent b).1.reg Reg.LCS_DBG_RIGHTS).toNat])) ∧
      (∀ why, s.certReason b = some why → exec (.gate2Cert p) s = .next
        (ret (s.lastRef why) [St.lifecycle, ((s.lastRef why).reg Reg.LCS_DBG_RIGHTS).toNat]))) ∧
    (s.Asks q 2 4 → exec (.gate2Close p) s = .next (ret (if s.flag Fld.LCS_STAT_OPEN then s else s.endRights) [St.ok])) ∧
    (∀ cv key, s.Asks q 0 3 → a 4 ≤ 3 → buf (a 6) 0xF000 .load → s.rootCv = some cv → s.bootKey Label.dump = some key →
      s.ashBlank (a 4) = true → s.eraseActive 1 = false →
      exec (.ashWrite p) s = .next (ret ((s.useNvm 17 1 1).writeDump (a 4) (a 5) (s.viewBytes q (a 6) 0xF000) cv key) [St.ok, a 4])) ∧
    (s.Asks q 0 3 → 3 < a 4 → a 4 ≠ 0xFF → exec (.ashWrite p) s = .next (ret s [St.param])) ∧
    (s.Asks q 0 4 → (a 4 ≤ 3 → s.eraseActive 1 = false → exec (.ashErase p) s = .next (ret (s.ashErase (a 4)) [St.ok])) ∧
      (a 4 ≤ 3 → s.eraseActive 1 = true → exec (.ashErase p) s = .next (ret s [St.bankBusy])) ∧
      (3 < a 4 → exec (.ashErase p) s = .next (ret s [St.param]))) ∧
    (s.Asks q 0 6 → a 4 ≤ 3 → buf (a 5) 0x40000 .store → let r := s.ashOpen (a 4)
      exec (.ashOpen p) s = .next (ret (s.writeMem q (a 5) r.2) [r.1, r.2.length]))

/-! ## Resets, boot, debug, tamper -/

/-- R471, R472, R480–R482, R498, R516: a device-level reset puts every register outside the backup and power-on domains at its reset value,
clears hearth memory and the pairs, cuts the log's open group and records its cause, beside those of a reset that has not ended;
power-on clears the event log too; a core supply below 600 mV holds reset. Gate 0 marks the boot ready once, resets the device, and raises the image floor but never lowers it. -/
def Obligations.ResetsAndGateZero : Prop :=
  (∀ (s : State), ∃ t, exec .powerOn s = .next t ∧ t.log = [] ∧ t.pairs = [] ∧ t.hmem = [] ∧ t.jobs = [] ∧ t.porHeld = false ∧
    t.ledger = s.ledger.cut ∧ t.pending = s.pending) ∧
  (∀ (s : State) (ns : Nat), (ns < 1000 → exec (.pinReset ns) s = .next s) ∧
    (1000 ≤ ns → s.porHeld = true → exec (.pinReset ns) s = .next (s.setReg Reg.SYS_RSTCAUSE (s.reg Reg.SYS_RSTCAUSE ||| 2#32))) ∧
    (1000 ≤ ns → s.porHeld = false → ∃ t, exec (.pinReset ns) s = .next t ∧
      t.reg Reg.SYS_RSTCAUSE = (if s.inReset = true then s.reg Reg.SYS_RSTCAUSE ||| 2#32 else 2#32) ∧ t.pairs = [] ∧ t.hmem = [] ∧
      t.log = s.log ∧ t.ledger = s.ledger.cut ∧
      ∀ o, inBackupDomain o = false → inPowerDomain o = false → o ≠ Reg.TAMP_STAT → o ≠ Reg.LCS_STAT → o ≠ Reg.SYS_RSTCAUSE →
        t.reg o = resetReg o)) ∧
  (∀ (s : State), ∃ t, exec (.supplyFall .vddCore 599) s = .next t ∧ t.porHeld = true ∧ t.reg Reg.SYS_RSTCAUSE = 1#32 ∧
    t.pairs = [] ∧ t.hmem = [] ∧ t.log = []) ∧
  (∀ (s : State) (mv : Nat), 690 ≤ mv → exec (.supplyFall .vddCore mv) s = .next s) ∧
  (∀ (s : State) (mv : Nat), 1620 ≤ mv → exec (.supplyFall .vddio18 mv) s = .next s) ∧
  (∀ (s : State) (mv : Nat), 3050 ≤ mv → exec (.supplyFall .vddio33 mv) s = .next s) ∧
  (∀ (s : State) (env : BootEnv), (s.porHeld = true ∨ s.getF Fld.SYS_BOOT_STAGE ≠ 0 → exec (.boot env) s = .next s) ∧
    (s.porHeld = false → s.getF Fld.SYS_BOOT_STAGE = 0 → s.booting = true →
      (env.romOk = false → exec (.boot env) s = .next ((s.setF Fld.SYS_BOOT_STAGE 1).bootFail)) ∧
      (env.romOk = true → (env.pufOk = false ∨ (env.helper0Ok = false ∧ env.helper1Ok = false)) →
        exec (.boot env) s = .next ((((s.bootStage 0).logCauses.bootStage 1).bootStage 2).bootFail)) ∧
      (env.romOk = true → env.pufOk = true → (env.helper0Ok = true ∨ env.helper1Ok = true) →
        exec (.boot env) s = .next ((((s.bootStage 0).logCauses.bootStage 1).bootStage 2).bootLc env)))) ∧
  (∀ (s : State) (p : PairId),
    (s.Asks p.val 0 1 → s.flag Fld.SYS_BOOT_READY = true → exec (.gate0Ready p) s = .next (s.gateReturn p.val [St.param])) ∧
    (s.Asks p.val 0 1 → s.flag Fld.SYS_BOOT_READY = false → exec (.gate0Ready p) s = .next
      (((s.stopMs.setF Fld.SYS_BOOT_READY 1).setF Fld.SYS_BOOT_STAGE 0x0B).gateReturn p.val [St.ok])) ∧
    (s.Asks p.val 0 2 → s.gateArg p.val 4 = 0x5A17 → s.inReset = false →
      ∃ t, exec (.gate0Reset p) s = .next t ∧ t.reg Reg.SYS_RSTCAUSE = 0x44 ∧ t.pairs = []) ∧
    (s.Asks p.val 0 2 → s.gateArg p.val 4 ≠ 0x5A17 → exec (.gate0Reset p) s = .next (s.gateReturn p.val [St.param])) ∧
    (s.Asks p.val 0 5 → s.gateArg p.val 4 < s.imageFloor → exec (.floor p) s = .next (s.gateReturn p.val [St.policy])) ∧
    (s.Asks p.val 0 5 → s.imageFloor ≤ s.gateArg p.val 4 →
      exec (.floor p) s = .next ({ s with imageFloor := s.gateArg p.val 4 }.gateReturn p.val [St.ok])))

/-- R346–R352: a TAP instruction that the state does not permit selects BYPASS; IDCODE shifts its value out. A debug access to the
core address map, to a halted pair's registers or to halt control does its work where the rights grant it, and is otherwise counted,
logged, and answered with zeros and a bus error. -/
def Obligations.DebugPortAccesses : Prop :=
  (∀ (s : State),
    let selects := fun op (dr : List Word) => ({ s with dport := { s.dport with instr := op, dr := dr, cert := [] } } : State)
    exec .tapReset s = .next (selects 1 [idcodeValue]) ∧
    exec .idcode s = .next ((selects 1 [idcodeValue]).emit (.frame 124 1 (wordsBytes [idcodeValue]))) ∧
    exec .bypass s = .next (selects 0xFF []) ∧
    (s.tapPermits 0 = true → exec .extest s = .next (selects 0 [])) ∧ (s.tapPermits 0 = false → exec .extest s = .next (selects 0xFF [])) ∧
    (s.tapPermits 2 = true → exec .samplePreload s = .next (selects 2 [])) ∧ (s.tapPermits 2 = false →
      exec .samplePreload s = .next (selects 0xFF [])) ∧
    (s.tapPermits 4 = true → exec .clamp s = .next (selects 4 [])) ∧ (s.tapPermits 4 = false → exec .clamp s = .next (selects 0xFF [])) ∧
    (s.tapPermits 5 = true → exec .highz s = .next (selects 5 [])) ∧ (s.tapPermits 5 = false → exec .highz s = .next (selects 0xFF [])) ∧
    (s.tapPermits 0x12 = true → exec .dbgStatus s = .next ((selects 0x12 [s.reg Reg.LCS_DBG_RIGHTS]).emit
      (.frame 124 0x12 (wordsBytes [s.reg Reg.LCS_DBG_RIGHTS])))) ∧
    (s.tapPermits 0x12 = false → exec .dbgStatus s = .next (selects 0xFF []))) ∧
  (∀ (s : State) (w : Word), (s.tapPermits 0x10 = false → exec (.dbgAuth w false) s = .next
      { s with dport := { s.dport with instr := 0xFF, dr := [], cert := [] } }) ∧
    (s.tapPermits 0x10 = true → exec (.dbgAuth w false) s = .next
      { s with dport := { s.dport with instr := 0x10, dr := [], cert := s.dport.cert ++ [w] } }) ∧
    (s.tapPermits 0x10 = true → exec (.dbgAuth w true) s = .next
      ({ s with dport := { s.dport with instr := 0x10, dr := [], cert := [] } }.certPresent (certBytes (s.dport.cert ++ [w]))).1)) ∧
  (∀ (s : State) (p : PairId) (a v : Word), s.tapPermits 0x11 = true →
    let b : State := { s with dport := { s.dport with instr := 0x11, dr := [], cert := [] } }
    let q := p.val
    let x := s.pair q
    (b.debugPermits q a.toNat false = true → exec (.dbgRead p 0 a) s = .next (b.debugLoad q a.toNat)) ∧
    (b.debugPermits q a.toNat false = false → exec (.dbgRead p 0 a) s = .next (b.debugRefuse a)) ∧
    (b.debugPermits q a.toNat true = true → exec (.dbgWrite p 0 a v) s = .next (b.debugStore q a.toNat v)) ∧
    (b.debugPermits q a.toNat true = false → exec (.dbgWrite p 0 a v) s = .next (b.debugRefuse a)) ∧
    (∀ i : Fin 32, a = wd (4 * i.val) → x.halted = true → exec (.dbgRead p 1 a) s = .next (b.debugResult (x.greg i.val) false)) ∧
    (∀ i : Fin 32, a = wd (4 * i.val) → x.halted = true → b.regGranted = true →
      exec (.dbgWrite p 1 a v) s = .next ((b.updPair q (fun y => y.setG i.val v)).debugResult 0 false)) ∧
    (a = 0x400#32 → x.halted = true → exec (.dbgRead p 1 a) s = .next (b.debugResult x.pc false) ∧
      (b.regGranted = true → exec (.dbgWrite p 1 a v) s = .next
        ((b.updPair q (fun y => { y with pc := v &&& 0xFFFFFFFC#32 })).debugResult 0 false))) ∧
    (exec (.dbgRead p 3 a) s = .next (b.debugRefuse a) ∧ exec (.dbgWrite p 3 a v) s = .next (b.debugRefuse a)) ∧
    (x.halted = false → exec (.dbgRead p 1 a) s = .next (b.debugRefuse a) ∧ exec (.dbgWrite p 1 a v) s = .next (b.debugRefuse a)) ∧
    (b.haltPermits q = true → x.halted = false →
      exec (.dbgHalt p) s = .next ((b.updPair q (fun y => { y with haltReq := true })).debugResult 0 false)) ∧
    (b.haltPermits q = true → x.halted = true → exec (.dbgHalt p) s = .next (b.debugResult 0 false)) ∧
    (b.haltPermits q = true → x.halted = true → let w := Reg.LCS_HALTED (q / 32)
      let free := fun step => (b.updPair q (fun y => { y with halted := false, stepping := step })).setReg w
        (b.reg w &&& ~~~(wd (2 ^ (q % 32))))
      exec (.dbgResume p) s = .next (((free false).updPair q (fun y => { y with haltReq := false })).debugResult 0 false) ∧
      exec (.dbgStep p) s = .next ((free true).debugResult 0 false)) ∧
    (b.haltPermits q = false → exec (.dbgHalt p) s = .next (b.debugRefuse 0) ∧ exec (.dbgResume p) s = .next (b.debugRefuse 0) ∧
      exec (.dbgStep p) s = .next (b.debugRefuse 0)) ∧
    (∃ t : State, t = b.debugRefuse a ∧ t.dport.err = true ∧ t.dport.data = 0 ∧ t.log ≠ [])) ∧
  (∀ (s : State) (p : PairId) (sp : Fin 4) (a v : Word), s.tapPermits 0x11 = false →
    let b : State := { s with dport := { s.dport with instr := 0xFF, dr := [], cert := [] } }
    exec (.dbgRead p sp a) s = .next b ∧ exec (.dbgWrite p sp a v) s = .next b ∧ exec (.dbgHalt p) s = .next b ∧ exec (.dbgResume p) s =
      .next b ∧
      exec (.dbgStep p) s = .next b) ∧
  (∀ (s : State) (p : PairId), s.atBoundary p.val = true → s.haltDue p.val = true → s.asyncExc p.val = none →
    exec (.debugHaltTaken p) s = .next ((s.wake p.val).haltPair p.val)) ∧
  (∀ (s : State) (p : PairId), s.atBoundary p.val = false ∨ s.haltDue p.val = false → exec (.debugHaltTaken p) s = .next s) ∧
  (∀ (s : State), (s.flag Fld.LCS_STAT_DEBUG = true → s.flag Fld.LCS_STAT_OPEN = false → s.reg Reg.LCS_DBG_LEFT = 0 →
      exec .debugRightsExpire s = .next s.endRights) ∧
    (s.reg Reg.LCS_DBG_LEFT ≠ 0 → exec .debugRightsExpire s = .next s))

/-- R356–R358, R361–R371: an event of a monitor counts, and N of them within W Beats are an alarm, which responds by its class: 1
only reports, 2 quarantines, 3 and 4 zeroise: the ledger is sealed, the keys are gone and the engines wiped. On battery the
samples run by themselves; the reset that ends zeroisation follows it. R357, R360–R362, R367, R370, R371, R375: what the
registers and events of the tamper controller do: MCFG takes a well-formed write unless it is locked, QUAR lifts a quarantine of
class 2 with its value alone, BIST starts and ends one test, a wale takes its mode and its seed, the supply of the backup domain
changes over with the windows discarded, and its tick counts. -/
def Obligations.MonitorsAlarmsAndBackup : Prop :=
  ((∀ (s : State) (m : Fin 101), 52 ≤ m.val → m.val ≠ 56 → s.onMain = true → s.stimulated m.val = false →
    (s.getF (Fld.TAMP_MCFG_N m.val) ≤ 1 → s.getF (Fld.TAMP_MCFG_CLASS m.val) = 2 → s.getF Fld.TAMP_STAT_CLASS = 0 →
      ∃ t, exec (.monitorEvent m) s = .next t ∧ t.getF Fld.TAMP_STAT_QUAR = 1 ∧ t.getF Fld.TAMP_STAT_CLASS = 2 ∧
        t.getF Fld.TAMP_STAT_FIRST = m.val ∧ t.dport.ended = true ∧ t.hmem = s.hmem) ∧
    (s.getF (Fld.TAMP_MCFG_N m.val) ≤ 1 → s.getF (Fld.TAMP_MCFG_CLASS m.val) = 3 → s.getF Fld.TAMP_STAT_CLASS = 0 →
      s.flag Fld.TAMP_STAT_TAMPERED = false →
      ∃ t, exec (.monitorEvent m) s = .next t ∧ t.getF Fld.LEDG_STAT_SEALED = 1 ∧ t.getF Fld.TAMP_STAT_ZEROISED = 1 ∧ t.keys.root = none ∧
        t.keys.backupKey = [] ∧ t.keys.bootKeys = [] ∧ (∀ j ∈ t.jobs, j.updates = []) ∧ t.ledger.openSets = [] ∧ t.sym = [] ∧ t.pkeArb =
          [] ∧ t.tags = [] ∧ t.tamper.resetPending = true) ∧
    (s.windowOf m.val = [] → 2 ≤ s.getF (Fld.TAMP_MCFG_N m.val) → exec (.monitorEvent m) s = .next
      ((s.incF (Fld.TAMP_MSTAT_EVENTS m.val)).setWindow m.val [s.beatNow]))) ∧
  (∀ (s : State) (m : Fin 101), (s.onMain = false ∨ m.val < 52 ∨ m.val = 56 ∨ s.stimulated m.val = true) →
    exec (.monitorEvent m) s = .next s) ∧
  (∀ (s : State) (n : Fin 52) (level : Bool), (s.onMain = false ∨ s.armed n.val = false → exec (.waleSample n level) s = .next s) ∧
    (s.onMain = true → s.armed n.val = true → n.val < 48 → s.stimulated n.val = false → s.getF (Fld.WALE_WCFG_MODE n.val) = 0 →
      exec (.waleSample n true) s = .next ((s.setF (Fld.WALE_WSTAT_LAST n.val) 1).setF (Fld.WALE_WSTAT_FAULT n.val) 0)) ∧
    (s.onMain = true → s.armed n.val = true → 48 ≤ n.val → level = bit (n.val - 48) (s.reg Reg.WALE_CASECFG) →
      exec (.waleSample n level) s = .next (s.setF ⟨Reg.WALE_CASESTAT, n.val - 48, n.val - 48⟩ 0))) ∧
  (∀ (s : State) (m : Fin 101) (level : Bool), (s.tamper.onBattery = false → exec (.batterySample m level) s = .next s) ∧
    (s.tamper.onBattery = true → m.val = 57 → exec (.batterySample m false) s = .next (s.setRun 57 0)) ∧
    (s.tamper.onBattery = true → m.val = 57 → 2 ≤ s.getF (Fld.TAMP_MCFG_CLASS 57) →
      ∃ t, exec (.batterySample m true) s = .next t ∧ t.keys.backupKey = [] ∧ t.getF Fld.TAMP_STAT_ZEROISED = 1 ∧ t.hmem = s.hmem)) ∧
  (∀ (s : State), (s.tamper.resetPending = false → exec .tamperReset s = .next s) ∧
    (s.tamper.resetPending = true → s.inReset = false →
      ∃ t, exec .tamperReset s = .next t ∧ t.reg Reg.SYS_RSTCAUSE = 0x10 ∧ t.pairs = [] ∧ t.hmem = []))) ∧
  ((∀ (s b : State) (m : Master) (v : Word),
    (∀ k : Fin 101, s.Masters m.val (Reg.TAMP_MCFG k.val) b →
      (b.flag Fld.TAMP_CTRL_LOCK = true ∨ fld 11 8 v = 0 ∨ fld 31 16 v = 0 ∨ fld 2 0 v < monFloor k.val ∨ 4 < fld 2 0 v) →
      exec (.mcfgWrite m k v) s = .next b) ∧
    (∀ k : Fin 101, s.Masters m.val (Reg.TAMP_MCFG k.val) b → b.flag Fld.TAMP_CTRL_LOCK = false → fld 11 8 v ≠ 0 → fld 31 16 v ≠ 0 →
      monFloor k.val ≤ fld 2 0 v → fld 2 0 v ≤ 4 →
      exec (.mcfgWrite m k v) s = .next (b.setReg (Reg.TAMP_MCFG k.val) (v &&& 0xFFFF0F07#32))) ∧
    (s.Masters m.val Reg.TAMP_QUAR b → v ≠ 0x9A11#32 → exec (.quarLift m v) s = .next b) ∧
    (s.Masters m.val Reg.TAMP_QUAR b → v = 0x9A11#32 → b.getF Fld.TAMP_STAT_CLASS = 2 → b.flag Fld.TAMP_STAT_TAMPERED = false →
      exec (.quarLift m v) s = .next (((b.setF Fld.TAMP_STAT_QUAR 0).setF Fld.TAMP_STAT_CLASS 0).setF Fld.TAMP_STAT_FIRST 0)) ∧
    (s.Masters m.val Reg.TAMP_BIST b → v = 0x105#32 → b.flag Fld.TAMP_BIST_BUSY = false → b.onMain = true → b.quarantined = false →
      b.flag Fld.TAMP_STAT_TAMPERED = false → ∃ t, exec (.bistStart m v) s = .next t ∧ t.tamper.bistMon = some 5 ∧
        t.getF Fld.TAMP_BIST_BUSY = 1 ∧ t.hmem = b.hmem) ∧
    (∀ n : Fin 48, s.Masters m.val (Reg.WALE_WCFG n.val) b → v = 0x40000000#32 → b.flag Fld.TAMP_CTRL_LOCK = false →
      exec (.waleReseed m n v) s = .next (b.setF (Fld.WALE_WCFG_MODE n.val) 1)) ∧
    (∀ n : Fin 48, s.Masters m.val (Reg.WALE_WCFG n.val) b → v = 0x80000001#32 → b.flag Fld.TAMP_CTRL_LOCK = false →
      exec (.waleReseed m n v) s = .next ((b.setF (Fld.WALE_WCFG_MODE n.val) 2).setF (Fld.WALE_WCFG_RESEED n.val) 1))) ∧
  (∀ (s : State) (ok : Bool), (s.flag Fld.TAMP_BIST_BUSY = false → exec (.bistDone ok) s = .next s) ∧
    (s.flag Fld.TAMP_BIST_BUSY = true → ∃ t, exec (.bistDone ok) s = .next t ∧ t.tamper.bistMon = none ∧ t.flag Fld.TAMP_BIST_BUSY = false ∧
      t.flag Fld.TAMP_BIST_PASS = ok ∧ t.flag Fld.TAMP_BIST_DONE = true)) ∧
  (∀ (s : State) (n : Fin 48), (s.onMain = false ∨ s.flag Fld.RNG_STAT_HEALTHY = false ∨ s.flag (Fld.WALE_WCFG_RESEED n.val) = false →
      exec (.waleSeedLoaded n) s = .next s) ∧
    (s.onMain = true → s.flag Fld.RNG_STAT_HEALTHY = true → s.flag (Fld.WALE_WCFG_RESEED n.val) = true →
      ∃ t, exec (.waleSeedLoaded n) s = .next t ∧ t.flag (Fld.WALE_WCFG_RESEED n.val) = false ∧ 1 ≤ t.lfsrOf n.val ∧
        t.lfsrOf n.val < 2 ^ 31)) ∧
  (∀ (s : State) (bat : Bool), (s.tamper.onBattery = bat → exec (.backupChangeover bat) s = .next s) ∧
    (s.tamper.onBattery ≠ bat → ∃ t, exec (.backupChangeover bat) s = .next t ∧ t.tamper.onBattery = bat ∧ t.tamper.windows = [] ∧
      t.tamper.runs = [] ∧ t.keys = s.keys)) ∧
  (∀ (s : State), exec .backupTick s = .next (s.setReg Reg.TAMP_BKTICK (s.reg Reg.TAMP_BKTICK + 1)) ∧
    (s.onMain = true → exec .backupDomainReset s = .next s) ∧
    (s.onMain = false → ∃ t, exec .backupDomainReset s = .next t ∧ t.keys.backupKey = [] ∧ t.tamper.bkCount = 0 ∧ t.hmem = s.hmem ∧
      ∀ o, inBackupDomain o = true → t.reg o = resetReg o) ∧
    (s.onMain = true → s.flag Fld.TAMP_STAT_BKLOW = false →
      exec .vbatLow s = .next ((s.setF Fld.TAMP_STAT_BKLOW 1).logEvent Src.tamper 5 56 0 0 0)) ∧
    (s.onMain = true → s.flag Fld.TAMP_STAT_BKLOW = true → exec .vbatLow s = .next s) ∧
    (s.onMain = true → exec .vbatLowEnd s = .next (s.setF Fld.TAMP_STAT_BKLOW 0)) ∧
    (s.onMain = false → exec .vbatLowEnd s = .next s ∧ exec .vbatLow s = .next s)))

/-! ## Ports with units of their own -/

/-- R379–R394: a seated cartridge begins its mount, an answer leads it to the next step and a failed step to FAILED with its ERR; a block read
reaches its buffer through the port guard, a written one is confirmed; operations of a slot that is not READY end with PORT_ABSENT;
a limit that expires repeats the command once, or ends the operation; removal ends them all and empties the slot. Gate 3 opens, closes, checks and discards journal records. -/
def Obligations.CartridgeSlotsMountReadWriteAndJournal : Prop :=
  (∀ (s : State) (k : Fin 8), (s.portOn (42 + k.val) = false ∨ s.slotState k.val ≠ Slot.empty ∨ s.onMain = false →
      exec (.cartInsert k) s = .next s) ∧
    (s.portOn (42 + k.val) = true → s.slotState k.val = Slot.empty → s.onMain = true →
      ∃ t, exec (.cartInsert k) s = .next t ∧ t.slotState k.val = Slot.ident ∧ (t.slotOf k.val).phase = .mount 3 ∧ t.hmem = s.hmem)) ∧
  (∀ (s : State) (k : Fin 8), (s.slotOf k.val).phase = .mount 3 →
    let n := k.val
    exec (.cartResponse k (.condition true true false)) s = .next ((s.cartCmd n 2 0 []).setPhase n (.mount 4)) ∧
    exec (.cartResponse k (.condition false true false)) s = .next (s.cartCmd n 1 0x40FF8000 []) ∧
    exec (.cartResponse k (.condition true false false)) s = .next (s.failMount n 2) ∧
    exec (.cartResponse k (.condition true true true)) s = .next (s.failMount n 3) ∧
    ∀ data, exec (.cartTimeout ⟨k, data⟩) s = .next (s.failMount n 1)) ∧
  (∀ (s : State) (k : Fin 8) (data : List Byte) (sectors : Nat), (s.slotOf k.val).phase = .mount 7 →
    cartHeaderOk data sectors = true →
    ∃ t, exec (.cartResponse k (.block data sectors true)) s = .next t ∧ t.slotState k.val = Slot.held ∧
      t.flag (Fld.CRT_STAT_HDRVALID k.val) = true ∧ (t.slotOf k.val).header = data ∧ (t.slotOf k.val).phase = .idle ∧ t.hmem = s.hmem) ∧
  (∀ (s : State) (k : Fin 8), (s.slotOf k.val).phase = .idle → (∀ data, exec (.cartTimeout ⟨k, data⟩) s = .next s) ∧
    ∀ r, exec (.cartResponse k r) s = .next s) ∧
  (∀ (s : State) (k : Fin 8), ((s.slotOf k.val).phase = .busy ∨ (s.slotOf k.val).phase = .writing ∨ (s.slotOf k.val).phase = .reading) →
    exec (.cartTimeout ⟨k, true⟩) s = .next (s.cartFault k.val) ∧
    ((s.slotOf k.val).tried = false → exec (.cartTimeout ⟨k, false⟩) s = .next
      ((s.setSlot k.val { s.slotOf k.val with tried := true }).repeatCmd k.val))) ∧
  (∀ (s : State) (k : Fin 8) (op : CrtOp) (rest : List CrtOp), (s.slotOf k.val).phase = .busy → (s.slotOf k.val).writes = op :: rest →
    op.finished + 1 < op.count → ∃ t, exec (.cartBlockConfirmed k) s = .next t ∧ (t.slotOf k.val).phase = .writing ∧
      (t.slotOf k.val).writes = { op with finished := op.finished + 1, tried := false } :: rest ∧ t.hmem = s.hmem) ∧
  (∀ (s : State) (k : Fin 8) (op : CrtOp), (s.slotOf k.val).phase = .busy → (s.slotOf k.val).writes = [op] →
    (s.slotOf k.val).reads = [] → (s.slotOf k.val).sleepTo = none → op.count ≤ op.finished + 1 →
    ∃ t, exec (.cartBlockConfirmed k) s = .next t ∧ (t.slotOf k.val).phase = .idle ∧ (t.slotOf k.val).writes = [] ∧
      t.reg (Reg.CRT_WRES k.val) = 0 ∧ (op.journalled = true → t.flag (Fld.CRT_JSTAT_JDONE k.val) = true) ∧ t.hmem = s.hmem) ∧
  (∀ (s : State) (k : Fin 8), (s.portOn (42 + k.val) = false ∨ s.slotState k.val = Slot.empty → exec (.cartRemove k) s = .next s) ∧
    (s.portOn (42 + k.val) = true → s.slotState k.val ≠ Slot.empty →
      ∃ t, exec (.cartRemove k) s = .next t ∧ t.slotState k.val = Slot.empty ∧ (t.slotOf k.val).reads = [] ∧ (t.slotOf k.val).writes = [])) ∧
  (∀ (s b : State) (p : PairId) (k : Fin 8) (v : Word) (r : EngReq), s.Accesses p.val (Reg.CRT_SUBMIT k.val) .store b →
    b.portSubmission p.val 32 v ((b.slotOf k.val).reads.any (fun o => o.req.pair == p.val)) = some r →
    let ws := b.portWords r 32
    let op : CrtOp := ⟨r, ws, 0, 0, fld 31 24 (ws.getD 0 0), false, [], 0, false, false, none⟩
    let usable := b.slotState k.val = Slot.ready ∨ b.slotState k.val = Slot.sleep
    (b.portOn (42 + k.val) = false → exec (.crtSubmit p k v) s = .next (b.endCartRead op St.portDisabled 0x40)) ∧
    (b.portOn (42 + k.val) = true → ¬usable → exec (.crtSubmit p k v) s = .next (b.endCartRead op St.portAbsent 0x41)) ∧
    (∀ e, b.portOn (42 + k.val) = true → usable → b.cartCheck k.val r ws 1 = .error e →
      exec (.crtSubmit p k v) s = .next (b.endCartRead op e.1 e.2)) ∧
    (∀ a j, b.portOn (42 + k.val) = true → usable → b.cartCheck k.val r ws 1 = .ok (a, j) →
      exec (.crtSubmit p k v) s = .next
        ((b.updSlot k.val (fun x => { x with reads := x.reads ++ [{ op with abs := a }] })).cartNext k.val))) ∧
  (∀ (s b : State) (p : PairId) (k : Fin 8) (v : Word) (r : EngReq) (j : Job), s.Accesses p.val (Reg.CRT_STAGE k.val) .store b →
    b.portSubmission p.val 32 v false = some r → b.armedJob p.val = some j → j.src ≠ .load →
    let ws := b.portWords r 32
    let n := fld 31 24 (ws.getD 0 0)
    j.frameRoom (512 * n) = true → (b.slotOf k.val).writes.length + (b.stagedFor (42 + k.val)).length < 4 →
    (b.portOn (42 + k.val) = false → exec (.crtStage p k v) s = .next (b.stagedWrite k.val St.portDisabled 0x40)) ∧
    let usable := b.slotState k.val = Slot.ready ∨ b.slotState k.val = Slot.sleep
    (b.portOn (42 + k.val) = true → ¬usable → exec (.crtStage p k v) s = .next (b.stagedWrite k.val St.portAbsent 0x41)) ∧
    (∀ e, b.portOn (42 + k.val) = true → usable → b.cartCheck k.val r ws 2 = .error e →
      exec (.crtStage p k v) s = .next (b.stagedWrite k.val e.1 e.2)) ∧
    (∀ a jr, b.portOn (42 + k.val) = true → usable → b.cartCheck k.val r ws 2 = .ok (a, jr) →
      let m := State.portRead 32 b (42 + k.val) (ws.getD 2 0).toNat (512 * n)
      (∀ t data, m = (t, .ok data) →
        exec (.crtStage p k v) s = .next ((t.stageFrame p.val ⟨42 + k.val, b2n jr, a, data⟩).stagedWrite k.val St.ok 0)) ∧
      ∀ t e, m = (t, .error e) → exec (.crtStage p k v) s = .next (t.stagedWrite k.val e.1 e.2))) ∧
  (∀ (s : State) (p : PairId),
    let k := s.gateArg p.val 4
    (s.Asks p.val 3 1 → 8 ≤ k → exec (.jopen p true) s = .next (s.gateReturn p.val [St.param])) ∧
    (s.Asks p.val 3 1 → k < 8 → (s.slotOf k).writes = [] → exec (.jopen p true) s = .next (s.gateReturn p.val [St.param])) ∧
    (∀ op rest m, s.Asks p.val 3 1 → k < 8 → (s.slotOf k).writes = op :: rest → op.journalled = true → (s.slotOf k).phase = .idle →
      s.slotState k = Slot.ready → s.bootKey Label.lmac = some m → s.nvmBlank (jrnOff k (s.nextSeq k)) 0x4000 = true →
      (∃ t : State, exec (.jopen p true) s = .next ((t.cartNext k).gateReturn p.val [St.ok]) ∧
        (t.slotOf k).writes = { op with asked := true, record := some (s.nextSeq k) } :: rest) ∧
      exec (.jopen p false) s = .next (((s.incF (Fld.CRT_ERRCNT_FAIL k)).finishWrite k St.faultHw 0x31).gateReturn p.val [St.faultHw])) ∧
    (s.Asks p.val 3 2 → k < 8 → s.flag (Fld.CRT_JSTAT_JDONE k) = false → exec (.jclose p) s = .next (s.gateReturn p.val [St.param])) ∧
    (s.Asks p.val 3 2 → k < 8 → let q := s.getF (Fld.CRT_JARM_SEQ k)
      s.flag (Fld.CRT_JSTAT_JDONE k) = true → s.jrnOpen k (q % 16) = true → let t := (s.closeRecord k (q % 16)).setF (Fld.CRT_JARM_SEQ k) 0
      (q % 4 ≠ 0 → exec (.jclose p) s = .next ((t.cartNext k).gateReturn p.val [St.ok])) ∧
      (q % 4 = 0 → exec (.jclose p) s = .next (((t.issueErase (jrnOff k (q + 4))).cartNext k).gateReturn p.val [St.ok]))) ∧
    (s.Asks p.val 3 3 → k < 8 → s.slotState k = Slot.empty → exec (.jcheck p) s = .next (s.gateReturn p.val [St.portAbsent])) ∧
    (s.Asks p.val 3 3 → k < 8 → s.slotState k = Slot.held → s.openRecords k = [] → ∃ t : State,
      exec (.jcheck p) s = .next ((t.cartNext k).gateReturn p.val [St.ok]) ∧ t.slotState k = Slot.ready ∧ t.pairs = s.pairs) ∧
    (s.Asks p.val 3 4 → k < 8 → s.openRecords k = [] → exec (.jdiscard p) s = .next (s.gateReturn p.val [St.ok])) ∧
    (∀ r rest, s.Asks p.val 3 4 → k < 8 → s.openRecords k = r :: rest →
      let t := (s.closeRecord k r).portLog (42 + k) St.ok 0 0
      s.flag (Fld.CRT_JSTAT_FOREIGN k) = true → t.flag (Fld.CRT_JSTAT_FOREIGN k) = true → t.openRecords k ≠ [] →
      exec (.jdiscard p) s = .next ((t.cartNext k).gateReturn p.val [St.ok])))

/-! ## Contactless front ends -/

/-- Exchange x stands at the head of front end f's queue, has OP `op` and may run now: it has not run, the front end is an enabled
reader outside quarantine, and R405 refuses nothing of it. -/
structure Sys2Proof.Machine.State.RfRuns (s : State) (f op : Nat) (x : PortExch) : Prop where
  head : (s.rfOf f).queue.head? = some x
  fresh : (s.rfOf f).result = none
  starts : s.portStarts (50 + f) = true
  reader : s.rfModeOf f = 1
  isIt : rfOp x.words = op
  passes : s.rfCheck f x = none

/-- R397, R400: a write of CFG holds what its fields admit, and a MODE that differs from the one in force is taken once no exchange
is started: the queue ends and the tag falls back to OFF. A store to SUBMIT queues an exchange on an enabled reader; on any
other front end it ends with PORT_DISABLED, CODE 0x40. R398, R402, R405, R406: an exchange at the head of the queue turns the
field on, sends its frame and holds its result: the answer in the buffer with RXLEN, or the code of what it met. Its end writes
the record and frees the queue's place, with PORT_DISABLED, CODE 0x44, where it was cut, and without a record where its job was
abandoned; one whose descriptor R405 refuses ends without having run. -/
def Obligations.FrontEndsRunReaderExchanges : Prop :=
  ((∀ (s b : State) (m : Master) (f : Fin 4) (v : Word), s.Masters m.val (Reg.RF_CFG f.val) b →
    let w := b.writeReg (Reg.RF_CFG f.val) v
    let want := w.getF (Fld.RF_CFG_MODE f.val)
    (want = w.rfModeOf f.val → exec (.rfModeWrite m f v) s = .next w) ∧
    (want ≠ w.rfModeOf f.val → (w.rfOf f.val).result ≠ none →
      exec (.rfModeWrite m f v) s = .next (w.updRf f.val (fun u => { u with cut := true }))) ∧
    (want ≠ w.rfModeOf f.val → (w.rfOf f.val).result = none → ∃ t : State, exec (.rfModeWrite m f v) s = .next t ∧
      t.rfModeOf f.val = want ∧ (t.rfOf f.val).queue = [] ∧ (t.rfOf f.val).active = none ∧ t.tags = w.tags ∧
      ((w.rfOf f.val).queue = [] → t.pairs = w.pairs))) ∧
  (∀ (s b : State) (p : PairId) (f : Fin 4) (v : Word) (r : EngReq), s.Accesses p.val (Reg.RF_SUBMIT f.val) .store b →
    let n := f.val
    let q := (b.rfOf n).queue
    b.portSubmission p.val 32 v (decide (4 ≤ q.length) || q.any (fun x => x.req.pair == p.val)) = some r →
    let x : PortExch := ⟨r, b.portWords r 32⟩
    let usable := b.portOn (50 + n) = true ∧ b.rfModeOf n = 1 ∧ b.getF (Fld.RF_CFG_MODE n) = 1
    (b.ownsTenant p.val (b.getF (Fld.RF_CFG_TENANT n)) = false →
      exec (.rfSubmit p f v) s = .next (b.raise p.val ⟨Cause.busError, wd (0x40000000 + Reg.RF_SUBMIT n)⟩)) ∧
    (b.ownsTenant p.val (b.getF (Fld.RF_CFG_TENANT n)) = true → usable →
      exec (.rfSubmit p f v) s = .next ((b.updRf n (fun u => { u with queue := u.queue ++ [x] })).syncXq n)) ∧
    (b.ownsTenant p.val (b.getF (Fld.RF_CFG_TENANT n)) = true → ¬usable →
      exec (.rfSubmit p f v) s = .next (b.endExch x St.portDisabled 0x40 0))) ∧
  (∀ (s : State) (f : Fin 4),
    let n := f.val
    let seen := (s.setF (Fld.RF_STAT_FIELD n) 1).setF (Fld.RF_STAT_FLDCHG n) 1
    (s.flag (Fld.RF_STAT_FIELD n) = true → exec (.fieldDetect f) s = .next s) ∧
    (s.flag (Fld.RF_STAT_FIELD n) = false → s.rfModeOf n = 2 → exec (.fieldDetect f) s = .next (seen.enterIdle n)) ∧
    (s.flag (Fld.RF_STAT_FIELD n) = false → s.rfModeOf n ≠ 2 → exec (.fieldDetect f) s = .next seen) ∧
    (s.flag (Fld.RF_STAT_FIELD n) = true → exec (.fieldLoss f) s = .next
      (((s.setF (Fld.RF_STAT_FIELD n) 0).setF (Fld.RF_STAT_FLDCHG n) 1).tagOff n)) ∧
    (s.flag (Fld.RF_STAT_FIELD n) = false → exec (.fieldLoss f) s = .next s))) ∧
  (∀ (s : State) (f : Fin 4) (x : PortExch),
    let n := f.val
    let on := s.setF (Fld.RF_STAT_FON n) 1
    let tx := State.portRead 32 on (50 + n) (x.words.getD 2 0).toNat (rfTx x.words)
    let puts := fun (t : State) bs => State.portWrite 32 t (50 + n) (x.words.getD 3 0).toNat bs
    let lost := fun (t : State) => t.updRf n (fun u => { u with active := none })
    (∀ t bs ans, s.RfRuns n 1 x → tx = (t, .ok bs) →
      let crc := bit 24 (x.words.getD 0 0)
      let sent := t.emit (.frame (50 + n) 1 (bs ++ (if crc then (if rfTypeB x.words then crcB bs else crcA bs) else [])))
      (ans.answered = false → exec (.raw f ans) s = .next (sent.rfResult n St.portAbsent 0x41 0)) ∧
      (∀ u, ans.answered = true → ans.data.length ≤ rfCap x.words → puts (sent.rfErrors n ans) ans.data = (u, true) →
        exec (.raw f ans) s = .next (u.rfResult n St.ok 0 (rfWord7 ans.collPos.val false ans.coll ans.parErr (crc && ans.crcErr)
          ans.rxBits.val ans.data.length)))) ∧
    (∀ t e ans, tx = (t, .error e) → (s.RfRuns n 1 x → exec (.raw f ans) s = .next (t.rfResult n e.1 e.2 0)) ∧
      (s.RfRuns n 2 x → exec (.rfApdu f ans) s = .next (t.rfResult n e.1 e.2 0)) ∧
      (s.RfRuns n 4 x → exec (.rfActivate f ans) s = .next (t.rfResult n e.1 e.2 0))) ∧
    (∀ t bs ans, s.RfRuns n 2 x → tx = (t, .ok bs) → ans.crcErr = false → ans.parErr = false →
      let sent := t.emit (.frame (50 + n) 2 bs)
      (ans.answered = false → exec (.rfApdu f ans) s = .next ((lost (sent.incF (Fld.RF_ERRCNT_PROTO n))).rfResult n St.portAbsent 0x42 0)) ∧
      (∀ u, ans.answered = true → ans.data.length ≤ rfCap x.words → puts sent ans.data = (u, true) →
        exec (.rfApdu f ans) s = .next (u.rfResult n St.ok 0 (wd ans.data.length)))) ∧
    (∀ c u, s.RfRuns n 3 x → rfTypeB x.words = false → c.typeB = false → 16 ≤ rfCap x.words →
      puts (on.emit (.frame (50 + n) 3 [0x52#8])) (invEntry c) = (u, true) →
      exec (.inventory f [c]) s = .next (u.rfResult n St.ok 0 16#32)) ∧
    (∀ t bs ans, s.RfRuns n 4 x → tx = (t, .ok bs) → ans.crcErr = false → ans.parErr = false →
      let sent := lost (t.emit (.frame (50 + n) 4 bs))
      (ans.answered = false → exec (.rfActivate f ans) s = .next (sent.rfResult n St.portAbsent 0x41 0)) ∧
      (∀ u, ans.answered = true → ans.data.length ≤ rfCap x.words →
        puts (sent.updRf n (fun u => { u with active := some (activeOf (rfTypeB x.words) ans.data (rfRate x.words)) })) ans.data =
          (u, true) → exec (.rfActivate f ans) s = .next (u.rfResult n St.ok 0 (wd ans.data.length)))) ∧
    (s.RfRuns n 5 x → exec (.fieldReset f) s = .next (((lost on).emit (.frame (50 + n) 5 [])).rfResult n St.ok 0 0)) ∧
    (s.RfRuns n 6 x → exec (.rfDeactivate f) s = .next (((lost on).emit (.frame (50 + n) 6 [])).rfResult n St.ok 0 0)) ∧
    (∀ rest st code w7, (s.rfOf n).queue = x :: rest →
      let next := s.updRf n (fun u => { u with queue := rest, result := none, cut := false, silent := false })
      let idle := (s.rfOf n).cut = false ∧ (s.rfOf n).silent = false ∧ s.portStarts (50 + n) = true
      (idle → (s.rfOf n).result = some (st, code, w7) →
        exec (.rfExchangeDone f) s = .next (((next.endExch x st code w7).syncXq n).rfModeStep n)) ∧
      ((s.rfOf n).silent = false → (s.rfOf n).cut = true → s.portStarts (50 + n) = true → (s.rfOf n).result = some (st, code, w7) →
        exec (.rfExchangeDone f) s = .next (((next.endExch x St.portDisabled 0x44 (wd (fld 15 0 w7))).syncXq n).rfModeStep n)) ∧
      ((s.rfOf n).silent = true → s.portStarts (50 + n) = true → (s.rfOf n).result = some (st, code, w7) →
        exec (.rfExchangeDone f) s = .next ((next.syncXq n).rfModeStep n)) ∧
      (idle → (s.rfOf n).result = none → s.rfModeOf n = 1 → s.rfCheck n x = some (st, code) →
        exec (.rfExchangeDone f) s = .next (((next.endExch x st code 0).syncXq n).rfModeStep n)) ∧
      (idle → (s.rfOf n).result = none → s.rfModeOf n = 1 → s.rfCheck n x = none → exec (.rfExchangeDone f) s = .next s)) ∧
    ((s.rfOf n).queue = [] → s.flag (Fld.RF_STAT_FON n) = true → exec (.fieldIdleOff f) s = .next (s.fieldOff n)) ∧
    ((s.rfOf n).queue ≠ [] → exec (.fieldIdleOff f) s = .next s))

/-- R407, R408: the emulated tag answers a request, the anticollision, a selection, RATS and PPS in the states that admit them, and
nothing in any other; HLTA and DESELECT halt it. -/
def Obligations.EmulatedTagAnswersInItsStates : Prop :=
  ∀ (s : State) (f : Fin 4),
    let n := f.val
    let u := s.rfOf n
    let st := s.tstate n
    (s.tagHears n = false →
      exec (.reqa f) s = .next s ∧ exec (.wupa f) s = .next s ∧ exec (.hlta f) s = .next s ∧ exec (.deselect f) s = .next s) ∧
    (s.tagHears n = true → st = 1 → exec (.reqa f) s = .next (s.sendAtqa n)) ∧
    (st ≠ 1 → exec (.reqa f) s = .next s) ∧
    (s.tagHears n = true → (st = 1 ∨ st = 4) → exec (.wupa f) s = .next (s.sendAtqa n)) ∧
    (st ≠ 1 → st ≠ 4 → exec (.wupa f) s = .next s) ∧
    (∀ (cl : Fin 3) (bits : List Byte), s.tagHears n = true → st = 2 → cl.val = u.level → u.levelBytes ≠ [] →
      exec (.anticollision f cl 0x20 bits) s = .next (s.tagAnswer n u.levelBytes)) ∧
    (∀ (cl : Fin 3) (first : Byte) (bits : List Byte), s.tagHears n = true → st = 2 → cl.val = u.level → 2 ≤ u.levelBytes.length →
      (first = u.levelBytes.getD 0 0 → exec (.anticollision f cl 0x30 (first :: bits)) s = .next (s.tagAnswer n (u.levelBytes.drop 1))) ∧
      (first ≠ u.levelBytes.getD 0 0 → exec (.anticollision f cl 0x30 (first :: bits)) s = .next s)) ∧
    (∀ cl : Fin 3, s.tagHears n = true → st = 2 → cl.val = u.level → u.uid.length = 7 → u.cl1 = false →
      exec (.select f cl u.levelBytes) s = .next ((s.updRf n (fun u => { u with cl1 := true })).tagAnswer n (0x04#8 :: crcA [0x04#8]))) ∧
    (∀ cl : Fin 3, s.tagHears n = true → st = 2 → cl.val = u.level → (u.uid.length ≠ 7 ∨ u.cl1 = true) →
      exec (.select f cl u.levelBytes) s = .next ((s.setTstate n 3).tagAnswer n (0x20#8 :: crcA [0x20#8]))) ∧
    (∀ (cl : Fin 3) bs, bs ≠ u.levelBytes → exec (.select f cl bs) s = .next s) ∧
    (s.tagHears n = true → st = 3 → exec (.hlta f) s = .next (s.haltTag n)) ∧
    (∀ param, s.tagHears n = true → st = 3 → exec (.rats f param) s = .next ((s.setTstate n 5).tagAnswer n (tagAts ++ crcA tagAts))) ∧
    (∀ param, st ≠ 3 → exec (.rats f param) s = .next s) ∧
    (∀ d : Fin 4, s.tagHears n = true → st = 5 → d.val ≤ s.getF (Fld.RF_CFG_EMURATE n) →
      exec (.pps f d d) s = .next ((s.updRf n (fun u => { u with rate := d.val })).tagAnswer n (0xD0#8 :: crcA [0xD0#8]))) ∧
    (∀ dsi dri : Fin 4, dsi ≠ dri → exec (.pps f dsi dri) s = .next s) ∧
    (s.tagHears n = true → 5 ≤ st → exec (.deselect f) s = .next ((s.tagAnswer n (0xC2#8 :: crcA [0xC2#8])).haltTag n))

/-- R409–R414: in PROTOCOL and SECURED_PWD a tag command answers STS and its data: a read gives the block, a write stores it in the
copy not selected, each where the sector's right admits the state; PWD leads to SECURED_PWD; AUTH1 draws RB and proves K, AUTH2
derives KS and leads to SECURED_AES; a wrong length or code answers 0x01, an uncorrectable word 0x06, and a wrong MAC ends the
secured state. R411, R415–R417: a supervisor pair with an armed job loads K from a blob and its use is staged, or clears it;
TRES tells the outcome. The store to TSTG<7> stages a block for the job's commit, and a load of the tag store window reads the
selected copy; a pair without the right to the front end raises bus error. -/
def Obligations.TagCommandsKeysAndStore : Prop :=
  (∀ (s : State) (f : Fin 4), s.tagHears f.val = true →
    let n := f.val
    let u := s.rfOf n
    let plain := s.tstate n = 5 ∨ s.tstate n = 6
    (∀ (lo hi : Byte) chk, plain →
      let b := lo.toNat + 256 * hi.toNat
      (b ≤ 1023 → s.tagPermits n b 0 = true → chk ≠ .uncorrectable →
        exec (.tagRead f ⟨[0x10#8, lo, hi], chk⟩) s = .next (s.tagAnswer n (0#8 :: s.tagBlock n b))) ∧
      (b ≤ 1023 → s.tagPermits n b 0 = true → exec (.tagRead f ⟨[0x10#8, lo, hi], .uncorrectable⟩) s = .next (s.tagAnswer n [0x06#8])) ∧
      (b ≤ 1023 → s.tagPermits n b 0 = false → exec (.tagRead f ⟨[0x10#8, lo, hi], chk⟩) s = .next (s.tagAnswer n [0x02#8])) ∧
      (1023 < b → exec (.tagRead f ⟨[0x10#8, lo, hi], chk⟩) s = .next (s.tagAnswer n [0x03#8]))) ∧
    (∀ (lo hi : Byte) (data : List Byte), plain → data.length = 16 →
      let b := lo.toNat + 256 * hi.toNat
      (b ≤ 1023 → s.tagPermits n b 1 = true →
        exec (.tagWrite f (0x11#8 :: lo :: hi :: data)) s = .next ((s.writeTag n b data true).tagAnswer n [0#8])) ∧
      (b ≤ 1023 → s.tagPermits n b 1 = false → exec (.tagWrite f (0x11#8 :: lo :: hi :: data)) s = .next (s.tagAnswer n [0x02#8]))) ∧
    (∀ pw : List Byte, plain → pw.length = 4 →
      let t := s.reg (Reg.RF_TPWD n)
      let limit := s.getF (Fld.RF_CFG_PWDLIM n)
      (t ≠ 0 → limit ≤ u.pwdFails → exec (.pwd f (0x20#8 :: pw)) s = .next (s.tagAnswer n [0x05#8])) ∧
      (t ≠ 0 → u.pwdFails < limit → ofLe pw = t.toNat → exec (.pwd f (0x20#8 :: pw)) s = .next
        ((((s.updRf n (fun u => { u with pwdFails := 0, ks := [], ctr := 0 })).incF (Fld.RF_CNT_AUTHOK n)).setTstate n 6).tagAnswer n
          [0#8])) ∧
      (t ≠ 0 → u.pwdFails < limit → ofLe pw ≠ t.toNat → exec (.pwd f (0x20#8 :: pw)) s = .next
        (((s.updRf n (fun u => { u with pwdFails := u.pwdFails + 1 })).authFail n).tagAnswer n [0x04#8])) ∧
      (t = 0 → exec (.pwd f (0x20#8 :: pw)) s = .next ((s.authFail n).tagAnswer n [0x04#8]))) ∧
    (∀ ra : List Byte, plain → ra.length = 16 → u.key ≠ [] → s.rngHealthy = true →
      let d := (s.toProtocol n).drawHw 16
      exec (.auth1 f (0x21#8 :: ra)) s = .next ((d.2.updRf n (fun u => { u with ra := ra, rb := d.1 })).tagAnswer n
        (0#8 :: d.1 ++ (aesCmac u.key (0x54#8 :: ra ++ d.1 ++ u.uid7)).take 8))) ∧
    (∀ ra : List Byte, plain → ra.length = 16 → (u.key = [] ∨ s.rngHealthy = false) → exec (.auth1 f (0x21#8 :: ra)) s = .next
      (((s.toProtocol n).updRf n (fun u => { u with ra := [], rb := [] })).tagAnswer n [0x04#8])) ∧
    (∀ tr : List Byte, plain → tr.length = 8 →
      let right := u.key ≠ [] ∧ u.rb ≠ [] ∧ tr = (aesCmac u.key (0x52#8 :: u.rb ++ u.ra)).take 8
      let done := s.updRf n (fun u => { u with ra := [], rb := [] })
      (¬right → exec (.auth2 f (0x22#8 :: tr)) s = .next ((done.authFail n).tagAnswer n [0x04#8])) ∧
      (right → ∃ t : State, exec (.auth2 f (0x22#8 :: tr)) s = .next t ∧ t.tstate n = 7 ∧
        (t.rfOf n).ks = aesCmac u.key (0x53#8 :: u.ra ++ u.rb) ∧ t.tags = s.tags ∧ t.pairs = s.pairs)) ∧
    (plain → exec (.info f [0x30#8]) s = .next (s.tagAnswer n (0#8 :: u.uid7 ++ leBytes 1 (s.tstate n) ++ leBytes 2 1024))) ∧
    (∀ (lo : Byte) chk, plain → exec (.tagRead f ⟨[0x10#8, lo], chk⟩) s = .next (s.tagAnswer n [0x01#8])) ∧
    (s.tstate n < 5 → ∀ inf chk, exec (.tagRead f ⟨inf, chk⟩) s = .next s ∧ exec (.info f inf) s = .next s) ∧
    (∀ lo hi m, s.tstate n = 7 → m.length = 4 →
      let b := lo.toNat + 256 * hi.toNat
      (m ≠ u.mac 0x43#8 [0x10#8, lo, hi] → exec (.tagRead f ⟨(0x10#8 :: lo :: hi :: m), .clean⟩) s = .next
        (((s.incF (Fld.RF_CNT_AUTHFAIL n)).toProtocol n).tagAnswer n [0x04#8])) ∧
      (m = u.mac 0x43#8 [0x10#8, lo, hi] → b ≤ 1023 → s.tagPermits n b 0 = true →
        exec (.tagRead f ⟨(0x10#8 :: lo :: hi :: m), .clean⟩) s = .next (s.tagRespond n true (0#8 :: s.tagBlock n b))))) ∧
  (∀ (s b : State) (p : PairId) (f : Fin 4),
    let n := f.val
    let at_ := fun o k => s.Accesses p.val o k b
    let fault := fun o => b.raise p.val ⟨Cause.busError, wd (0x40000000 + o)⟩
    let tenant := b.getF (Fld.RF_CFG_TENANT n)
    let staged := fun (v : Word) => b.setMreg p.val (Reg.RF_TSTG n 7) v
    let word := fun (v : Word) k => (staged v).mreg p.val (Reg.RF_TSTG n k)
    let cleared := fun (v : Word) => (List.range 8).foldl (fun s k => s.setMreg p.val (Reg.RF_TSTG n k) 0) (staged v)
    (at_ (Reg.RF_TKEY n) .store → b.isSupervisor p.val = true → b.armedJob p.val ≠ none →
      exec (.tkeyLoad p f 0) s = .next ((b.updRf n (fun u => { u with key := [] })).setF (Fld.RF_TKEYIDX_LOADED n) 0) ∧
      (∀ (v : Word) st code, v ≠ 0 → v.toNat % 32 = 0 →
        b.portKey p.val v.toNat (b.getF (Fld.RF_TKEYIDX_INDEX n)) tenant (· == 1) = .error (st, code) →
        exec (.tkeyLoad p f v) s = .next (b.setTres p.val n st code)) ∧
      (∀ (v : Word) key t, v ≠ 0 → v.toNat % 32 = 0 →
        b.portKey p.val v.toNat (b.getF (Fld.RF_TKEYIDX_INDEX n)) tenant (· == 1) = .ok (key, t) →
        exec (.tkeyLoad p f v) s = .next
          (((t.updRf n (fun u => { u with key := key })).setF (Fld.RF_TKEYIDX_LOADED n) 1).setTres p.val n St.ok 0))) ∧
    (∀ v, at_ (Reg.RF_TKEY n) .store → b.isSupervisor p.val = false → exec (.tkeyLoad p f v) s = .next (fault (Reg.RF_TKEY n))) ∧
    (∀ v j, at_ (Reg.RF_TSTG n 7) .store → b.armedJob p.val = some j → j.src ≠ .load → b.ownsTenant p.val tenant = true →
      j.frameRoom 16 = true →
      (word v 5 = 0 → word v 6 = 0 → b.portOn (50 + n) = true →
        exec (.tagStage p f v) s = .next (((cleared v).stageFrame p.val
          ⟨50 + n, 0, fld 9 0 (word v 0), wordsBytes [word v 1, word v 2, word v 3, word v 4]⟩).setTres p.val n St.ok 0)) ∧
      (word v 5 ≠ 0 → exec (.tagStage p f v) s = .next ((cleared v).setTres p.val n St.param 0x01))) ∧
    (∀ v, at_ (Reg.RF_TSTG n 7) .store → b.armedJob p.val = none → exec (.tagStage p f v) s = .next (fault (Reg.RF_TSTG n 7))) ∧
    (∀ (off : Fin 4096) chk, let o := 0x400000 + 0x4000 * n + 4 * off.val
      at_ o .load → (b.ownsTenant p.val tenant = true → chk ≠ .uncorrectable → exec (.tagStoreLoad p f off chk) s = .next b) ∧
        (b.ownsTenant p.val tenant = false ∨ chk = .uncorrectable → exec (.tagStoreLoad p f off chk) s = .next (fault o))))

/-! ## Heads, contact cards and actuation outputs -/

/-- R52, R423–R426: an enabled head port probes its head, 32 Beats after the last probe; the third probe in a row without an answer
loses it. An answer makes it present and, with a key loaded, begins keying; KEYX2 of a right tag and FSEQ 0 gives the session
key and KEYED; a wrong one, or none, ends the keying. A key loaded from a blob begins keying, and a store of 0 destroys it.
R427, R429: a command frame in sequence from a keyed head is taken, and refused with the status of the first header check that
fails or posted; a frame out of sequence or with a wrong tag drops the session. A store to STAGE stages a NOTICE for the job's
commit, or tells in SRES why not. -/
def Obligations.HeadsAreKeyedAndCommand : Prop :=
  ((∀ (s : State) (hd : Fin 32),
    let h := hd.val
    let u := s.headOf h
    let isDue := due s.beatNow 32 u.probeAt = true
    (s.portOn (10 + h) = false ∨ ¬isDue → exec (.headProbe hd) s = .next s) ∧
    (s.portOn (10 + h) = true → isDue → u.probing = false → (s.headPresent h = false ∨ u.misses < 3) →
      exec (.headProbe hd) s = .next (((s.updHead h (fun u => { u with probeAt := some s.beatNow })).updHead h
        (fun u => { u with probing := true })).sendPlain h HeadType.probe [])) ∧
    (s.portOn (10 + h) = true → isDue → u.probing = true → s.headPresent h = true → u.misses = 2 → ∃ t : State,
      exec (.headProbe hd) s = .next t ∧ t.headPresent h = false ∧ t.headKeyed h = false ∧ (t.headOf h).ks = [] ∧ (t.headOf h).notices = [] ∧
        t.flag (Fld.HEAD_STAT_LOST h) = true ∧ t.pairs = s.pairs ∧ t.hmem = s.hmem) ∧
    (∀ hid : List Byte, s.portOn (10 + h) = true → hid.length = 16 → u.probing = true → (s.headPresent h = true → u.hid = hid) →
      exec (.present hd hid) s = .next (((s.updHead h (fun u => { u with hid := hid, misses := 0, probing := false })).setPresent h
        true).startKeying h)) ∧
    (∀ hid : List Byte, s.portOn (10 + h) = true → hid.length = 16 → u.probing = false → exec (.present hd hid) s = .next s) ∧
    (∀ hid : List Byte, s.portOn (10 + h) = true → hid.length ≠ 16 → exec (.present hd hid) s = .next (s.incF (Fld.HEAD_ERRCNT_LINE h))) ∧
    (∀ rh : List Byte, s.portOn (10 + h) = true → rh.length = 16 → u.rd ≠ [] →
      let ks := aesCmac u.key (0x48#8 :: u.rd ++ rh ++ u.hid)
      let keyed := s.updHead h (fun u => { u with ks := ks, rd := [], tx := 0, rx := some 0, nextSeq := 0 })
      exec (.keyx2 hd rh 0 true) s = .next (((keyed.sendKeyed h HeadType.keyx3 []).setF (Fld.HEAD_STAT_KEYED h) 1).sendNotices h) ∧
      (∀ fseq, exec (.keyx2 hd rh fseq false) s = .next (s.keyingFailed h)) ∧
      (∀ fseq, fseq ≠ 0 → exec (.keyx2 hd rh fseq true) s = .next (s.keyingFailed h))) ∧
    (u.rd ≠ [] → exec (.keyxTimeout hd) s = .next (s.keyingFailed h)) ∧
    (u.rd = [] → exec (.keyxTimeout hd) s = .next s)) ∧
  (∀ (s b : State) (p : PairId) (hd : Fin 32), s.Accesses p.val (Reg.HEAD_HKEY hd.val) .store b →
    let h := hd.val
    let tenant := b.getF (Fld.HEAD_CFG_TENANT h)
    b.isSupervisor p.val = true → b.armedJob p.val ≠ none →
      exec (.hkeyLoad p hd 0) s = .next
        (((b.updHead h (fun u => { u with key := [] })).setF (Fld.HEAD_HKEYIDX_LOADED h) 0).dropHeadKey h) ∧
      (∀ (v : Word) st code, v ≠ 0 → v.toNat % 32 = 0 →
        b.portKey p.val v.toNat (b.getF (Fld.HEAD_HKEYIDX_INDEX h)) tenant isAes = .error (st, code) →
        exec (.hkeyLoad p hd v) s = .next (b.setHeadRes p.val h st code)) ∧
      (∀ (v : Word) key t, v ≠ 0 → v.toNat % 32 = 0 →
        b.portKey p.val v.toNat (b.getF (Fld.HEAD_HKEYIDX_INDEX h)) tenant isAes = .ok (key, t) →
        exec (.hkeyLoad p hd v) s = .next
          ((((t.updHead h (fun u => { u with key := key })).setF (Fld.HEAD_HKEYIDX_LOADED h) 1).setHeadRes p.val h St.ok 0).startKeying
            h)))) ∧
  ((∀ (s : State) (hd : Fin 32) (fseq : Word) (hdr : List Word) (params : List Byte) (adm : Admission),
    let h := hd.val
    let src := Stream.head hd
    let u := s.headOf h
    let got := s.updHead h (fun u => { u with rx := some fseq.toNat })
    let taken := (got.updHead h (fun u => { u with nextSeq := nextSeqOf hdr })).takeCommand src hdr
    let check := got.headerCheck hdr params 968 0 u.nextSeq src (got.flag (Fld.HEAD_CFG_BOUND h) && cmdTenant hdr ==
      got.getF (Fld.HEAD_CFG_TENANT h)) (got.headOpOk h params)
    (s.portStarts (10 + h) = false → exec (.headCmd hd fseq true hdr params adm) s = .next s) ∧
    (s.portStarts (10 + h) = true → headCmdLenOk hdr params = false →
      exec (.headCmd hd fseq true hdr params adm) s = .next (s.incF (Fld.HEAD_ERRCNT_LINE h))) ∧
    (s.portStarts (10 + h) = true → headCmdLenOk hdr params = true →
      (s.headKeyed h = false ∨ fseq.toNat ≠ u.rx.getD 0 + 1) →
      exec (.headCmd hd fseq true hdr params adm) s = .next (s.dropKeyedFrame h)) ∧
    (s.portStarts (10 + h) = true → headCmdLenOk hdr params = true → s.headKeyed h = true → fseq.toNat = u.rx.getD 0 + 1 →
      (∀ st sub, check = some (st, sub) →
        exec (.headCmd hd fseq true hdr params adm) s = .next ((taken.refuseCommand src (hdrTag hdr) st sub).rekeyHead h)) ∧
      (check = none → 8 ≤ s.headOut hd →
        exec (.headCmd hd fseq true hdr params adm) s = .next ((taken.refuseCommand src (hdrTag hdr) St.queueFull 0).rekeyHead h)) ∧
      (check = none → s.headOut hd < 8 →
        exec (.headCmd hd fseq true hdr params adm) s = .next ((taken.postCommand (10 + h) src hdr params adm).rekeyHead h)))) ∧
  (∀ (s b : State) (p : PairId) (hd : Fin 32) (v : Word) (j : Job), s.Accesses p.val (Reg.HEAD_STAGE hd.val) .store b →
    b.armedJob p.val = some j →
    let h := hd.val
    let x := b.pair p.val
    let r : EngReq := ⟨p.val, indexOf p.val, b.isSupervisor p.val, x.ring, v.toNat - fabricBase, x.mpuF⟩
    let ws := b.portWords r 32
    let n := (ws.getD 0 0).toNat
    let buf := (ws.getD 1 0).toNat
    j.src ≠ .load → b.mayNotice p.val h = true → v.toNat % 32 = 0 → r.allows v.toNat 32 .load = true → j.frameRoom n = true →
      let refused := fun st code => exec (.headStage p hd v) s = .next (b.setHeadRes p.val h st code)
      let formed := 1 ≤ n ∧ n ≤ 1000 ∧ buf % 4 = 0 ∧ ∀ w ∈ ws.drop 2, w = 0
      (¬formed → refused St.param 0x01) ∧
      (formed → r.allows buf n .load = false → refused St.param 0x02) ∧
      (formed → r.allows buf n .load = true → b.portOn (10 + h) = false → refused St.portDisabled 0x40) ∧
      (formed → r.allows buf n .load = true → b.portOn (10 + h) = true → 16 ≤ b.noticePlaces h → refused St.busy 0x20) ∧
      (formed → r.allows buf n .load = true → b.portOn (10 + h) = true → b.noticePlaces h < 16 →
        let m := State.portRead 32 b (10 + h) buf n
        (∀ t data, m = (t, .ok data) →
          exec (.headStage p hd v) s = .next ((t.stageFrame p.val ⟨10 + h, HeadType.notice, h, data⟩).setHeadRes p.val h St.ok 0)) ∧
        ∀ t e, m = (t, .error e) → exec (.headStage p hd v) s = .next (t.setHeadRes p.val h e.1 e.2))))

/-- Exchange x stands at the head of contact card port n's queue, has OP `op` and may run now. -/
structure Sys2Proof.Machine.State.ScRuns (s : State) (n op : Nat) (x : PortExch) : Prop where
  head : (s.scOf n).queue.head? = some x
  fresh : (s.scOf n).result = none
  starts : s.portStarts (54 + n) = true
  isIt : descOp x.words = op
  passes : s.scCheck n x = none

/-- R434–R437: a submission by a supervisor pair queues an exchange. An activation that finds a card of a permitted class leaves it
READY with its ATR, and any other FAILED; an APDU's answer goes to the buffer; DEACTIVATE powers the card down; the end writes
the record and frees the queue's place, with PORT_DISABLED, CODE 0x44, at a port out of service. R438–R440: a pulse of permitted
length is staged for its job once per output, with a place reserved, and any other staging tells in SRES why not. A released
pulse begins, drives the active level, and ends after its length; a readback that differs from the level expected sets RBFAIL
and is an event of monitor 85 + n. -/
def Obligations.ContactCardsAndActuationOutputs : Prop :=
  ((∀ (s b : State) (p : PairId) (n : Fin 2) (v : Word) (r : EngReq), s.Accesses p.val (Reg.SC_SUBMIT n.val) .store b →
    let q := (b.scOf n.val).queue
    b.portSubmission p.val 32 v (decide (2 ≤ q.length) || q.any (fun x => x.req.pair == p.val)) = some r →
    let x : PortExch := ⟨r, b.portWords r 32⟩
    (b.isSupervisor p.val = false →
      exec (.scSubmit p n v) s = .next (b.raise p.val ⟨Cause.busError, wd (0x40000000 + Reg.SC_SUBMIT n.val)⟩)) ∧
    (b.isSupervisor p.val = true → b.portOn (54 + n.val) = false → exec (.scSubmit p n v) s = .next (b.endScExch x St.portDisabled 0x40 0)) ∧
    (b.isSupervisor p.val = true → b.portOn (54 + n.val) = true →
      exec (.scSubmit p n v) s = .next ((b.updSc n.val (fun u => { u with queue := u.queue ++ [x] })).syncScq n.val))) ∧
  (∀ (s : State) (c : Fin 2) (x : PortExch),
    let n := c.val
    (∀ r : AtrResult, s.ScRuns n 1 x → r.err = 0 → s.classPermitted n r.cls.val = true → ∃ t : State,
      exec (.scActivate c r) s = .next t ∧ t.cardState n = Card.ready ∧ t.getF (Fld.SC_STAT_ERR n) = 0 ∧
        t.getF (Fld.SC_STAT_ATRLEN n) = (r.atr.take 33).length ∧ (∀ w, w < 9 → t.reg (Reg.SC_ATR n w) = wd (leAt (r.atr.take 33) (4 * w) 4)) ∧
        (t.scOf n).result = some (St.ok, 0, 0) ∧ t.pairs = s.pairs ∧ t.hmem = s.hmem) ∧
    (∀ r : AtrResult, s.ScRuns n 1 x → (r.err ≠ 0 ∨ s.classPermitted n r.cls.val = false) → ∃ t : State,
      exec (.scActivate c r) s = .next t ∧ t.cardState n = Card.failed ∧ (t.scOf n).result = some (St.portAbsent, 0x41, 0)) ∧
    (∀ t e r, s.ScRuns n 2 x → State.portRead 300 s (54 + n) (x.words.getD 2 0).toNat (scTx x.words) = (t, .error e) →
      exec (.scApduExchange c r) s = .next (t.scResult n e.1 e.2 0)) ∧
    (∀ t bs r, s.ScRuns n 2 x → State.portRead 300 s (54 + n) (x.words.getD 2 0).toNat (scTx x.words) = (t, .ok bs) →
      r.parErr = false → r.crcErr = false →
      let sent := t.emit (.frame (54 + n) 2 bs)
      (∀ u, r.answered = true → r.data.length ≤ scCap x.words →
        State.portWrite 300 sent (54 + n) (x.words.getD 3 0).toNat r.data = (u, true) →
        exec (.scApduExchange c r) s = .next (u.scResult n St.ok 0 r.data.length)) ∧
      (r.answered = false → sent.flag (Fld.SC_STAT_T1 n) = true →
        exec (.scApduExchange c r) s = .next ((sent.cardOff n).scResult n St.portAbsent 0x42 0)) ∧
      (r.answered = false → sent.flag (Fld.SC_STAT_T1 n) = false →
        exec (.scApduExchange c r) s = .next (sent.scResult n St.portAbsent 0x41 0))) ∧
    (s.ScRuns n 3 x → exec (.scDeactivate c) s = .next ((s.cardOff n).scResult n St.ok 0 0)) ∧
    (∀ rest st code len, (s.scOf n).queue = x :: rest → (s.scOf n).result = some (st, code, len) → (s.scOf n).silent = false →
      let next := s.updSc n (fun u => { u with queue := rest, result := none, cut := false, silent := false })
      (s.portStarts (54 + n) = true → exec (.scExchangeDone c) s = .next ((next.endScExch x st code len).syncScq n)) ∧
      (s.portStarts (54 + n) = false → exec (.scExchangeDone c) s = .next ((next.endScExch x St.portDisabled 0x44 len).syncScq n))))) ∧
  ((∀ (s b : State) (p : PairId) (v : Word) (j : Job), s.Accesses p.val Reg.ACT_STG1 .store b → b.armedJob p.val = some j → j.src ≠ .load →
    let n := (b.mreg p.val Reg.ACT_STG0).toNat
    let tells := fun st code (t : State) => t.setMreg p.val Reg.ACT_SRES (wd (st * 2 ^ 16 + code * 2 ^ 8))
    n < 16 → b.mayPulse p.val n = true → j.pulses.length < 4 →
      (∀ st code, b.pulseRefusal j n v.toNat = some (st, code) → exec (.actStage p v) s = .next (tells st code b)) ∧
      (b.pulseRefusal j n v.toNat = none →
        exec (.actStage p v) s = .next (tells St.ok 0 (b.updArmed p.val (fun j => { j with pulses := j.pulses ++ [⟨n, v.toNat⟩] }))))) ∧
  (∀ (s b : State) (p : PairId) (v : Word), s.Accesses p.val Reg.ACT_STG1 .store b → b.armedJob p.val = none →
    exec (.actStage p v) s = .next (b.raise p.val ⟨Cause.busError, wd (0x40000000 + Reg.ACT_STG1)⟩)) ∧
  (∀ (s : State) (n : Fin 16) (t : Nat),
    let k := n.val
    let a := s.actOf k
    (a.queue ≠ [] → a.rose = none → exec (.actPulseStart n t) s = .next
      (((s.setAct k { a with rose := some t }).setF (Fld.ACT_STAT_ACTIVE k) 1).emit (.pin (56 + k) (!s.actInactive k)))) ∧
    (a.queue = [] → exec (.actPulseStart n t) s = .next s) ∧
    (∀ j len rest r, a.queue = (j, len) :: rest → a.rose = some r → a.fell = none →
      exec (.actPulseEnd n (r + len)) s = .next
        (((s.setAct k { a with fell := some (r + len) }).setF (Fld.ACT_STAT_ACTIVE k) 0).emit (.pin (56 + k) (s.actInactive k)))) ∧
    (∀ j len rest r, a.queue = (j, len) :: rest → a.rose = some r → a.fell = none → t ≠ r + len → exec (.actPulseEnd n t) s = .next s) ∧
    (s.onMain = true → s.portOn (56 + k) = true → a.queue = [] → a.rose = none → a.fell = none →
      exec (.actReadback n t (s.actInactive k)) s = .next (s.setF (Fld.ACT_STAT_RB k) (b2n (s.actInactive k))) ∧
      exec (.actReadback n t (!s.actInactive k)) s = .next ((s.setF (Fld.ACT_STAT_RB k) (b2n (!s.actInactive k))).readbackMismatch k)) ∧
    (∀ r, s.onMain = true → a.queue ≠ [] → a.rose = some r → a.fell = none → r + s.getF (Fld.ACT_CFG_SETTLE k) ≤ t →
      exec (.actReadback n t (!s.actInactive k)) s = .next (s.setF (Fld.ACT_STAT_RB k) (b2n (!s.actInactive k)))) ∧
    (∀ r, a.rose = some r → a.fell = none → t < r + s.getF (Fld.ACT_CFG_SETTLE k) → exec (.actReadback n t true) s = .next s)))

/-! ## Weave links and the basket -/

/-- A keyed frame is accepted on link l (R446, R448): in sync, its CRC, its tag and its FSEQ right, short of the FSEQ that asks for a
rekey, and the link keyed, or holding the key that a KHELLO proves. -/
structure Sys2Proof.Machine.State.Accepts (s : State) (l : Nat) (fr : KeyedFrame) (khello : Bool) : Prop where
  receives : s.receives l = true
  crc : fr.crcOk = true
  tag : fr.tagOk = true
  keyed : s.linkKeyed l = true ∨ (khello = true ∧ (s.weaveLink l).lk ≠ [])
  inSeq : fr.fseq.toNat = ((s.weaveLink l).rx.map (· + 1)).getD 0
  early : fr.fseq.toNat < 0xFF000000

/-- The state in which a keyed frame accepted on link l acts. -/
def Sys2Proof.Machine.State.took (s : State) (l : Nat) (fr : KeyedFrame) : State :=
  (s.updLink l (fun x => { x with rx := some fr.fseq.toNat, heard := s.beatNow })).setReg (Reg.WEAVE_RXSEQ l) fr.fseq

/-- R443, R446–R449: a HELLO of an admitted member of the basket leads to a link key, and a KHELLO under it keys the link and offers
the route to the neighbour. A REKEY is answered, or completes the one begun. A keyed frame that fails its CRC is counted; one
that fails its tag or FSEQ is counted and unkeys the link. R449, R450, R452, R455, R457, R470: the timers of a link send its
HELLO and KHELLO every 16 Beats and its map every 1,024 and when it changed, and end a neighbour that 64 Beats did not hear and
a rekey that 16 Beats did not answer. The time master sends TIME every 1,024 Beats. A supervisor pair loads BK from a blob or
clears it; MAPIDX selects the map's entry that MAPDATA shows. -/
def Obligations.WeaveLinksKeysAndTimers : Prop :=
  ((∀ (s : State) (l : Fin 8), exec (.weaveSyncGained l) s = .next (s.setF (Fld.WEAVE_LSTAT_SYNC l.val) 1) ∧
    exec (.weaveSyncLost l) s = .next (s.setF (Fld.WEAVE_LSTAT_SYNC l.val) 0)) ∧
  (∀ (s : State) (l : Fin 8) (f : HelloFrame), s.receives l.val = true →
    let k := l.val
    let basket := (s.reg (Reg.WEAVE_BASKET 0)).toNat + 2 ^ 32 * (s.reg (Reg.WEAVE_BASKET 1)).toNat
    ((f.crcOk = false ∨ s.linkKeyed k = true) → exec (.hello l f) s = .next (s.incF (Fld.WEAVE_LERR_CRC k))) ∧
    (f.crcOk = true → s.linkKeyed k = false → s.helloConflict f = true → ∃ t : State, exec (.hello l f) s = .next t ∧
      t.flag (Fld.WEAVE_LSTAT_CONFLICT k) = true ∧ t.flag Fld.WEAVE_BSTAT_CONFLICT = true ∧ t.weave = s.weave ∧ t.pairs = s.pairs) ∧
    (f.crcOk = true → s.linkKeyed k = false → s.helloConflict f = false →
      (s.member = false ∨ f.admitted = false ∨ f.basket.toNat ≠ basket) → exec (.hello l f) s = .next s) ∧
    (f.crcOk = true → s.linkKeyed k = false → s.helloConflict f = false → s.member = true → f.admitted = true →
      f.basket.toNat = basket →
      exec (.hello l f) s = .next (((s.setMap f.node { s.mapOf f.node with uid := some f.uid.toNat }).updLink k
        (fun x => { x with peer := some (f.node, leBytes 16 f.rn.toNat) })).offerKey k))) ∧
  (∀ (s : State) (l : Fin 8) (fr : KeyedFrame) (prio flags : Byte) (a b : Nat) (rn : List Byte),
    let k := l.val
    let t := s.took k fr
    (s.Accepts k fr true →
      let u := t.setF (Fld.WEAVE_LSTAT_KEYED k) 1
      exec (.khello l fr prio flags a b) s = .next
        ((u.routeOffer k (u.getF (Fld.WEAVE_LSTAT_PEER k)) 1 prio.toNat (flags.getLsbD 0)).mapChanged t)) ∧
    (s.Accepts k fr false → (s.weaveLink k).rekeyRn = [] → t.rngHealthy = false → exec (.rekey l fr rn) s = .next t) ∧
    (s.Accepts k fr false → (s.weaveLink k).rekeyRn = [] → t.rngHealthy = true →
      let d := t.drawHw 16
      exec (.rekey l fr rn) s = .next ((d.2.emitKeyed k WvType.rekey 1 s.ownNode 0xFFFF d.1).finishRekey k d.1 rn)) ∧
    (s.Accepts k fr false → (s.weaveLink k).rekeyRn ≠ [] →
      exec (.rekey l fr rn) s = .next (t.finishRekey k (s.weaveLink k).rekeyRn rn)) ∧
    (s.receives k = false → exec (.rekey l fr rn) s = .next s ∧ exec (.khello l fr prio flags a b) s = .next s) ∧
    (s.receives k = true → fr.crcOk = false → exec (.rekey l fr rn) s = .next (s.incF (Fld.WEAVE_LERR_CRC k))) ∧
    (s.receives k = true → fr.crcOk = true → s.linkKeyed k = true →
      (fr.tagOk = false ∨ fr.fseq.toNat ≠ ((s.weaveLink k).rx.map (· + 1)).getD 0) →
      exec (.rekey l fr rn) s = .next ((s.incF (Fld.WEAVE_LERR_AUTH k)).unkeyLink k) ∧
      exec (.route l fr []) s = .next ((s.incF (Fld.WEAVE_LERR_AUTH k)).unkeyLink k)))) ∧
  ((∀ (s : State) (l : Fin 8),
    let k := l.val
    let x := s.weaveLink k
    let d := (s.updLink k (fun x => { x with helloAt := some s.beatNow })).drawHw 16
    let e := d.2.freshBytes 6
    let u := e.2
    let payload := leBytes 2 u.ownNode ++ leBytes 1 (u.getF Fld.WEAVE_CFG_PRIO) ++
      leBytes 1 (b2n (u.flag Fld.WEAVE_CFG_ELIG) + 2 * b2n u.member) ++ wordBytes (u.reg (Reg.WEAVE_BASKET 0)) ++
      wordBytes (u.reg (Reg.WEAVE_BASKET 1)) ++ deviceUid ++ d.1
    let body := weaveClear WvType.hello 1 payload.length u.ownNode 0xFFFF (ofLe (e.1.take 2)) (ofLe (e.1.drop 2)) ++ payload
    (s.linkOn k = true → s.linkKeyed k = false → s.rngHealthy = true → due s.beatNow 16 x.helloAt = true → exec (.helloTimer l) s = .next
      (((u.updLink k (fun x => { x with rn := d.1 })).emit
        (.frame (2 + k) WvType.hello (body ++ wordBytes (crc32 body)))).offerKey k)) ∧
    ((s.linkOn k = false ∨ s.linkKeyed k = true ∨ s.rngHealthy = false ∨ due s.beatNow 16 x.helloAt = false) →
      exec (.helloTimer l) s = .next s) ∧
    ((s.linkOn k = false ∨ s.linkKeyed k = false ∨ due s.beatNow 16 x.khelloAt = false) → exec (.khelloTimer l) s = .next s) ∧
    ((s.linkOn k = false ∨ s.linkKeyed k = false ∨ s.routeDue k = false) → exec (.routeTimer l) s = .next s) ∧
    (s.linkOn k = true → s.linkKeyed k = true → due s.beatNow 16 x.khelloAt = true →
      exec (.khelloTimer l) s =
        .next ((s.updLink k (fun x => { x with khelloAt := some s.beatNow })).sendLink k WvType.khello 1 s.ownNode 0xFFFF
      (leBytes 2 s.ownNode ++ leBytes 1 (s.getF Fld.WEAVE_CFG_PRIO) ++ leBytes 1 (b2n (s.flag Fld.WEAVE_CFG_ELIG) + 2) ++
        leBytes 2 (s.getF Fld.WEAVE_BSTAT_MASTER_NODE) ++ leBytes 2 (s.getF Fld.WEAVE_MEMBERS_COUNT)))) ∧
    (s.linkOn k = true → s.linkKeyed k = true → s.routeDue k = true →
      exec (.routeTimer l) s = .next (State.sendRoutes 5 (s.updLink k (fun x => { x with routeAt := some (s.beatNow, s.weave.changes) })) k
        (s.ownNode :: (s.weave.map.filter (fun e => e.2.state != 0 && e.1 != s.ownNode)).map (·.1)))) ∧
    (s.hasNeighbour k = true → x.heard + 64 ≤ s.beatNow → exec (.neighbourLost l) s = .next
      (((((s.unkeyLink k).setF (Fld.WEAVE_LSTAT_LOST k) 1).portLog (2 + k) St.portAbsent 0 0).withdraw k).mapChanged s)) ∧
    ((s.hasNeighbour k = false ∨ s.beatNow < x.heard + 64) → exec (.neighbourLost l) s = .next s) ∧
    (x.rekeyRn ≠ [] → x.rekeyAt + 16 ≤ s.beatNow → exec (.rekeyTimeout l) s = .next (s.unkeyLink k)) ∧
    ((x.rekeyRn = [] ∨ s.beatNow < x.rekeyAt + 16) → exec (.rekeyTimeout l) s = .next s)) ∧
  (∀ s : State, (s.isMaster = true → due s.beatNow 1024 s.weave.timeAt = true → exec .timeTimer s = .next
      (({ s with weave := { s.weave with timeAt := some s.beatNow } } : State).flood 8 WvType.time 1 s.ownNode (timePayload ((s.beatNow + s.basketOfs) % 2 ^ 48) s.ownNode))) ∧
    ((s.isMaster = false ∨ due s.beatNow 1024 s.weave.timeAt = false) → exec .timeTimer s = .next s)) ∧
  (∀ (s b : State) (p : PairId), s.Accesses p.val Reg.WEAVE_BKEY .store b → b.isSupervisor p.val = true → b.armedJob p.val ≠ none →
    exec (.bkeyLoad p 0) s = .next b.clearBasketKey ∧
    (∀ (v : Word) e, v ≠ 0 → v.toNat % 32 = 0 →
      b.portKey p.val v.toNat (b.getF Fld.WEAVE_BKEYIDX_INDEX) (b.getF Fld.WEAVE_CFG_TENANT) (· == 3) = .error e →
      exec (.bkeyLoad p v) s = .next b) ∧
    (∀ (v : Word) key t, v ≠ 0 → v.toNat % 32 = 0 →
      b.portKey p.val v.toNat (b.getF Fld.WEAVE_BKEYIDX_INDEX) (b.getF Fld.WEAVE_CFG_TENANT) (· == 3) = .ok (key, t) →
      exec (.bkeyLoad p v) s = .next (t.loadBasketKey key))) ∧
  (∀ (s b : State) (m : Master) (v : Word), s.Masters m.val Reg.WEAVE_MAPIDX b →
    let e := b.mapOf (fld 10 0 v)
    ∃ t : State, exec (.mapidxWrite m v) s = .next t ∧ t.reg Reg.WEAVE_MAPIDX = wd (fld 10 0 v) ∧
      t.reg Reg.WEAVE_MAPDATA0 = wd (2 ^ 30 * (e.state % 4) + 2 ^ 29 * b2n e.elig + 2 ^ 24 * (e.hops % 32) + 2 ^ 16 * (e.link % 8) +
        2 ^ 8 * (e.prio % 256)) ∧ t.reg Reg.WEAVE_MAPDATA1 = wd (e.changed % 2 ^ 32) ∧ t.pairs = b.pairs ∧ t.weave = b.weave))

/-- R452, R458: the entries of a ROUTE are offered to the map in turn. TIME counts on the upstream link and from the computed
master: it anchors basket time, counts an error where the marks since the one before are not 1,024, and floods on. A mark on
that link is forwarded, sets BASKET_OFS from the anchor and is an edge of the basket source. R452–R454: a routed frame for
another node goes on with HOPS + 1 on the link of its route, or is counted as unrouted; one for this device is taken: a command
of another member is refused with the status of the first header check that fails, or posted. -/
def Obligations.WeaveRoutesTimeAndMembers : Prop :=
  (∀ (s : State) (l : Fin 8) (fr : KeyedFrame),
    let k := l.val
    let t := s.took k fr
    (∀ es, s.Accepts k fr false → exec (.route l fr es) s = .next
      ((es.foldl (fun t e => t.routeOffer k e.node e.hops e.prio.toNat (e.prio != 0xFF#8)) t).mapChanged t)) ∧
    (∀ (a b : Nat), s.Accepts k fr false → (t.flag (Fld.WEAVE_LSTAT_UPSTREAM k) = false ∨ t.computedMaster ≠ some b) →
      exec (.time l fr a b) s = .next t) ∧
    (∀ (a b : Nat), s.Accepts k fr false → t.flag (Fld.WEAVE_LSTAT_UPSTREAM k) = true → t.computedMaster = some b →
      let set := fun (u : State) => { u with weave := { u.weave with btime := some a, marks := 0 } }
      let on := fun (u : State) => u.flood k WvType.time (fr.hops + 1) fr.src (timePayload a b)
      let err := t.incF Fld.WEAVE_TSTAT_MARKERR
      ((s.weave.btime = none ∨ s.weave.marks = 1024) → fr.hops ≤ 15 → exec (.time l fr a b) s = .next (on (set t))) ∧
      ((s.weave.btime = none ∨ s.weave.marks = 1024) → 15 < fr.hops → exec (.time l fr a b) s = .next ((set t).incF (Fld.WEAVE_LERR_CRC k))) ∧
      (s.weave.btime ≠ none → s.weave.marks ≠ 1024 → fr.hops ≤ 15 → t.flag Fld.BEAT_STATUS_BASKET_QUAL = true →
        exec (.time l fr a b) s = .next (on (set (err.loseSource .basket)))) ∧
      (s.weave.btime ≠ none → s.weave.marks ≠ 1024 → fr.hops ≤ 15 → t.flag Fld.BEAT_STATUS_BASKET_QUAL = false →
        exec (.time l fr a b) s = .next (on (set (err.setMeas .basket {}))))) ∧
    (∀ at_ : Nat, (s.receives k = false ∨ s.flag (Fld.WEAVE_LSTAT_UPSTREAM k) = false) → exec (.beatMark l at_) s = .next s) ∧
    (∀ at_ : Nat, s.receives k = true → s.flag (Fld.WEAVE_LSTAT_UPSTREAM k) = true →
      let sent := s.sendMarks k
      let u : State := { sent with weave := { sent.weave with marks := s.weave.marks + 1 } }
      (s.weave.btime = none → exec (.beatMark l at_) s = .next (u.sourceEdge .basket at_)) ∧
      (∀ b, s.weave.btime = some b → exec (.beatMark l at_) s = .next
        ((u.setBasketOfs ((b + s.weave.marks + 1 + 2 ^ 48 - s.beatNow) % 2 ^ 48)).sourceEdge .basket at_)))) ∧
  (∀ (s : State) (l : Fin 8) (fr : KeyedFrame) (hdr : List Word) (params : List Byte) (adm : Admission), s.Accepts l.val fr false →
    let t := s.took l.val fr
    let src := Stream.node fr.src
    let taken := ({ t with weave := { t.weave with streams := t.weave.streams.set (fun _ => 0) fr.src (nextSeqOf hdr) } } :
      State).takeCommand src hdr
    let check := t.headerCheck hdr params 968 0 (t.nodeSeq fr.src) src (cmdTenant hdr == t.getF Fld.WEAVE_CFG_TENANT)
      (fun o => o.code / 0x100 == 7 || o.code == 0x400)
    let sent := t.taken.countP (fun x => x.src == src)
    (fr.dst ≠ s.ownNode → t.quarantined = false → fr.hops ≤ 15 →
      (t.reachable fr.dst = true →
        exec (.msg l fr hdr params adm) s = .next
          (t.sendLink (t.mapOf fr.dst).link WvType.msg (fr.hops + 1) fr.src fr.dst (wordsBytes hdr ++ params)) ∧
        exec (.mreply l fr hdr params) s = .next
          (t.sendLink (t.mapOf fr.dst).link WvType.mreply (fr.hops + 1) fr.src fr.dst (wordsBytes hdr ++ params))) ∧
      (t.reachable fr.dst = false → exec (.msg l fr hdr params adm) s = .next (t.incF Fld.WEAVE_BSTAT_UNROUTED) ∧
        exec (.mreply l fr hdr params) s = .next (t.incF Fld.WEAVE_BSTAT_UNROUTED))) ∧
    (fr.dst ≠ s.ownNode → t.quarantined = false → 15 < fr.hops →
      exec (.msg l fr hdr params adm) s = .next (t.incF (Fld.WEAVE_LERR_CRC l.val))) ∧
    (fr.dst = s.ownNode → t.quarantined = true → exec (.msg l fr hdr params adm) s = .next t) ∧
    (fr.dst = s.ownNode → exec (.mreply l fr hdr params) s = .next t) ∧
    (fr.dst = s.ownNode → t.quarantined = false → hdr.length = 8 → params.length ≤ 968 → hdrLen hdr = params.length →
      (∀ st sub, check = some (st, sub) → exec (.msg l fr hdr params adm) s = .next (taken.refuseCommand src (hdrTag hdr) st sub)) ∧
      (check = none → 8 ≤ sent → exec (.msg l fr hdr params adm) s = .next (taken.refuseCommand src (hdrTag hdr) St.queueFull 0)) ∧
      (check = none → sent < 8 → exec (.msg l fr hdr params adm) s = .next (taken.postCommand (2 + l.val) src hdr params adm))))

/-- R460, R463, R465: an update or a copy for this device is applied as a WRITE of its copy and acknowledged once committed; an
update whose HLSN the copy has already is acknowledged again. MACK ends the wait of an update, or makes a handover's flip; MDROP
frees a copy. After one Beat without an answer a frame is sent once more, and after the next the wait ends. R466–R469: a partner
answers an origin's query with its HLSN and image, or with the verdict superseded where it has promoted the copy; the origin
takes the newer of the two images. An origin answers a copy's query with its verdict, by which the copy stays, is freed or
enters CONFLICT. -/
def Obligations.MirrorsUpdateAndResynchronise : Prop :=
  ((∀ (s : State) (l : Fin 8) (fr : KeyedFrame), s.Accepts l.val fr false → fr.dst = s.ownNode →
    let t := s.took l.val fr
    let wait := fun (k : Nat) => { t with ledger := { t.ledger with unacked := t.ledger.unacked.filter (· != k) } }
    (t.quarantined = true → ∀ u, exec (.mupd l fr u) s = .next t ∧ exec (.mcopy l fr u) s = .next t) ∧
    (t.quarantined = false →
      (∀ u loc m h e, t.copyFor fr.src u.origin = some (loc, m, h) → Entry.parse u.origin u.image = some e → loc = u.rindex →
        (h = u.hlsn → exec (.mupd l fr u) s = .next (t.sendRouted WvType.mack fr.src (mackPayload u.origin loc u.j u.hlsn))) ∧
        (h ≠ u.hlsn → exec (.mupd l fr u) s = .next (t.applyCopy fr.src u.origin loc m u.j u.hlsn e))) ∧
      (∀ u, t.copyFor fr.src u.origin = none → exec (.mupd l fr u) s = .next t) ∧
      (∀ u loc m h e, t.copyFor fr.src u.origin = some (loc, m, h) → Entry.parse u.origin u.image = some e →
        (u.rindex = allocRindex ∨ u.rindex = loc) → exec (.mcopy l fr u) s = .next (t.applyCopy fr.src u.origin loc m u.j u.hlsn e)) ∧
      (∀ u loc m e, t.copyFor fr.src u.origin = none → Entry.parse u.origin u.image = some e → u.rindex = allocRindex →
        t.copyPending fr.src u.origin = false → t.allocIndex e.body.type [] = some loc → t.allocIndex 4 [loc] = some m →
        exec (.mcopy l fr u) s = .next (t.applyCopy fr.src u.origin loc m u.j u.hlsn e)) ∧
      (∀ u loc m h, t.copyFor fr.src u.origin = some (loc, m, h) →
        exec (.mdrop l fr u) s = .next (if loc = u.rindex then t.dropCopy loc m else t)) ∧
      (∀ u, t.copyFor fr.src u.origin = none → exec (.mdrop l fr u) s = .next t)) ∧
    (∀ u, t.awaitsAck u.origin = true → u.hlsn = (t.ledger.closing.map (·.lsn)).getD 0 →
      (t.mirrorOf u.origin).map (·.2.1) = some fr.src → exec (.mack l fr u) s = .next (wait u.origin)) ∧
    (∀ u h, t.quarantined = false → t.awaitsAck u.origin = false →
      t.weave.handovers.find? (fun h => h.entry == u.origin && h.node == fr.src) = some h →
      exec (.mack l fr u) s = .next (t.flipHandover h u.rindex))) ∧
  (∀ (s : State) (i : Fin 131072),
    let k := i.val
    (s.awaitsAck k = true → k ∉ s.ledger.resent →
      exec (.mupdResend i) s = .next (({ s with ledger := { s.ledger with resent := k :: s.ledger.resent } } : State).sendMupd k)) ∧
    (s.awaitsAck k = true → exec (.mirrorWaitExpire i) s = .next
      { s with ledger := { s.ledger with unacked := s.ledger.unacked.filter (· != k), expired := k :: s.ledger.expired } }) ∧
    (∀ h, s.awaitsAck k = false → s.weave.handovers.find? (fun h => h.entry == k && decide (2 ≤ h.sends)) = some h →
      exec (.mirrorWaitExpire i) s = .next (s.endHandover h)) ∧
    (∀ h, (s.awaitsAck k = false ∨ k ∈ s.ledger.resent) →
      s.weave.handovers.find? (fun h => h.entry == k && h.sends == 1) = some h →
      let t := s.dropHandover k
      let u : State := { t with weave := { t.weave with handovers := t.weave.handovers ++ [{ h with sends := 2 }] } }
      exec (.mupdResend i) s = .next (u.sendRouted WvType.mcopy h.node
        (mupdPayload k (if h.node = h.oldNode ∧ h.oldState ≠ 0 then h.oldIndex else allocRindex) 0
          (((s.entry h.mirror).asMirror.map (·.2.2.2.2)).getD 0) (s.imageBytes k)))) ∧
    (s.awaitsAck k = false → s.weave.handovers = [] → exec (.mupdResend i) s = .next s ∧ exec (.mirrorWaitExpire i) s = .next s))) ∧
  (∀ (s : State) (l : Fin 8) (fr : KeyedFrame) (u : MirrorSync), s.Accepts l.val fr false → fr.dst = s.ownNode →
    let t := s.took l.val fr
    t.quarantined = false →
      (∀ loc m h, t.copyFor fr.src u.origin = some (loc, m, h) → loc = u.rindex →
        exec (.msyncOriginQuery l fr u) s = .next
          (t.sendRouted WvType.msync fr.src (msyncPayload 1 0 u.origin loc h (t.imageBytes loc))) ∧
        (u.verdict = 0 → exec (.msyncVerdict l fr u) s = .next t) ∧
        (u.verdict = 1 → exec (.msyncVerdict l fr u) s = .next (t.dropCopy loc m)) ∧
        (u.verdict = 2 → exec (.msyncVerdict l fr u) s = .next (t.enterConflict loc m))) ∧
      (t.copyFor fr.src u.origin = none → (t.entry u.rindex).mir = true → t.mirrorState u.rindex ≠ 4 →
        exec (.msyncOriginQuery l fr u) s = .next (t.sendRouted WvType.msync fr.src
          (msyncPayload 1 2 u.origin u.rindex (t.dirEntry u.rindex).lsn (t.imageBytes u.rindex)))) ∧
      (∀ m h, t.mirrorOf u.origin = some (m, fr.src, u.rindex, 5, h) →
        (u.verdict = 2 → exec (.msyncAnswer l fr u) s = .next (t.enterConflict u.origin m)) ∧
        (∀ e, u.verdict ≠ 2 → h < u.hlsn → Entry.parse u.rindex u.image = some e →
          exec (.msyncAnswer l fr u) s = .next (t.ownSet 0 [.write u.origin { e with mir := true },
            .write m (mirrorEntry e.owner u.origin fr.src u.rindex 1 u.hlsn)] [])) ∧
        (u.verdict ≠ 2 → u.hlsn = h → exec (.msyncAnswer l fr u) s = .next (t.pairInPlace m)) ∧
        (u.verdict ≠ 2 → u.hlsn < h → exec (.msyncAnswer l fr u) s = .next ((t.pairInPlace m).sendRouted WvType.mcopy fr.src
          (mupdPayload u.origin u.rindex 0 h ((t.pairInPlace m).imageBytes u.origin))))) ∧
      exec (.msyncCopyQuery l fr u) s = .next (t.sendRouted WvType.msync fr.src
        (msyncPayload 3 (t.copyVerdict fr.src u.origin u.rindex) u.origin u.rindex
          (((t.mirrorOf u.origin).map (·.2.2.2.2)).getD 0) (t.imageBytes u.origin))))

/-! ## Frames and words of the pairs' instructions -/

/-- What an instruction of pair p leaves that stores nothing: every other pair and every byte of hearth memory and the NVM; and of the
block's registers and units all but what its fetch changes (R179, R318), and the list of halted pairs where it single-steps (R352). -/
structure Sys2Proof.Machine.State.LeavesRest (s t : State) (p : Nat) : Prop where
  rest : ({ t with pairs := (s.fetched p).pairs, regs := (s.fetched p).regs } : State) = s.fetched p
  regs : ∀ o, (∀ k, o ≠ Reg.LCS_HALTED k) → t.reg o = (s.fetched p).reg o
  pairs : ∀ q, q ≠ p → t.pair q = s.pair q
  mem : t.hmem = s.hmem ∧ t.nvm = s.nvm

/-- What an instruction on registers leaves of its own pair x, y being the pair after it: the registers other than `named`, the special
registers but cnt and the results of the multiplier and divider, local memory, the store buffer, MPU rules, timer and doorbells. -/
structure Sys2Proof.Machine.Pair.Keeps (x y : Pair) (named : List Nat) : Prop where
  greg : ∀ r, r ∉ named → y.greg r = x.greg r
  sreg : ∀ n, n ∉ [SR.cnt, SR.mh, SR.ml, SR.dq, SR.dr] → y.sreg n = x.sreg n
  mem : y.lmem = x.lmem ∧ y.stores = x.stores ∧ y.unfenced = x.unfenced
  mpu : y.mpuW = x.mpuW ∧ y.mpuF = x.mpuF
  timer : y.slot = x.slot ∧ y.deadline = x.deadline
  doorbells : y.dbPend0 = x.dbPend0 ∧ y.dbPend1 = x.dbPend1 ∧ y.dbMask0 = x.dbMask0 ∧ y.dbMask1 = x.dbMask1

/-- R95, R96, R99, R101: an instruction on registers that raises nothing changes no register but its rd (g1 for jal and jalr, none for
the others), no memory, no other pair, and of the special registers only cnt and the results due at the multiplier and divider. Its
fetch changes nothing of the block but where the PC is in hearth memory or the NVM window. A command whose word is another
instruction's changes nothing. -/
def Obligations.RegisterInstructionsChangeOnlyTheirs : Prop :=
  ∀ (s t : State) (p : PairId) (w : Word) (rd ra rb rc : BitVec 5),
    let x := s.pair p.val
    let a := x.greg ra.toNat
    let b := x.greg rb.toNat
    let runs := fun z => s.Executes p.val w z
    let frame := fun c named => exec c s = .next t → t = s ∨ (s.LeavesRest t p.val ∧ x.Keeps (t.pair p.val) named)
    (spaceOf x.pc.toNat ≠ .hearth → spaceOf x.pc.toNat ≠ .nvm → s.fetched p.val = s.wake p.val) ∧
    (∀ op, runs (.alu op rd ra rb rc) →
      (∀ c ∈ [Instr.add p w, .sub p w, .and_ p w, .or_ p w, .xor_ p w, .andn p w, .sll p w, .srl p w, .sra p w, .slt p w, .sltu p w,
        .clz p w, .pop p w, .bswap p w, .csel p w], frame c [rd.toNat]) ∧
      ((x.pm = false ∨ (a + b).toInt = a.toInt + b.toInt) → frame (.addv p w) [rd.toNat]) ∧
      ((x.pm = false ∨ (a - b).toInt = a.toInt - b.toInt) → frame (.subv p w) [rd.toNat])) ∧
    (∀ op i, runs (.imm op rd ra i) →
      ∀ c ∈ [Instr.addi p w, .andi p w, .ori p w, .xori p w, .slti p w, .sltiu p w, .lui p w, .slli p w, .srli p w, .srai p w],
        frame c [rd.toNat]) ∧
    (∀ k off, runs (.branch k ra rb off) →
      ∀ c ∈ [Instr.beq p w, .bne p w, .blt p w, .bge p w, .bltu p w, .bgeu p w], frame c []) ∧
    (∀ k i off, runs (.branchImm k ra i off) →
      ∀ c ∈ [Instr.beqi p w, .bnei p w, .blti p w, .bgei p w, .bltui p w, .bgeui p w], frame c []) ∧
    (∀ off, (runs (.jump false off) → frame (.j p w) []) ∧ (runs (.jump true off) → frame (.jal p w) [1])) ∧
    (∀ i, (a + i.signExtend 32) &&& 3#32 = 0#32 →
      (runs (.jumpReg false ra i) → frame (.jr p w) []) ∧ (runs (.jumpReg true ra i) → frame (.jalr p w) [1])) ∧
    (∀ op, runs (.mul op ra rb) → (x.pm = false ∨ b ≠ 0#32) →
      ∀ c ∈ [Instr.mul p w, .mulh p w, .mulhu p w, .clmul p w, .div p w, .divu p w], frame c [])

/-- R93, R97: a load from memory that raises nothing, with no store posted, changes no register but rd, no byte of memory and no other
pair; a posted store changes no register, and no byte of memory as memory holds it where the buffer has room; performing a
posted store changes no byte but those it covers. -/
def Obligations.LoadsAndStoresChangeOnlyTheirs : Prop :=
  (∀ (s t : State) (p : PairId) (w : Word) (op : LoadOp) (rd ra : BitVec 5) (i : BitVec 16),
    let b := s.begun p.val (.load op rd ra i)
    let a := ((s.pair p.val).greg ra.toNat + i.signExtend 32).toNat
    s.Executes p.val w (.load op rd ra i) → b.dataExc p.val a op.size .load = none → spaceOf a ≠ .control → spaceOf a ≠ .window →
    (∀ u e, b.loadValue p.val a op.size .clean ≠ .fails u e) → (s.pair p.val).stores = [] →
    ∀ c ∈ [Instr.ldw p w .clean, .ldh p w .clean, .ldhu p w .clean, .ldb p w .clean, .ldbu p w .clean], exec c s = .next t →
      (s.pair p.val).Keeps (t.pair p.val) [rd.toNat] ∧ (∀ q, q ≠ p.val → t.pair q = s.pair q) ∧ t.hmem = s.hmem ∧ t.nvm = s.nvm) ∧
  (∀ (s t : State) (p : PairId) (w : Word) (op : StoreOp) (rs ra : BitVec 5) (i : BitVec 16),
    let b := s.begun p.val (.store op rs ra i)
    let a := ((s.pair p.val).greg ra.toNat + i.signExtend 32).toNat
    s.Executes p.val w (.store op rs ra i) → b.dataExc p.val a op.size .store = none → spaceOf a ≠ .control → spaceOf a ≠ .window →
    b.isDevice p.val a op.size = false → (s.pair p.val).stores.length ≤ 3 →
    ∀ c ∈ [Instr.stw p w, .sth p w, .stb p w], exec c s = .next t →
      (∀ r, (t.pair p.val).greg r = (s.pair p.val).greg r) ∧ (∀ n, n ∉ [SR.cnt, SR.mh, SR.ml, SR.dq, SR.dr] →
        (t.pair p.val).sreg n = (s.pair p.val).sreg n) ∧ (∀ q, q ≠ p.val → t.pair q = s.pair q) ∧
      t.hmem = s.hmem ∧ t.nvm = s.nvm ∧ (t.pair p.val).lmem = (s.pair p.val).lmem) ∧
  (∀ (s t : State) (p : PairId) (i : Nat) (ps : PostedStore), (s.pair p.val).stores[i]? = some ps → exec (.storePerformed p i) s = .next t →
    (∀ a, (a < ps.addr ∨ ps.addr + ps.size ≤ a) → t.memByte p.val a = s.memByte p.val a) ∧
    (∀ r, (t.pair p.val).greg r = (s.pair p.val).greg r) ∧ (∀ n, (t.pair p.val).sreg n = (s.pair p.val).sreg n) ∧
    (∀ q, q ≠ p.val → t.pair q = s.pair q) ∧ t.nvm = s.nvm)

/-- R88–R91: every instruction of a pair whose fields hold what its format admits is what its word decodes to, and a word decodes to no
instruction but the one that encodes to it. -/
def Obligations.ZaendWordsAndInstructionsAgree : Prop :=
  (∀ z : Zaend, z.wf = true → Zaend.decode z.encode = some z) ∧
  (∀ (w : Word) (z : Zaend), Zaend.decode w = some z → z.wf = true ∧ z.encode = w)

/-- R88, R89, R95–R101, R105, R108: words written out from the formats, and what they decode to; an undefined major opcode, a field that
must be zero and is not, and an undefined func decode to no instruction. -/
def Obligations.ZaendWordsDecode : Prop :=
  Zaend.decode 0b000001_00011_00001_00010_00000_000000#32 = some (.alu .add 3 1 2 0) ∧
  Zaend.decode 0b000001_00011_00001_00010_00100_010100#32 = some (.alu .csel 3 1 2 4) ∧
  Zaend.decode 0b000100_00101_00110_1111111111111110#32 = some (.imm .addi 5 6 0xFFFE) ∧
  Zaend.decode 0b001011_00101_00110_000000000_10_00111#32 = some (.imm .srai 5 6 7) ∧
  Zaend.decode 0b010000_00111_01000_0000000000000100#32 = some (.load .ldw 7 8 4) ∧
  Zaend.decode 0b011010_01001_01010_1000000000000000#32 = some (.store .stb 9 10 0x8000) ∧
  Zaend.decode 0b100001_00001_00010_0000000000000011#32 = some (.branch .ne 1 2 3) ∧
  Zaend.decode 0b101010_00001_11111111_1111111111111#32 = some (.branchImm .lt 1 0xFF 0x1FFF) ∧
  Zaend.decode 0b110001_00000000000000000000000001#32 = some (.jump true 1) ∧
  Zaend.decode 0b011100_00000_00001_0000000000000000#32 = some (.jumpReg false 1 0) ∧
  Zaend.decode 0b000010_00000_00001_00010_00000_001000#32 = some (.mul .div 1 2) ∧
  Zaend.decode 0b000010_00001_00010_00011_00100_100010#32 = some (.long .cteq 1 2 3 4) ∧
  Zaend.decode 0b111111_00001_00000_00000101_00000000#32 = some (.mfs 1 5) ∧
  Zaend.decode 0b111111_00000_00000_00001111_00001000#32 = some (.gate 15) ∧
  Zaend.decode 0b111111_00000_00000_00000000_00010010#32 = some .wait ∧
  Zaend.decode 0b000000_00000_00000_0000000000000000#32 = none ∧
  Zaend.decode 0b000001_00011_00001_00010_00001_000000#32 = none ∧
  Zaend.decode 0b111111_00000_00000_00010000_00001000#32 = none

/-- Every command runs: whatever the state and the command waiting, a step answers a next state, with no fault and no refusal
(logs 2 and 12). -/
def Obligations.EveryStepAnswersANextState : Prop := ∀ s : State, SafeStep s
end

