-- ==== Sys2Proof/Laws/Table.lean ====
section
/-! SUPPORT. The laws of sparse arrays: what a key reads as after an update, and that every update keeps the canonical
form. -/

namespace Sys2Proof.Machine

variable {α : Type}

/-- An array whose keys all exceed `k` reads as unlisted there. -/
theorem Table.get_of_lt (d : Nat → α) (t : Table α) (k : Nat) (h : ∀ e ∈ t, k < e.1) : t.get d k = d k := by
  induction t with
  | nil => rfl
  | cons a t ih =>
    have h1 := h a (by simp)
    simp only [Table.get]
    rw [if_neg (by omega)]
    exact ih (fun e he => h e (by simp [he]))

theorem Table.get_put_self (d : Nat → α) (t : Table α) (k : Nat) (v : α) : (t.put k v).get d k = v := by
  induction t with
  | nil => simp [Table.put, Table.get]
  | cons a t ih =>
    simp only [Table.put]
    split
    · simp [Table.get]
    · split
      · simp [Table.get]
      · simp [Table.get, *]

theorem Table.get_put_ne (d : Nat → α) (t : Table α) {j k : Nat} (v : α) (h : j ≠ k) : (t.put k v).get d j = t.get d j := by
  induction t with
  | nil => simp [Table.put, Table.get, h]
  | cons a t ih =>
    simp only [Table.put]
    split
    · simp [Table.get, h]
    · split
      · rename_i h2; simp [Table.get, ← h2, h]
      · simp [Table.get, ih]

theorem Table.get_drop (d : Nat → α) (p : Nat → Bool) (t : Table α) (k : Nat) :
    (t.drop p).get d k = if p k then d k else t.get d k := by
  induction t with
  | nil => simp [Table.drop, Table.get]
  | cons a t ih =>
    simp only [Table.drop, List.filter_cons] at ih ⊢
    by_cases ha : p a.1 <;> by_cases hk : k = a.1 <;> simp_all [Table.get]

/-- The keys of an array after a put. -/
theorem Table.mem_put {t : Table α} {k : Nat} {v : α} {e : Nat × α} (h : e ∈ t.put k v) : e = (k, v) ∨ e ∈ t := by
  induction t with
  | nil => simpa [Table.put] using h
  | cons a t ih =>
    simp only [Table.put] at h
    split at h
    · simpa using h
    · split at h
      · simp only [List.mem_cons] at h ⊢
        rcases h with h | h
        · exact .inl h
        · exact .inr (.inr h)
      · simp only [List.mem_cons] at h ⊢
        rcases h with h | h
        · exact .inr (.inl h)
        · rcases ih h with h | h
          · exact .inl h
          · exact .inr (.inr h)

variable [DecidableEq α]

@[simp] theorem Table.get_set_self (d : Nat → α) (t : Table α) (k : Nat) (v : α) : (t.set d k v).get d k = v := by
  unfold Table.set
  split
  · rename_i h; simp [Table.get_drop, h]
  · exact Table.get_put_self d t k v

theorem Table.get_set_ne (d : Nat → α) (t : Table α) {j k : Nat} (v : α) (h : j ≠ k) :
    (t.set d k v).get d j = t.get d j := by
  unfold Table.set
  split
  · simp [Table.get_drop, h]
  · exact Table.get_put_ne d t v h

theorem Table.wf_iff (d : Nat → α) (t : Table α) :
    t.wf d = true ↔ t.Pairwise (fun a b => a.1 < b.1) ∧ ∀ e ∈ t, e.2 ≠ d e.1 := by
  simp [Table.wf]

theorem Table.wf_nil (d : Nat → α) : Table.wf d [] = true := by simp [Table.wf]

omit [DecidableEq α] in
theorem Table.put_sorted {t : Table α} (h : t.Pairwise (fun a b => a.1 < b.1)) (k : Nat) (v : α) :
    (t.put k v).Pairwise (fun a b => a.1 < b.1) := by
  induction t with
  | nil => simp [Table.put]
  | cons a t ih =>
    rw [List.pairwise_cons] at h
    simp only [Table.put]
    split
    · rename_i hk
      refine List.pairwise_cons.2 ⟨?_, List.pairwise_cons.2 h⟩
      intro e he
      rcases List.mem_cons.1 he with rfl | he
      · exact hk
      · exact Nat.lt_trans hk (h.1 e he)
    · split
      · rename_i hk
        exact List.pairwise_cons.2 ⟨fun e he => by have := h.1 e he; subst hk; exact this, h.2⟩
      · refine List.pairwise_cons.2 ⟨?_, ih h.2⟩
        intro e he
        rcases Table.mem_put he with rfl | he
        · simp only; omega
        · exact h.1 e he

/-- Unlisting keys keeps the canonical form. -/
theorem Table.wf_filter (d : Nat → α) {t : Table α} (h : t.wf d = true) (q : Nat × α → Bool) :
    Table.wf d (t.filter q) = true := by
  rw [Table.wf_iff] at h ⊢
  exact ⟨h.1.filter q, fun e he => h.2 e (List.mem_filter.1 he).1⟩

theorem Table.wf_drop (d : Nat → α) {t : Table α} (h : t.wf d = true) (p : Nat → Bool) : Table.wf d (t.drop p) = true :=
  Table.wf_filter d h _

/-- Every set keeps the canonical form. -/
theorem Table.wf_set (d : Nat → α) {t : Table α} (h : t.wf d = true) (k : Nat) (v : α) : Table.wf d (t.set d k v) = true := by
  unfold Table.set
  split
  · exact Table.wf_drop d h _
  · rename_i hv
    rw [Table.wf_iff] at h ⊢
    refine ⟨Table.put_sorted h.1 k v, fun e he => ?_⟩
    rcases Table.mem_put he with rfl | he
    · exact hv
    · exact h.2 e he

/-- Writing a byte list keeps the canonical form. -/
theorem Table.wf_setBytes (d : Nat → Byte) {t : Table Byte} (h : t.wf d = true) (a : Nat) (bs : List Byte) :
    Table.wf d (t.setBytes d a bs) = true := by
  induction bs generalizing t a with
  | nil => exact h
  | cons b bs ih => exact ih (Table.wf_set d h a b) (a + 1)

/-- A byte outside the written range reads as before. -/
theorem Table.get_setBytes_ne (d : Nat → Byte) (t : Table Byte) (a : Nat) (bs : List Byte) (k : Nat)
    (h : k < a ∨ a + bs.length ≤ k) : (t.setBytes d a bs).get d k = t.get d k := by
  induction bs generalizing t a with
  | nil => rfl
  | cons b bs ih =>
    simp only [Table.setBytes, List.length_cons] at h ⊢
    rw [ih _ _ (by omega), Table.get_set_ne d t b (by omega)]

/-- A byte inside the written range reads as written. -/
theorem Table.get_setBytes_mem (d : Nat → Byte) (t : Table Byte) (a : Nat) (bs : List Byte) (i : Nat) (h : i < bs.length) :
    (t.setBytes d a bs).get d (a + i) = bs[i] := by
  induction bs generalizing t a i with
  | nil => simp at h
  | cons b bs ih =>
    simp only [Table.setBytes]
    cases i with
    | zero => rw [Table.get_setBytes_ne d _ _ _ _ (by simp)]; simp
    | succ i =>
      have := ih (t.set d a b) (a + 1) i (by simpa using h)
      simpa [Nat.add_assoc, Nat.add_comm 1 i] using this

end Sys2Proof.Machine
end

