-- ==== Sys2Proof/Laws/State.lean ====
section
/-! SUPPORT. What each named update of the state leaves of every field, and what a register, a pair and a byte of memory read as
after it. -/

namespace Sys2Proof.Machine

/-! ## setReg -/

section
variable (s : State) (o : Nat) (v : Word)
@[simp] theorem State.setReg_mregs : (s.setReg o v).mregs = s.mregs := rfl
@[simp] theorem State.setReg_holds : (s.setReg o v).holds = s.holds := rfl
@[simp] theorem State.setReg_pairs : (s.setReg o v).pairs = s.pairs := rfl
@[simp] theorem State.setReg_hmem : (s.setReg o v).hmem = s.hmem := rfl
@[simp] theorem State.setReg_nvm : (s.setReg o v).nvm = s.nvm := rfl
@[simp] theorem State.setReg_beat : (s.setReg o v).beat = s.beat := rfl
@[simp] theorem State.setReg_scrub : (s.setReg o v).scrub = s.scrub := rfl
@[simp] theorem State.setReg_guards : (s.setReg o v).guards = s.guards := rfl
@[simp] theorem State.setReg_pkeArb : (s.setReg o v).pkeArb = s.pkeArb := rfl
@[simp] theorem State.setReg_bankArb : (s.setReg o v).bankArb = s.bankArb := rfl
@[simp] theorem State.setReg_nvmArb : (s.setReg o v).nvmArb = s.nvmArb := rfl
@[simp] theorem State.setReg_reads : (s.setReg o v).reads = s.reads := rfl
@[simp] theorem State.setReg_flaws : (s.setReg o v).flaws = s.flaws := rfl
@[simp] theorem State.setReg_ledger : (s.setReg o v).ledger = s.ledger := rfl
@[simp] theorem State.setReg_log : (s.setReg o v).log = s.log := rfl
@[simp] theorem State.setReg_mgtQueue : (s.setReg o v).mgtQueue = s.mgtQueue := rfl
@[simp] theorem State.setReg_mgtSending : (s.setReg o v).mgtSending = s.mgtSending := rfl
@[simp] theorem State.setReg_taken : (s.setReg o v).taken = s.taken := rfl
@[simp] theorem State.setReg_jobs : (s.setReg o v).jobs = s.jobs := rfl
@[simp] theorem State.setReg_lastJ : (s.setReg o v).lastJ = s.lastJ := rfl
@[simp] theorem State.setReg_sessions : (s.setReg o v).sessions = s.sessions := rfl
@[simp] theorem State.setReg_nextHandle : (s.setReg o v).nextHandle = s.nextHandle := rfl
@[simp] theorem State.setReg_ckVerify : (s.setReg o v).ckVerify = s.ckVerify := rfl
@[simp] theorem State.setReg_policies : (s.setReg o v).policies = s.policies := rfl
@[simp] theorem State.setReg_hostQueues : (s.setReg o v).hostQueues = s.hostQueues := rfl
@[simp] theorem State.setReg_hostTurn : (s.setReg o v).hostTurn = s.hostTurn := rfl
@[simp] theorem State.setReg_intake : (s.setReg o v).intake = s.intake := rfl
@[simp] theorem State.setReg_pke : (s.setReg o v).pke = s.pke := rfl
@[simp] theorem State.setReg_sym : (s.setReg o v).sym = s.sym := rfl
@[simp] theorem State.setReg_keys : (s.setReg o v).keys = s.keys := rfl
@[simp] theorem State.setReg_rng : (s.setReg o v).rng = s.rng := rfl
@[simp] theorem State.setReg_refresh : (s.setReg o v).refresh = s.refresh := rfl
@[simp] theorem State.setReg_refreshQueue : (s.setReg o v).refreshQueue = s.refreshQueue := rfl
@[simp] theorem State.setReg_patrolStart : (s.setReg o v).patrolStart = s.patrolStart := rfl
@[simp] theorem State.setReg_nvmSpent : (s.setReg o v).nvmSpent = s.nvmSpent := rfl
@[simp] theorem State.setReg_cartDet : (s.setReg o v).cartDet = s.cartDet := rfl
@[simp] theorem State.setReg_mirrorConflict : (s.setReg o v).mirrorConflict = s.mirrorConflict := rfl
@[simp] theorem State.setReg_bootCount : (s.setReg o v).bootCount = s.bootCount := rfl
@[simp] theorem State.setReg_imageFloor : (s.setReg o v).imageFloor = s.imageFloor := rfl
@[simp] theorem State.setReg_tags : (s.setReg o v).tags = s.tags := rfl
@[simp] theorem State.setReg_tamper : (s.setReg o v).tamper = s.tamper := rfl
@[simp] theorem State.setReg_otp : (s.setReg o v).otp = s.otp := rfl
@[simp] theorem State.setReg_dport : (s.setReg o v).dport = s.dport := rfl
@[simp] theorem State.setReg_act : (s.setReg o v).act = s.act := rfl
@[simp] theorem State.setReg_crt : (s.setReg o v).crt = s.crt := rfl
@[simp] theorem State.setReg_rf : (s.setReg o v).rf = s.rf := rfl
@[simp] theorem State.setReg_heads : (s.setReg o v).heads = s.heads := rfl
@[simp] theorem State.setReg_sc : (s.setReg o v).sc = s.sc := rfl
@[simp] theorem State.setReg_weave : (s.setReg o v).weave = s.weave := rfl
@[simp] theorem State.setReg_porHeld : (s.setReg o v).porHeld = s.porHeld := rfl
@[simp] theorem State.setReg_resetAfter : (s.setReg o v).resetAfter = s.resetAfter := rfl
@[simp] theorem State.setReg_out : (s.setReg o v).out = s.out := rfl
@[simp] theorem State.setReg_free : (s.setReg o v).free = s.free := rfl
@[simp] theorem State.setReg_pending : (s.setReg o v).pending = s.pending := rfl
end

/-! ## setF -/

section
variable (s : State) (f : FieldAt) (n : Nat)
@[simp] theorem State.setF_mregs : (s.setF f n).mregs = s.mregs := rfl
@[simp] theorem State.setF_holds : (s.setF f n).holds = s.holds := rfl
@[simp] theorem State.setF_pairs : (s.setF f n).pairs = s.pairs := rfl
@[simp] theorem State.setF_hmem : (s.setF f n).hmem = s.hmem := rfl
@[simp] theorem State.setF_nvm : (s.setF f n).nvm = s.nvm := rfl
@[simp] theorem State.setF_beat : (s.setF f n).beat = s.beat := rfl
@[simp] theorem State.setF_scrub : (s.setF f n).scrub = s.scrub := rfl
@[simp] theorem State.setF_guards : (s.setF f n).guards = s.guards := rfl
@[simp] theorem State.setF_pkeArb : (s.setF f n).pkeArb = s.pkeArb := rfl
@[simp] theorem State.setF_bankArb : (s.setF f n).bankArb = s.bankArb := rfl
@[simp] theorem State.setF_nvmArb : (s.setF f n).nvmArb = s.nvmArb := rfl
@[simp] theorem State.setF_reads : (s.setF f n).reads = s.reads := rfl
@[simp] theorem State.setF_flaws : (s.setF f n).flaws = s.flaws := rfl
@[simp] theorem State.setF_ledger : (s.setF f n).ledger = s.ledger := rfl
@[simp] theorem State.setF_log : (s.setF f n).log = s.log := rfl
@[simp] theorem State.setF_mgtQueue : (s.setF f n).mgtQueue = s.mgtQueue := rfl
@[simp] theorem State.setF_mgtSending : (s.setF f n).mgtSending = s.mgtSending := rfl
@[simp] theorem State.setF_taken : (s.setF f n).taken = s.taken := rfl
@[simp] theorem State.setF_jobs : (s.setF f n).jobs = s.jobs := rfl
@[simp] theorem State.setF_lastJ : (s.setF f n).lastJ = s.lastJ := rfl
@[simp] theorem State.setF_sessions : (s.setF f n).sessions = s.sessions := rfl
@[simp] theorem State.setF_nextHandle : (s.setF f n).nextHandle = s.nextHandle := rfl
@[simp] theorem State.setF_ckVerify : (s.setF f n).ckVerify = s.ckVerify := rfl
@[simp] theorem State.setF_policies : (s.setF f n).policies = s.policies := rfl
@[simp] theorem State.setF_hostQueues : (s.setF f n).hostQueues = s.hostQueues := rfl
@[simp] theorem State.setF_hostTurn : (s.setF f n).hostTurn = s.hostTurn := rfl
@[simp] theorem State.setF_intake : (s.setF f n).intake = s.intake := rfl
@[simp] theorem State.setF_pke : (s.setF f n).pke = s.pke := rfl
@[simp] theorem State.setF_sym : (s.setF f n).sym = s.sym := rfl
@[simp] theorem State.setF_keys : (s.setF f n).keys = s.keys := rfl
@[simp] theorem State.setF_rng : (s.setF f n).rng = s.rng := rfl
@[simp] theorem State.setF_refresh : (s.setF f n).refresh = s.refresh := rfl
@[simp] theorem State.setF_refreshQueue : (s.setF f n).refreshQueue = s.refreshQueue := rfl
@[simp] theorem State.setF_patrolStart : (s.setF f n).patrolStart = s.patrolStart := rfl
@[simp] theorem State.setF_nvmSpent : (s.setF f n).nvmSpent = s.nvmSpent := rfl
@[simp] theorem State.setF_cartDet : (s.setF f n).cartDet = s.cartDet := rfl
@[simp] theorem State.setF_mirrorConflict : (s.setF f n).mirrorConflict = s.mirrorConflict := rfl
@[simp] theorem State.setF_bootCount : (s.setF f n).bootCount = s.bootCount := rfl
@[simp] theorem State.setF_imageFloor : (s.setF f n).imageFloor = s.imageFloor := rfl
@[simp] theorem State.setF_tags : (s.setF f n).tags = s.tags := rfl
@[simp] theorem State.setF_tamper : (s.setF f n).tamper = s.tamper := rfl
@[simp] theorem State.setF_otp : (s.setF f n).otp = s.otp := rfl
@[simp] theorem State.setF_dport : (s.setF f n).dport = s.dport := rfl
@[simp] theorem State.setF_act : (s.setF f n).act = s.act := rfl
@[simp] theorem State.setF_crt : (s.setF f n).crt = s.crt := rfl
@[simp] theorem State.setF_rf : (s.setF f n).rf = s.rf := rfl
@[simp] theorem State.setF_heads : (s.setF f n).heads = s.heads := rfl
@[simp] theorem State.setF_sc : (s.setF f n).sc = s.sc := rfl
@[simp] theorem State.setF_weave : (s.setF f n).weave = s.weave := rfl
@[simp] theorem State.setF_porHeld : (s.setF f n).porHeld = s.porHeld := rfl
@[simp] theorem State.setF_resetAfter : (s.setF f n).resetAfter = s.resetAfter := rfl
@[simp] theorem State.setF_out : (s.setF f n).out = s.out := rfl
@[simp] theorem State.setF_free : (s.setF f n).free = s.free := rfl
@[simp] theorem State.setF_pending : (s.setF f n).pending = s.pending := rfl
end

/-! ## setMreg -/

section
variable (s : State) (m o : Nat) (v : Word)
@[simp] theorem State.setMreg_regs : (s.setMreg m o v).regs = s.regs := by simp only [State.setMreg]
@[simp] theorem State.setMreg_holds : (s.setMreg m o v).holds = s.holds := by simp only [State.setMreg]
@[simp] theorem State.setMreg_pairs : (s.setMreg m o v).pairs = s.pairs := by simp only [State.setMreg]
@[simp] theorem State.setMreg_hmem : (s.setMreg m o v).hmem = s.hmem := by simp only [State.setMreg]
@[simp] theorem State.setMreg_nvm : (s.setMreg m o v).nvm = s.nvm := by simp only [State.setMreg]
@[simp] theorem State.setMreg_beat : (s.setMreg m o v).beat = s.beat := by simp only [State.setMreg]
@[simp] theorem State.setMreg_scrub : (s.setMreg m o v).scrub = s.scrub := by simp only [State.setMreg]
@[simp] theorem State.setMreg_guards : (s.setMreg m o v).guards = s.guards := by simp only [State.setMreg]
@[simp] theorem State.setMreg_pkeArb : (s.setMreg m o v).pkeArb = s.pkeArb := by simp only [State.setMreg]
@[simp] theorem State.setMreg_bankArb : (s.setMreg m o v).bankArb = s.bankArb := by simp only [State.setMreg]
@[simp] theorem State.setMreg_nvmArb : (s.setMreg m o v).nvmArb = s.nvmArb := by simp only [State.setMreg]
@[simp] theorem State.setMreg_reads : (s.setMreg m o v).reads = s.reads := by simp only [State.setMreg]
@[simp] theorem State.setMreg_flaws : (s.setMreg m o v).flaws = s.flaws := by simp only [State.setMreg]
@[simp] theorem State.setMreg_ledger : (s.setMreg m o v).ledger = s.ledger := by simp only [State.setMreg]
@[simp] theorem State.setMreg_log : (s.setMreg m o v).log = s.log := by simp only [State.setMreg]
@[simp] theorem State.setMreg_mgtQueue : (s.setMreg m o v).mgtQueue = s.mgtQueue := by simp only [State.setMreg]
@[simp] theorem State.setMreg_mgtSending : (s.setMreg m o v).mgtSending = s.mgtSending := by simp only [State.setMreg]
@[simp] theorem State.setMreg_taken : (s.setMreg m o v).taken = s.taken := by simp only [State.setMreg]
@[simp] theorem State.setMreg_jobs : (s.setMreg m o v).jobs = s.jobs := by simp only [State.setMreg]
@[simp] theorem State.setMreg_lastJ : (s.setMreg m o v).lastJ = s.lastJ := by simp only [State.setMreg]
@[simp] theorem State.setMreg_sessions : (s.setMreg m o v).sessions = s.sessions := by simp only [State.setMreg]
@[simp] theorem State.setMreg_nextHandle : (s.setMreg m o v).nextHandle = s.nextHandle := by simp only [State.setMreg]
@[simp] theorem State.setMreg_ckVerify : (s.setMreg m o v).ckVerify = s.ckVerify := by simp only [State.setMreg]
@[simp] theorem State.setMreg_policies : (s.setMreg m o v).policies = s.policies := by simp only [State.setMreg]
@[simp] theorem State.setMreg_hostQueues : (s.setMreg m o v).hostQueues = s.hostQueues := by simp only [State.setMreg]
@[simp] theorem State.setMreg_hostTurn : (s.setMreg m o v).hostTurn = s.hostTurn := by simp only [State.setMreg]
@[simp] theorem State.setMreg_intake : (s.setMreg m o v).intake = s.intake := by simp only [State.setMreg]
@[simp] theorem State.setMreg_pke : (s.setMreg m o v).pke = s.pke := by simp only [State.setMreg]
@[simp] theorem State.setMreg_sym : (s.setMreg m o v).sym = s.sym := by simp only [State.setMreg]
@[simp] theorem State.setMreg_keys : (s.setMreg m o v).keys = s.keys := by simp only [State.setMreg]
@[simp] theorem State.setMreg_rng : (s.setMreg m o v).rng = s.rng := by simp only [State.setMreg]
@[simp] theorem State.setMreg_refresh : (s.setMreg m o v).refresh = s.refresh := by simp only [State.setMreg]
@[simp] theorem State.setMreg_refreshQueue : (s.setMreg m o v).refreshQueue = s.refreshQueue := by simp only [State.setMreg]
@[simp] theorem State.setMreg_patrolStart : (s.setMreg m o v).patrolStart = s.patrolStart := by simp only [State.setMreg]
@[simp] theorem State.setMreg_nvmSpent : (s.setMreg m o v).nvmSpent = s.nvmSpent := by simp only [State.setMreg]
@[simp] theorem State.setMreg_cartDet : (s.setMreg m o v).cartDet = s.cartDet := by simp only [State.setMreg]
@[simp] theorem State.setMreg_mirrorConflict : (s.setMreg m o v).mirrorConflict = s.mirrorConflict := by simp only [State.setMreg]
@[simp] theorem State.setMreg_bootCount : (s.setMreg m o v).bootCount = s.bootCount := by simp only [State.setMreg]
@[simp] theorem State.setMreg_imageFloor : (s.setMreg m o v).imageFloor = s.imageFloor := by simp only [State.setMreg]
@[simp] theorem State.setMreg_tags : (s.setMreg m o v).tags = s.tags := by simp only [State.setMreg]
@[simp] theorem State.setMreg_tamper : (s.setMreg m o v).tamper = s.tamper := by simp only [State.setMreg]
@[simp] theorem State.setMreg_otp : (s.setMreg m o v).otp = s.otp := by simp only [State.setMreg]
@[simp] theorem State.setMreg_dport : (s.setMreg m o v).dport = s.dport := by simp only [State.setMreg]
@[simp] theorem State.setMreg_act : (s.setMreg m o v).act = s.act := by simp only [State.setMreg]
@[simp] theorem State.setMreg_crt : (s.setMreg m o v).crt = s.crt := by simp only [State.setMreg]
@[simp] theorem State.setMreg_rf : (s.setMreg m o v).rf = s.rf := by simp only [State.setMreg]
@[simp] theorem State.setMreg_heads : (s.setMreg m o v).heads = s.heads := by simp only [State.setMreg]
@[simp] theorem State.setMreg_sc : (s.setMreg m o v).sc = s.sc := by simp only [State.setMreg]
@[simp] theorem State.setMreg_weave : (s.setMreg m o v).weave = s.weave := by simp only [State.setMreg]
@[simp] theorem State.setMreg_porHeld : (s.setMreg m o v).porHeld = s.porHeld := by simp only [State.setMreg]
@[simp] theorem State.setMreg_resetAfter : (s.setMreg m o v).resetAfter = s.resetAfter := by simp only [State.setMreg]
@[simp] theorem State.setMreg_out : (s.setMreg m o v).out = s.out := by simp only [State.setMreg]
@[simp] theorem State.setMreg_free : (s.setMreg m o v).free = s.free := by simp only [State.setMreg]
@[simp] theorem State.setMreg_pending : (s.setMreg m o v).pending = s.pending := by simp only [State.setMreg]
end

/-! ## setPair -/

section
variable (s : State) (p : Nat) (x : Pair)
@[simp] theorem State.setPair_regs : (s.setPair p x).regs = s.regs := rfl
@[simp] theorem State.setPair_mregs : (s.setPair p x).mregs = s.mregs := rfl
@[simp] theorem State.setPair_holds : (s.setPair p x).holds = s.holds := rfl
@[simp] theorem State.setPair_hmem : (s.setPair p x).hmem = s.hmem := rfl
@[simp] theorem State.setPair_nvm : (s.setPair p x).nvm = s.nvm := rfl
@[simp] theorem State.setPair_beat : (s.setPair p x).beat = s.beat := rfl
@[simp] theorem State.setPair_scrub : (s.setPair p x).scrub = s.scrub := rfl
@[simp] theorem State.setPair_guards : (s.setPair p x).guards = s.guards := rfl
@[simp] theorem State.setPair_pkeArb : (s.setPair p x).pkeArb = s.pkeArb := rfl
@[simp] theorem State.setPair_bankArb : (s.setPair p x).bankArb = s.bankArb := rfl
@[simp] theorem State.setPair_nvmArb : (s.setPair p x).nvmArb = s.nvmArb := rfl
@[simp] theorem State.setPair_reads : (s.setPair p x).reads = s.reads := rfl
@[simp] theorem State.setPair_flaws : (s.setPair p x).flaws = s.flaws := rfl
@[simp] theorem State.setPair_ledger : (s.setPair p x).ledger = s.ledger := rfl
@[simp] theorem State.setPair_log : (s.setPair p x).log = s.log := rfl
@[simp] theorem State.setPair_mgtQueue : (s.setPair p x).mgtQueue = s.mgtQueue := rfl
@[simp] theorem State.setPair_mgtSending : (s.setPair p x).mgtSending = s.mgtSending := rfl
@[simp] theorem State.setPair_taken : (s.setPair p x).taken = s.taken := rfl
@[simp] theorem State.setPair_jobs : (s.setPair p x).jobs = s.jobs := rfl
@[simp] theorem State.setPair_lastJ : (s.setPair p x).lastJ = s.lastJ := rfl
@[simp] theorem State.setPair_sessions : (s.setPair p x).sessions = s.sessions := rfl
@[simp] theorem State.setPair_nextHandle : (s.setPair p x).nextHandle = s.nextHandle := rfl
@[simp] theorem State.setPair_ckVerify : (s.setPair p x).ckVerify = s.ckVerify := rfl
@[simp] theorem State.setPair_policies : (s.setPair p x).policies = s.policies := rfl
@[simp] theorem State.setPair_hostQueues : (s.setPair p x).hostQueues = s.hostQueues := rfl
@[simp] theorem State.setPair_hostTurn : (s.setPair p x).hostTurn = s.hostTurn := rfl
@[simp] theorem State.setPair_intake : (s.setPair p x).intake = s.intake := rfl
@[simp] theorem State.setPair_pke : (s.setPair p x).pke = s.pke := rfl
@[simp] theorem State.setPair_sym : (s.setPair p x).sym = s.sym := rfl
@[simp] theorem State.setPair_keys : (s.setPair p x).keys = s.keys := rfl
@[simp] theorem State.setPair_rng : (s.setPair p x).rng = s.rng := rfl
@[simp] theorem State.setPair_refresh : (s.setPair p x).refresh = s.refresh := rfl
@[simp] theorem State.setPair_refreshQueue : (s.setPair p x).refreshQueue = s.refreshQueue := rfl
@[simp] theorem State.setPair_patrolStart : (s.setPair p x).patrolStart = s.patrolStart := rfl
@[simp] theorem State.setPair_nvmSpent : (s.setPair p x).nvmSpent = s.nvmSpent := rfl
@[simp] theorem State.setPair_cartDet : (s.setPair p x).cartDet = s.cartDet := rfl
@[simp] theorem State.setPair_mirrorConflict : (s.setPair p x).mirrorConflict = s.mirrorConflict := rfl
@[simp] theorem State.setPair_bootCount : (s.setPair p x).bootCount = s.bootCount := rfl
@[simp] theorem State.setPair_imageFloor : (s.setPair p x).imageFloor = s.imageFloor := rfl
@[simp] theorem State.setPair_tags : (s.setPair p x).tags = s.tags := rfl
@[simp] theorem State.setPair_tamper : (s.setPair p x).tamper = s.tamper := rfl
@[simp] theorem State.setPair_otp : (s.setPair p x).otp = s.otp := rfl
@[simp] theorem State.setPair_dport : (s.setPair p x).dport = s.dport := rfl
@[simp] theorem State.setPair_act : (s.setPair p x).act = s.act := rfl
@[simp] theorem State.setPair_crt : (s.setPair p x).crt = s.crt := rfl
@[simp] theorem State.setPair_rf : (s.setPair p x).rf = s.rf := rfl
@[simp] theorem State.setPair_heads : (s.setPair p x).heads = s.heads := rfl
@[simp] theorem State.setPair_sc : (s.setPair p x).sc = s.sc := rfl
@[simp] theorem State.setPair_weave : (s.setPair p x).weave = s.weave := rfl
@[simp] theorem State.setPair_porHeld : (s.setPair p x).porHeld = s.porHeld := rfl
@[simp] theorem State.setPair_resetAfter : (s.setPair p x).resetAfter = s.resetAfter := rfl
@[simp] theorem State.setPair_out : (s.setPair p x).out = s.out := rfl
@[simp] theorem State.setPair_free : (s.setPair p x).free = s.free := rfl
@[simp] theorem State.setPair_pending : (s.setPair p x).pending = s.pending := rfl
end

/-! ## updPair -/

section
variable (s : State) (p : Nat) (f : Pair → Pair)
@[simp] theorem State.updPair_regs : (s.updPair p f).regs = s.regs := rfl
@[simp] theorem State.updPair_mregs : (s.updPair p f).mregs = s.mregs := rfl
@[simp] theorem State.updPair_holds : (s.updPair p f).holds = s.holds := rfl
@[simp] theorem State.updPair_hmem : (s.updPair p f).hmem = s.hmem := rfl
@[simp] theorem State.updPair_nvm : (s.updPair p f).nvm = s.nvm := rfl
@[simp] theorem State.updPair_beat : (s.updPair p f).beat = s.beat := rfl
@[simp] theorem State.updPair_scrub : (s.updPair p f).scrub = s.scrub := rfl
@[simp] theorem State.updPair_guards : (s.updPair p f).guards = s.guards := rfl
@[simp] theorem State.updPair_pkeArb : (s.updPair p f).pkeArb = s.pkeArb := rfl
@[simp] theorem State.updPair_bankArb : (s.updPair p f).bankArb = s.bankArb := rfl
@[simp] theorem State.updPair_nvmArb : (s.updPair p f).nvmArb = s.nvmArb := rfl
@[simp] theorem State.updPair_reads : (s.updPair p f).reads = s.reads := rfl
@[simp] theorem State.updPair_flaws : (s.updPair p f).flaws = s.flaws := rfl
@[simp] theorem State.updPair_ledger : (s.updPair p f).ledger = s.ledger := rfl
@[simp] theorem State.updPair_log : (s.updPair p f).log = s.log := rfl
@[simp] theorem State.updPair_mgtQueue : (s.updPair p f).mgtQueue = s.mgtQueue := rfl
@[simp] theorem State.updPair_mgtSending : (s.updPair p f).mgtSending = s.mgtSending := rfl
@[simp] theorem State.updPair_taken : (s.updPair p f).taken = s.taken := rfl
@[simp] theorem State.updPair_jobs : (s.updPair p f).jobs = s.jobs := rfl
@[simp] theorem State.updPair_lastJ : (s.updPair p f).lastJ = s.lastJ := rfl
@[simp] theorem State.updPair_sessions : (s.updPair p f).sessions = s.sessions := rfl
@[simp] theorem State.updPair_nextHandle : (s.updPair p f).nextHandle = s.nextHandle := rfl
@[simp] theorem State.updPair_ckVerify : (s.updPair p f).ckVerify = s.ckVerify := rfl
@[simp] theorem State.updPair_policies : (s.updPair p f).policies = s.policies := rfl
@[simp] theorem State.updPair_hostQueues : (s.updPair p f).hostQueues = s.hostQueues := rfl
@[simp] theorem State.updPair_hostTurn : (s.updPair p f).hostTurn = s.hostTurn := rfl
@[simp] theorem State.updPair_intake : (s.updPair p f).intake = s.intake := rfl
@[simp] theorem State.updPair_pke : (s.updPair p f).pke = s.pke := rfl
@[simp] theorem State.updPair_sym : (s.updPair p f).sym = s.sym := rfl
@[simp] theorem State.updPair_keys : (s.updPair p f).keys = s.keys := rfl
@[simp] theorem State.updPair_rng : (s.updPair p f).rng = s.rng := rfl
@[simp] theorem State.updPair_refresh : (s.updPair p f).refresh = s.refresh := rfl
@[simp] theorem State.updPair_refreshQueue : (s.updPair p f).refreshQueue = s.refreshQueue := rfl
@[simp] theorem State.updPair_patrolStart : (s.updPair p f).patrolStart = s.patrolStart := rfl
@[simp] theorem State.updPair_nvmSpent : (s.updPair p f).nvmSpent = s.nvmSpent := rfl
@[simp] theorem State.updPair_cartDet : (s.updPair p f).cartDet = s.cartDet := rfl
@[simp] theorem State.updPair_mirrorConflict : (s.updPair p f).mirrorConflict = s.mirrorConflict := rfl
@[simp] theorem State.updPair_bootCount : (s.updPair p f).bootCount = s.bootCount := rfl
@[simp] theorem State.updPair_imageFloor : (s.updPair p f).imageFloor = s.imageFloor := rfl
@[simp] theorem State.updPair_tags : (s.updPair p f).tags = s.tags := rfl
@[simp] theorem State.updPair_tamper : (s.updPair p f).tamper = s.tamper := rfl
@[simp] theorem State.updPair_otp : (s.updPair p f).otp = s.otp := rfl
@[simp] theorem State.updPair_dport : (s.updPair p f).dport = s.dport := rfl
@[simp] theorem State.updPair_act : (s.updPair p f).act = s.act := rfl
@[simp] theorem State.updPair_crt : (s.updPair p f).crt = s.crt := rfl
@[simp] theorem State.updPair_rf : (s.updPair p f).rf = s.rf := rfl
@[simp] theorem State.updPair_heads : (s.updPair p f).heads = s.heads := rfl
@[simp] theorem State.updPair_sc : (s.updPair p f).sc = s.sc := rfl
@[simp] theorem State.updPair_weave : (s.updPair p f).weave = s.weave := rfl
@[simp] theorem State.updPair_porHeld : (s.updPair p f).porHeld = s.porHeld := rfl
@[simp] theorem State.updPair_resetAfter : (s.updPair p f).resetAfter = s.resetAfter := rfl
@[simp] theorem State.updPair_out : (s.updPair p f).out = s.out := rfl
@[simp] theorem State.updPair_free : (s.updPair p f).free = s.free := rfl
@[simp] theorem State.updPair_pending : (s.updPair p f).pending = s.pending := rfl
end

/-! ## setHbytes -/

section
variable (s : State) (a : Nat) (bs : List Byte)
@[simp] theorem State.setHbytes_regs : (s.setHbytes a bs).regs = s.regs := rfl
@[simp] theorem State.setHbytes_mregs : (s.setHbytes a bs).mregs = s.mregs := rfl
@[simp] theorem State.setHbytes_holds : (s.setHbytes a bs).holds = s.holds := rfl
@[simp] theorem State.setHbytes_pairs : (s.setHbytes a bs).pairs = s.pairs := rfl
@[simp] theorem State.setHbytes_nvm : (s.setHbytes a bs).nvm = s.nvm := rfl
@[simp] theorem State.setHbytes_beat : (s.setHbytes a bs).beat = s.beat := rfl
@[simp] theorem State.setHbytes_scrub : (s.setHbytes a bs).scrub = s.scrub := rfl
@[simp] theorem State.setHbytes_guards : (s.setHbytes a bs).guards = s.guards := rfl
@[simp] theorem State.setHbytes_pkeArb : (s.setHbytes a bs).pkeArb = s.pkeArb := rfl
@[simp] theorem State.setHbytes_bankArb : (s.setHbytes a bs).bankArb = s.bankArb := rfl
@[simp] theorem State.setHbytes_nvmArb : (s.setHbytes a bs).nvmArb = s.nvmArb := rfl
@[simp] theorem State.setHbytes_reads : (s.setHbytes a bs).reads = s.reads := rfl
@[simp] theorem State.setHbytes_ledger : (s.setHbytes a bs).ledger = s.ledger := rfl
@[simp] theorem State.setHbytes_log : (s.setHbytes a bs).log = s.log := rfl
@[simp] theorem State.setHbytes_mgtQueue : (s.setHbytes a bs).mgtQueue = s.mgtQueue := rfl
@[simp] theorem State.setHbytes_mgtSending : (s.setHbytes a bs).mgtSending = s.mgtSending := rfl
@[simp] theorem State.setHbytes_taken : (s.setHbytes a bs).taken = s.taken := rfl
@[simp] theorem State.setHbytes_jobs : (s.setHbytes a bs).jobs = s.jobs := rfl
@[simp] theorem State.setHbytes_lastJ : (s.setHbytes a bs).lastJ = s.lastJ := rfl
@[simp] theorem State.setHbytes_sessions : (s.setHbytes a bs).sessions = s.sessions := rfl
@[simp] theorem State.setHbytes_nextHandle : (s.setHbytes a bs).nextHandle = s.nextHandle := rfl
@[simp] theorem State.setHbytes_ckVerify : (s.setHbytes a bs).ckVerify = s.ckVerify := rfl
@[simp] theorem State.setHbytes_policies : (s.setHbytes a bs).policies = s.policies := rfl
@[simp] theorem State.setHbytes_hostQueues : (s.setHbytes a bs).hostQueues = s.hostQueues := rfl
@[simp] theorem State.setHbytes_hostTurn : (s.setHbytes a bs).hostTurn = s.hostTurn := rfl
@[simp] theorem State.setHbytes_intake : (s.setHbytes a bs).intake = s.intake := rfl
@[simp] theorem State.setHbytes_pke : (s.setHbytes a bs).pke = s.pke := rfl
@[simp] theorem State.setHbytes_sym : (s.setHbytes a bs).sym = s.sym := rfl
@[simp] theorem State.setHbytes_keys : (s.setHbytes a bs).keys = s.keys := rfl
@[simp] theorem State.setHbytes_rng : (s.setHbytes a bs).rng = s.rng := rfl
@[simp] theorem State.setHbytes_refresh : (s.setHbytes a bs).refresh = s.refresh := rfl
@[simp] theorem State.setHbytes_refreshQueue : (s.setHbytes a bs).refreshQueue = s.refreshQueue := rfl
@[simp] theorem State.setHbytes_patrolStart : (s.setHbytes a bs).patrolStart = s.patrolStart := rfl
@[simp] theorem State.setHbytes_nvmSpent : (s.setHbytes a bs).nvmSpent = s.nvmSpent := rfl
@[simp] theorem State.setHbytes_cartDet : (s.setHbytes a bs).cartDet = s.cartDet := rfl
@[simp] theorem State.setHbytes_mirrorConflict : (s.setHbytes a bs).mirrorConflict = s.mirrorConflict := rfl
@[simp] theorem State.setHbytes_bootCount : (s.setHbytes a bs).bootCount = s.bootCount := rfl
@[simp] theorem State.setHbytes_imageFloor : (s.setHbytes a bs).imageFloor = s.imageFloor := rfl
@[simp] theorem State.setHbytes_tags : (s.setHbytes a bs).tags = s.tags := rfl
@[simp] theorem State.setHbytes_tamper : (s.setHbytes a bs).tamper = s.tamper := rfl
@[simp] theorem State.setHbytes_otp : (s.setHbytes a bs).otp = s.otp := rfl
@[simp] theorem State.setHbytes_dport : (s.setHbytes a bs).dport = s.dport := rfl
@[simp] theorem State.setHbytes_act : (s.setHbytes a bs).act = s.act := rfl
@[simp] theorem State.setHbytes_crt : (s.setHbytes a bs).crt = s.crt := rfl
@[simp] theorem State.setHbytes_rf : (s.setHbytes a bs).rf = s.rf := rfl
@[simp] theorem State.setHbytes_heads : (s.setHbytes a bs).heads = s.heads := rfl
@[simp] theorem State.setHbytes_sc : (s.setHbytes a bs).sc = s.sc := rfl
@[simp] theorem State.setHbytes_weave : (s.setHbytes a bs).weave = s.weave := rfl
@[simp] theorem State.setHbytes_porHeld : (s.setHbytes a bs).porHeld = s.porHeld := rfl
@[simp] theorem State.setHbytes_resetAfter : (s.setHbytes a bs).resetAfter = s.resetAfter := rfl
@[simp] theorem State.setHbytes_out : (s.setHbytes a bs).out = s.out := rfl
@[simp] theorem State.setHbytes_free : (s.setHbytes a bs).free = s.free := rfl
@[simp] theorem State.setHbytes_pending : (s.setHbytes a bs).pending = s.pending := rfl
end

/-! ## setNbytes -/

section
variable (s : State) (a : Nat) (bs : List Byte)
@[simp] theorem State.setNbytes_regs : (s.setNbytes a bs).regs = s.regs := rfl
@[simp] theorem State.setNbytes_mregs : (s.setNbytes a bs).mregs = s.mregs := rfl
@[simp] theorem State.setNbytes_holds : (s.setNbytes a bs).holds = s.holds := rfl
@[simp] theorem State.setNbytes_pairs : (s.setNbytes a bs).pairs = s.pairs := rfl
@[simp] theorem State.setNbytes_hmem : (s.setNbytes a bs).hmem = s.hmem := rfl
@[simp] theorem State.setNbytes_beat : (s.setNbytes a bs).beat = s.beat := rfl
@[simp] theorem State.setNbytes_scrub : (s.setNbytes a bs).scrub = s.scrub := rfl
@[simp] theorem State.setNbytes_guards : (s.setNbytes a bs).guards = s.guards := rfl
@[simp] theorem State.setNbytes_pkeArb : (s.setNbytes a bs).pkeArb = s.pkeArb := rfl
@[simp] theorem State.setNbytes_bankArb : (s.setNbytes a bs).bankArb = s.bankArb := rfl
@[simp] theorem State.setNbytes_nvmArb : (s.setNbytes a bs).nvmArb = s.nvmArb := rfl
@[simp] theorem State.setNbytes_reads : (s.setNbytes a bs).reads = s.reads := rfl
@[simp] theorem State.setNbytes_ledger : (s.setNbytes a bs).ledger = s.ledger := rfl
@[simp] theorem State.setNbytes_log : (s.setNbytes a bs).log = s.log := rfl
@[simp] theorem State.setNbytes_mgtQueue : (s.setNbytes a bs).mgtQueue = s.mgtQueue := rfl
@[simp] theorem State.setNbytes_mgtSending : (s.setNbytes a bs).mgtSending = s.mgtSending := rfl
@[simp] theorem State.setNbytes_taken : (s.setNbytes a bs).taken = s.taken := rfl
@[simp] theorem State.setNbytes_jobs : (s.setNbytes a bs).jobs = s.jobs := rfl
@[simp] theorem State.setNbytes_lastJ : (s.setNbytes a bs).lastJ = s.lastJ := rfl
@[simp] theorem State.setNbytes_sessions : (s.setNbytes a bs).sessions = s.sessions := rfl
@[simp] theorem State.setNbytes_nextHandle : (s.setNbytes a bs).nextHandle = s.nextHandle := rfl
@[simp] theorem State.setNbytes_ckVerify : (s.setNbytes a bs).ckVerify = s.ckVerify := rfl
@[simp] theorem State.setNbytes_policies : (s.setNbytes a bs).policies = s.policies := rfl
@[simp] theorem State.setNbytes_hostQueues : (s.setNbytes a bs).hostQueues = s.hostQueues := rfl
@[simp] theorem State.setNbytes_hostTurn : (s.setNbytes a bs).hostTurn = s.hostTurn := rfl
@[simp] theorem State.setNbytes_intake : (s.setNbytes a bs).intake = s.intake := rfl
@[simp] theorem State.setNbytes_pke : (s.setNbytes a bs).pke = s.pke := rfl
@[simp] theorem State.setNbytes_sym : (s.setNbytes a bs).sym = s.sym := rfl
@[simp] theorem State.setNbytes_keys : (s.setNbytes a bs).keys = s.keys := rfl
@[simp] theorem State.setNbytes_rng : (s.setNbytes a bs).rng = s.rng := rfl
@[simp] theorem State.setNbytes_refresh : (s.setNbytes a bs).refresh = s.refresh := rfl
@[simp] theorem State.setNbytes_refreshQueue : (s.setNbytes a bs).refreshQueue = s.refreshQueue := rfl
@[simp] theorem State.setNbytes_patrolStart : (s.setNbytes a bs).patrolStart = s.patrolStart := rfl
@[simp] theorem State.setNbytes_nvmSpent : (s.setNbytes a bs).nvmSpent = s.nvmSpent := rfl
@[simp] theorem State.setNbytes_cartDet : (s.setNbytes a bs).cartDet = s.cartDet := rfl
@[simp] theorem State.setNbytes_mirrorConflict : (s.setNbytes a bs).mirrorConflict = s.mirrorConflict := rfl
@[simp] theorem State.setNbytes_bootCount : (s.setNbytes a bs).bootCount = s.bootCount := rfl
@[simp] theorem State.setNbytes_imageFloor : (s.setNbytes a bs).imageFloor = s.imageFloor := rfl
@[simp] theorem State.setNbytes_tags : (s.setNbytes a bs).tags = s.tags := rfl
@[simp] theorem State.setNbytes_tamper : (s.setNbytes a bs).tamper = s.tamper := rfl
@[simp] theorem State.setNbytes_otp : (s.setNbytes a bs).otp = s.otp := rfl
@[simp] theorem State.setNbytes_dport : (s.setNbytes a bs).dport = s.dport := rfl
@[simp] theorem State.setNbytes_act : (s.setNbytes a bs).act = s.act := rfl
@[simp] theorem State.setNbytes_crt : (s.setNbytes a bs).crt = s.crt := rfl
@[simp] theorem State.setNbytes_rf : (s.setNbytes a bs).rf = s.rf := rfl
@[simp] theorem State.setNbytes_heads : (s.setNbytes a bs).heads = s.heads := rfl
@[simp] theorem State.setNbytes_sc : (s.setNbytes a bs).sc = s.sc := rfl
@[simp] theorem State.setNbytes_weave : (s.setNbytes a bs).weave = s.weave := rfl
@[simp] theorem State.setNbytes_porHeld : (s.setNbytes a bs).porHeld = s.porHeld := rfl
@[simp] theorem State.setNbytes_resetAfter : (s.setNbytes a bs).resetAfter = s.resetAfter := rfl
@[simp] theorem State.setNbytes_out : (s.setNbytes a bs).out = s.out := rfl
@[simp] theorem State.setNbytes_free : (s.setNbytes a bs).free = s.free := rfl
@[simp] theorem State.setNbytes_pending : (s.setNbytes a bs).pending = s.pending := rfl
end

/-! ## emit -/

section
variable (s : State) (x : Output)
@[simp] theorem State.emit_regs : (s.emit x).regs = s.regs := rfl
@[simp] theorem State.emit_mregs : (s.emit x).mregs = s.mregs := rfl
@[simp] theorem State.emit_holds : (s.emit x).holds = s.holds := rfl
@[simp] theorem State.emit_pairs : (s.emit x).pairs = s.pairs := rfl
@[simp] theorem State.emit_hmem : (s.emit x).hmem = s.hmem := rfl
@[simp] theorem State.emit_nvm : (s.emit x).nvm = s.nvm := rfl
@[simp] theorem State.emit_beat : (s.emit x).beat = s.beat := rfl
@[simp] theorem State.emit_scrub : (s.emit x).scrub = s.scrub := rfl
@[simp] theorem State.emit_guards : (s.emit x).guards = s.guards := rfl
@[simp] theorem State.emit_pkeArb : (s.emit x).pkeArb = s.pkeArb := rfl
@[simp] theorem State.emit_bankArb : (s.emit x).bankArb = s.bankArb := rfl
@[simp] theorem State.emit_nvmArb : (s.emit x).nvmArb = s.nvmArb := rfl
@[simp] theorem State.emit_reads : (s.emit x).reads = s.reads := rfl
@[simp] theorem State.emit_flaws : (s.emit x).flaws = s.flaws := rfl
@[simp] theorem State.emit_ledger : (s.emit x).ledger = s.ledger := rfl
@[simp] theorem State.emit_log : (s.emit x).log = s.log := rfl
@[simp] theorem State.emit_mgtQueue : (s.emit x).mgtQueue = s.mgtQueue := rfl
@[simp] theorem State.emit_mgtSending : (s.emit x).mgtSending = s.mgtSending := rfl
@[simp] theorem State.emit_taken : (s.emit x).taken = s.taken := rfl
@[simp] theorem State.emit_jobs : (s.emit x).jobs = s.jobs := rfl
@[simp] theorem State.emit_lastJ : (s.emit x).lastJ = s.lastJ := rfl
@[simp] theorem State.emit_sessions : (s.emit x).sessions = s.sessions := rfl
@[simp] theorem State.emit_nextHandle : (s.emit x).nextHandle = s.nextHandle := rfl
@[simp] theorem State.emit_ckVerify : (s.emit x).ckVerify = s.ckVerify := rfl
@[simp] theorem State.emit_policies : (s.emit x).policies = s.policies := rfl
@[simp] theorem State.emit_hostQueues : (s.emit x).hostQueues = s.hostQueues := rfl
@[simp] theorem State.emit_hostTurn : (s.emit x).hostTurn = s.hostTurn := rfl
@[simp] theorem State.emit_intake : (s.emit x).intake = s.intake := rfl
@[simp] theorem State.emit_pke : (s.emit x).pke = s.pke := rfl
@[simp] theorem State.emit_sym : (s.emit x).sym = s.sym := rfl
@[simp] theorem State.emit_keys : (s.emit x).keys = s.keys := rfl
@[simp] theorem State.emit_rng : (s.emit x).rng = s.rng := rfl
@[simp] theorem State.emit_refresh : (s.emit x).refresh = s.refresh := rfl
@[simp] theorem State.emit_refreshQueue : (s.emit x).refreshQueue = s.refreshQueue := rfl
@[simp] theorem State.emit_patrolStart : (s.emit x).patrolStart = s.patrolStart := rfl
@[simp] theorem State.emit_nvmSpent : (s.emit x).nvmSpent = s.nvmSpent := rfl
@[simp] theorem State.emit_cartDet : (s.emit x).cartDet = s.cartDet := rfl
@[simp] theorem State.emit_mirrorConflict : (s.emit x).mirrorConflict = s.mirrorConflict := rfl
@[simp] theorem State.emit_bootCount : (s.emit x).bootCount = s.bootCount := rfl
@[simp] theorem State.emit_imageFloor : (s.emit x).imageFloor = s.imageFloor := rfl
@[simp] theorem State.emit_tags : (s.emit x).tags = s.tags := rfl
@[simp] theorem State.emit_tamper : (s.emit x).tamper = s.tamper := rfl
@[simp] theorem State.emit_otp : (s.emit x).otp = s.otp := rfl
@[simp] theorem State.emit_dport : (s.emit x).dport = s.dport := rfl
@[simp] theorem State.emit_act : (s.emit x).act = s.act := rfl
@[simp] theorem State.emit_crt : (s.emit x).crt = s.crt := rfl
@[simp] theorem State.emit_rf : (s.emit x).rf = s.rf := rfl
@[simp] theorem State.emit_heads : (s.emit x).heads = s.heads := rfl
@[simp] theorem State.emit_sc : (s.emit x).sc = s.sc := rfl
@[simp] theorem State.emit_weave : (s.emit x).weave = s.weave := rfl
@[simp] theorem State.emit_porHeld : (s.emit x).porHeld = s.porHeld := rfl
@[simp] theorem State.emit_resetAfter : (s.emit x).resetAfter = s.resetAfter := rfl
@[simp] theorem State.emit_free : (s.emit x).free = s.free := rfl
@[simp] theorem State.emit_pending : (s.emit x).pending = s.pending := rfl
end

/-! ## What is read after an update -/

@[simp] theorem State.reg_setReg (s : State) (o : Nat) (v : Word) : (s.setReg o v).reg o = v := by
  simp [State.reg, State.setReg]
theorem State.reg_setReg_ne (s : State) {o a : Nat} (v : Word) (h : a ≠ o) : (s.setReg o v).reg a = s.reg a := by
  simp [State.reg, State.setReg, Table.get_set_ne _ _ v h]
@[simp] theorem State.pair_setPair (s : State) (p : Nat) (x : Pair) : (s.setPair p x).pair p = x := by
  simp [State.pair, State.setPair]
theorem State.pair_setPair_ne (s : State) {p q : Nat} (x : Pair) (h : q ≠ p) : (s.setPair p x).pair q = s.pair q := by
  simp [State.pair, State.setPair, Table.get_set_ne _ _ x h]
@[simp] theorem State.pair_updPair (s : State) (p : Nat) (f : Pair → Pair) : (s.updPair p f).pair p = f (s.pair p) := by
  simp [State.updPair]
theorem State.pair_updPair_ne (s : State) {p q : Nat} (f : Pair → Pair) (h : q ≠ p) : (s.updPair p f).pair q = s.pair q := by
  simp [State.updPair, State.pair_setPair_ne s _ h]
@[simp] theorem State.reg_setPair (s : State) (p : Nat) (x : Pair) (o : Nat) : (s.setPair p x).reg o = s.reg o := rfl
@[simp] theorem State.reg_updPair (s : State) (p : Nat) (f : Pair → Pair) (o : Nat) : (s.updPair p f).reg o = s.reg o := rfl
@[simp] theorem State.pair_setReg (s : State) (o : Nat) (v : Word) (p : Nat) : (s.setReg o v).pair p = s.pair p := rfl
@[simp] theorem State.pair_setF (s : State) (f : FieldAt) (n p : Nat) : (s.setF f n).pair p = s.pair p := rfl
@[simp] theorem State.mreg_setMreg (s : State) (m o : Nat) (v : Word) : (s.setMreg m o v).mreg m o = v := by
  simp [State.mreg, State.setMreg]

/-! ## Pairs -/

@[simp] theorem Pair.greg_zero (x : Pair) : x.greg 0 = 0 := rfl
@[simp] theorem Pair.setG_zero (x : Pair) (v : Word) : x.setG 0 v = x := rfl
theorem Pair.greg_setG (x : Pair) {r : Nat} (v : Word) (h : r ≠ 0) : (x.setG r v).greg r = v := by
  simp [Pair.greg, Pair.setG, h]
theorem Pair.greg_setG_ne (x : Pair) {r k : Nat} (v : Word) (h : k ≠ r) : (x.setG r v).greg k = x.greg k := by
  by_cases hr : r = 0
  · simp [Pair.setG, hr]
  · simp [Pair.setG, Pair.greg, hr, Table.get_set_ne _ _ v h]
@[simp] theorem Pair.sreg_setS (x : Pair) (n : Nat) (v : Word) : (x.setS n v).sreg n = v := by simp [Pair.sreg, Pair.setS]
theorem Pair.sreg_setS_ne (x : Pair) {n k : Nat} (v : Word) (h : k ≠ n) : (x.setS n v).sreg k = x.sreg k := by
  simp [Pair.sreg, Pair.setS, Table.get_set_ne _ _ v h]
@[simp] theorem Pair.greg_setS (x : Pair) (n : Nat) (v : Word) (r : Nat) : (x.setS n v).greg r = x.greg r := rfl
@[simp] theorem Pair.sreg_setG (x : Pair) (r : Nat) (v : Word) (n : Nat) : (x.setG r v).sreg n = x.sreg n := by
  unfold Pair.setG; split <;> rfl

/-! ## Memory -/

/-- A byte of hearth memory outside the bytes written reads as before. -/
theorem State.hmem_setHbytes_ne (s : State) (a : Nat) (bs : List Byte) (k : Nat) (h : k < a ∨ a + bs.length ≤ k) :
    (s.setHbytes a bs).hmem.get zeroByte k = s.hmem.get zeroByte k := by
  simp [State.setHbytes, Table.get_setBytes_ne _ _ _ _ _ h]
theorem State.hmem_wf_setHbytes {s : State} (h : s.hmem.wf zeroByte = true) (a : Nat) (bs : List Byte) :
    (s.setHbytes a bs).hmem.wf zeroByte = true := Table.wf_setBytes _ h a bs
theorem State.nvm_wf_setNbytes {s : State} (h : s.nvm.wf nvmByte = true) (a : Nat) (bs : List Byte) :
    (s.setNbytes a bs).nvm.wf nvmByte = true := Table.wf_setBytes _ h a bs
theorem State.nvm_wf_eraseNbytes {s : State} (h : s.nvm.wf nvmByte = true) (a n : Nat) :
    (s.eraseNbytes a n).nvm.wf nvmByte = true := Table.wf_drop nvmByte h (fun k => decide (a ≤ k ∧ k < a + n))
theorem State.regs_wf_setReg {s : State} (h : s.regs.wf resetReg = true) (o : Nat) (v : Word) :
    (s.setReg o v).regs.wf resetReg = true := Table.wf_set _ h o v

end Sys2Proof.Machine
end

