-- ==== Sys2Proof/Laws/Grant.lean ====
section
/-! SUPPORT. What requests, grants and the reads of pairs leave of the pairs and of the memories. -/

namespace Sys2Proof.Machine

/-- The pairs and the memories are those of `s`. -/
structure State.Untouched (s t : State) : Prop where
  pairs : t.pairs = s.pairs
  hmem : t.hmem = s.hmem
  nvm : t.nvm = s.nvm

theorem State.Untouched.refl (s : State) : s.Untouched s := ⟨rfl, rfl, rfl⟩
theorem State.Untouched.trans {s t u : State} (a : s.Untouched t) (b : t.Untouched u) : s.Untouched u :=
  ⟨b.pairs.trans a.pairs, b.hmem.trans a.hmem, b.nvm.trans a.nvm⟩
theorem State.Untouched.pair {s t : State} (h : s.Untouched t) (p : Nat) : t.pair p = s.pair p := by
  unfold State.pair; rw [h.pairs]

theorem untouched_setReg (s : State) (o : Nat) (v : Word) : s.Untouched (s.setReg o v) := ⟨rfl, rfl, rfl⟩
theorem untouched_setF (s : State) (f : FieldAt) (n : Nat) : s.Untouched (s.setF f n) := ⟨rfl, rfl, rfl⟩
theorem untouched_setArb (s : State) (i : ArbId) (a : Arbiter) : s.Untouched (s.setArb i a) := by
  cases i <;> exact ⟨rfl, rfl, rfl⟩
theorem untouched_dropRead (s : State) (p : Nat) : s.Untouched (s.dropRead p) := ⟨rfl, rfl, rfl⟩

/-- A fold of operations that leave the pairs and memories alone does so. -/
theorem untouched_foldl {α : Type} (f : State → α → State) (h : ∀ (s : State) a, State.Untouched s (f s a)) (l : List α) (s : State) :
    State.Untouched s (l.foldl f s) := by
  induction l generalizing s with
  | nil => exact .refl s
  | cons a l ih => exact (h s a).trans (ih _)

/-- An event-log entry leaves the pairs and memories alone. -/
theorem untouched_logEvent (s : State) (src code unit : Nat) (a b : Word) (n : Nat) : s.Untouched (s.logEvent src code unit a b n) := by
  unfold State.logEvent State.logRaw State.undrain125
  dsimp only
  repeat' split
  all_goals exact ⟨rfl, rfl, rfl⟩

theorem untouched_starve (s : State) (i : ArbId) (w : Waiter) : s.Untouched (s.starve i w) := by
  unfold State.starve
  dsimp only
  split
  · exact untouched_logEvent _ _ _ _ _ _ _
  · exact (untouched_setReg s _ _).trans (untouched_logEvent _ _ _ _ _ _ _)

theorem untouched_afterGrant (s : State) (i : ArbId) (a : Arbiter) (n : Nat) : s.Untouched (s.afterGrant i a n) := by
  unfold State.afterGrant
  refine State.Untouched.trans ?_ (untouched_foldl _ (fun s v => untouched_starve s i v) _ _)
  exact ((untouched_setArb s _ _).trans (untouched_setReg _ _ _)).trans (untouched_setReg _ _ _)

/-- A grant leaves the pairs and memories alone. -/
theorem untouched_grant (s : State) (i : ArbId) : s.Untouched (s.grant i) := by
  unfold State.grant
  dsimp only
  repeat' split
  · exact .refl s
  · exact untouched_setArb _ _ _
  · exact untouched_afterGrant _ _ _ _

theorem untouched_ask (s : State) (i : ArbId) (x : Nat) : s.Untouched (s.ask i x) := by
  unfold State.ask
  dsimp only
  split
  · exact .refl s
  · exact untouched_setArb _ _ _

theorem untouched_endUse (s : State) (i : ArbId) : s.Untouched (s.endUse i) := untouched_setArb _ _ _

/-- An access that may have to wait leaves the pairs and memories alone. -/
theorem untouched_tryUse (s : State) (i : ArbId) (x : Nat) : s.Untouched (s.tryUse i x).1 := by
  unfold State.tryUse
  dsimp only
  repeat' split
  · exact untouched_endUse _ _
  · exact ((untouched_ask s i x).trans (untouched_grant _ _)).trans (untouched_endUse _ _)
  · exact untouched_ask _ _ _

theorem untouched_touchBank (s : State) (b : Nat) : s.Untouched (s.touchBank b) := by
  unfold State.touchBank
  split
  · exact untouched_setF _ _ _
  · exact .refl s

theorem untouched_askStores (s : State) (p : Nat) : s.Untouched (s.askStores p) := by
  unfold State.askStores
  refine untouched_foldl _ (fun s i => ?_) _ _
  split
  · split
    · exact untouched_ask _ _ _
    · exact .refl s
  · exact .refl s

theorem untouched_presentPort (s : State) (h : Nat) : s.Untouched (s.presentPort h) := by
  unfold State.presentPort
  split
  · exact untouched_ask _ _ _
  · exact .refl s

theorem untouched_addRead (s : State) (p l : Nat) (f : Bool) : s.Untouched (s.addRead p l f) := by
  unfold State.addRead
  split <;> exact ⟨rfl, rfl, rfl⟩

/-- The state that a read leaves, performed or not. -/
def Read.state : Read → State
  | .done s _ => s
  | .waits s => s

/-- A read of a pair leaves the pairs and memories alone (R178, R179). -/
theorem untouched_pairRead (s : State) (p a n : Nat) (f : Bool) : s.Untouched (s.pairRead p a n f).state := by
  unfold State.pairRead
  dsimp only
  split
  · exact untouched_dropRead _ _
  · split
    · have h := untouched_tryUse s (bankAt p a) (indexOf p)
      split
      · next t e => rw [e] at h; exact (h.trans (untouched_dropRead _ _)).trans (untouched_askStores _ _)
      · next t e => rw [e] at h; exact h.trans (untouched_addRead _ _ _ _)
    · have k : s.Untouched _ := (untouched_touchBank s (s.readBank (a - 0x20000000))).trans (untouched_addRead _ p (a / 32 * 32) f)
      split
      · have h := k.trans (untouched_tryUse _ .nvm (hearthOf p))
        split
        · next t e => rw [e] at h; exact (h.trans (untouched_dropRead _ _)).trans (untouched_presentPort _ _)
        · next t e => rw [e] at h; exact h
      · exact k

end Sys2Proof.Machine
end

