-- ==== Sys2Proof/Laws/Buffer.lean ====
section
/-! SUPPORT. What performing posted stores leaves: which pair, which bytes, and the canonical form of the memories. -/

namespace Sys2Proof.Machine

/-- Writing memory as pair q sees it leaves every other pair alone. -/
theorem pair_writeMem_ne (s : State) {p q : Nat} (a : Nat) (bs : List Byte) (h : p ≠ q) : (s.writeMem q a bs).pair p = s.pair p := by
  unfold State.writeMem
  split
  · exact State.pair_updPair_ne s (fun x => { x with lmem := x.lmem.setBytes zeroByte a bs }) h
  · rfl
  · rfl

theorem stores_writeMem (s : State) (p a : Nat) (bs : List Byte) : ((s.writeMem p a bs).pair p).stores = (s.pair p).stores := by
  unfold State.writeMem
  split
  · show ((s.updPair p (fun x => { x with lmem := x.lmem.setBytes zeroByte a bs })).pair p).stores = _
    rw [State.pair_updPair]
  · rfl
  · rfl

theorem pair_dropWriteBack (s : State) (h o n p : Nat) : (s.dropWriteBack h o n).pair p = s.pair p := by
  unfold State.dropWriteBack
  dsimp only
  split <;> rfl

theorem pair_performStore_ne (s : State) {p q : Nat} (t : PostedStore) (h : p ≠ q) : (s.performStore q t).pair p = s.pair p := by
  unfold State.performStore
  dsimp only
  split
  · rw [(untouched_setArb _ _ _).pair p, pair_dropWriteBack]; exact pair_writeMem_ne s _ _ h
  · exact pair_writeMem_ne s _ _ h

theorem stores_performStore (s : State) (p : Nat) (t : PostedStore) : ((s.performStore p t).pair p).stores = (s.pair p).stores := by
  unfold State.performStore
  dsimp only
  split
  · rw [(untouched_setArb _ _ _).pair p, pair_dropWriteBack]; exact stores_writeMem s _ _ _
  · exact stores_writeMem s _ _ _

/-- Performing a store of pair q leaves every other pair alone. -/
theorem pair_performAt_ne (s : State) {p q : Nat} (i : Nat) (h : p ≠ q) : (s.performAt q i).pair p = s.pair p := by
  unfold State.performAt
  split
  · rw [(untouched_askStores _ _).pair p, State.pair_updPair_ne _ _ h]; exact pair_performStore_ne s _ h
  · rfl

/-- Performing the i-th posted store takes it out of the buffer. -/
theorem stores_performAt (s : State) (p i : Nat) : ((s.performAt p i).pair p).stores = (s.pair p).stores.eraseIdx i := by
  unfold State.performAt
  split
  · rw [(untouched_askStores _ _).pair p, State.pair_updPair, stores_performStore]
  · next h => rw [List.eraseIdx_of_length_le]; simpa using h

/-- A use that ends at a bank that pair p does not hold leaves pair p alone. -/
theorem pair_finishUse (s : State) (p a : Nat) (hp : p < 512) (h : (s.arb (bankAt p a)).holds (indexOf p) = false) :
    (s.finishUse (bankAt p a)).pair p = s.pair p := by
  have hh : hearthOf p < 16 := by unfold hearthOf; omega
  have hid : bankAt p a = .bank (Fin.ofNat 16 (hearthOf p)) (Fin.ofNat 16 (hearthBank a)) := rfl
  generalize bankAt p a = i at *
  unfold State.finishUse
  dsimp only
  split
  · rfl
  · next idx hu =>
    split
    · exact (untouched_setArb _ _ _).pair p
    · next he =>
      have ne : idx ≠ indexOf p := by
        rintro rfl
        simp [Arbiter.holds, hu, he] at h
      subst hid
      dsimp only
      split
      · exact (untouched_setArb _ _ _).pair p
      · next h32 =>
        have hq : p ≠ 32 * (Fin.ofNat 16 (hearthOf p)).val + idx := by
          have : (Fin.ofNat 16 (hearthOf p)).val = hearthOf p := Nat.mod_eq_of_lt hh
          rw [this]; unfold hearthOf indexOf at *; omega
        split
        · rw [(untouched_askStores _ _).pair p]; exact (untouched_setArb s _ _).pair p
        · split
          · rw [pair_performAt_ne _ _ hq]; exact (untouched_setArb s _ _).pair p
          · exact (untouched_setArb _ _ _).pair p

/-- A pair that waits for a bank stands as it is. -/
theorem pair_win (s : State) (p a n : Nat) (hp : p < 512) : (s.win (bankAt p a) (indexOf p) n).pair p = s.pair p := by
  induction n generalizing s with
  | zero => rfl
  | succ n ih =>
    unfold State.win
    split
    · rfl
    · next h =>
      have k : ((s.ask (bankAt p a) (indexOf p)).arb (bankAt p a)).holds (indexOf p) = false := by
        have h' : (s.arb (bankAt p a)).holds (indexOf p) = false := by simpa using h
        unfold State.ask
        dsimp only
        split
        · exact h'
        · rw [show ∀ (s : State) (i : ArbId) (x : Arbiter), (s.setArb i x).arb i = x from ?_]
          · exact h'
          · intro s i x
            cases i
            · exact Table.get_set_self _ _ _ _
            · exact Table.get_set_self _ _ _ _
            · rfl
      rw [ih, (untouched_grant _ _).pair p, pair_finishUse _ p a hp k, (untouched_ask _ _ _).pair p]

/-- Steps that each take the oldest posted store away leave what is behind the first n. -/
theorem stores_foldl (p : Nat) (f : State → Nat → State) (h : ∀ t k, ((f t k).pair p).stores = (t.pair p).stores.tail) (n : Nat)
    (t : State) : (((List.range n).foldl f t).pair p).stores = (t.pair p).stores.drop n := by
  induction n with
  | zero => rfl
  | succ n ih => rw [List.range_succ, List.foldl_append, List.foldl_cons, List.foldl_nil, h, ih, List.tail_drop]

/-- After it has drained its store buffer, a pair has no posted store (R109). -/
theorem stores_drainStores (s : State) (p : Nat) (hp : p < 512) : ((s.drainStores p).pair p).stores = [] := by
  unfold State.drainStores
  rw [stores_foldl]
  · simp
  · intro t _
    split
    · next u hu =>
      rw [stores_performAt]
      have : ((if spaceOf u.addr = .hearth then t.win (bankAt p u.addr) (indexOf p) 256 else t).pair p) = t.pair p := by
        split
        · exact pair_win t p _ _ hp
        · rfl
      rw [this]; cases (t.pair p).stores <;> rfl
    · next hu => rw [List.head?_eq_none_iff] at hu; rw [hu]; rfl

/-- Writing local or hearth memory keeps the canonical form of both. -/
theorem State.writeMem_wf {s : State} (hl : ∀ q, (s.pair q).lmem.wf zeroByte = true) (hh : s.hmem.wf zeroByte = true)
    (p a : Nat) (bs : List Byte) :
    (∀ q, ((s.writeMem p a bs).pair q).lmem.wf zeroByte = true) ∧ (s.writeMem p a bs).hmem.wf zeroByte = true := by
  unfold State.writeMem
  split
  · refine ⟨fun q => ?_, hh⟩
    show ((s.updPair p (fun x => { x with lmem := x.lmem.setBytes zeroByte a bs })).pair q).lmem.wf zeroByte = true
    by_cases e : q = p
    · subst e; rw [State.pair_updPair]; exact Table.wf_setBytes _ (hl q) a bs
    · rw [State.pair_updPair_ne s _ e]; exact hl q
  · exact ⟨hl, State.hmem_wf_setHbytes hh _ bs⟩
  · exact ⟨hl, hh⟩

/-- Programming the NVM array keeps its canonical form. -/
theorem State.nvm_wf_nvmProgram {s : State} (h : s.nvm.wf nvmByte = true) (o : Nat) (bs : List Byte) :
    (s.nvmProgram o bs).nvm.wf nvmByte = true := State.nvm_wf_setNbytes h o bs

/-- Memory is in canonical form at reset. -/
theorem State.reset_wf : State.reset.hmem.wf zeroByte = true ∧ State.reset.nvm.wf nvmByte = true ∧
    State.reset.regs.wf resetReg = true ∧ ∀ q, (State.reset.pair q).lmem.wf zeroByte = true :=
  ⟨rfl, rfl, rfl, fun _ => rfl⟩

end Sys2Proof.Machine
end

