-- ==== Sys2Proof/Laws/Access.lean ====
section
/-! SUPPORT. What an access to the register window by a pair or another master answers. -/

namespace Sys2Proof.Machine

/-- An exception of a pair with no imprecise exception pending is taken as it is. -/
theorem raiseAt_raise {s : State} {p : Nat} {e : Exc} (h : (s.pair p).imp = none) : s.raiseAt p e = s.raise p e := by
  simp [State.raiseAt, h]

/-- An access of a pair that completes. -/
theorem pairAccess_ok {s b : State} {p o : Nat} {k : Access} {f : State → Resp} (h : s.Accesses p o k b) {t : State}
    (hf : f b = .ok t) : s.pairAccess p o k f = t := by
  obtain ⟨h1, h2, h3, rfl, h5⟩ := h; simp [State.pairAccess, h1, h2, h3, hf]

/-- An access of a pair that raises an exception. -/
theorem pairAccess_fail {s b : State} {p o : Nat} {k : Access} {f : State → Resp} (h : s.Accesses p o k b) {e : Exc}
    (hf : f b = .fail b e) : s.pairAccess p o k f = b.raise p e := by
  obtain ⟨h1, h2, h3, rfl, h5⟩ := h; simp [State.pairAccess, h1, h2, h3, hf, raiseAt_raise h5]

/-- A store by a master that reaches the window: the state is the one the register gives. -/
theorem masterWrite_of {s b : State} {m o : Nat} {f : State → Resp} (h : s.Masters m o b) {t : State} (hf : f b = .ok t) :
    s.masterWrite m o f = t := by
  rcases h with ⟨h1, h2, h5⟩ | ⟨rfl, rfl⟩
  · rw [State.masterWrite, if_pos h1]; exact pairAccess_ok h2 (by simp [h5, hf])
  · simp [State.masterWrite, hf, Resp.state]

end Sys2Proof.Machine
end

