-- ==== Sys2Proof/Laws/Begin.lean ====
section
/-! SUPPORT. What cycles that pass leave of a pair, and what the fetch of an instruction and the wait for its registers leave of the
pair and of the memories. -/

namespace Sys2Proof.Machine

/-- Pair y is pair x after cycles and a fetch: all but the results of the multiplier and divider, the counts of cycles, the wait and the
instruction buffer. -/
structure Pair.Same (x y : Pair) : Prop where
  g : y.g = x.g
  sreg : ∀ n, n ∉ [SR.mh, SR.ml, SR.dq, SR.dr] → y.sreg n = x.sreg n
  pc : y.pc = x.pc
  imp : y.imp = x.imp
  lmem : y.lmem = x.lmem
  stores : y.stores = x.stores
  unfenced : y.unfenced = x.unfenced
  mpuW : y.mpuW = x.mpuW
  mpuF : y.mpuF = x.mpuF
  slot : y.slot = x.slot
  deadline : y.deadline = x.deadline
  dbPend0 : y.dbPend0 = x.dbPend0
  dbPend1 : y.dbPend1 = x.dbPend1
  dbMask0 : y.dbMask0 = x.dbMask0
  dbMask1 : y.dbMask1 = x.dbMask1
  noMul : x.mulPend = [] → y.mulPend = []
  noDiv : x.divPend = none → y.divPend = none

theorem Pair.Same.refl (x : Pair) : x.Same x :=
  ⟨rfl, fun _ _ => rfl, rfl, rfl, rfl, rfl, rfl, rfl, rfl, rfl, rfl, rfl, rfl, rfl, rfl, id, id⟩

theorem Pair.Same.trans {x y z : Pair} (a : x.Same y) (b : y.Same z) : x.Same z :=
  ⟨b.g.trans a.g, fun n h => (b.sreg n h).trans (a.sreg n h), b.pc.trans a.pc, b.imp.trans a.imp, b.lmem.trans a.lmem,
    b.stores.trans a.stores, b.unfenced.trans a.unfenced, b.mpuW.trans a.mpuW, b.mpuF.trans a.mpuF, b.slot.trans a.slot,
    b.deadline.trans a.deadline, b.dbPend0.trans a.dbPend0, b.dbPend1.trans a.dbPend1, b.dbMask0.trans a.dbMask0,
    b.dbMask1.trans a.dbMask1, fun h => b.noMul (a.noMul h), fun h => b.noDiv (a.noDiv h)⟩

theorem Pair.Same.greg {x y : Pair} (h : x.Same y) (r : Nat) : y.greg r = x.greg r := by unfold Pair.greg; rw [h.g]
theorem Pair.Same.pm {x y : Pair} (h : x.Same y) : y.pm = x.pm := by unfold Pair.pm; rw [h.sreg SR.pstat (by simp)]

theorem same_setS (x : Pair) (k : Nat) (v : Word) (h : k ∈ [SR.mh, SR.ml, SR.dq, SR.dr]) : x.Same (x.setS k v) :=
  ⟨rfl, fun _ hn => Pair.sreg_setS_ne x v (fun e => hn (e ▸ h)), rfl, rfl, rfl, rfl, rfl, rfl, rfl, rfl, rfl, rfl, rfl, rfl, rfl, id, id⟩

theorem same_mulDue (x : Pair) (n : Nat) : x.Same (x.mulDue n) := by
  unfold Pair.mulDue
  split
  · next a b _ e =>
    have h := (same_setS x SR.mh a (by simp)).trans (same_setS _ SR.ml b (by simp))
    exact ⟨h.g, h.sreg, rfl, rfl, rfl, rfl, rfl, rfl, rfl, rfl, rfl, rfl, rfl, rfl, rfl, fun e => by simp [e], id⟩
  · exact ⟨rfl, fun _ _ => rfl, rfl, rfl, rfl, rfl, rfl, rfl, rfl, rfl, rfl, rfl, rfl, rfl, rfl, fun e => by simp [e], id⟩

theorem same_divDue (x : Pair) (n : Nat) : x.Same (x.divDue n) := by
  unfold Pair.divDue
  split
  · next a b _ e =>
    split
    · have h := (same_setS x SR.dq a (by simp)).trans (same_setS _ SR.dr b (by simp))
      exact ⟨h.g, h.sreg, rfl, rfl, rfl, rfl, rfl, rfl, rfl, rfl, rfl, rfl, rfl, rfl, rfl, id, fun _ => rfl⟩
    · exact ⟨rfl, fun _ _ => rfl, rfl, rfl, rfl, rfl, rfl, rfl, rfl, rfl, rfl, rfl, rfl, rfl, rfl, id, fun h => by simp [e] at h⟩
  · exact .refl x

/-- Cycles that pass leave the pair the same but for the results due. -/
theorem same_advance (x : Pair) (n : Nat) : x.Same (x.advance n) := by
  have h := (same_mulDue x n).trans (same_divDue (x.mulDue n) n)
  exact ⟨h.g, h.sreg, h.pc, h.imp, h.lmem, h.stores, h.unfenced, h.mpuW, h.mpuF, h.slot, h.deadline, h.dbPend0, h.dbPend1,
    h.dbMask0, h.dbMask1, h.noMul, h.noDiv⟩

theorem same_unsteady {x y : Pair} (h : x.Same y) (b : Bool) : x.Same { y with unsteady := b } :=
  ⟨h.g, h.sreg, h.pc, h.imp, h.lmem, h.stores, h.unfenced, h.mpuW, h.mpuF, h.slot, h.deadline, h.dbPend0, h.dbPend1,
    h.dbMask0, h.dbMask1, h.noMul, h.noDiv⟩

theorem same_advanceLoose (x : Pair) (n : Nat) : x.Same (x.advanceLoose n) := same_unsteady (same_advance x n) true

/-- The wait for the registers that an instruction reads (R92). -/
theorem same_await (x : Pair) (z : Zaend) : x.Same (x.await z) := by
  unfold Pair.await
  have h : x.Same (if x.mulPend.isEmpty && x.divPend.isNone then { x with unsteady := false } else x) := by
    split
    · exact same_unsteady (.refl x) _
    · exact .refl x
  generalize (if x.mulPend.isEmpty && x.divPend.isNone then { x with unsteady := false } else x) = y at h
  dsimp only
  split
  · exact h.trans (same_advanceLoose _ _)
  · split
    · exact h
    · exact h.trans (same_advance _ _)

theorem same_ibufFill (x : Pair) (a : Nat) : x.Same (x.ibufFill a) := by
  unfold Pair.ibufFill
  split <;> exact ⟨rfl, fun _ _ => rfl, rfl, rfl, rfl, rfl, rfl, rfl, rfl, rfl, rfl, rfl, rfl, rfl, rfl, id, id⟩

/-- A pair that wakes is the same pair, no longer waiting. -/
theorem wake_pair (s : State) (p : Nat) : (s.wake p).pair p = { s.pair p with waiting := false } := by simp [State.wake]

theorem same_wake (s : State) (p : Nat) : (s.pair p).Same ((s.wake p).pair p) := by
  rw [wake_pair]
  exact ⟨rfl, fun _ _ => rfl, rfl, rfl, rfl, rfl, rfl, rfl, rfl, rfl, rfl, rfl, rfl, rfl, rfl, id, id⟩

/-- A fetch leaves the pair the same, the other pairs and the memories alone. -/
theorem fetchAt_same {s t : State} {p a : Nat} (h : s.fetchAt p a = .ready t) :
    (s.pair p).Same (t.pair p) ∧ (∀ q, q ≠ p → t.pair q = s.pair q) ∧ t.hmem = s.hmem ∧ t.nvm = s.nvm := by
  have own : ∀ (u v : State), s.Untouched u → v = s ∨ (∃ f : Pair → Pair, (∀ x : Pair, x.Same (f x)) ∧ v = u.updPair p f) →
      (s.pair p).Same (v.pair p) ∧ (∀ q, q ≠ p → v.pair q = s.pair q) ∧ v.hmem = s.hmem ∧ v.nvm = s.nvm := by
    rintro u v hu (rfl | ⟨f, hf, rfl⟩)
    · exact ⟨.refl _, fun _ _ => rfl, rfl, rfl⟩
    · refine ⟨?_, fun q hq => ?_, ?_, ?_⟩
      · rw [State.pair_updPair, hu.pair p]; exact hf _
      · rw [State.pair_updPair_ne _ _ hq, hu.pair q]
      · simpa using hu.hmem
      · simpa using hu.nvm
  have rd : ∀ (n : Nat) (f : Pair → Pair), (∀ x : Pair, x.Same (f x)) →
      (if ((s.readOf p).map (fun r => !r.fetch)).getD false then Fetched.ready s
        else match s.pairRead p a 4 true with
          | .waits u => .waits u
          | .done u _ =>
            if u.flawed p a then .fails (u.memUncorrectable p a) ⟨Cause.busError, wd a⟩
            else .ready (u.updPair p (fun x => f (x.advanceLoose n)))) = .ready t →
      (s.pair p).Same (t.pair p) ∧ (∀ q, q ≠ p → t.pair q = s.pair q) ∧ t.hmem = s.hmem ∧ t.nvm = s.nvm := by
    intro n f hf e
    split at e
    · cases e; exact own s s (.refl s) (Or.inl rfl)
    · have hr := untouched_pairRead s p a 4 true
      split at e
      · cases e
      · next u bs he =>
        rw [he] at hr
        split at e
        · cases e
        · cases e
          exact own u _ hr (Or.inr ⟨_, fun x => (same_advanceLoose x n).trans (hf _), rfl⟩)
  unfold State.fetchAt at h
  dsimp only at h
  split at h
  · exact rd 8 id (fun x => .refl x) h
  · split at h
    · cases h; exact own s s (.refl s) (Or.inl rfl)
    · exact rd _ _ (fun x => same_ibufFill x a) h
  · split at h
    · cases h
    · cases h; exact own s s (.refl s) (Or.inl rfl)
  · cases h; exact own s s (.refl s) (Or.inl rfl)

end Sys2Proof.Machine
end

