-- ==== Sys2Proof/Laws/Bodies.lean ====
section
/-! SUPPORT. What the shared operations of the command bodies and of the engines answer when the command runs: one lemma for each. -/

namespace Sys2Proof.Machine

/-- The body of a host command that its pair serves: it waits, declines or answers. -/
theorem runBody_eq {s : State} {p op : Nat} {j : Job} (h : s.Serves p op j) (named f) :
    s.runBody p (fun j => j.opcode == op) named f = (match (f j s).1 with
      | .wait => (f j s).2
      | .fail st sub => s.declines (f j s).2 p j (named j) st sub
      | .done data out => s.answers (f j s).2 p (named j) data out j.buf) := by
  obtain ⟨h1, h2, h3, h4, h5⟩ := h
  have h3' : (j.src == Stream.load) = false := by simp [h3]
  simp only [State.runBody, h1, h2, h3', h4, h5, beq_self_eq_true]
  rfl

/-- An answer with no output data places nothing in a buffer. -/
theorem answers_nil (s t : State) (p : Nat) (named : List Nat) (data : List Byte) (b c : Nat) :
    s.answers t p named data [] b = s.answers t p named data [] c := by
  unfold State.answers State.placeOutput
  simp [fabricOk]

/-- The square-and-multiply of the engine is modular exponentiation (R223). -/
theorem powMod_eq (b e m : Nat) : powMod b e m = b ^ e % m := by
  have key : ∀ k, k ≤ bitLen e → (List.range k).foldl (fun acc i => let sq := acc * acc % m; if e / 2 ^ (bitLen e - 1 - i) % 2 = 1 then sq * b % m else sq) (1 % m)
      = b ^ (e / 2 ^ (bitLen e - k)) % m := by
    intro k
    induction k with
    | zero =>
      intro _
      have : e / 2 ^ (bitLen e) = 0 := by
        apply Nat.div_eq_of_lt
        unfold bitLen; split
        · simp_all
        · exact Nat.lt_log2_self
      simp [this]
    | succ k ih =>
      intro hk
      rw [List.range_succ, List.foldl_append, ih (by omega)]
      have h1 : bitLen e - k = (bitLen e - (k+1)) + 1 := by omega
      have h2 : bitLen e - 1 - k = bitLen e - (k+1) := by omega
      have h3 : e / 2 ^ (bitLen e - k) = e / 2 ^ (bitLen e - (k+1)) / 2 := by rw [h1, pow_succ, Nat.div_div_eq_div_mul]
      simp only [List.foldl_cons, List.foldl_nil, h2, h3]
      set y := e / 2 ^ (bitLen e - (k+1))
      have hy : y = 2 * (y / 2) + y % 2 := by omega
      split
      · rename_i h
        rw [h] at hy
        conv_rhs => rw [hy]
        rw [pow_succ, two_mul, pow_add]
        simp [Nat.mul_mod]
      · rename_i h
        have : y % 2 = 0 := by omega
        rw [this, add_zero] at hy
        conv_rhs => rw [hy]
        rw [two_mul, pow_add]
        simp [Nat.mul_mod]
  have := key (bitLen e) le_rfl
  simpa [powMod] using this

/-- A public-key operation that runs: the engine holds its result. -/
theorem comp_of {s : State} {h op run} (r : s.PkeRuns h op run) {f res t} (e : f run s = some (res, t)) : (Host.Outcome.next (s.pkeCompute h op f) : Host.Outcome State Fault Refusal) = .next (t.pkeHolds h run res) := by
  obtain ⟨a, b, c, d⟩ := r
  simp [State.pkeCompute, a, b, c, d, e, State.pkeHolds]

/-- An exchange at the head of a contactless queue runs its body with the field on. -/
theorem rfRun_of {s : State} {f op : Nat} {x : PortExch} (h : s.RfRuns f op x) (body) :
    s.rfRun f op body = body (s.setF (Fld.RF_STAT_FON f) 1) x := by
  obtain ⟨h1,h2,h3,h4,h5,h6⟩ := h
  rcases hq : (s.rfOf f).queue with _ | ⟨y, ys⟩
  · simp [hq] at h1
  · rw [hq] at h1
    simp at h1; subst h1
    simp [State.rfRun, hq, h2, h3, h4, h5, h6]

end Sys2Proof.Machine
end

