-- ==== Sys2Proof/Laws/Issue.lean ====
section
/-! SUPPORT. How one instruction of a pair changes the state: what issuing it answers, and what it leaves of the pair and of the
rest of the machine. -/

namespace Sys2Proof.Machine

/-- Beginning an instruction leaves its pair the same, the other pairs and the memories alone. -/
theorem begun_same {s : State} {p : Nat} {w : Word} {z : Zaend} (h : s.Executes p w z) : (s.pair p).Same ((s.begun p z).pair p) := by
  have k := (fetchAt_same h.ready).1
  unfold State.begun
  rw [State.pair_updPair]
  exact ((same_wake s p).trans k).trans (same_await _ _)

theorem begun_other {s : State} {p : Nat} {w : Word} {z : Zaend} (h : s.Executes p w z) (q : Nat) (hq : q ≠ p) :
    (s.begun p z).pair q = s.pair q := by
  unfold State.begun
  rw [State.pair_updPair_ne _ _ hq, (fetchAt_same h.ready).2.1 q hq]
  exact State.pair_updPair_ne _ _ hq

/-- An instruction that executes and completes: the state is the one its meaning gives, then what follows every instruction. -/
theorem issue_ok {s : State} {p : Nat} {w : Word} {z : Zaend} {f : State → Zaend → Option Resp} {t : State}
    (h : s.Executes p w z) (hf : f (s.begun p z) z = some (.ok t)) : s.issue p w f = t.ended p := by
  have hi : ((s.begun p z).pair p).imp = none := (begun_same h).imp.trans h.noImprecise
  obtain ⟨h1, h2, h3, h4, hr, h5, h6, h7⟩ := h
  have e : (s.fetched p).updPair p (fun x => x.await z) = s.begun p z := rfl
  simp only [State.issue, h1, h2, h3, h4, hr, h5, e, hf]
  cases hn : (s.begun p z).readOf p with
  | none => simp [State.settle, hi, h6 hn, h7 hn, hn, State.ended]
  | some r => simp [State.settle, hi, hn, State.ended]

/-- An instruction that executes and raises an exception: the pair takes it at once. -/
theorem issue_fail {s : State} {p : Nat} {w : Word} {z : Zaend} {f : State → Zaend → Option Resp} {t : State} {e : Exc}
    (h : s.Executes p w z) (hf : f (s.begun p z) z = some (.fail t e)) : s.issue p w f = (t.raise p e).ended p := by
  have hi : ((s.begun p z).pair p).imp = none := (begun_same h).imp.trans h.noImprecise
  obtain ⟨h1, h2, h3, h4, hr, h5, h6, h7⟩ := h
  have e' : (s.fetched p).updPair p (fun x => x.await z) = s.begun p z := rfl
  simp only [State.issue, h1, h2, h3, h4, hr, h5, e', hf]
  simp [State.settle, hi, State.ended]

theorem pc_setG (x : Pair) (r : Nat) (v : Word) : (x.setG r v).pc = x.pc := by unfold Pair.setG; split <;> rfl

theorem imp_retire (x : Pair) (n : Nat) : (x.retire n).imp = x.imp.map (fun i => { i with after := i.after + 1 }) := rfl

theorem imp_setG (x : Pair) (r : Nat) (v : Word) : (x.setG r v).imp = x.imp := by unfold Pair.setG; split <;> rfl

/-- A pair keeps what it has. -/
theorem keeps_refl (x : Pair) (n : List Nat) : x.Keeps x n :=
  ⟨fun _ _ => rfl, fun _ _ => rfl, ⟨rfl, rfl, rfl⟩, ⟨rfl, rfl⟩, ⟨rfl, rfl⟩, ⟨rfl, rfl, rfl, rfl⟩⟩

/-- Keeping composes. -/
theorem keeps_trans {x y z : Pair} {n : List Nat} (a : x.Keeps y n) (b : y.Keeps z n) : x.Keeps z n := by
  obtain ⟨a1, a2, ⟨a3, a3', a3''⟩, ⟨a4, a4'⟩, ⟨a5, a5'⟩, ⟨a6, a7, a8, a9⟩⟩ := a
  obtain ⟨b1, b2, ⟨b3, b3', b3''⟩, ⟨b4, b4'⟩, ⟨b5, b5'⟩, ⟨b6, b7, b8, b9⟩⟩ := b
  exact ⟨fun r h => (b1 r h).trans (a1 r h), fun r h => (b2 r h).trans (a2 r h), ⟨b3.trans a3, b3'.trans a3', b3''.trans a3''⟩,
    ⟨b4.trans a4, b4'.trans a4'⟩, ⟨b5.trans a5, b5'.trans a5'⟩, ⟨b6.trans a6, b7.trans a7, b8.trans a8, b9.trans a9⟩⟩

theorem keeps_setS (x : Pair) (n : List Nat) (k : Nat) (v : Word) (h : k ∈ [SR.cnt, SR.mh, SR.ml, SR.dq, SR.dr]) : x.Keeps (x.setS k v) n := by
  refine ⟨fun _ _ => rfl, fun r hr => Pair.sreg_setS_ne x v (fun e => hr (e ▸ h)), ⟨rfl, rfl, rfl⟩, ⟨rfl, rfl⟩, ⟨rfl, rfl⟩, ⟨rfl, rfl, rfl, rfl⟩⟩

/-- Writing a general register keeps all but it. -/
theorem keeps_setG (x : Pair) (k : Nat) (v : Word) : x.Keeps (x.setG k v) [k] := by
  refine ⟨fun r hr => ?_, ?_, ?_, ?_, ?_, ?_⟩
  · have hr' : r ≠ k := by simpa using hr
    unfold Pair.setG Pair.greg
    by_cases hk : k = 0
    · simp only [hk, if_true]
    · simp only [hk, if_false]; rw [Table.get_set_ne _ _ _ hr']
  all_goals unfold Pair.setG; split <;> first | exact fun _ _ => rfl | exact ⟨rfl, rfl, rfl⟩ | exact ⟨rfl, rfl⟩ | exact ⟨rfl, rfl, rfl, rfl⟩

theorem keeps_pend {x y : Pair} {n : List Nat} (a b c d) (h : x.Keeps y n) : x.Keeps { y with mulPend := a, divPend := b, imp := c, pc := d } n :=
  keeps_trans h ⟨fun _ _ => rfl, fun _ _ => rfl, ⟨rfl, rfl, rfl⟩, ⟨rfl, rfl⟩, ⟨rfl, rfl⟩, ⟨rfl, rfl, rfl, rfl⟩⟩

/-- Cycles and a fetch keep all but the results due. -/
theorem keeps_same {x y : Pair} (h : x.Same y) (n : List Nat) : x.Keeps y n :=
  ⟨fun r _ => h.greg r, fun k hk => h.sreg k (fun e => hk (by simp at e ⊢; omega)), ⟨h.lmem, h.stores, h.unfenced⟩, ⟨h.mpuW, h.mpuF⟩, ⟨h.slot, h.deadline⟩, ⟨h.dbPend0, h.dbPend1, h.dbMask0, h.dbMask1⟩⟩

theorem keeps_advance (x : Pair) (k : Nat) (n : List Nat) : x.Keeps (x.advance k) n := keeps_same (same_advance x k) n

/-- Retiring keeps what R63 and R102 do not bring. -/
theorem keeps_retire {x y : Pair} {named : List Nat} (k : Nat) (t : Word) (h : x.Keeps y named) : x.Keeps { y.retire k with pc := t } named := by
  have := keeps_trans (keeps_trans h (keeps_setS y named SR.cnt (y.sreg SR.cnt + 1) (by simp))) (keeps_advance (y.setS SR.cnt (y.sreg SR.cnt + 1)) k named)
  have h2 := keeps_pend ((y.setS SR.cnt (y.sreg SR.cnt + 1)).advance k).mulPend ((y.setS SR.cnt (y.sreg SR.cnt + 1)).advance k).divPend (y.retire k).imp t this
  obtain ⟨h1, h2, h3, h4, h5, h6⟩ := h2
  exact ⟨h1, h2, h3, h4, h5, h6⟩

/-- Recording an imprecise exception keeps the rest. -/
theorem keeps_imp (x : Pair) (n : List Nat) (c : Nat) (pc : Word) : x.Keeps (x.addImprecise c pc) n := by
  unfold Pair.addImprecise; split <;> exact keeps_pend _ _ _ _ (keeps_refl _ _)

theorem keeps_after {x y : Pair} {named : List Nat} (a b c d) (h : x.Keeps y named) : x.Keeps { y with halted := a, haltReq := b, stepping := c, unsteady := d } named := by
  obtain ⟨h1, h2, h3, h4, h5, h6⟩ := h
  exact ⟨h1, h2, h3, h4, h5, h6⟩

/-- What follows an instruction changes only the halt and step state of its pair. -/
theorem afterStep_pair (s : State) (p : Nat) : ∃ a b c d, (s.afterStep p).pair p = { s.pair p with halted := a, haltReq := b, stepping := c, unsteady := d } := by
  unfold State.afterStep State.haltPair
  split
  · refine ⟨true, false, false, true, Eq.trans (show _ = (s.updPair p (fun x => { x with halted := true, haltReq := false, stepping := false, unsteady := true })).pair p from rfl) (State.pair_updPair s p _)⟩
  · exact ⟨_, _, _, _, rfl⟩

/-- State t is u but for pair p and the list of halted pairs. -/
structure State.Off (u t : State) (p : Nat) : Prop where
  rest : ({ t with pairs := u.pairs, regs := u.regs } : State) = u
  regs : ∀ o, (∀ k, o ≠ Reg.LCS_HALTED k) → t.reg o = u.reg o
  pairs : ∀ q, q ≠ p → t.pair q = u.pair q
  hm : t.hmem = u.hmem
  nv : t.nvm = u.nvm

/-- Changing only pair p composes. -/
theorem State.Off.trans {s t u : State} {p : Nat} (a : State.Off s t p) (b : State.Off t u p) : State.Off s u p := by
  refine ⟨?_, ?_, ?_, ?_, ?_⟩
  · have := a.rest; have := b.rest
    cases s; cases t; cases u; simp_all
  · intro o h; rw [b.regs o h, a.regs o h]
  · intro q h; rw [b.pairs q h, a.pairs q h]
  · exact b.hm.trans a.hm
  · exact b.nv.trans a.nv

/-- Setting pair p changes only it. -/
theorem off_set (s : State) (p : Nat) (x : Pair) : State.Off s (s.setPair p x) p :=
  ⟨rfl, fun _ _ => rfl, fun _ h => State.pair_setPair_ne s x h, rfl, rfl⟩

theorem off_refl (s : State) (p : Nat) : State.Off s s p := ⟨rfl, fun _ _ => rfl, fun _ _ => rfl, rfl, rfl⟩

theorem off_upd (s : State) (p : Nat) (f : Pair → Pair) : State.Off s (s.updPair p f) p := off_set s p _

/-- What follows an instruction changes only its pair and the list of halted pairs. -/
theorem off_after (s : State) (p : Nat) : State.Off s (s.afterStep p) p := by
  unfold State.afterStep State.haltPair
  split
  · refine (off_upd s p (fun x => { x with halted := true, haltReq := false, stepping := false, unsteady := true })).trans ⟨rfl, fun o h => ?_, fun _ _ => rfl, rfl, rfl⟩
    exact State.reg_setReg_ne _ _ (h _)
  · exact off_refl s p

theorem off_ended (s : State) (p : Nat) : State.Off s (s.ended p) p := by
  unfold State.ended; split
  · exact off_refl s p
  · exact off_after s p

theorem keeps_ended (s : State) (p : Nat) (n : List Nat) (x : Pair) (h : x.Keeps (s.pair p) n) : x.Keeps ((s.ended p).pair p) n := by
  unfold State.ended; split
  · exact h
  · obtain ⟨a, b, c, d, e⟩ := afterStep_pair s p
    rw [e]; exact keeps_after a b c d h

/-- An instruction that changes only its pair after it began leaves the rest of the machine. -/
theorem leaves_of {s t : State} {p : Nat} {w : Word} {z : Zaend} (h : s.Executes p w z) (o : State.Off (s.begun p z) t p) : s.LeavesRest t p := by
  have o' : State.Off (s.fetched p) t p := (off_upd _ _ _).trans o
  have k := (fetchAt_same h.ready).2
  refine ⟨o'.rest, o'.regs, fun q hq => ?_, o'.hm.trans (k.2.1.trans rfl), o'.nv.trans (k.2.2.trans rfl)⟩
  rw [o'.pairs q hq, k.1 q hq]; exact State.pair_updPair_ne _ _ hq

/-- An instruction of pair p that began in state b completes, and changes no register but those named. -/
def Resp.Framed (b : State) (p : Nat) (named : List Nat) (r : Option Resp) : Prop :=
  match r with
  | some (.ok t) => State.Off b t p ∧ (b.pair p).Keeps (t.pair p) named
  | _ => False

/-- The frame of an instruction that raises nothing: its command changes nothing where its word is another instruction's. -/
theorem issue_frame {s : State} {p : Nat} {w : Word} {z : Zaend} {f : State → Zaend → Option Resp} {named : List Nat}
    (h : s.Executes p w z) (hf : f (s.begun p z) z = none ∨ Resp.Framed (s.begun p z) p named (f (s.begun p z) z)) :
    s.issue p w f = s ∨ (s.LeavesRest (s.issue p w f) p ∧ (s.pair p).Keeps ((s.issue p w f).pair p) named) := by
  rcases hf with hf | hf
  · left
    obtain ⟨h1, h2, h3, h4, hr, h5, h6, h7⟩ := h
    have e : (s.fetched p).updPair p (fun x => x.await z) = s.begun p z := rfl
    simp [State.issue, h1, h2, h3, h4, hr, h5, e, hf]
  right
  cases e : f (s.begun p z) z with
  | none => rw [e] at hf; exact hf.elim
  | some r =>
    cases r with
    | fail t x => rw [e] at hf; exact hf.elim
    | ok t =>
      rw [e] at hf
      rw [issue_ok h e]
      exact ⟨leaves_of h (hf.1.trans (off_ended _ _)), keeps_ended _ _ _ _ (keeps_trans (keeps_same (begun_same h) _) hf.2)⟩

/-- An instruction that only sets its pair. -/
theorem framed_set {b : State} {p : Nat} {named : List Nat} {y : Pair} (h : (b.pair p).Keeps y named) :
    Resp.Framed b p named (some (.ok (b.setPair p y))) := ⟨off_set _ _ _, by simpa using h⟩

/-- An instruction that sets its pair and records an imprecise exception. -/
theorem framed_imp {b : State} {p : Nat} {named : List Nat} {y : Pair} (c : Nat) (pc : Word) (h : (b.pair p).Keeps y named) :
    Resp.Framed b p named (some (.ok ((b.setPair p y).updPair p (fun x => x.addImprecise c pc)))) := by
  refine ⟨(off_set _ _ _).trans (off_upd _ _ _), ?_⟩
  simp only [State.pair_updPair, State.pair_setPair]
  exact keeps_trans h (keeps_imp _ _ _ _)

end Sys2Proof.Machine
end

