-- ==== Sys2Proof/WellFormed.lean ====
section
/-! DEFINITION. Which commands are well formed: the lengths and alignments that the types of the operands do not say. -/

namespace Sys2Proof

/-- A command whose operands have the lengths that the manual gives them: a header of eight words (R199), a message of
eight words (R169), a burst of 1–256 bytes (R153), an access to a whole word (R9). -/
def Instr.wellFormed : Instr → Bool
  | .registerWrite _ a _ => a.toNat % 4 == 0
  | .lowWordRead _ a => a.toNat % 4 == 0
  | .portBurst _ _ _ data => decide (1 ≤ data.length ∧ data.length ≤ 256)
  | .flueFabricWrite _ _ ws => ws.length == 8
  | .commandTake _ _ hdr params _ => hdr.length == 8 && decide (params.length ≤ 4064)
  | .headCmd _ _ _ hdr params _ => hdr.length == 8 && decide (params.length ≤ 4064)
  | .msg _ _ hdr params _ => hdr.length == 8 && decide (params.length ≤ 4064)
  | .mreply _ _ hdr data => hdr.length == 8 && decide (data.length ≤ 4064)
  | .keyx2 _ rh _ _ => rh.length == 16
  | .rekey _ _ rn => rn.length == 16
  | _ => true

end Sys2Proof
end

