-- ==== Sys2Proof/Tests/Slice0.lean ====
section
/-! SUPPORT. Tests of the model on small states: ill-formed commands refused, words of the pairs' instructions, worked values of the
manual, and states that meet the hypotheses of the statements. A theorem `meets_<name>` shows, for each clause of the statement of that
name, a state and operands that meet the hypotheses of the clause. -/

namespace Sys2Proof.Tests

set_option Elab.async false

open Sys2Proof.Machine

/-! ## Well-formed commands -/

theorem test_wf_register_write : (Instr.registerWrite 0 0x40000002#32 0).wellFormed = false := by decide
theorem test_wf_low_word_read : (Instr.lowWordRead 0 0x40000001#32).wellFormed = false := by decide
theorem test_wf_port_burst : (Instr.portBurst 0 true 0x80000000 []).wellFormed = false := by decide
theorem test_wf_flue_write : (Instr.flueFabricWrite 512 0 [0, 0, 0]).wellFormed = false := by decide
theorem test_wf_command_take : (Instr.commandTake 0 0 [0] [] ⟨0, 0, 0⟩).wellFormed = false := by decide
theorem test_wf_head_cmd : (Instr.headCmd 0 1 true [0, 0, 0, 0, 0, 0, 0] [] ⟨0, 0, 0⟩).wellFormed = false := by decide
theorem test_wf_msg : (Instr.msg 0 ⟨true, true, 0, 1, 2, 1⟩ [] [] ⟨0, 0, 0⟩).wellFormed = false := by decide
theorem test_wf_mreply : (Instr.mreply 0 ⟨true, true, 0, 1, 2, 1⟩ [0] []).wellFormed = false := by decide
theorem test_wf_keyx2 : (Instr.keyx2 0 [] 0 true).wellFormed = false := by decide
theorem test_wf_rekey : (Instr.rekey 0 ⟨true, true, 0, 1, 2, 1⟩ [0]).wellFormed = false := by decide

/-! ## States -/

/-- The hearths released (R476). -/
def up : State := State.reset.setF Fld.SYS_BOOT_STAGE 9
/-- Pair 0, in ring 0, at the word w in local memory. -/
def at0 (w : Word) : State := up.updPair 0 (fun x => { x with pc := 0x100#32, lmem := x.lmem.setBytes zeroByte 0x100 (wordBytes w) })
/-- Pair 0 at the instruction z, changed by `f`. -/
def cpu (z : Zaend) (f : Pair → Pair := id) : State := (at0 z.encode).updPair 0 f
/-- An MPU region over the whole address space for every ring (R146), in both rule sets. -/
def open_ : Table Word := [(4, 0x800020C7#32)]
/-- The pair in ring r with the whole address space open to it. -/
def inRing (r : Nat) (x : Pair) : Pair := { x.setPstat r false false false false with mpuW := open_, mpuF := open_ }

/-- The conditions of `State.Executes`, as a truth value. -/
def executes (s : State) (p : Nat) (w : Word) (z : Zaend) : Bool :=
  s.canIssue p && (s.pair p).imp.isNone && (s.fetchExc p (s.pair p).pc.toNat).isNone && s.fetchWord p (s.pair p).pc.toNat == w &&
  (s.wake p).fetchAt p (s.pair p).pc.toNat == .ready (s.fetched p) && Zaend.decode w == some z &&
  ((s.begun p z).asyncExc p).isNone && !(s.begun p z).haltDue p

theorem executes_of {s : State} {p : Nat} {w : Word} {z : Zaend} (h : executes s p w z = true) : s.Executes p w z := by
  simp only [executes, Bool.and_eq_true, Option.isNone_iff_eq_none, beq_iff_eq, Bool.not_eq_true'] at h
  obtain ⟨⟨⟨⟨⟨⟨⟨a, b⟩, c⟩, d⟩, r⟩, e⟩, f⟩, g⟩ := h
  exact ⟨a, b, c, d, r, e, fun _ => f, fun _ => g⟩

/-- Pair 0 executes the instruction z from the state `cpu z f`. -/
def fits (z : Zaend) (f : Pair → Pair := id) : Bool := executes (cpu z f) 0 z.encode z

theorem fits_of {z : Zaend} {f : Pair → Pair} (h : fits z f = true) : (cpu z f).Executes 0 z.encode z := executes_of h

/-- The conditions of `State.Serves`, as a truth value. -/
def serves (s : State) (p op : Nat) (j : Job) : Bool :=
  s.armedJob p == some j && j.opcode == op && j.src != .load && j.reply.isNone && s.runs p

theorem serves_of {s : State} {p op : Nat} {j : Job} (h : serves s p op j = true) : s.Serves p op j := by
  simp only [serves, Bool.and_eq_true, Option.isNone_iff_eq_none, beq_iff_eq, bne_iff_ne] at h
  obtain ⟨⟨⟨⟨a, b⟩, c⟩, d⟩, e⟩ := h
  exact ⟨a, b, c, d, e⟩

theorem test_runs : up.runs 0 = true := by decide
theorem test_fetch : (at0 0x12345678#32).fetchWord 0 0x100 = 0x12345678#32 := by decide

/-- The supervisor's code as a master. -/
theorem masters_supervisor (s : State) (o : Nat) : s.Masters 722 o s := Or.inr ⟨rfl, rfl⟩

/-- The conditions of `State.Accesses`, as a truth value. -/
def accesses (s : State) (p o : Nat) (k : Access) : Bool :=
  s.runs p && (s.pair p).imp.isNone && (s.dataExc p (0x40000000 + o) 4 k).isNone && ((s.drainStores p).pair p).imp.isNone

theorem accesses_of {s : State} {p o : Nat} {k : Access} (h : accesses s p o k = true) : s.Accesses p o k (s.drainStores p) := by
  simp only [accesses, Bool.and_eq_true, Option.isNone_iff_eq_none] at h
  obtain ⟨⟨⟨a, b⟩, c⟩, d⟩ := h
  exact ⟨a, b, c, rfl, d⟩

/-- A running pair that reaches a register, to read it and to write it. -/
theorem meets_accesses : up.Accesses 0 Reg.BEAT_WDOG .store (up.drainStores 0) ∧ up.Masters 0 Reg.BEAT_WDOG (up.drainStores 0) :=
  ⟨accesses_of (by decide +kernel), Or.inl ⟨by decide, accesses_of (by decide +kernel), by decide +kernel⟩⟩
/-! ## Instructions of a pair -/

/-- Every instruction is executed somewhere: this meets the hypotheses of the statements of their results. -/
theorem meets_IntegerInstructionsWriteTheirResults (op : AluOp) (h : op ∈ AluOp.all) :
    let z := Zaend.alu op 3 1 (if op.func = 0x10 ∨ op.func = 0x11 ∨ op.func = 0x12 then 0 else 2) 0
    (cpu z).Executes 0 z.encode z :=
  fits_of ((by decide +kernel : ∀ op ∈ AluOp.all,
    fits (.alu op 3 1 (if op.func = 0x10 ∨ op.func = 0x11 ∨ op.func = 0x12 then 0 else 2) 0) = true) op h)
theorem meets_ImmediateInstructionsWriteTheirResults (op : ImmOp) :
    let z := Zaend.imm op 3 (if op = .lui then 0 else 1) 0x1F
    (cpu z).Executes 0 z.encode z := by cases op <;> exact fits_of (by decide +kernel)
theorem meets_BranchesGoWhereTheirConditionSays (c : Cond) :
    (cpu (.branch c 1 2 0x10)).Executes 0 (Zaend.branch c 1 2 0x10).encode (.branch c 1 2 0x10) ∧
    (cpu (.branchImm c 1 0xFF 0x10)).Executes 0 (Zaend.branchImm c 1 0xFF 0x10).encode (.branchImm c 1 0xFF 0x10) := by
  cases c <;> exact ⟨fits_of (by decide +kernel), fits_of (by decide +kernel)⟩
theorem meets_JumpsGoAndLink (link : Bool) :
    (cpu (.jump link 4)).Executes 0 (Zaend.jump link 4).encode (.jump link 4) ∧
    (cpu (.jumpReg link 1 0x80)).Executes 0 (Zaend.jumpReg link 1 0x80).encode (.jumpReg link 1 0x80) := by
  cases link <;> exact ⟨fits_of (by decide +kernel), fits_of (by decide +kernel)⟩

/-- g1 and g2 hold the two largest signed words. -/
def large (pm : Bool) (x : Pair) : Pair := ((x.setPstat 0 false pm false false).setG 1 0x7FFFFFFF#32).setG 2 0x7FFFFFFE#32

theorem meets_OverflowIsPreciseOnlyWithPm (pm : Bool) :
    let z := Zaend.alu .addv 3 1 2 0
    let s := cpu z (large pm)
    s.Executes 0 z.encode z ∧ ((s.pair 0).greg 1 + (s.pair 0).greg 2).toInt ≠ ((s.pair 0).greg 1).toInt + ((s.pair 0).greg 2).toInt ∧
      (s.pair 0).pm = pm := by
  cases pm
  all_goals exact ⟨fits_of (by decide +kernel), by decide +kernel, by decide +kernel⟩

theorem meets_OverflowOfSubv (pm : Bool) :
    let z := Zaend.alu .subv 3 1 2 0
    let s := cpu z (fun x => (large pm x).setG 2 0x80000000#32)
    s.Executes 0 z.encode z ∧ ((s.pair 0).greg 1 - (s.pair 0).greg 2).toInt ≠ ((s.pair 0).greg 1).toInt - ((s.pair 0).greg 2).toInt ∧
      (s.pair 0).pm = pm := by
  cases pm
  all_goals exact ⟨fits_of (by decide +kernel), by decide +kernel, by decide +kernel⟩

theorem meets_JumpsGoAndLink_unaligned (link : Bool) :
    let z := Zaend.jumpReg link 1 2
    (cpu z).Executes 0 z.encode z ∧ (((cpu z).pair 0).greg 1 + (2#16).signExtend 32) &&& 3#32 ≠ 0#32 := by
  cases link
  all_goals exact ⟨fits_of (by decide +kernel), by decide +kernel⟩

/-- A divide by a divisor other than 0, and one by 0 under each PM. -/
theorem meets_MultiplierAndDividerResultsComeLater (op : MulOp) (h : op = .div ∨ op = .divu) (pm : Bool) :
    let z := Zaend.mul op 1 2
    ((cpu z (fun x => x.setG 2 7)).Executes 0 z.encode z ∧ ((cpu z (fun x => x.setG 2 7)).pair 0).greg 2 ≠ 0#32 ∧
      ((cpu z (fun x => x.setG 2 7)).pair 0).divPend = none ∧ ((cpu z (fun x => x.setG 2 7)).pair 0).mulPend = []) ∧
    ((cpu z (fun x => x.setPstat 0 false pm false false)).Executes 0 z.encode z ∧
      ((cpu z (fun x => x.setPstat 0 false pm false false)).pair 0).greg 2 = 0#32 ∧
      ((cpu z (fun x => x.setPstat 0 false pm false false)).pair 0).pm = pm) := by
  obtain rfl | rfl := h <;> cases pm
  all_goals exact ⟨⟨fits_of (by decide +kernel), by decide +kernel, by decide +kernel, by decide +kernel⟩,
    fits_of (by decide +kernel), by decide +kernel, by decide +kernel⟩

theorem meets_PendingResults :
    ((up.updPair 0 (fun x => { x with mulPend := [(1, 2, 3)] })).pair 0).mulPend = [(1, 2, 3)] ∧
    ((up.updPair 0 (fun x => { x with mulPend := [(1, 2, 3)] })).pair 0).divPend = none ∧
    ((up.updPair 0 (fun x => { x with divPend := some (1, 2, 3) })).pair 0).divPend = some (1, 2, 3) ∧
    ((up.updPair 0 (fun x => { x with divPend := some (1, 2, 3) })).pair 0).mulPend = [] := by decide +kernel

/-- Pair 0 at a load or store of address a, g1 being 0. -/
def loadAt (op : LoadOp) (a : Word) : State := cpu (.load op 3 1 0) (fun x => x.setG 1 a)
def storeAt (op : StoreOp) (a : Word) : State := cpu (.store op 3 1 0) (fun x => x.setG 1 a)

/-- The read of a load is performed, and the word is not known to be uncorrectable, or is. -/
def readsAs (s : State) (a n : Nat) (bad : Bool) : Bool :=
  match s.reading 0 a n with
  | .done t _ => t.flawed 0 a == bad
  | .waits _ => false

theorem reads_of {s : State} {a n : Nat} {bad : Bool} (h : readsAs s a n bad = true) :
    ∃ t bs, s.reading 0 a n = .done t bs ∧ t.flawed 0 a = bad := by
  unfold readsAs at h
  split at h
  · exact ⟨_, _, ‹_›, eq_of_beq h⟩
  · cases h

/-- Pair 0 at a load from hearth memory at 0x10000020 whose word is known to be uncorrectable. -/
def flawAt (op : LoadOp) : State := (loadAt op 0x10000020#32).markFlaw 8
/-- Pair 0 at such a load with the bank in use by pair 5. -/
def busyAt (op : LoadOp) : State := (loadAt op 0x10000020#32).setBankArb 0 0 { inUse := some 5 }

/-- A load of memory meets the hypotheses, its word clean or known to be uncorrectable. -/
def loads (s : State) (op : LoadOp) (bad : Bool) : Bool :=
  executes s 0 (Zaend.load op 3 1 0).encode (.load op 3 1 0) &&
  ((s.begun 0 (.load op 3 1 0)).dataExc 0 0x10000020 op.size .load).isNone &&
  readsAs (s.begun 0 (.load op 3 1 0)) 0x10000020 op.size bad

/-- Loads from hearth memory, from the core-local block and from BEAT.STATUS. -/
theorem meets_LoadsFillTheirRegister (op : LoadOp) :
    loads (loadAt op 0x10000020#32) op false = true ∧ loads (flawAt op) op true = true := by
  cases op <;> exact ⟨by decide +kernel, by decide +kernel⟩

/-- A word load of a unit's register meets the hypotheses. -/
def reaches (s : State) (a : Nat) : Bool :=
  executes s 0 (Zaend.load .ldw 3 1 0).encode (.load .ldw 3 1 0) && ((s.begun 0 (.load .ldw 3 1 0)).dataExc 0 a 4 .load).isNone
theorem meets_ControlAndWindowLoads :
    spaceOf 0x10000020 ≠ .control ∧ spaceOf 0x10000020 ≠ .window ∧ spaceOf 0x10000 = .control ∧
    reaches (loadAt .ldw 0x40000000#32) 0x40000000 = true ∧ reaches (loadAt .ldw 0x40020000#32) 0x40020000 = true ∧
    reaches (loadAt .ldw 0x10000#32) 0x10000 = true := by decide +kernel

/-- A load that waits for the bank. -/
theorem meets_LoadsThatWait :
    executes (busyAt .ldw) 0 (Zaend.load .ldw 3 1 0).encode (.load .ldw 3 1 0) = true ∧
    ((busyAt .ldw).begun 0 (.load .ldw 3 1 0)).dataExc 0 0x10000020 4 .load = none ∧
    (match ((busyAt .ldw).begun 0 (.load .ldw 3 1 0)).reading 0 0x10000020 4 with
      | .done _ _ => false
      | .waits _ => true) = true := by decide +kernel

/-- A unit's decision is a bus error. -/
def refused : Resp → Bool
  | .ok _ => false
  | .fail _ _ => true

theorem meets_WindowLoads :
    refused ((((loadAt .ldw 0x40000000#32).begun 0 (.load .ldw 3 1 0)).drainStores 0).devLoad 0 0).1 = false ∧
    refused ((((loadAt .ldw 0x40020000#32).begun 0 (.load .ldw 3 1 0)).drainStores 0).devLoad 0 0x20000).1 = true := by decide +kernel

/-- A store meets the hypotheses. -/
def stores (s : State) (op : StoreOp) (a : Nat) : Bool :=
  executes s 0 (Zaend.store op 3 1 0).encode (.store op 3 1 0) &&
  ((s.begun 0 (.store op 3 1 0)).dataExc 0 a op.size .store).isNone

/-- Stores to hearth memory. -/
theorem meets_StoresArePostedAndPerformed (op : StoreOp) : stores (storeAt op 0x10000020#32) op 0x10000020 = true := by
  cases op <;> decide +kernel

/-- Stores to MPU_BASE0, to MPU_ATTR1 over region 0, to a register of the window and to a slot that is not bound. -/
def overlapAt : State := cpu (.store .stw 3 1 0) (fun x => { (x.setG 1 0x1000C#32).setG 3 0x80000507#32 with mpuW := open_ })
theorem meets_DeviceStores :
    let z := Zaend.store .stw 3 1 0
    stores (storeAt .stw 0x10000#32) .stw 0x10000 = true ∧ stores (storeAt .stw 0x40001030#32) .stw 0x40001030 = true ∧
    stores (storeAt .stw 0x40020000#32) .stw 0x40020000 = true ∧
    stores overlapAt .stw 0x1000C = true ∧
    (((storeAt .stw 0x10000#32).begun 0 z).pair 0).stores.isEmpty = true ∧
    refused (((storeAt .stw 0x10000#32).begun 0 z).ctlStore 0 0 0) = false ∧
    ((overlapAt.begun 0 z).pair 0).stores.isEmpty = true ∧
    refused ((overlapAt.begun 0 z).ctlStore 0 0xC 0x80000507#32) = true ∧
    refused (((storeAt .stw 0x40001030#32).begun 0 z).devStore 0 Reg.BEAT_WDOG 0) = false ∧
    refused (((storeAt .stw 0x40020000#32).begun 0 z).devStore 0 0x20000 0) = true := by decide +kernel

/-- Posted stores to local memory and to hearth memory with the bank granted, and one behind another to the same bytes. -/
def posts (l : List PostedStore) : State := up.updPair 0 (fun x => { x with stores := l })
theorem meets_PostedStores :
    (((posts [⟨0x20, 4, 1, false⟩]).pair 0).stores[0]? = some ⟨0x20, 4, 1, false⟩ ∧ ((posts [⟨0x20, 4, 1, false⟩]).pair 0).storeFree 0 = true ∧
      spaceOf 0x20 ≠ .hearth) ∧
    (let s := (posts [⟨0x10000020, 4, 1, false⟩]).setBankArb 0 0 { inUse := some 0 }
     (s.pair 0).storeFree 0 = true ∧ (s.arb (bankAt 0 0x10000020)).holds (indexOf 0) = true ∧ spaceOf 0x10000020 = .hearth) ∧
    ((posts [⟨0x20, 4, 1, false⟩, ⟨0x20, 4, 2, false⟩]).pair 0).storeFree 1 = false ∧
    ((posts [⟨0x10000020, 4, 1, false⟩]).arb (bankAt 0 0x10000020)).holds (indexOf 0) = false := by decide +kernel

/-- Accesses that the alignment and the map refuse. -/
theorem meets_RefusedAccessesRaiseTheirException :
    executes (loadAt .ldw 0x101#32) 0 (Zaend.load .ldw 3 1 0).encode (.load .ldw 3 1 0) = true ∧
    ((loadAt .ldw 0x101#32).begun 0 (.load .ldw 3 1 0)).dataExc 0 0x101 4 .load = some ⟨Cause.misaligned, 0x101#32⟩ ∧
    executes (storeAt .stb 0x20000000#32) 0 (Zaend.store .stb 3 1 0).encode (.store .stb 3 1 0) = true ∧
    ((storeAt .stb 0x20000000#32).begun 0 (.store .stb 3 1 0)).dataExc 0 0x20000000 1 .store =
      some ⟨Cause.busError, 0x20000000#32⟩ := by decide +kernel

/-- Long instructions over hearth memory, with 64 bytes to do and with none. -/
def longPair (n : Word) (x : Pair) : Pair := (((x.setG 3 0x10000100#32).setG 1 0x10000000#32).setG 2 0x10000200#32).setG 4 n
def longState (z : Zaend) (n : Word) : State :=
  (((cpu z (longPair n)).begun 0 z).drainStores 0).updPair 0 (fun x => x.advanceLoose 2)
def wipes : Zaend := .long .wipe 0 1 4 0
def copies : Zaend := .long .bcopy 3 1 4 0
def compares : Zaend := .long .cteq 3 1 2 4
theorem meets_LongInstructionsRunInSteps :
    (∀ z ∈ [wipes, copies, compares], fits z (longPair 0) = true ∧ fits z (longPair 64) = true) ∧
    ((cpu wipes (longPair 0)).begun 0 wipes |>.pair 0).longMisaligned .wipe 0 1 4 0 = none ∧
    ((cpu wipes (longPair 64)).begun 0 wipes |>.pair 0).longMisaligned .wipe 0 1 4 0 = none ∧
    ((cpu copies (longPair 0)).begun 0 copies |>.pair 0).longMisaligned .bcopy 3 1 4 0 = none ∧
    ((cpu copies (longPair 64)).begun 0 copies |>.pair 0).longMisaligned .bcopy 3 1 4 0 = none ∧
    ((cpu compares (longPair 0)).begun 0 compares |>.pair 0).longMisaligned .cteq 3 1 2 4 = none ∧
    ((cpu compares (longPair 64)).begun 0 compares |>.pair 0).longMisaligned .cteq 3 1 2 4 = none ∧
    (∀ z ∈ [wipes, copies, compares], ((longState z 64).pair 0).greg 4 = 64 ∧ ((longState z 0).pair 0).greg 4 = 0) ∧
    (longState wipes 64).rangeExcs 0 0x10000000#32 32 .store = [] ∧
    (longState copies 64).rangeExcs 0 0x10000000#32 32 .load = [] ∧ (longState copies 64).rangeExcs 0 0x10000100#32 32 .store = [] ∧
    (longState compares 64).rangeExcs 0 0x10000000#32 32 .load = [] ∧ (longState compares 64).rangeExcs 0 0x10000200#32 32 .load = [] := by
  decide +kernel

theorem meets_SoundRanges :
    (([0x10000000#32, 0x10000100#32].foldl (fun t x => t.useRange 0 x) (longState copies 64)).rangeFlaw 0 0x10000000#32 32 = none) ∧
    (([0x10000000#32, 0x10000200#32].foldl (fun t x => t.useRange 0 x) (longState compares 64)).rangeFlaw 0 0x10000000#32 32 = none) ∧
    (([0x10000000#32, 0x10000200#32].foldl (fun t x => t.useRange 0 x) (longState compares 64)).rangeFlaw 0 0x10000200#32 32 = none) := by
  decide +kernel

/-! ## Exceptions, gates, special registers -/

theorem meets_ExceptionEntrySavesAndTransfers : ∀ r ∈ [0, 1, 2, 3],
    ((cpu .wait (inRing r)).pair 0).df = false ∧ ((cpu .wait (inRing r)).pair 0).exl = false ∧ ((cpu .wait (inRing r)).pair 0).ring = r ∧
    ((cpu .wait (fun x => x.setPstat r false false true false)).pair 0).exl = true ∧
    ((cpu .wait (fun x => x.setPstat r false false true false)).pair 0).df = false := by decide +kernel

/-- Pair 0 in ring 3 with gate 3 into ring 1 open to it. -/
def gated (x : Pair) : Pair := ((inRing 3 x).setS (SR.ge 3) 0x201#32).setS SR.gcall 0xC0#32
theorem meets_GatesReturnsAndExchanges :
    (fits (.gate 3) gated = true ∧ ((cpu (.gate 3) gated).pair 0).sreg (SR.ge 3) ≠ 0#32 ∧
      fld 1 0 (((cpu (.gate 3) gated).pair 0).sreg (SR.ge 3)) ≤ ((cpu (.gate 3) gated).pair 0).ring ∧
      ((cpu (.gate 3) gated).pair 0).ring ≤ fld 7 6 (((cpu (.gate 3) gated).pair 0).sreg SR.gcall)) ∧
    (let f : Pair → Pair := fun x => (inRing 1 x).setS SR.lst 0x307#32
     fits .retG f = true ∧ fld 1 0 (((cpu .retG f).pair 0).sreg SR.lst) = 3 ∧ fld 3 2 (((cpu .retG f).pair 0).sreg SR.lst) = 1) ∧
    (let f : Pair → Pair := fun x => (inRing 1 x).setS SR.estat 0x17#32
     fits .eret f = true ∧ fld 1 0 (((cpu .eret f).pair 0).sreg SR.estat) = 3 ∧ fld 3 2 (((cpu .eret f).pair 0).sreg SR.estat) = 1) := by
  decide +kernel

theorem meets_BadGatesReturnsAndBreakpointsTrap :
    (fits (.gate 3) = true ∧ ((cpu (.gate 3)).pair 0).sreg (SR.ge 3) = 0#32) ∧
    (let f : Pair → Pair := fun x => (gated x).setS SR.gcall 0#32
     fits (.gate 3) f = true ∧ fld 7 6 (((cpu (.gate 3) f).pair 0).sreg SR.gcall) < ((cpu (.gate 3) f).pair 0).ring) ∧
    (fits .retG (inRing 3) = true ∧ fld 1 0 (((cpu .retG (inRing 3)).pair 0).sreg SR.lst) < ((cpu .retG (inRing 3)).pair 0).ring) ∧
    (fits .eret (inRing 3) = true ∧ ((cpu .eret (inRing 3)).pair 0).ring = 3) ∧
    (fits .eret (inRing 2) = true ∧ fld 1 0 (((cpu .eret (inRing 2)).pair 0).sreg SR.estat) < ((cpu .eret (inRing 2)).pair 0).ring) ∧
    fits (.brk 7) (inRing 3) = true := by decide +kernel

theorem meets_SpecialRegistersByRing :
    (fits (.mfs 1 5) = true ∧ srReadRing 5 = none ∧ fits (.mts 1 5) = true ∧ srWriteRing 5 = none) ∧
    (fits (.mfs 1 0x28) = true ∧ srReadRing 0x28 = some 0) ∧
    (fits (.mfs 1 0x28) (inRing 1) = true ∧ ((cpu (.mfs 1 0x28) (inRing 1)).pair 0).ring = 1) ∧
    (fits (.mts 1 0x28) (inRing 1) = true ∧ srWriteRing 0x28 = some 0) ∧
    fits (.mts 1 0x08) (inRing 3) = true ∧ fits (.mts 1 0x00) (inRing 3) = true ∧ fits (.mts 1 0x14) (inRing 1) = true ∧
    (fits (.mts 1 0x13) (inRing 2) = true ∧ fld 1 0 (((cpu (.mts 1 0x13) (inRing 2)).pair 0).greg 1) < 2) ∧
    (fits (.mts 1 0x28) = true ∧ srWriteRing 0x28 = some 0 ∧ ringForbidden 0x28 0 (((cpu (.mts 1 0x28)).pair 0).greg 1) = false) := by decide +kernel

theorem meets_FencesAndWait :
    fits .fenceM (inRing 3) = true ∧ fits .fenceP (inRing 3) = true ∧
    (fits .wait (inRing 3) = true ∧ ((cpu .wait (inRing 3)).begun 0 .wait).wakes 0 = false) ∧
    (fits .wait = true ∧ ((cpu .wait).pair 0).ring = 0) ∧
    (let f : Pair → Pair := fun x => { inRing 3 x with dbPend0 := 1, dbMask0 := 1 }
     fits .wait f = true ∧ ((cpu .wait f).begun 0 .wait).wakes 0 = true) := by decide +kernel

theorem meets_PendingExceptionsAreTaken :
    (let s := cpu .wait (fun x => { inRing 3 x with deadline := some 5 })
     s.atBoundary 0 = true ∧ (s.pair 0).interruptible = true ∧ (s.pair 0).imp = none ∧ (s.pair 0).deadline = some 5 ∧
       (s.wake 0).nextExc 0 = none) ∧
    (let s := cpu .wait (fun x => { inRing 3 x with dbPend0 := 1, dbMask0 := 1 }.setPstat 3 true false false false)
     s.atBoundary 0 = true ∧ (s.pair 0).interruptible = true ∧ (s.pair 0).ie = true ∧ (s.pair 0).imp = none ∧ (s.pair 0).deadline = none ∧
       s.irqPending 0 = some 1 ∧ (s.wake 0).nextExc 0 = none) ∧
    (let s := cpu .wait (fun x => { inRing 3 x with imp := some ⟨Cause.overflow, 0x80, 7, false⟩ })
     s.atBoundary 0 = true ∧ (s.pair 0).imp = some ⟨Cause.overflow, 0x80, 7, false⟩ ∧ (s.pair 0).df = false ∧ (s.pair 0).exl = false) := by
  decide +kernel

/-! ## Masters, pairs and the Beat -/

/-- A command's job on pair 0, running, with no deadline. -/
def aJob (op : Nat) (params : List Byte := []) : Job :=
  { j := 1, attempt := 0, pair := 0, src := .queue 0 1, tag := 5, opcode := op, tenant := 0, params, a := none, w := 10, tArr := 0
    phase := .running, session := none, updates := [], pulses := [], frames := [], reply := none, effects := [], portsOff := []
    buf := 0x80000000 }
/-- The block with the job `j` on pair 0, the pair in role r. -/
def withJob (j : Job) (r : Nat := Role.session) : State := { up.setRole 0 r with jobs := [j] }

theorem meets_RegisterWritesNeedTheRight :
    let s := up.updPair 5 (inRing 3)
    (∀ o ∈ [Reg.BEAT_NOMINAL, Reg.BEAT_WDOG, Reg.BEAT_WDOG_KICK, unitOff (.pke 1), arbCfgOf (.pke 1), Reg.CHAN_W0 3, pgWord 2 0, Reg.PG_PGCTL 2],
      accesses s 5 o .store = true) ∧ (s.drainStores 5).mayWrite 5 = false ∧ ((512 : Master).val = 512 ∨ (512 : Master).val = 513) := by
  decide +kernel

theorem meets_RoleWritesTakeTheListedTransitions :
    (∀ o ∈ [Reg.HRT_PST 0 0, Reg.HRT_PST 15 31], up.Masters 722 o up) ∧
    up.role 5 = Role.free ∧ (up.setRole 0 Role.spare).role 0 = Role.spare ∧ fld 31 28 0x10000000#32 = 1 ∧ fld 31 28 0#32 = 0 ∧
    fld 31 28 0x30000000#32 = 3 ∧ fld 31 28 0x60000000#32 = 6 ∧ fld 31 28 0x40000000#32 = 4 ∧
    ((up.setF (Fld.HRT_UCTL_ENABLE 0) 0).pstWritten 5 0x10000000#32).hearthEnabled 0 = false ∧ (up.setRole 0 Role.loading).role 0 = Role.loading ∧
    ((up.setRole 0 Role.session).role 0 = Role.session ∧ (up.setRole 0 Role.session).jobBit 0 = false) ∧
    ((withJob (aJob 0x204)).setF (Fld.HRT_PST_JOB 0 0) 1).role 0 = Role.session ∧
    ((withJob (aJob 0x204)).setF (Fld.HRT_PST_JOB 0 0) 1).jobBit 0 = true ∧
    ((up.setRole 0 Role.spare).pairsIn Role.supervisor).length < 2 ∧ hearthOf 0 = 0 ∧ up.role 64 ≠ Role.spare ∧ up.role 0 ≠ Role.free ∧
    2 ≤ (up.pairsIn Role.supervisor).length ∧ (up.setRole 0 Role.selftest).role 0 = Role.selftest ∧
    (up.setRole 0 Role.retired).role 0 = Role.retired :=
  ⟨fun o _ => masters_supervisor up o, by decide +kernel⟩

/-- A session on pair 0 of 8 KB, and an admitted job of it on an enabled hearth. -/
def aSession : Session := ⟨1, 0, 0, 0, 0, .loaded, false⟩
def startable : State := { (withJob { aJob 0x204 with phase := .admitted, a := some 50 }).setF (Fld.HRT_UCTL_ENABLE 0) 1 with sessions := [aSession] }
theorem meets_JobStartLoadsTheSlotTimer :
    let j := { aJob 0x204 with phase := .admitted, a := some 50 }
    (startable.startable 0 = some j ∧ j.phase = .admitted ∧ startable.jobBit 0 = false ∧ startable.quarantined = false ∧
      startable.commitsOn 0 = false ∧ startable.hearthEnabled (hearthOf 0) = true ∧ startable.ckVerify.contains 0 = false) ∧
    (let s := startable.setF (Fld.HRT_PST_JOB 0 0) 1
     s.startable 0 = some j ∧ s.jobBit 0 = true) ∧
    (let s : State := { startable with ckVerify := [0] }
     s.startable 0 = some j ∧ s.sessionOn 0 = some aSession ∧ s.ckVerify.contains 0 = true ∧ s.jobBit 0 = false ∧ s.quarantined = false ∧
       s.commitsOn 0 = false ∧ s.hearthEnabled (hearthOf 0) = true) := by decide +kernel
theorem meets_OverrunAndDeadlineActAtTheirBeats :
    (let s := up.updPair 0 (fun x => { x with slot := ⟨0, 5, true, true, false, 0⟩ })
     let t := { s with beat := { s.beat with count := 5#48 } }
     (t.pair 0).slot.armed = true ∧ (t.pair 0).slot.overrun = false ∧ (t.pair 0).slot.w ≠ 0 ∧
       (t.pair 0).slot.start + (t.pair 0).slot.w ≤ t.beatNow) ∧
    (up.pair 0).slot.w = 0 ∧
    (let s := up.updPair 0 (fun x => { x with slot := ⟨0, 5, true, true, false, 0⟩ })
     s.beatNow < (s.pair 0).slot.start + (s.pair 0).slot.w) ∧
    (let j := { aJob 0x204 with a := some 0 }
     (withJob j).jobs.find? (fun i => i.pair == 0 && i.phase == .running && (i.due (withJob j).beatNow).isSome) = some j) ∧
    (let j := { aJob 0x204 with a := some 0, phase := .abandoned }
     (withJob j).jobs.find? (fun i => i.pair == 0 && i.phase == .running && (i.due (withJob j).beatNow).isSome) = none ∧
     (withJob j).jobs.find? (fun i => i.pair == 0 && i.phase == .abandoned && (i.due (withJob j).beatNow).isSome) = some j) ∧
    (∀ j ∈ (withJob { aJob 0x204 with a := some 1 }).jobs, j.a = some 1) ∧ (withJob { aJob 0x204 with a := some 1 }).beatNow < 1 := by
  decide +kernel

theorem meets_MismatchAndSelfTestSetTheRole :
    up.role 0 ≠ Role.selftest ∧ up.role 0 ≠ Role.retired ∧ up.flag (Fld.HRT_MISM_VALID 0) = false ∧
    (up.setF (Fld.HRT_MISM_VALID 0) 1).flag (Fld.HRT_MISM_VALID 0) = true ∧
    (up.setRole 0 Role.selftest).role 0 = Role.selftest ∧ (up.setRole 0 Role.retired).role 0 = Role.retired ∧
    (let s := (up.setRole 0 Role.selftest).setF (Fld.HRT_RPOL_LIMIT 0) 0
     s.role 0 = Role.selftest ∧ s.getF (Fld.HRT_RPOL_LIMIT 0) = 0) ∧
    (let s := (up.setRole 0 Role.selftest).setF (Fld.HRT_RPOL_LIMIT 0) 1
     s.role 0 = Role.selftest ∧ s.getF (Fld.HRT_RPOL_LIMIT 0) ≠ 0 ∧ s.getF (Fld.HRT_RPOL_LIMIT 0) ≤ (s.pair 0).passes.length + 1) := by
  decide +kernel

theorem meets_CommitTakesOnlyItsKeyFromAnArmedPair :
    (∀ j ∈ [{ aJob 0x204 with updates := [.ctrAdd 16 1] }, { aJob 0x204 with a := some 0 }, aJob 0x204],
      let b := (withJob j).drainStores 0
      accesses (withJob j) 0 (Reg.HRT_COMMIT 0) .store = true ∧ b.armedJob 0 = some j ∧ j.src ≠ .load ∧ b.quarantined = false ∧
        b.jobSession j = none ∧ 0 = b.beatNow) ∧
    (let j := { aJob 0x204 with updates := [.ctrAdd 16 1] }
     let k := { j with phase := .committing, portsOff := j.ports.filter (fun n => !(((withJob j).drainStores 0).checkpointed 0 j).portOn n) }
     let c := (((((withJob j).drainStores 0).checkpointed 0 j).setJob j k).disarm 0)
     j.updates ≠ [] ∧ (c.ledger.applied.get (fun _ => (0, [])) 0).1 ≠ j.j ∧ (c.proofFails j.updates).isNone = true) ∧
    (aJob 0x204).updates = [] ∧
    accesses up 0 (Reg.HRT_COMMIT 0) .store = true ∧ (up.drainStores 0).armedJob 0 = none := by decide +kernel

/-- Port 126 in service, and the pin source with a good edge at time 0. -/
def pinUp (m : SourceMeas) : State := { up.setF (Fld.PG_UCTL_ENABLE 126) 1 with beat := { up.beat with pin := m } }
theorem meets_SourcesQualifyAndAreLost :
    (up.setF (Fld.PG_UCTL_ENABLE 126) 0).portOn 126 = false ∧
    (let s := pinUp {}
     s.portOn 126 = true ∧ s.flag Fld.BEAT_STATUS_PIN_QUAL = false ∧ s.beat.pin.lastEdge = none) ∧
    (let s := pinUp { lastEdge := some 0, good := 3 }
     s.portOn 126 = true ∧ s.flag Fld.BEAT_STATUS_PIN_QUAL = false ∧ s.beat.pin.lastEdge = some 0 ∧ s.beat.pin.good < 15 ∧
       98 * xtalHz ≤ 100 * (2500 - 0) * s.nominal ∧ 100 * (2500 - 0) * s.nominal ≤ 102 * xtalHz ∧
       100 * (2440 - 0) * s.nominal < 98 * xtalHz ∧ 102 * xtalHz < 100 * (2560 - 0) * s.nominal) ∧
    (let s := pinUp { lastEdge := some 0, good := 15 }
     s.portOn 126 = true ∧ s.flag Fld.BEAT_STATUS_PIN_QUAL = false ∧ s.beat.pin.lastEdge = some 0 ∧ s.beat.pin.good = 15) ∧
    (let s := (pinUp { lastGood := some 0 }).setF Fld.BEAT_STATUS_PIN_QUAL 1
     s.portOn 126 = true ∧ s.flag Fld.BEAT_STATUS_PIN_QUAL = true ∧ s.flag (qualOf .pin) = true ∧ (s.measOf .pin).lastGood = some 0 ∧
       402 * xtalHz ≤ 100 * (10050 - 0) * s.nominal ∧ 100 * (10000 - 0) * s.nominal < 402 * xtalHz ∧ 1 ∉ s.beat.pin.failed ∧
       s.getF Fld.BEAT_STATUS_ACTIVE = 2) ∧
    (let s := ((pinUp { lastGood := some 0 }).setF Fld.BEAT_STATUS_PIN_QUAL 1).setF Fld.BEAT_STATUS_ACTIVE 0
     s.portOn 126 = true ∧ s.flag Fld.BEAT_STATUS_PIN_QUAL = true ∧ s.getF Fld.BEAT_STATUS_ACTIVE = 0) := by decide +kernel
/-- An edge half a period late lies in no window. -/
theorem meets_EdgesOutsideTheWindows : 100 * (3750 - 0) * up.nominal < 402 * xtalHz ∧
    ∀ k, ¬(1 ≤ k ∧ k ≤ 4 ∧ (100 * k - 2) * xtalHz ≤ 100 * (3750 - 0) * up.nominal ∧ 100 * (3750 - 0) * up.nominal ≤ (100 * k + 2) * xtalHz) := by
  have h : up.nominal = 10000 := by decide +kernel
  rw [h]
  refine ⟨by decide, fun k => ?_⟩
  unfold xtalHz
  omega

theorem meets_ABeatCountsOne : up.beatInRange 2500 = true ∧ up.intake = [] ∧ up.refresh = none ∧ up.beatInRange 2551 = false ∧
    up.beat.lastT = 0 ∧ 102 * xtalHz < 100 * (2551 - up.beat.lastT) * up.nominal ∧ 100 * (2449 - up.beat.lastT) * up.nominal < 98 * xtalHz ∧
    (let s : State := { up with beat := { up.beat with period := 2500, holdover := true } }
     s.beat.lastT ≤ 2500 ∧ s.lengthOk s.beat.period = true ∧ s.beat.holdover = true ∧ s.beat.aligning = none) := by decide +kernel

theorem meets_NominalRateRecomputesItsValues :
    up.Masters 722 Reg.BEAT_NOMINAL up ∧ up.flag Fld.BEAT_CTRL_LOCK = false ∧ 1000 ≤ fld 16 0 1000#32 ∧ fld 16 0 100000#32 ≤ 100000 ∧
    (up.setF Fld.BEAT_CTRL_LOCK 1).flag Fld.BEAT_CTRL_LOCK = true ∧ fld 16 0 999#32 < 1000 ∧ 100000 < fld 16 0 100001#32 :=
  ⟨masters_supervisor _ _, by decide +kernel⟩

/-- R46, R51: the values that the manual gives at its three nominal rates. -/
theorem test_nominal_values :
    (470000000 * 98 / (100 * 1000), 470000000 * 98 / (100 * 10000), 470000000 * 98 / (100 * 100000)) = (460600, 46060, 4606) := by decide

theorem meets_WatchdogStartsKicksAndExpires :
    up.Masters 722 Reg.BEAT_WDOG up ∧ up.Masters 722 Reg.BEAT_WDOG_KICK up ∧ up.flag Fld.BEAT_WDOG_EN = false ∧ bit 31 0x80000005#32 = true ∧ fld 23 0 0x80000005#32 ≠ 0 ∧
    bit 31 5#32 = false ∧ fld 23 0 0x80000000#32 = 0 ∧ (up.setF Fld.BEAT_WDOG_EN 1).flag Fld.BEAT_WDOG_EN = true ∧
    (up.setF Fld.BEAT_WDOG_EN 1).beatInRange 2500 = true ∧ (up.setF Fld.BEAT_WDOG_EN 1).intake = [] ∧
    (up.setF Fld.BEAT_WDOG_EN 1).refresh = none ∧
    (up.setF Fld.BEAT_WDOG_EN 1).getF Fld.BEAT_WDOG_LIMIT ≤ (up.setF Fld.BEAT_WDOG_EN 1).beat.wdogCount ∧
    ((up.setF Fld.BEAT_WDOG_EN 1).setF Fld.BEAT_WDOG_LIMIT 5).beat.wdogCount < 5 :=
  ⟨masters_supervisor _ _, masters_supervisor _ _, by decide +kernel⟩

/-! ## Units, memory, flues, arbiters -/

/-- Unit u after the drain state has been read and DRAINEV kept, as a write of its ENABLE finds it. -/
def keptOf (s : State) (u : UnitId) : State := (s.drainSync u).setF ⟨unitOff u, 1, 1⟩ (fld 1 1 (s.reg (unitOff u)))
theorem meets_UnitsLeaveAndReturnToService :
    up.Masters 722 (unitOff (.pke 1)) up ∧ (keptOf up (.pke 1)).enableTakes (.pke 1) true = true ∧
    (let s := up.setF (Fld.PKE_UCTL_ENABLE 1) 1
     (keptOf s (.pke 1)).enableTakes (.pke 1) false = true ∧ (keptOf s (.pke 1)).unitOn (.pke 1) = true) ∧
    (keptOf up (.pke 1)).unitOn (.pke 1) = false ∧
    (let s := up.setF (Fld.HRT_UCTL_ENABLE 0) 1
     (keptOf s (.hearth 0)).enableTakes (.hearth 0) false = false) ∧
    (keptOf (up.setF Fld.SYS_BOOT_STAGE 3) (.pke 1)).unitOn (.pke 1) = false ∧
    (let s := up.setF ⟨unitOff (.pke 1), 30, 30⟩ 1
     s.unitOn (.pke 1) = false ∧ bit 30 (s.reg (unitOff (.pke 1))) = true ∧ s.unitEmpty (.pke 1) = true) ∧
    bit 30 (up.reg (unitOff (.pke 1))) = false := ⟨masters_supervisor _ _, by decide +kernel⟩

theorem meets_PlainRegistersAndHolds : up.Masters 722 (Reg.HRT_RPOL 3) up ∧
    up.Accesses 0 Reg.BEAT_COUNT_LO .load (up.drainStores 0) := ⟨masters_supervisor _ _, accesses_of (by decide +kernel)⟩

theorem meets_PortGuardRegions :
    let at_ := Reg.PG_UCTL 0 + 0x20
    let on := up.setReg (at_ + 12) 0x80000503#32
    let clash := fun (t : State) => overlapsAny (t.pgBase 0) (t.pgAttr 0) 8 0
    up.Masters 722 at_ up ∧ up.Masters 722 (at_ + 4) up ∧ up.Masters 722 (Reg.PG_PGCTL 0) up ∧ clash (up.setReg at_ 0) = false ∧ clash (up.setReg (at_ + 4) (0x80000503#32 &&& 0x80003F03#32)) = false ∧
    clash (on.setReg (at_ + 4) (0x80000503#32 &&& 0x80003F03#32)) = true ∧ 5 ≤ fld 13 8 0x80000503#32 ∧ fld 13 8 0x80000503#32 ≤ 32 ∧
    fld 13 8 0x80000403#32 < 5 ∧ 32 < fld 13 8 0x80002103#32 :=
  ⟨masters_supervisor _ _, masters_supervisor _ _, masters_supervisor _ _, by decide +kernel⟩

theorem meets_MpuWritesGoToTheWrittenRules :
    let clash := fun (t : Table Word) => overlapsAny (ruleBase t) (ruleAttr t) 16 0
    let on : Table Word := [(12, 0x80000503#32)]
    up.runs 0 = true ∧ (up.pair 0).ring ≤ 1 ∧ clash (((up.drainStores 0).pair 0).mpuW.set mpuReset 0 0) = false ∧
    clash (((up.drainStores 0).pair 0).mpuW.set mpuReset 4 (0x80000503#32 &&& 0x80003FFF#32)) = false ∧
    clash (Table.set mpuReset on 4 (0x80000503#32 &&& 0x80003FFF#32)) = true ∧
    clash (Table.set mpuReset [(4, 0x80000503#32), (8, 32#32), (12, 0x80000503#32)] 0 0x20#32) = true ∧
    2 ≤ ((up.updPair 0 (inRing 2)).pair 0).ring ∧ (up.updPair 0 (inRing 2)).runs 0 = true := by decide +kernel

/-- A guard of port 2 that admits reads and writes of hearth memory. -/
def guarded : State := { up with guards := [(2, [(0x20, 0x80000000#32), (0x24, 0x80001F03#32)])] }
theorem meets_BurstsPassTheirGuardOrAreRefused :
    guarded.pgPermits 2 0x80000000 32 true = true ∧ guarded.pgPermits 2 0x80000000 32 false = true ∧
    guarded.hflawed 0 32 = false ∧ (guarded.markFlaw 2).pgPermits 2 0x80000000 32 false = true ∧ (guarded.markFlaw 2).hflawed 0 32 = true ∧
    up.pgPermits 2 0x80000000 32 true = false ∧ up.pgPermits 2 0x80000000 32 false = false := by decide +kernel
theorem meets_FreeBanks (h b : Nat) : (up.bankArbOf h b).inUse = none ∧ (up.bankArbOf h b).waiting = [] := ⟨rfl, rfl⟩

theorem meets_ScrubReadsDueLines :
    let s : State := { up with beat := { up.beat with count := 3000000#48 } }
    let late : State := { up with beat := { up.beat with count := 6000000#48 } }
    let last := s.setScrub 16 { (s.scrubUnit 16) with pos := (List.range 16).map (fun i => (i, 8191)) }
    let x := s.scrubUnit 0
    x.passStart ≤ s.beatNow ∧ x.lines 0 < x.due s.beatNow ∧ s.bankBusy 0 0 = false ∧
    (∀ k : Fin 8, lineCheck 0#8 0#8 k = .clean ∧ s.hasFlaw ((4 * k.val) / 4) = false) ∧
    ({ x with pos := x.pos.set (fun _ => 0) 0 (x.lines 0 + 1) } : ScrubUnit).done = false ∧
    (let t := s.setArb (.bank 0 0) { inUse := some 3 }
     t.bankBusy 0 0 = true) ∧
    (up.scrubUnit 0).due up.beatNow ≤ (up.scrubUnit 0).lines 0 ∧
    (late.scrubUnit 0).passStart + 6000000 ≤ late.beatNow ∧ (late.scrubUnit 0).done = false ∧ (late.scrubUnit 0).overran = false ∧
    up.beatNow < (up.scrubUnit 0).passStart + 6000000 ∧ (last.scrubUnit 16).lines 0 = 8191 := by
  decide +kernel

/-- Channel 3 from pair 0 to pair 32, and its slot full. -/
def channel : State := up.setReg (Reg.CHAN_W0 3) 0x80200000#32
theorem meets_FluesDeliverOnlyForTheirEnds :
    let b := channel.drainStores 0
    let full := (channel.setF (Fld.CHAN_W0_FULL 3) 1).drainStores 0
    (∀ i ∈ [0, 6, 7], accesses channel 0 (slotOff 3 i) .store = true) ∧ accesses channel 1 (slotOff 3 0) .store = true ∧
    b.flueEnabled 3 = true ∧ b.isSender 3 0 = true ∧ b.flueIsFull 3 = false ∧ b.isReceiver 3 0 = false ∧ channel.isReceiver 3 0 = false ∧
    accesses (channel.setF (Fld.CHAN_W0_FULL 3) 1) 0 (slotOff 3 7) .store = true ∧
    full.flueEnabled 3 = true ∧ full.isSender 3 0 = true ∧ full.flueIsFull 3 = true ∧
    (let s := (channel.setF (Fld.CHAN_W0_FULL 3) 1).setF Fld.SYS_BOOT_STAGE 9
     let c := s.drainStores 32
     accesses s 32 (slotOff 3 7) .store = true ∧ s.isSender 3 32 = false ∧ c.flueEnabled 3 = true ∧ c.isSender 3 32 = false ∧
       c.isReceiver 3 32 = true ∧ c.flueIsFull 3 = true) ∧
    (channel.drainStores 32).flueIsFull 3 = false ∧
    (b.isSender 3 1 = false ∧ b.isReceiver 3 1 = false) ∧
    ((up.setReg (Reg.CHAN_W0 3) 0x80200280#32).isSender 3 640 = true ∧ (up.setReg (Reg.CHAN_W0 3) 0x80200280#32).flueEnabled 3 = true) ∧
    ((up.setReg (Reg.CHAN_W0 3) 0x80200280#32).setF (Fld.CHAN_W0_FULL 3) 1).flueIsFull 3 = true ∧ up.isSender 3 640 = false := by
  decide +kernel

theorem meets_ChannelBindingsResetTheirSlot :
    up.Masters 722 (Reg.CHAN_W0 3) up ∧ up.flag Fld.FLUE_CTRL_LOCK = false ∧ bit 31 0#32 = false ∧
    (fld 9 0 0x80200000#32 ≠ fld 25 16 0x80200000#32 ∧ fld 9 0 0x80200000#32 ≠ 1023) ∧
    (up.setF Fld.FLUE_CTRL_LOCK 1).flag Fld.FLUE_CTRL_LOCK = true ∧ fld 9 0 0x80200020#32 = fld 25 16 0x80200020#32 ∧
    fld 9 0 0x802003FF#32 = 1023 :=
  ⟨masters_supervisor _ _, by decide +kernel⟩

/-- Bank 0 of hearth 0 with two requests waiting. -/
def contended : State := up.setArb (.bank 0 0) { waiting := [{ idx := 3, cls := 0 }, { idx := 5, cls := 0 }] }
/-- The state with the NVM controller in use by the read port of hearth 0, which has presented a read of pair 0. -/
def portReads : State := { up with reads := [⟨0, 0x20000000, false, none⟩], nvmArb := { inUse := some 0 } }
/-- Bank 0 of hearth 0 in use by pair 0, whose read of it waits. -/
def bankReads : State := { up.setArb (.bank 0 0) { inUse := some 0 } with reads := [⟨0, 0x10000000, false, none⟩] }
/-- Engine 1 in service with a request that waits. -/
def engineAsked : State :=
  ((((up.setF (Fld.PKE_UCTL_ENABLE 1) 1).setF (Fld.HRT_UCTL_ENABLE 1) 1).setF (Fld.PKE_STAT_SELFTEST 1) 0).setPkeArb 1
    { waiting := [{ idx := 3, cls := 0 }] }).setPke 1 { reqs := [⟨35, 3, false, 3, 0, []⟩] }
/-- A job in progress at an engine. -/
def aRun : EngRun := { req := ⟨35, 3, false, 3, 0, []⟩, words := [] }
theorem meets_ArbitersGrantOneWaitingRequest :
    let x := contended.arb (.bank 0 0)
    let cfg := contended.reg (arbCfgOf (.bank 0 0))
    x.inUse = none ∧ x.pick cfg = some { idx := 3, cls := 0 } ∧ (x.granted { idx := 3, cls := 0 } (fbEn cfg)).starving cfg = [] ∧
    (let y := (up.setArb (.bank 0 0) { inUse := some 63, emergency := true }).arb (.bank 0 0)
     y.inUse.isSome = true ∧ y.emergency = true) ∧
    ((bankReads.arb (.bank 0 0)).inUse = some 0 ∧ (bankReads.arb (.bank 0 0)).emergency = false ∧
      (⟨0, 0x10000000, false, none⟩ : PendingRead) ∈ bankReads.reads ∧ spaceOf 0x10000000 = .hearth ∧ hearthBank 0x10000000 = 0) ∧
    ((portReads.arb .nvm).inUse = some 0 ∧ (portReads.arb .nvm).emergency = false ∧
      portReads.portHead 0 = some ⟨0, 0x20000000, false, none⟩) ∧
    (engineAsked.pkeClosed 1 = false ∧ (engineAsked.pkeArbOf 1).inUse = none ∧
      ((engineAsked.grant (.pke 1)).pkeArbOf 1).inUse = some 3) ∧
    (let s := engineAsked.setPkeArb 1 {}
     s.pkeClosed 1 = false ∧ (s.pkeArbOf 1).inUse = none ∧ ((s.grant (.pke 1)).pkeArbOf 1).inUse = none) ∧
    (let s := engineAsked.setPkeArb 1 { inUse := some 3 }
     s.pkeClosed 1 = false ∧ (s.pkeArbOf 1).inUse.isSome = true) ∧
    (let s := engineAsked.setF (Fld.PKE_UCTL_ENABLE 1) 0
     s.pkeClosed 1 = true ∧ (s.pkeOf 1).run = none ∧ ((s.setPke 1 { run := some aRun }).pkeOf 1).run.isSome = true ∧
       (s.setPke 1 { run := some aRun }).pkeClosed 1 = true) := by decide +kernel

theorem meets_MainPathIsRoundRobinWithinTheTopRank :
    ({ waiting := [{ idx := 3, cls := 0 }, { idx := 5, cls := 0 }], last := 3 } : Arbiter).mainPick 0 = some { idx := 5, cls := 0 } := by
  decide +kernel

theorem meets_EmergencyAndConfigurationOfArbiters :
    let s : State := { up with refresh := some ⟨7, .journal⟩, nvmArb := { inUse := some 3 } }
    (s.refresh.isSome = true ∧ (s.arb .nvm).inUse = some 3 ∧ (s.arb .nvm).emergency = false ∧ up.refresh.isSome = false) ∧
    up.haltRight = false ∧ (up.setF Fld.LCS_STAT_HALTRIGHT 1).haltRight = true ∧
    (∀ a : ArbId, up.Masters 722 (arbCfgOf a) up) ∧ fld 30 24 0x03000000#32 < 4 ∧
    64 < fld 30 24 0x41000000#32 ∧ 4 ≤ fld 30 24 0x08000000#32 ∧ fld 30 24 0x08000000#32 ≤ 64 ∧
    bit 31 ((up.setReg (arbCfgOf .nvm) 0x80000000#32).reg (arbCfgOf .nvm)) = true ∧
    bit 31 ((up.setReg (arbCfgOf .nvm) 0).reg (arbCfgOf .nvm)) = false :=
  ⟨by decide +kernel, by decide +kernel, by decide +kernel, fun _ => masters_supervisor _ _, by decide +kernel⟩

/-! ## Host links -/

/-- Queue 1 of link 0, of 32 entries in each ring, on an enabled port with its link up. -/
def hosted : State :=
  ((up.setF (Fld.PG_UCTL_ENABLE 0) 1).setF (Fld.HOST_LSTAT_LINK_UP 0) 1).startQueue 0 1 { sqBase := 0x1000, cqBase := 0x2000 } true 0
/-- `hosted` with the head of the submission ring n entries behind its tail. -/
def submitted (n : Nat) : State := hosted.setF (Fld.HOST_SQ_TAIL_TAIL (qkey 0 1)) n

theorem meets_DoorbellsStoreOrReport :
    hosted.queueExists 0 1 = true ∧ fld 11 0 31#32 < 2 ^ (hosted.hostQueue 0 1).sqLog ∧ 2 ^ (hosted.hostQueue 0 1).sqLog ≤ fld 11 0 32#32 ∧
    fld 11 0 31#32 < 2 ^ (hosted.hostQueue 0 1).cqLog ∧ 2 ^ (hosted.hostQueue 0 1).cqLog ≤ fld 11 0 32#32 ∧
    hosted.queueExists 0 2 = false := by decide +kernel

/-- The header of a command of tenant 0 with n bytes of parameters. -/
def header (opcode queue tag seq : Nat) (n : Nat := 0) : List Word :=
  [wd opcode, wd (queue * 65536 + tag), 0x01000000#32, wd seq, wd n, 0, 0, 0]

theorem meets_CommandsAreTakenOrRefused :
    let s := submitted 1
    let h := header 0x100 1 7 0
    let b : State := { s with hostTurn := s.hostTurn.set (fun _ => 63) 0 1 }
    let check := fun (h : List Word) => b.headerCheck h [] 4064 1 (b.getF (Fld.HOST_QERR_NEXT_SEQ (qkey 0 1))) (.queue 0 1)
      (b.flag (Fld.HOST_QSTAT_PRIV (qkey 0 1)) || cmdTenant h == b.getF (Fld.HOST_QSTAT_TENANT (qkey 0 1)))
      (fun o => !o.admin || b.flag (Fld.HOST_QSTAT_PRIV (qkey 0 1)))
    s.mayTake 0 1 = true ∧ s.hasTurn 0 1 = true ∧ s.available 0 1 = 1 ∧ h.length = 8 ∧ hdrLen h ≤ 4064 ∧
    1 + ceilDiv (hdrLen h) 32 ≤ 2 ^ (s.hostQueue 0 1).sqLog - 1 ∧ 1 + ceilDiv (hdrLen h) 32 ≤ s.available 0 1 ∧
    ([] : List Byte).length = hdrLen h ∧ check h = none ∧ check (header 0x100 1 7 5) = some (St.param, 5) ∧ hosted.mayTake 0 2 = false ∧
    4064 < hdrLen (header 0x100 1 7 0 4065) ∧
    (hdrLen (header 0x100 1 7 0 4064) ≤ 4064 ∧ 2 ^ (s.hostQueue 0 1).sqLog - 1 < 1 + ceilDiv (hdrLen (header 0x100 1 7 0 4064)) 32) ∧
    (1 + ceilDiv (hdrLen (header 0x100 1 7 0 32)) 32 ≤ 2 ^ (s.hostQueue 0 1).sqLog - 1 ∧
      s.available 0 1 < 1 + ceilDiv (hdrLen (header 0x100 1 7 0 32)) 32) ∧ hosted.available 0 1 = 0 := by decide +kernel

/-- R46: 80,100 cycles at the default rate are two Beats of worst case; with MARGIN 20 a DEADLINE of 24 Beats is the least admitted. -/
theorem meets_AdmissionTestOfDeadlines :
    up.getF Fld.BEAT_CPB_MIN_CYCLES ≠ 0 ∧ up.worstCase 80100 0 = 2 ∧ up.admits 2 0 0 = true ∧ up.admits 2 24 0 = true ∧
    up.admits 2 23 0 = false := by decide +kernel

/-- A command taken from queue 1 of link 0 with a reply ready. -/
def aTaken (tag : Nat) (lost unordered : Bool := false) : Taken :=
  ⟨.queue 0 1, tag, 0, lost, 0, 0x100, 0, unordered, false, 0, some (mkReply St.ok 0), false, false, none⟩
theorem meets_RepliesLeaveInTurn :
    (let s : State := { hosted with taken := [aTaken 5] }
     s.taken.find? (fun t => t.src == .queue 0 1 && t.tag == 5 && t.reply.isSome) = some (aTaken 5) ∧
       (aTaken 5).reply = some (mkReply St.ok 0) ∧ (aTaken 5).lost = false ∧ s.replyWaits (aTaken 5) = false ∧
       s.taken.all (fun t => !(t.src == .queue 0 1 && t.tag == 6 && t.reply.isSome)) = true) ∧
    ({ hosted with taken := [{ aTaken 4 with reply := none }, aTaken 5] } : State).replyWaits (aTaken 5) = true ∧
    (aTaken 5 true).lost = true := by decide +kernel

theorem meets_AdminQueueAndLinkEvents :
    bit 31 0x80000000#32 = true ∧ bit 31 0#32 = false ∧ up.flag (Fld.HOST_AQ_CTL_EN 0) = false ∧
    (up.setF (Fld.HOST_AQ_CTL_EN 0) 1).flag (Fld.HOST_AQ_CTL_EN 0) = true ∧
    (up.setF (Fld.HOST_LCTL_ECRC 0) 1).flag (Fld.HOST_LCTL_ECRC 0) = true ∧ (1 : Fin 4).val ≠ 0 ∧ (1 : Fin 3).val ≠ 0 := by decide +kernel

/-! ## Bodies of host commands -/

/-- The block `base` with a command's job on pair 0, a supervisor pair. -/
def jobOn (base : State) (op : Nat) (params : List Byte) : State := { base with jobs := [aJob op params] }
/-- The body of opcode `op` runs with these parameters from `base`. -/
def srv (base : State) (op : Nat) (params : List Byte) : Bool := serves (jobOn base op params) 0 op (aJob op params)

/-- The data of a host buffer reach the job. -/
def moves (s : State) (j : Job) (bs : List Byte) : Bool :=
  match j.link with
  | some l => s.flag (Fld.HOST_LSTAT_LINK_UP l) && (State.portWrite (ceilDiv bs.length 256) s l (j.buf + 4096) bs).2
  | none => false

theorem moves_of {s : State} {j : Job} {bs : List Byte} (h : moves s j bs = true) : ∃ t, s.Moves j bs.length bs t := by
  unfold moves at h
  split at h
  · rw [Bool.and_eq_true] at h
    exact ⟨_, _, ‹_›, h.1, rfl, Prod.ext rfl h.2⟩
  · cases h

/-- Link 0 up, with a guard that admits it to hearth memory. -/
def linked (s : State) : State :=
  { s.setF (Fld.HOST_LSTAT_LINK_UP 0) 1 with guards := [(0, [(0x20, 0x80000000#32), (0x24, 0x80001F03#32)])] }

theorem meets_AdministrationCommandsReply :
    let q := [2#8, 0#8, 0#8, 3#8] ++ leBytes 8 0x1000 ++ leBytes 8 0x2000 ++ [5#8, 5#8, 0#8, 0#8]
    srv up 0x100 [] = true ∧ srv up 0x101 [] = true ∧ srv up 0x107 [] = true ∧
    (srv up 0x102 q = true ∧ (aJob 0x102 q).link = some 0 ∧ (queueOf (aJob 0x102 q)).isSome = true ∧ up.queueExists 0 2 = false ∧
      (hosted.startQueue 0 2 {} false 0).queueExists 0 2 = true ∧ srv (hosted.startQueue 0 2 {} false 0) 0x102 q = true ∧
      (aJob 0x102 [64#8]).arg 0 1 = 64 ∧ srv up 0x102 [64#8] = true) ∧
    (srv hosted 0x103 [1#8, 0#8, 0#8, 0#8] = true ∧ hosted.queueExists 0 1 = true ∧ (hosted.hostQueue 0 1).deleting = none ∧
      srv hosted 0x103 [5#8, 0#8, 0#8, 0#8] = true ∧ hosted.queueExists 0 5 = false) ∧
    srv up 0x104 [1#8, 1#8, 0#8, 0#8] = true ∧ srv up 0x104 [3#8, 0#8, 0#8, 0#8] = true ∧
    (let ps := [5#8, 0#8, 0#8, 0#8] ++ leBytes 4 0x3FE ++ leBytes 4 1
     srv up 0x105 ps = true ∧ (aJob 0x105 ps).arg 1 3 = 0 ∧ wd ((aJob 0x105 ps).arg 4 4) &&& 0xFFFFFC01#32 = 0#32) ∧
    (srv up 0x105 (leBytes 8 0x100000005) = true ∧ wd ((aJob 0x105 (leBytes 8 0x100000005)).arg 4 4) &&& 0xFFFFFC01#32 ≠ 0#32) ∧
    srv up 0x106 (leBytes 4 0x5A17) = true ∧ (aJob 0x106 (leBytes 4 0x5A17)).arg 0 4 = 0x5A17 ∧
    srv up 0x106 (leBytes 4 7) = true ∧ (aJob 0x106 (leBytes 4 7)).arg 0 4 ≠ 0x5A17 := by decide +kernel

/-- The device in DEVELOP, where images are accepted and a tenant's image needs no signature. -/
def developing : State := up.setF Fld.LCS_STAT_STATE 3
/-- An image of tenant 0 with one segment and one entry point (R117), in the first sectors from sector 5. -/
def imageHead : List Byte :=
  leBytes 4 0x4C50415A ++ leBytes 4 1 ++ [0#8, 0#8, 1#8, 1#8] ++ leBytes 4 0 ++ leBytes 4 0x1000 ++ leBytes 4 0x1000 ++ leBytes 4 32 ++ zeros 12 ++
  leBytes 4 1 ++ zeros 4 ++ leBytes 4 0x1000 ++ leBytes 4 0x1000 ++ leBytes 4 0 ++ leBytes 4 0x303 ++ zeros 48 ++ leBytes 4 0x1000 ++ leBytes 4 100 ++
  zeros 136
def stored : State := { developing.setF (Fld.HRT_UCTL_ENABLE 0) 1 with nvm := Table.setBytes nvmByte [] (5 * 0x10000) imageHead }
/-- A session of tenant 0 on pair 2 with that image. -/
def session (st : SessionState := .loaded) : Session := ⟨7, 0, 2, 5, 0, st, false⟩
def inSession (st : SessionState := .loaded) : State := { stored with sessions := [session st] }

theorem bytes_nil (n a : Nat) : Table.bytes nvmByte [] a n = List.replicate n 0xFF#8 := by
  induction n generalizing a with
  | zero => rfl
  | succ n ih => simp [Table.bytes, Table.get, ih, List.replicate_succ]

/-- An array in which nothing is listed and nothing programmed is blank (R305). -/
theorem blank_of_empty (s : State) (o n : Nat) (h : s.nvm = []) (k : s.nvmSpent = []) : s.nvmBlank o n = true := by
  simp [State.nvmBlank, State.nbytes, h, k, bytes_nil, Table.get]

theorem meets_ImagesAndSessions_blank :
    (jobOn developing 0x200 []).nvmBlank (6 * 0x10000) (1 * 0x10000) = true ∧
    (∀ i < 1, (jobOn developing 0x201 (leBytes 2 6 ++ leBytes 2 1)).nvmBlank ((6 + i) * 0x10000) 0x10000 = true) :=
  ⟨blank_of_empty _ _ _ rfl rfl, fun _ _ => blank_of_empty _ _ _ rfl rfl⟩

theorem meets_ImagesAndSessions :
    (let ps := leBytes 2 6 ++ zeros 2 ++ leBytes 8 0x1000 ++ leBytes 4 64 ++ leBytes 4 0
     srv (linked developing) 0x200 ps = true ∧ hbdAt ps 4 false = some (0x1000, 64) ∧ (aJob 0x200 ps).arg 2 2 = 0 ∧
       (jobOn (linked developing) 0x200 ps).imagesAccepted = true ∧ (jobOn (linked developing) 0x200 ps).sectorsBusy 6 1 = false ∧
       moves (jobOn (linked developing) 0x200 ps) (aJob 0x200 ps) (zeros 64) = true ∧
       inSession.sectorsBusy 5 1 = true) ∧
    (let ps := leBytes 2 6 ++ leBytes 2 1
     srv stored 0x201 ps = true ∧ (aJob 0x201 ps).erasing = none ∧ stored.eraseActive 0 = false ∧ stored.sectorsBusy 6 1 = false ∧
       srv stored 0x201 (leBytes 2 5 ++ leBytes 2 1) = true ∧ stored.sectorsBusy 5 1 = false) ∧
    (let ps := leBytes 2 5 ++ leBytes 2 0
     srv stored 0x202 ps = true ∧ (aJob 0x202 ps).opening = none ∧ stored.imageBad 0 5 = none ∧ stored.freePair = some 2 ∧
       stored.freeHandle = some 0 ∧
       (let none_ := (List.range 16).foldl (fun s h => s.setF (Fld.HRT_UCTL_ENABLE h) 0) stored
        none_.freePair = none ∧ srv none_ 0x202 ps = true ∧ none_.imageBad 0 5 = none) ∧
       ({ aJob 0x202 ps with effects := [.openSession 7] } : Job).opening = some 7 ∧
       (inSession).sessions.find? (fun y => y.handle == 7) = some session ∧ session.state = .loaded) ∧
    (let ps := leBytes 2 7 ++ zeros 2
     srv inSession 0x203 ps = true ∧ (inSession).sessionOf (aJob 0x203 ps) = some session ∧ (inSession).sessionWork session = false ∧
       (inSession .loading).sessionWork (session .loading) = true ∧ up.sessionOf (aJob 0x203 ps) = none ∧
       srv inSession 0x206 ps = true ∧ srv up 0x205 ps = true) ∧
    (let j := { aJob 0x204 [7, 0, 0, 0] with session := some 7 }
     let s : State := { inSession.updPair 0 (inRing 3) with jobs := [j] }
     serves s 0 0x204 j = true ∧ (s.pair 0).ring ≠ 0 ∧ (s.pair 0).exl = false ∧ s.entryPoint session 0 = some (0x1000, 100) ∧
       s.sessions.find? (fun y => j.session == some y.handle) = some session) ∧
    (let ps : List Byte := [7#8, 0#8, 3#8, 0#8]
     srv (inSession.setF (Fld.PG_UCTL_ENABLE 13) 1) 0x205 ps = true ∧ (inSession.setF (Fld.PG_UCTL_ENABLE 13) 1).portOn 13 = true) := by
  decide +kernel

/-- Stagings that are accepted. -/
def stages (s : State) (p : Nat) (rec : List Byte) : Bool :=
  match s.armedJob p with
  | some j => (s.stageRecord j rec).update.isSome
  | none => false
theorem stages_of {s : State} {p : Nat} {rec : List Byte} (h : stages s p rec = true) : ∃ t v d, s.Stages p rec t v d := by
  unfold stages at h
  split at h
  · rename_i j hj
    obtain ⟨u, hu⟩ := Option.isSome_iff_exists.mp h
    exact ⟨_, _, _, j, u, hj, hu, rfl, rfl, rfl⟩
  · cases h

/-- An established ledger with a counter, a token and a key of tenant 0 in entries 20, 21 and 22. -/
def banked : State := { up with ledger := { up.ledger with established := true, dir := [
  (20, ⟨⟨0, false, false, false, false, .counter 5 1⟩, 3⟩), (21, ⟨⟨0, false, false, false, false, .token 2 ((sha256 (zeros 32)).take 16)⟩, 3⟩),
  (22, ⟨⟨0, false, false, false, false, .key 1 9 1 40 0xFFFF⟩, 3⟩), (23, ⟨⟨0, false, false, true, false, .key 1 9 1 40 41⟩, 3⟩)] } }
/-- `banked` with the job of an opcode and its parameters. -/
def bank (op : Nat) (ps : List Byte) : State := jobOn banked op ps

theorem meets_LedgerCommandsStageTheirRecords :
    (srv banked 0x400 (leBytes 4 20) = true ∧ (bank 0x400 (leBytes 4 20)).isSealed = false ∧ ((bank 0x400 (leBytes 4 20)).entry 20).owner = 0 ∧
      (bank 0x400 (leBytes 4 20)).mirrorBad 20 true true = none) ∧
    (({ banked with jobs := [{ aJob 0x400 (leBytes 4 20) with tenant := 9 }] } : State).entry 20).owner ≠ 9 ∧ srv banked 0x400 (leBytes 4 131072) = true ∧
    (let ps := leBytes 8 20 ++ leBytes 8 3
     srv banked 0x401 ps = true ∧ (aJob 0x401 ps).arg 4 4 = 0 ∧ (bank 0x401 ps).entryBad 0 20 (St.param, 8) false false = none ∧
       stages (bank 0x401 ps) 0 (stagingRecord 1 20 3 []) = true ∧
       ((bank 0x401 ps).stageRecord (aJob 0x401 ps) (stagingRecord 1 20 0 [])).update = none ∧
       (bank 0x401 ps).entryBad 0 30 (St.param, 8) false false = some (St.param, 8)) ∧
    (let ps := leBytes 4 24 ++ leBytes 4 3 ++ zeros 16
     srv banked 0x403 ps = true ∧ ((bank 0x403 ps).entry 24).isFree = true ∧ ((bank 0x403 ps).entry 24).admitsType 3 = true ∧
       stages (bank 0x403 ps) 0 (writeRecord 24 ⟨0, false, false, false, false, .token 3 (zeros 16)⟩) = true) ∧
    (let ps := leBytes 4 21 ++ [0xFF#8, 0#8, 0#8, 0#8] ++ leBytes 4 0 ++ zeros 32
     srv banked 0x404 ps = true ∧ (aJob 0x404 ps).arg 4 1 = 0xFF ∧ (bank 0x404 ps).entryBad 0 21 (St.param, 8) false false = none ∧
       stages (bank 0x404 ps) 0 (stagingRecord 2 21 0 (zeros 32)) = true) ∧
    (let ps := leBytes 4 21 ++ [5#8, 0#8, 0#8, 0#8] ++ leBytes 4 30000 ++ zeros 32
     let base := ((banked.setF (Fld.PG_UCTL_ENABLE 61) 1).setReg (Reg.ACT_MAXLEN 5) 1000000).setF (Fld.ACT_CFG_SETTLE 5) 0
     srv base 0x404 ps = true ∧ base.lcState ≠ 2 ∧ base.lcState ≠ 4 ∧ base.flag (Fld.ACT_CFG_TEN_EN 5) = false ∧
       stages (jobOn base 0x404 ps) 0 (stagingRecord 2 21 0 (zeros 32)) = true ∧
       (jobOn base 0x404 ps).pulseRefusal (aJob 0x404 ps) 5 30000 = none) ∧
    (srv banked 0x405 [1#8, 0#8, 0#8, 0#8] = true ∧ (bank 0x405 [1#8, 0#8, 0#8, 0#8]).allocIndex 1 [] = some 16 ∧
      stages (bank 0x405 [1#8, 0#8, 0#8, 0#8]) 0 (writeRecord 16 ⟨0, false, false, false, false, .counter 0 1⟩) = true) ∧
    (srv banked 0x406 (leBytes 4 21) = true ∧ (bank 0x406 (leBytes 4 21)).entryBad 0 21 (St.param, 8) false true = none ∧
      ((bank 0x406 (leBytes 4 21)).entry 21).body.type ≠ 4 ∧ (bank 0x406 (leBytes 4 21)).mirrorOf 21 = none ∧
      stages (bank 0x406 (leBytes 4 21)) 0 (writeRecord 21 ((bank 0x406 (leBytes 4 21)).entry 21).freed) = true) ∧
    (let ps := leBytes 4 21 ++ leBytes 2 6 ++ leBytes 2 0
     let base : State := { banked with weave := { banked.weave with map := [(6, { state := 1, hops := 1 })] } }
     srv base 0x407 ps = true ∧ (base.entry 21).isFree = false ∧ (base.entry 21).mir = false ∧ (jobOn base 0x407 ps).lockedFor 0 21 = false ∧
       (6 : Nat) ≠ base.ownNode ∧ base.reachable 6 = true ∧ (jobOn base 0x407 ps).allocIndex 4 [21] = some 16 ∧ banked.reachable 6 = false) := by
  decide +kernel

/-- What can be met without a key blob, whose MAC is under a free root (logs 3 and 4): the refusals, the reports, and the entries. -/
theorem meets_KeyCommandsPlaceAndReportKeys :
    (srv banked 0x300 (leBytes 4 20) = true ∧ (bank 0x300 (leBytes 4 20)).keyPlace 0 20 = .error (St.param, 8)) ∧
    ((bank 0x300 (leBytes 4 24)).keyPlace 0 24 = .ok 1 ∧ (bank 0x300 (leBytes 4 24)).lockedFor 0 24 = false) ∧
    (let s := { bank 0x300 (leBytes 4 24) with ledger := { banked.ledger with openSets := [⟨9, 5, [.write 24 (Entry.established 24)], []⟩] } }
     s.lockedFor 0 24 = true ∧ s.keyPlace 0 24 = .ok 1) ∧
    (let ps := leBytes 4 24 ++ leBytes 2 3 ++ leBytes 2 3 ++ leBytes 8 9
     srv (banked.setF Fld.RNG_STAT_HEALTHY 1) 0x302 ps = true ∧ limitOk ((aJob 0x302 ps).arg 8 8) ((aJob 0x302 ps).arg 6 2) = true ∧
       limitOk 0 3 = false ∧ (banked.setF Fld.RNG_STAT_HEALTHY 1).rngHealthy = true) ∧
    (srv banked 0x303 (leBytes 4 22) = true ∧ (bank 0x303 (leBytes 4 22)).keyEntry 0 22 false = .ok (1, 9, 1, 40, 0xFFFF) ∧
      ((bank 0x303 (leBytes 4 22)).entry 22).pend = false ∧ ((bank 0x303 (leBytes 4 23)).entry 23).pend = true ∧
      (bank 0x303 (leBytes 4 23)).keyEntry 0 23 false = .ok (1, 9, 1, 40, 41)) ∧
    (srv banked 0x305 (leBytes 4 22) = true ∧ (bank 0x305 (leBytes 4 22)).keyEntry 0 22 true = .ok (1, 9, 1, 40, 0xFFFF)) ∧
    (srv banked 0x306 (leBytes 4 22) = true ∧ (bank 0x306 (leBytes 4 22)).mirrorOf 22 = none ∧
      stages (bank 0x306 (leBytes 4 22)) 0 (writeRecord 22 ((bank 0x306 (leBytes 4 22)).entry 22).freed) = true) ∧
    (srv banked 0x303 (leBytes 4 20) = true ∧ (bank 0x303 (leBytes 4 20)).keyEntry 0 20 false = .error (St.keyAbsent, 0)) := by
  and_intros <;> decide +kernel

/-- What can be met without a key blob (logs 3 and 4). -/
theorem meets_CryptoCommandsRunOneEngineJob :
    (srv (up.setF Fld.RNG_STAT_HEALTHY 1) 0x506 (leBytes 4 32) = true ∧ (up.setF Fld.RNG_STAT_HEALTHY 1).rngHealthy = true ∧
      up.rngHealthy = false ∧ srv up 0x506 (leBytes 4 32) = true ∧ srv up 0x506 (leBytes 4 0) = true ∧ srv up 0x506 (leBytes 4 4065) = true) ∧
    (srv banked 0x502 (leBytes 4 20) = true ∧ srv banked 0x505 (leBytes 4 20) = true ∧
      (bank 0x502 (leBytes 4 20)).keyInUse 0 20 false = .error (St.keyAbsent, 0)) ∧
    (srv up 0x507 (zeros 4) = true ∧ (aJob 0x507 (zeros 4)).arg 0 1 ≤ 31 ∧ (aJob 0x507 (zeros 4)).arg 1 3 = 0) := by
  and_intros <;> decide +kernel

theorem meets_PortAndBasketCommandsReply :
    (srv up 0x600 [13#8, 1#8, 0#8, 0#8] = true ∧ srv up 0x601 [13#8, 0#8, 0#8, 0#8] = true ∧ srv up 0x602 [] = true ∧
      (let s := up.setF Fld.LCS_STAT_STATE 2
       srv s 0x600 [60#8, 1#8, 0#8, 0#8] = true ∧ s.lcState = 2)) ∧
    (let s := (up.setF (Fld.PG_UCTL_ENABLE 44) 1).setSlotState 2 Slot.ready
     (∀ op ∈ [0, 1, 2, 3], srv s 0x603 [2#8, byte op, 0#8, 0#8] = true ∧ (aJob 0x603 [2#8, byte op, 0#8, 0#8]).arg 1 1 = op) ∧
       s.portOn (42 + 2) = true ∧ s.slotState 2 ≠ Slot.empty ∧ (s.setF (Fld.PG_UCTL_ENABLE 44) 0).portOn (42 + 2) = false ∧
       srv (s.setSlotState 2 Slot.empty) 0x603 [2#8, 0#8, 0#8, 0#8] = true ∧ (s.setSlotState 2 Slot.empty).slotState 2 = Slot.empty ∧
       srv (s.setF (Fld.PG_UCTL_ENABLE 44) 0) 0x603 [2#8, 0#8, 0#8, 0#8] = true) ∧
    srv up 0x604 [1#8, 2#8, 0#8, 0#8] = true ∧
    (∀ op ∈ [0, 1], let ps := [1#8, byte op, 5#8, 0#8] ++ zeros 16
      srv (up.setF (Fld.PG_UCTL_ENABLE 51) 1) 0x605 ps = true ∧ (aJob 0x605 ps).arg 1 1 = op ∧ (aJob 0x605 ps).arg 2 2 ≤ 1023 ∧
        (0 : Nat) = up.getF (Fld.RF_CFG_TENANT 1) ∧ (0 : Nat) ≠ (up.setF (Fld.RF_CFG_TENANT 1) 9).getF (Fld.RF_CFG_TENANT 1) ∧
        srv (up.setF (Fld.RF_CFG_TENANT 1) 9) 0x605 ps = true) ∧
    (up.setF (Fld.PG_UCTL_ENABLE 51) 1).portOn (50 + 1) = true ∧
    (let j := { aJob 0x606 [54#8, 0#8, 0#8, 0#8] with effects := [.progress 1] }
     let s : State := { up with jobs := [j] }
     let t : State := { s with hmem := Table.setBytes zeroByte [] (cardBuffer 0 0 + 24) [1#8] }
     serves s 0 0x606 j = true ∧ bit 0 (wd (leAt (s.hbytes (cardBuffer 0 0 + 24) 4) 0 4)) = false ∧
       serves t 0 0x606 j = true ∧ bit 0 (wd (leAt (t.hbytes (cardBuffer 0 0 + 24) 4) 0 4)) = true ∧
       fld 31 16 (wd (leAt (t.hbytes (cardBuffer 0 0 + 24) 4) 0 4)) = St.ok) ∧
    (srv (up.setF (Fld.PG_UCTL_ENABLE 54) 0) 0x606 [54#8, 0#8, 0#8, 0#8] = true ∧ (up.setF (Fld.PG_UCTL_ENABLE 54) 0).portOn 54 = false ∧
      (aJob 0x606 [54#8, 0#8, 0#8, 0#8]).effects.contains (.progress 1) = false) ∧
    srv up 0x700 [] = true ∧ srv up 0x702 [] = true ∧
    (let ps := magicBasket ++ zeros 172
     srv up 0x701 ps = true ∧ requestFormOk ps = true ∧ up.requestPermitted ps = false) ∧
    (srv (up.setF (Fld.PG_UCTL_ENABLE 3) 1) 0x703 [1#8, 0#8, 0#8, 0#8] = true ∧ (up.setF (Fld.PG_UCTL_ENABLE 3) 1).linkOn 1 = true ∧
      srv (up.setF (Fld.PG_UCTL_ENABLE 3) 0) 0x703 [1#8, 0#8, 0#8, 0#8] = true ∧ (up.setF (Fld.PG_UCTL_ENABLE 3) 0).linkOn 1 = false) := by
  and_intros <;> decide +kernel

theorem meets_LifecycleAndManagementCommandsReply :
    srv up 0x800 [] = true ∧ srv (up.setF Fld.RNG_STAT_HEALTHY 1) 0x801 [] = true ∧ (up.setF Fld.RNG_STAT_HEALTHY 1).rngHealthy = true ∧
    (srv up 0x801 [] = true ∧ up.rngHealthy = false) ∧
    (srv up 0x802 [3#8, 0#8, 0#8, 0#8] = true ∧ (jobOn up 0x802 [3#8, 0#8, 0#8, 0#8]).lcCheck 3 [] = .error (St.param, 8, 1)) ∧
    (srv up 0x803 [] = true ∧ (jobOn up 0x803 []).certReason [] = some 0x14) ∧ srv up 0x804 [] = true ∧
    (srv up 0x900 (zeros 4) = true ∧ (aJob 0x900 (zeros 4)).arg 2 2 = 0) ∧
    (let ps := leBytes 2 0 ++ leBytes 2 3 ++ leBytes 8 0x1000 ++ leBytes 4 96 ++ leBytes 4 1
     srv up 0x901 ps = true ∧ hbdAt ps 4 true = some (0x1000, 96)) ∧
    srv up 0x902 [] = true ∧
    (let ps := leBytes 4 2 ++ leBytes 8 0x1000 ++ leBytes 4 0x40000 ++ leBytes 4 1
     let s : State := { up with nvm := Table.setBytes nvmByte [] (ashBase 2 + 0xFE0) ashOkUnit }
     srv up 0x903 ps = true ∧ hbdAt ps 4 true = some (0x1000, 0x40000) ∧ up.ashValid 2 = false ∧ srv s 0x903 ps = true ∧ s.ashValid 2 = true) ∧
    (srv up 0x904 (leBytes 4 2) = true ∧ srv up 0x904 (leBytes 4 9) = true ∧ 3 < (aJob 0x904 (leBytes 4 9)).arg 0 1 ∧
      up.eraseActive 1 = false ∧ (up.setF (Fld.NVMC_BANKST_STATE 1) 2).eraseActive 1 = true ∧
      srv (up.setF (Fld.NVMC_BANKST_STATE 1) 2) 0x904 (leBytes 4 2) = true) := by
  and_intros <;> decide +kernel

/-! ## Engines -/

/-- The words of a descriptor (R219, R241): operation, PARAM and flags, and the ranges by their offset in hearth memory. -/
def engWords (op param flags : Nat) (rs : List (Nat × Nat)) : List Word :=
  [wd (op + 256 * param), wd flags, 0, 0] ++ rs.flatMap (fun r => [wd (fabricBase + r.1), wd r.2])
/-- A begun job of pair 32 with its inputs read, plain key bytes and a slot curve. -/
def jobRun (ws : List Word) (ins : List (List Byte)) (key : List Byte := []) (c : Option Curve := none) : EngRun :=
  { req := ⟨32, 0, false, 3, 0, []⟩, words := ws, begun := true, ins, key, curve := c }
/-- Public-key engine 1 at that job. -/
def pkeAt (run : EngRun) : State := up.setPke 1 { run := some run }
/-- The conditions of `State.PkeRuns`, as a truth value. -/
def pkeRuns (s : State) (h op : Nat) (run : EngRun) : Bool :=
  (s.pkeOf h).run == some run && run.result.isNone && !run.testing && descOp run.words == op
theorem pkeRuns_of {s : State} {h op : Nat} {run : EngRun} (e : pkeRuns s h op run = true) : s.PkeRuns h op run := by
  simp only [pkeRuns, Bool.and_eq_true, Option.isNone_iff_eq_none, beq_iff_eq, Bool.not_eq_true'] at e
  obtain ⟨⟨⟨a, b⟩, c⟩, d⟩ := e
  exact ⟨a, b, c, d⟩

theorem meets_EngineSubmissionsWaitOrEnd :
    let s := (((up.setF (Fld.PKE_UCTL_ENABLE 0) 1).setF (Fld.SYM_UCTL_ENABLE 0 0) 1).setF (Fld.HRT_UCTL_ENABLE 0) 1).updPair 5 (inRing 3)
    let off := (up.setF (Fld.PKE_UCTL_ENABLE 0) 0).setF (Fld.SYM_UCTL_ENABLE 0 0) 0
    let b := s.drainStores 5
    let r : EngReq := ⟨5, 5, false, 3, 0x40, open_⟩
    let asked := b.setPke 0 { reqs := [r] }
    let queued := b.setSym 0 { queue := [r] }
    let busy := b.setSym 0 { run := some (jobRun [] []) }
    accesses s 5 (Reg.PKE_SUBMIT 0) .store = true ∧ accesses s 5 (Reg.SYM_SUBMIT 0 0) .store = true ∧
    accesses s 5 (Reg.PKE_SUBMIT 1) .store = true ∧ hearthOf 5 ≠ 1 ∧ b.isSupervisor 5 = false ∧
    b.submission 5 0 0x80000040#32 false = some r ∧ b.pkeClosed 0 = false ∧ off.pkeClosed 0 = true ∧
    off.submission 0 0 0x80000040#32 false ≠ none ∧ b.symClosed 0 = false ∧ off.symClosed 0 = true ∧
    (0x80000041#32).toNat % 64 ≠ 0 ∧ (b.pkeOf 0).reqs = [] ∧ (b.pkeOf 0).run = none ∧ (b.symOf 0).queue = [] ∧ (b.symOf 0).run = none ∧
    ((asked.pkeOf 0).reqs.any (fun r => r.pair == 5) = true) ∧ ((queued.symOf 0).queue.any (fun r => r.pair == 5) = true) ∧
    ((busy.symOf 0).queue = [] ∧ (busy.symOf 0).run = some (jobRun [] []) ∧ (jobRun [] []).begun = true ∧ (jobRun [] []).req.pair ≠ 5 ∧
      busy.submission 5 0 0x80000040#32 false = some r ∧ busy.symClosed 0 = false) := by
  and_intros <;> decide +kernel

/-- A curve over GF(17) with a base point of order 19. -/
def tiny : Curve := { bits := 5, h := 1, p := 17, a := 2, b := 2, gx := 5, gy := 1, n := 19 }
/-- The words of an operation with three inputs of the given lengths. -/
def pkWords (op param : Nat) (a b c : Nat) (flags : Nat := 0) : List Word :=
  engWords op param flags [(0, 0), (0x1000, a), (0x2000, b), (0x3000, c), (0x4000, 4096)]

theorem meets_PublicKeyOperationsCompute :
    (let run := jobRun (pkWords 0x01 1 8 8 8) [leBytes 8 15, leBytes 8 2, leBytes 8 3]
     let none_ := jobRun (pkWords 0x01 1 8 8 8) [leBytes 8 15, leBytes 8 0, leBytes 8 3]
     pkeRuns (pkeAt run) 1 0x01 run = true ∧ ofLe (run.inp 0) = 15 ∧ ofLe (run.inp 1) = 2 ∧ pkParam run.words = 1 ∧
       pkeRuns (pkeAt none_) 1 0x01 none_ = true ∧ ofLe (none_.inp 1) = 0) ∧
    (let run := jobRun (pkWords 0x02 1 8 8 8) [leBytes 8 15, leBytes 8 2, leBytes 8 3]
     let even := jobRun (pkWords 0x02 1 8 8 8) [leBytes 8 15, leBytes 8 2, leBytes 8 4]
     pkeRuns (pkeAt run) 1 0x02 run = true ∧ ofLe (run.inp 2) = 3 ∧ pkeRuns (pkeAt even) 1 0x02 even = true ∧ ofLe (even.inp 2) % 2 = 0) ∧
    (let key := leBytes 4 4294967291 ++ leBytes 4 4294967279 ++ leBytes 4 2863311527 ++ leBytes 4 2863311519 ++ leBytes 4 3937053350 ++
       leBytes 8 18446743979220271189 ++ leBytes 8 3
     let run := jobRun (pkWords 0x03 1 8 0 0) [leBytes 8 2] key
     let k := RsaKey.parse 1 key
     pkeRuns (pkeAt run) 1 0x03 run = true ∧ ofLe (run.inp 0) = 2 ∧ 2 + 1 < k.n ∧ k.ok 1 = true ∧ (k.priv 2) ^ k.e % k.n = 2) ∧
    (let key := leBytes 4 4294967291 ++ leBytes 4 4294967279 ++ leBytes 4 2863311526 ++ leBytes 4 2863311519 ++ leBytes 4 3937053350 ++
       leBytes 8 18446743979220271189 ++ leBytes 8 3
     let run := jobRun (pkWords 0x03 1 8 0 0) [leBytes 8 2] key
     let k := RsaKey.parse 1 key
     pkeRuns (pkeAt run) 1 0x03 run = true ∧ 2 + 1 < k.n ∧ k.ok 1 = true ∧ (k.priv 2) ^ k.e % k.n ≠ 2) ∧
    (let run := jobRun (pkWords 0x12 0 2 32 2) [[5#8, 1#8], zeros 32, [3#8, 4#8]] [] (some tiny)
     pkeRuns (pkeAt run) 1 0x12 run = true ∧ tiny.pointOk 5 1 = true ∧ tiny.pointOk 5 2 = false ∧
       leAt (run.inp 2) 0 tiny.nLen = 3 ∧ leAt (run.inp 2) tiny.nLen tiny.nLen = 4 ∧ leAt (run.inp 0) 0 tiny.len = 5) ∧
    (let run := jobRun (pkWords 0x13 0x40 32 0 0 128) [leBytes 32 9] (leBytes 32 9)
     pkeRuns (pkeAt run) 1 0x13 run = true ∧ run.curve = none ∧ pkParam run.words = 0x40 ∧ pkRaw run.words = true) ∧
    (let run := jobRun (pkWords 0x14 0 2 0 0) [[5#8, 1#8]] [] (some tiny)
     pkeRuns (pkeAt run) 1 0x14 run = true ∧ leAt (run.inp 0) 0 tiny.len < tiny.p ∧ leAt (run.inp 0) tiny.len tiny.len < tiny.p) ∧
    (let run := jobRun (pkWords 0x32 3 1088 0 0 128) [zeros 1088]
     pkeRuns (pkeAt run) 1 0x32 run = true ∧ pkRaw run.words = true) ∧
    (let run := jobRun (pkWords 0x3A 3 1952 1 3309) [zeros 1952, [0#8], zeros 3309]
     pkeRuns (pkeAt run) 1 0x3A run = true ∧ contextOk (run.inp 1) = true ∧ (mldsaVerify 3 (run.inp 0) (run.inp 1) (run.inp 2)).isSome = true) ∧
    (let run := jobRun (pkWords 0 0 0 0 0) []
     pkeRuns (pkeAt run) 1 0x00 run = true) ∧
    (let run := jobRun (pkWords 0x42 0 0 0 0) []
     pkeRuns (pkeAt run) 1 0x42 run = true) ∧
    (let run := jobRun (pkWords 0x48 1 512 0 0) [zeros 512]
     let out := jobRun (pkWords 0x48 1 512 0 0) [leBytes 2 3329 ++ zeros 510]
     pkeRuns (pkeAt run) 1 0x48 run = true ∧ (∀ j < 256, leAt (run.inp 0) (2 * j) 2 < 3329) ∧
       pkeRuns (pkeAt out) 1 0x48 out = true ∧ 3329 ≤ leAt (out.inp 0) (2 * 0) 2) := by
  and_intros <;> decide +kernel

theorem meets_PublicKeyOperationsCompute_slot :
    (let run := jobRun (pkWords 0x41 0 8 0 0) [(aesCmac up.vetKey []).take 8]
     pkeRuns (pkeAt run) 1 0x41 run = true ∧ 8 ≤ (run.inp 0).length ∧
       (aesCmac (pkeAt run).vetKey ((run.inp 0).take ((run.inp 0).length - 8))).take 8 = (run.inp 0).drop ((run.inp 0).length - 8)) ∧
    (let run := jobRun (pkWords 0x41 0 8 0 0) [zeros 8]
     pkeRuns (pkeAt run) 1 0x41 run = true ∧ 8 ≤ (run.inp 0).length ∧
       (aesCmac (pkeAt run).vetKey ((run.inp 0).take ((run.inp 0).length - 8))).take 8 ≠ (run.inp 0).drop ((run.inp 0).length - 8)) := by
  and_intros <;> decide +kernel

theorem meets_RandomizedPublicKeyOperations :
    (let run := fun op => jobRun (pkWords op 3 48 0 0 128) [zeros 48]
     let s := fun op => (pkeAt (run op)).setF Fld.RNG_STAT_HEALTHY 1
     pkeRuns (s 0x10) 1 0x10 (run 0x10) = true ∧ pkeRuns (s 0x30) 1 0x30 (run 0x30) = true ∧ pkeRuns (s 0x38) 1 0x38 (run 0x38) = true ∧
       pkeRuns (s 0x40) 1 0x40 (run 0x40) = true ∧ pkParam (run 0x10).words = 3 ∧ (s 0x10).rngHealthy = true ∧
       (pkeAt (run 0x10)).rngHealthy = false ∧ pkeRuns (pkeAt (run 0x10)) 1 0x10 (run 0x10) = true) ∧
    (let run := jobRun (pkWords 0x10 0 48 0 0) [zeros 48] [] (some tiny)
     pkeRuns ((pkeAt run).setF Fld.RNG_STAT_HEALTHY 1) 1 0x10 run = true ∧ pkParam run.words < 32) ∧
    (let run := jobRun (pkWords 0x31 3 1184 0 0 128) [zeros 1184]
     let bad := jobRun (pkWords 0x31 3 1184 0 0 128) [List.replicate 1184 0xFF#8]
     pkeRuns ((pkeAt run).setF Fld.RNG_STAT_HEALTHY 1) 1 0x31 run = true ∧ mlkemKeyOk 3 (run.inp 0) = true ∧ pkParam run.words = 3 ∧
       pkRaw run.words = true ∧ pkeRuns (pkeAt bad) 1 0x31 bad = true ∧ mlkemKeyOk 3 (bad.inp 0) = false) ∧
    (let run := jobRun (pkWords 0x11 0 32 0 0) [zeros 32] [3#8] (some tiny)
     pkeRuns ((pkeAt run).setF Fld.RNG_STAT_HEALTHY 1) 1 0x11 run = true ∧ 0 < ofLe run.key ∧ ofLe run.key < tiny.n) ∧
    (let run := jobRun (pkWords 0x11 0x42 32 0 0) [zeros 32] (zeros 32)
     pkeRuns (pkeAt run) 1 0x11 run = true ∧ run.curve = none ∧ pkParam run.words = 0x42) ∧
    (let run := jobRun (pkWords 0x39 3 1 0 0 256) [[0#8]] (zeros 32)
     pkeRuns (pkeAt run) 1 0x39 run = true ∧ contextOk (run.inp 0) = true ∧ pkDet run.words = true ∧ pkParam run.words = 3) := by
  and_intros <;> decide +kernel

/-- With a root present every key is wrapped (R282). -/
theorem meets_wrapKey (s : State) (r : Root) (h : s.keys.root = some r) (hdr key : List Byte) : ∃ b, s.wrapKey hdr key = some b := by
  simp [State.wrapKey, State.bootKey, State.presentRoot, h]

/-- Symmetric engine 4 (of hearth 1) at a job. -/
def symAt (run : EngRun) : State := up.setSym 4 { run := some run }
/-- The words of a symmetric job: operation, mode, TAGLEN, IVLEN, flags, lengths of IN and AUX. -/
def syWords (op mode tag iv flags a b : Nat) : List Word :=
  [wd (op + 2 ^ 8 * mode + 2 ^ 16 * tag + 2 ^ 24 * iv), wd flags, 0, 0] ++
    [(0, 0), (0, 0), (0x1000, a), (0x2000, b), (0x4000, 4096)].flatMap (fun r : Nat × Nat => [wd (fabricBase + r.1), wd r.2])
/-- The hypotheses on a symmetric job at work. -/
def symRuns (op mode tag iv flags : Nat) : Bool :=
  let run := jobRun (syWords op mode tag iv flags 32 16) [zeros 32, zeros 16] (zeros 16)
  ((symAt run).symOf 4).run == some run && run.begun && run.result.isNone && descOp run.words == op && syMode run.words == mode &&
    syTagLen run.words == tag

theorem meets_SymmetricOperationsCompute :
    symRuns 1 0 0 0 0 = true ∧ symRuns 1 1 0 16 256 = true ∧ symRuns 1 2 0 16 0 = true ∧ symRuns 1 3 16 12 0 = true ∧
    symRuns 2 0 0 0 0 = true ∧ symRuns 2 1 0 8 0 = true ∧ symRuns 3 0 16 0 0 = true ∧ symRuns 3 0 16 0 512 = true ∧ symRuns 5 0 0 0 0 = true ∧
    symRuns 4 0 0 0 0 = true ∧ symRuns 6 0 0 0 0 = true ∧ symRuns 7 0 0 0 0 = true ∧ syDecrypt (syWords 1 0 0 0 256 32 16) = true ∧
    syDecrypt (syWords 1 0 0 0 0 32 16) = false ∧ syVerify (syWords 3 0 16 0 512 32 16) = true := by
  and_intros <;> decide +kernel

/-- A GCM tag that is wrong, and PIN blocks of format 0 that decode and that do not. -/
theorem meets_SymmetricOperationsCompute_data :
    (let run := jobRun (syWords 1 3 16 12 256 32 12) [zeros 32, zeros 12] (zeros 16)
     let m := run.inp 0
     (gcmTag run.key ((run.inp 1).take 12) ((run.inp 1).drop 12) (m.take 16)).take 16 ≠ m.drop 16) ∧
    (let aux := [0#8, 0#8, 12#8, 0#8] ++ zeros 6 ++ [0xFF#8, 0xFF#8, 0xFF#8, 0xFF#8]
     pinOf 0 (pinDecrypt 0 (zeros 16) (panDigits aux) (pinEncrypt 0 (zeros 16) (panDigits aux) (pinBuild 0 [1, 2, 3, 4] []))) =
         some [1, 2, 3, 4] ∧
       pinOf 0 (pinDecrypt 0 (zeros 16) (panDigits aux) (zeros 8)) = none) := by
  and_intros <;> decide +kernel

theorem meets_RandomNumberGenerator :
    let run : DrbgRun := ⟨[], [], 0, 2000⟩
    let s : State := { up.setF Fld.RNG_STAT_HEALTHY 1 with rng := { queue := [run] } }
    let b := s.drainStores 0
    accesses s 0 Reg.RNG_DATA .load = true ∧ accesses up 0 Reg.RNG_DATA .load = true ∧ (up.drainStores 0).rngHealthy = false ∧
    b.rngHealthy = true ∧ b.getF Fld.RNG_RESERVE_BYTES + 4 ≤ b.rng.level ∧
    ((up.setF Fld.RNG_STAT_HEALTHY 1).drainStores 0).rng.level < 4 ∧
    bit 8 1#32 = false ∧ fld 1 0 1#32 ≠ 3 ∧ bit 8 0x103#32 = true ∧ fld 1 0 0x103#32 = 3 ∧ up.porHeld = false ∧
    bit 2 ((up.setReg Reg.RNG_RESTART 4).reg Reg.RNG_RESTART) = true ∧ bit 2 ((up.setReg Reg.RNG_RESTART 0).reg Reg.RNG_RESTART) = false ∧
    s.rng.level < 4096 ∧ 65536 ≤ s.rng.made ∧ ({ s with rng := { queue := [run], made := 0 } } : State).rng.made < 65536 ∧
    up.flag Fld.RNG_KAT_CTL_BUSY = false ∧ (up.setF Fld.RNG_KAT_CTL_BUSY 1).flag Fld.RNG_KAT_CTL_BUSY = true := by decide +kernel

/-- Jobs with and without a result, at work, tested and rerun. -/
theorem meets_EngineJobsCompleteAndFaultsAreTested :
    (let run := { jobRun (pkWords 0x01 1 8 8 8) [] with result := some (engRefused St.range 8) }
     let s := ((pkeAt run).setF (Fld.PKE_UCTL_ENABLE 1) 1).setF (Fld.HRT_UCTL_ENABLE 1) 1
     (s.pkeOf 1).run = some run ∧ s.pkeClosed 1 = false ∧ (engRefused St.range 8).status ≠ St.ok ∧ bit 0 (run.words.getD 1 0) = false) ∧
    (let run := { jobRun (pkWords 0x14 0 2 0 0) [] with result := some (engOk (validBytes true)) }
     let s := ((pkeAt run).setF (Fld.PKE_UCTL_ENABLE 1) 1).setF (Fld.HRT_UCTL_ENABLE 1) 1
     let u := (s.pkSlotEffect 1 run).engWrite (704 + 1) (engRange run.words 4).1 (validBytes true)
     (s.pkeOf 1).run = some run ∧ (engOk (validBytes true)).status = St.ok ∧ u.pkeClosed 1 = false) ∧
    (let run := { jobRun (pkWords 0x01 1 8 8 8) [] with testing := true }
     ((pkeAt run).pkeOf 1).run = some run ∧ run.result = none ∧ run.testing = true) ∧
    (let run := { jobRun (pkWords 0x01 1 8 8 8) [] with retried := true }
     ((pkeAt run).pkeOf 1).run = some run ∧ run.testing = false ∧ run.retried = true) ∧
    (let run := jobRun (pkWords 0x01 1 8 8 8) []
     ((pkeAt run).pkeOf 1).run = some run ∧ run.testing = false ∧ run.retried = false) ∧
    (let run := { jobRun (syWords 1 0 0 0 0 32 0) [] with result := some (engRefused St.range 8) }
     let s := ((symAt run).setF (Fld.SYM_UCTL_ENABLE 1 0) 1).setF (Fld.HRT_UCTL_ENABLE 1) 1
     (s.symOf 4).run = some run ∧ run.begun = true ∧ s.symClosed 4 = false ∧ (s.symOf 4).queue = [] ∧ (s.symOf 4).copy = none ∧
       (engRefused St.range 8).code ≠ 0x33 ∧ bit 0 (run.words.getD 1 0) = false) ∧
    (let run := jobRun (syWords 1 0 0 0 0 32 0) []
     ((symAt run).symOf 4).run = some run ∧ run.begun = true ∧ run.result = none) ∧
    ((up.setF (Fld.SYM_STAT_SELFTEST 1 0) 1).flag (Fld.SYM_STAT_SELFTEST 1 0) = true ∧ (up.symOf 4).run = none ∧
      (up.symOf 4).queue = [] ∧ (up.symOf 4).copy = none) := by
  and_intros <;> decide +kernel
/-! ## Ledger, event log, NVM, gates -/

theorem meets_StagingsJoinTheJobsSet :
    (let s := (withJob (aJob 0x204)).setMreg 0 (Reg.LEDG_STG 0) 1
     accesses s 0 (Reg.LEDG_STG 15) .store = true ∧ (s.drainStores 0).armedJob 0 = some (aJob 0x204) ∧ (aJob 0x204).src ≠ .load ∧
       (aJob 0x204).updates.length < 16 ∧ fld 7 0 (s.mreg 0 (Reg.LEDG_STG 0)) = 1 ∧
       fld 7 0 ((s.setMreg 0 (Reg.LEDG_STG 0) 2).mreg 0 (Reg.LEDG_STG 0)) = 2 ∧
       fld 7 0 ((s.setMreg 0 (Reg.LEDG_STG 0) 3).mreg 0 (Reg.LEDG_STG 0)) = 3 ∧
       fld 7 0 ((s.setMreg 0 (Reg.LEDG_STG 0) 4).mreg 0 (Reg.LEDG_STG 0)) = 4) ∧
    (let s := up.setMreg 0 (Reg.LEDG_STG 0) 1
     accesses s 0 (Reg.LEDG_STG 15) .store = true ∧ (s.drainStores 0).armedJob 0 = none ∧ fld 7 0 (s.mreg 0 (Reg.LEDG_STG 0)) = 1) ∧
    (banked.entry 20).body = .counter 5 1 ∧ (banked.entry 20).att = false ∧
    (banked.entry 21).body = .token 2 ((sha256 (zeros 32)).take 16) ∧ (sha256 [1#8]).take 16 ≠ (sha256 (zeros 32)).take 16 ∧
    (up.setF Fld.LEDG_STAT_SEALED 1).isSealed = true := by
  and_intros <;> decide +kernel

/-- A set of one update waits, with a pool sector at the head of the log. -/
def closingTime : State := { banked with ledger := { banked.ledger with
  openSets := [⟨9, 0, [.ctrAdd 20 3], []⟩], sectors := [{ p := 0, lap := 1, firstLsn := 1, groups := [], retired := false }] } }
theorem meets_GroupsCloseAndCommit :
    (closingTime.ledger.closing = none ∧ closingTime.ledger.openSets ≠ [] ∧ closingTime.isSealed = false ∧
      closingTime.ledger.mirrored closingTime.ledger.openGroup = [] ∧
      (closingTime.ledger.head.map closingTime.ledger.openFits).getD false = true) ∧
    (let g : Group := ⟨1, [(20, ⟨0, false, false, false, false, .counter 8 1⟩)], false⟩
     let s : State := { banked with ledger := { banked.ledger with closing := some g, closingSets := [⟨9, 0, [.ctrAdd 20 3], []⟩] } }
     s.ledger.closing = some g ∧ s.ledger.unacked = [] ∧ s.isSealed = false ∧ ((s.ledger.finalGroup g).images.map (·.1)).Nodup) ∧
    up.ledger.closing = none ∧ up.ledger.openSets = [] ∧
    (let s := banked.updPair 5 (inRing 3)
     let b := s.drainStores 5
     accesses s 5 Reg.LEDG_RIDX .store = true ∧ b.isSealed = false ∧ b.ledger.established = true ∧ b.isSupervisor 5 = false ∧
       fld 16 0 20#32 = 20 ∧ (b.entry 20).owner = b.pairTenant 5 ∧ (up.drainStores 5).ledger.established = false ∧
       ¬(({ b with ledger := { b.ledger with dir := [(20, ⟨⟨9, false, false, false, false, .counter 5 1⟩, 3⟩)] } } : State).entry 20).owner = b.pairTenant 5) := by
  and_intros <;> decide +kernel

theorem meets_LogEntriesAreWrittenReadAndSent :
    accesses (up.setRole 0 Role.supervisor) 0 (Reg.SYS_LOG_W 7) .store = true ∧
    ((up.setRole 0 Role.supervisor).drainStores 0).isSupervisor 0 = true ∧ accesses up 5 (Reg.SYS_LOG_W 7) .store = true ∧
    (up.drainStores 5).isSupervisor 5 = false ∧ accesses up 5 Reg.SYS_LOG_IDX .store = true ∧
    (up.logEvent Src.pair 1 0 0 0 0).log.find? (fun e => e.seq == fld 15 0 0#32) ≠ none ∧
    up.log.find? (fun e => e.seq == fld 15 0 0#32) = none ∧ up.mgtSending = none ∧
    ({ up with mgtSending := some ⟨0, 0, 1, 0, 1, 0, 0, 0, 0⟩ } : State).mgtSending = some ⟨0, 0, 1, 0, 1, 0, 0, 0, 0⟩ := by
  and_intros <;> decide +kernel

/-- Pair 0 in ring 0 at gate n's entry with these arguments in g3 upward, the whole address space open to rings 1–3. -/
def atEntry (base : State) (n : Nat) (args : List Nat) : State := base.updPair 0 (fun x =>
  let y := args.zipIdx.foldl (fun y e => y.setG (3 + e.2) (wd e.1)) x
  { (y.setS SR.lst (wd (256 * n + 5))).setS (SR.ge n) 0xFFFF2000#32 with pc := 0xFFFF2000#32, mpuF := open_, mpuW := open_ })
/-- It asks for function `f`. -/
def asks (s : State) (n f : Nat) : Bool := s.atGate 0 n && s.gateArg 0 3 == f
theorem asks_of {s : State} {n f : Nat} (h : asks s n f = true) : s.Asks 0 n f := by
  simpa [asks, State.Asks] using h

/-- The address space without NVM open to rings 1–3, so that no bank executes. -/
def lowOnly (s : State) : State := s.updPair 0 (fun x => { x with mpuF := [(4, 0x80001DC7#32)], mpuW := [(4, 0x80001DC7#32)] })
theorem meets_NvmRoutinesCheckAndAct :
    (asks (atEntry up 1 [1, 33, 0x10000000, 32]) 1 1 = true ∧ (33 : Nat) % 32 ≠ 0) ∧
    asks (atEntry up 1 [1, 0x8000000, 0x10000000, 32]) 1 1 = true ∧
    (asks (atEntry up 1 [1, 0x2000000, 0x10000000, 32]) 1 1 = true ∧ routineRange 0x2000000 = false) ∧
    (asks (atEntry up 1 [1, 0x1000, 0x20000000, 32]) 1 1 = true ∧ routineRange 0x1000 = true ∧ spaceOf 0x20000000 = .nvm) ∧
    (let s := atEntry up 1 [1, 0x1000, 0x10000000, 32]
     spaceOf 0x10000000 = .hearth ∧ mpuPermits (s.pair 0).mpuF 1 0x10000000 32 .load = true ∧ s.executing (bankOf 0x1000) = true) ∧
    (let s := lowOnly (atEntry up 1 [1, 0x1000, 0x10000000, 32])
     asks s 1 1 = true ∧ mpuPermits (s.pair 0).mpuF 1 0x10000000 32 .load = true ∧ s.executing (bankOf 0x1000) = false ∧
       s.sectorBusy (sectorOf 0x1000) = false ∧ s.nvmBlank 0x1000 32 = true ∧ s.flaws = [] ∧
       ((List.range (32 / 4)).any (fun k => s.flawed 0 (0x10000000 + 4 * k)) = false) ∧
       ((s.setF (Fld.NVMC_BANKST_STATE 0) 2).sectorBusy 0 = true ∧ sectorOf 0x1000 = 0) ∧
       ({ s with nvm := [(0x1005, 0)] } : State).nvmBlank 0x1000 32 = false) ∧
    (asks (atEntry up 1 [2, 2048]) 1 2 = true ∧
      (let s := lowOnly (atEntry up 1 [2, 7])
       asks s 1 2 = true ∧ routineRange (7 * 0x10000) = true ∧ s.executing (7 / 512) = false ∧ s.eraseActive (7 / 512) = false ∧
         s.sectorBusy 7 = false ∧ (s.setF (Fld.NVMC_BANKST_STATE 0) 2).eraseActive (7 / 512) = true) ∧
      (atEntry up 1 [2, 7]).executing (7 / 512) = true) ∧
    (asks (atEntry up 1 [3, 4]) 1 3 = true ∧ asks (atEntry up 1 [3, 0]) 1 3 = true ∧ (atEntry up 1 [3, 0]).eraseActive 0 = false ∧
      ((atEntry up 1 [3, 0]).setF (Fld.NVMC_BANKST_STATE 0) 2).eraseActive 0 = true) ∧
    (asks (atEntry up 1 [4, 0]) 1 4 = true ∧ (atEntry up 1 [4, 0]).flag (Fld.NVMC_BANKST_XSUSP 0) = false ∧
      (let s := ((atEntry up 1 [4, 0]).setF (Fld.NVMC_BANKST_STATE 0) 3).setF (Fld.NVMC_BANKST_XSUSP 0) 1
       s.eraseActive 0 = true ∧ s.flag (Fld.NVMC_BANKST_XSUSP 0) = true)) ∧
    (asks (atEntry up 1 [5, 16]) 1 5 = true ∧ fld 31 4 (wd 16) ≠ 0 ∧ asks (atEntry up 1 [5, 1]) 1 5 = true ∧ fld 31 4 (wd 1) = 0 ∧
      up.flag Fld.NVMC_CTRL_LOCK = false ∧ (up.setF Fld.NVMC_CTRL_LOCK 1).flag Fld.NVMC_CTRL_LOCK = true ∧
      fld 0 0 (wd 1) ≠ (up.setF Fld.NVMC_CTRL_DO0 0).getF Fld.NVMC_CTRL_DO0) ∧
    (∀ n ∈ [1, 2, 4, 8], asks (atEntry up 1 [6, n]) 1 6 = true) ∧ fld 31 3 (wd 8) ≠ 0 := by
  and_intros <;> decide +kernel

theorem meets_ErasesPatrolAndRefresh :
    up.getF (Fld.NVMC_BANKST_STATE 0) ≠ 2 ∧
    ((up.setF (Fld.NVMC_BANKST_STATE 0) 2).getF (Fld.NVMC_BANKST_STATE 0) = 2 ∧ up.refresh = none ∧ up.refreshQueue = [] ∧
      up.ledger.sectors = [] ∧ (up.setF (Fld.NVMC_BANKST_STATE 3) 2).getF (Fld.NVMC_BANKST_STATE 3) = 2) ∧
    ((up.setF (Fld.NVMC_BANKST_STATE 0) 3).getF (Fld.NVMC_BANKST_STATE 0) = 3 ∧
      (up.setF (Fld.NVMC_BANKST_STATE 0) 3).flag (Fld.NVMC_BANKST_XSUSP 0) = false) ∧
    (let s := up.setF Fld.NVMC_PATROL_SECTOR 5
     s.beatNow < s.patrolStart + s.getF Fld.NVMC_PATROL_SECTOR * 421875) ∧
    (up.patrolStart + up.getF Fld.NVMC_PATROL_SECTOR * 421875 ≤ up.beatNow ∧ up.beatNow < up.patrolStart + 864000000 ∧
      up.getF Fld.NVMC_PATROL_SECTOR < 1022 ∧ up.getF (Fld.NVMC_BANKST_STATE 0) = 0 ∧ up.getF (Fld.NVMC_BANKST_STATE 1) = 0) ∧
    (let s := fun ph => ({ up with refresh := some ⟨7, ph⟩ } : State)
     (s .copy).refresh = some ⟨7, .copy⟩ ∧ ((s .copy).refreshMay (7 / 512) && (s .copy).refreshMay 1) = true ∧
       ((s .program).refreshMay (7 / 512) && (s .program).refreshMay 1) = true ∧
       (((s .copy).setF (Fld.NVMC_BANKST_STATE 1) 2).refreshMay (7 / 512) && ((s .copy).setF (Fld.NVMC_BANKST_STATE 1) 2).refreshMay 1) = false) := by
  and_intros <;> decide +kernel

theorem meets_GateServicesOfLifecycleAndAsh :
    up.atGate 0 2 = false ∧ (atEntry up 2 [9]).atGate 0 2 = true ∧ 4 < (atEntry up 2 [9]).gateArg 0 3 ∧
    (asks (atEntry up 2 [1, 0x10000000, 16]) 2 1 = true ∧
      (let s := atEntry up 2 [1, 0x10000000, 32]
       asks s 2 1 = true ∧ s.gateBuffer 0 0x10000000 32 .store = true ∧ s.rngHealthy = false ∧ (s.setF Fld.RNG_STAT_HEALTHY 1).rngHealthy = true)) ∧
    (let s := atEntry up 2 [2, 0x10000000, 8]
     let b := s.viewBytes 0 0x10000000 8
     asks s 2 2 = true ∧ s.gateBuffer 0 0x10000000 8 .load = true ∧ s.lcCheck (s.gateTarget b) b = .error (St.param, 8, 1)) ∧
    (let s := atEntry up 2 [3, 0x10000000, 8]
     asks s 2 3 = true ∧ s.gateBuffer 0 0x10000000 8 .load = true ∧ s.certReason (s.viewBytes 0 0x10000000 8) = some 0x14) ∧
    asks (atEntry up 2 [4]) 2 4 = true ∧
    (let s := atEntry up 0 [3, 0, 0, 0x10000000]
     asks s 0 3 = true ∧ s.gateBuffer 0 0x10000000 0xF000 .load = true) ∧ asks (atEntry up 0 [3, 9]) 0 3 = true ∧
    (asks (atEntry up 0 [4, 2]) 0 4 = true ∧ (atEntry up 0 [4, 2]).eraseActive 1 = false ∧
      ((atEntry up 0 [4, 2]).setF (Fld.NVMC_BANKST_STATE 1) 2).eraseActive 1 = true) ∧ asks (atEntry up 0 [4, 9]) 0 4 = true ∧
    (let s := atEntry up 0 [6, 2, 0x10000000]
     asks s 0 6 = true ∧ s.gateBuffer 0 0x10000000 0x40000 .store = true) := by
  and_intros <;> decide +kernel

/-- A dump is written where a root is present and its slot is blank. -/
theorem meets_AshWrite (s : State) (r : Root) (h : s.keys.root = some r) (e : s.nvm = []) (u : s.nvmSpent = []) (k : Nat) :
    (∃ cv, s.rootCv = some cv) ∧ (∃ key, s.bootKey Label.dump = some key) ∧ s.ashBlank k = true :=
  ⟨by simp [State.rootCv, h], by simp [State.bootKey, State.presentRoot, h], blank_of_empty _ _ _ e u⟩

/-! ## Resets, boot, debug, tamper -/

theorem meets_ResetsAndGateZero :
    (∃ ns, 1000 ≤ ns ∧ up.porHeld = false) ∧ ({ up with porHeld := true } : State).porHeld = true ∧ State.reset.porHeld = false ∧ State.reset.getF Fld.SYS_BOOT_STAGE = 0 ∧
    State.reset.booting = true ∧ up.getF Fld.SYS_BOOT_STAGE ≠ 0 ∧
    (asks (atEntry up 0 [1]) 0 1 = true ∧ (atEntry up 0 [1]).flag Fld.SYS_BOOT_READY = false ∧
      asks (atEntry (up.setF Fld.SYS_BOOT_READY 1) 0 [1]) 0 1 = true) ∧
    (asks (atEntry up 0 [2, 0x5A17]) 0 2 = true ∧ (atEntry up 0 [2, 0x5A17]).gateArg 0 4 = 0x5A17 ∧ (atEntry up 0 [2, 0x5A17]).inReset = false ∧ asks (atEntry up 0 [2, 0]) 0 2 = true) ∧
    (asks (atEntry { up with imageFloor := 3 } 0 [5, 2]) 0 5 = true ∧ (2 : Nat) < (atEntry { up with imageFloor := 3 } 0 [5, 2]).imageFloor ∧
      asks (atEntry up 0 [5, 2]) 0 5 = true ∧ (atEntry up 0 [5, 2]).imageFloor ≤ 2) := by
  refine ⟨⟨1000, by decide, by decide +kernel⟩, ?_⟩
  and_intros <;> decide +kernel

/-- A device in SERVICE with rights over hearth 0, pair 3 halted and pair 5 running. -/
def debugging : State :=
  ((((up.setF Fld.LCS_STAT_STATE 3).setF Fld.LCS_STAT_DEBUG 1).setF Fld.LCS_STAT_OPEN 1).updPair 3 (fun x => { x with halted := true })).updPair 5
    (fun x => { (inRing 3 x) with haltReq := true })
/-! ## Debug port and tamper controller -/

theorem meets_DebugPortAccesses :
    (∀ op ∈ [0, 2, 4, 5], up.tapPermits op = true ∧ debugging.tapPermits op = false) ∧
    (∀ op ∈ [0x10, 0x11, 0x12], debugging.tapPermits op = true ∧ (up.setF Fld.LCS_STAT_STATE 7).tapPermits op = false) ∧
    (let b : State := { debugging with dport := { debugging.dport with instr := 0x11, dr := [], cert := [] } }
     b.debugPermits 3 0x10000000 false = true ∧ b.debugPermits 3 0x20000000 true = false ∧ b.debugPermits 3 0x10000000 true = true ∧
       b.debugPermits 3 0x10000001 false = false ∧ (debugging.pair 3).halted = true ∧ b.regGranted = true ∧
       (debugging.pair 5).halted = false ∧ b.haltPermits 3 = true ∧ b.haltPermits 5 = true) ∧
    (let s := debugging.setF Fld.LCS_STAT_DEBUG 0
     ({ s with dport := { s.dport with instr := 0x11, dr := [], cert := [] } } : State).haltPermits 3 = false) ∧
    (debugging.atBoundary 5 = true ∧ debugging.haltDue 5 = true ∧ debugging.asyncExc 5 = none ∧ debugging.haltDue 6 = false ∧ debugging.atBoundary 3 = false) ∧
    (let s := debugging.setF Fld.LCS_STAT_OPEN 0
     s.flag Fld.LCS_STAT_DEBUG = true ∧ s.flag Fld.LCS_STAT_OPEN = false ∧ s.reg Reg.LCS_DBG_LEFT = 0 ∧
       (s.setReg Reg.LCS_DBG_LEFT 5).reg Reg.LCS_DBG_LEFT ≠ 0) := by
  and_intros <;> decide +kernel

/-- Monitor m with class c, an alarm at its n-th event within a window. -/
def monitored (m c n : Nat) : State :=
  (((up.setF (Fld.TAMP_MCFG_CLASS m) c).setF (Fld.TAMP_MCFG_N m) n).setF (Fld.TAMP_MCFG_W m) 100)
/-- The backup domain supplied from VBAT. -/
def battery (s : State) : State := { s with tamper := { s.tamper with onBattery := true } }
theorem meets_MonitorsAlarmsAndResponses :
    (∀ c ∈ [2, 3], let s := monitored 100 c 1
     s.onMain = true ∧ s.stimulated 100 = false ∧ s.getF (Fld.TAMP_MCFG_N 100) ≤ 1 ∧ s.getF (Fld.TAMP_MCFG_CLASS 100) = c ∧
       s.getF Fld.TAMP_STAT_CLASS = 0 ∧ s.flag Fld.TAMP_STAT_TAMPERED = false) ∧
    ((monitored 100 1 2).windowOf 100 = [] ∧ 2 ≤ (monitored 100 1 2).getF (Fld.TAMP_MCFG_N 100)) ∧
    ((battery up).onMain = false ∧ up.armed 0 = false ∧ (up.setArmed 48 true).armed 48 = true ∧ (up.setArmed 51 true).armed 51 = true ∧
      (up.setArmed 48 true).onMain = true ∧
      (up.setArmed 0 true).armed 0 = true ∧ up.stimulated 0 = false ∧ up.getF (Fld.WALE_WCFG_MODE 0) = 0 ∧
      false = bit 0 (up.reg Reg.WALE_CASECFG)) ∧
    (up.tamper.onBattery = false ∧ (battery (monitored 57 3 1)).tamper.onBattery = true ∧
      2 ≤ (battery (monitored 57 3 1)).getF (Fld.TAMP_MCFG_CLASS 57)) ∧
    (up.tamper.resetPending = false ∧ ({ up with tamper := { up.tamper with resetPending := true } } : State).tamper.resetPending = true ∧
      up.inReset = false) := by
  and_intros <;> decide +kernel

theorem meets_TamperRegistersAndBackup :
    (up.Masters 0 Reg.BEAT_WDOG (up.drainStores 0) ∧
      (∀ k : Fin 101, (up.setF Fld.TAMP_STAT_CLASS 2).Masters 722 (Reg.TAMP_MCFG k.val) (up.setF Fld.TAMP_STAT_CLASS 2)) ∧
      ∀ k : Fin 48, up.Masters 722 (Reg.WALE_WCFG k.val) up) ∧
    (let b := up.drainStores 0
     fld 11 8 0x40001#32 = 0 ∧ b.flag Fld.TAMP_CTRL_LOCK = false ∧ fld 11 8 0x640102#32 ≠ 0 ∧ fld 31 16 0x640102#32 ≠ 0 ∧
       monFloor 52 ≤ fld 2 0 0x640102#32 ∧ fld 2 0 0x640102#32 ≤ 4 ∧ (b.setF Fld.TAMP_STAT_CLASS 2).getF Fld.TAMP_STAT_CLASS = 2 ∧
       b.flag Fld.TAMP_STAT_TAMPERED = false ∧ b.flag Fld.TAMP_BIST_BUSY = false ∧ b.onMain = true ∧ b.quarantined = false) ∧
    (up.flag Fld.TAMP_BIST_BUSY = false ∧ (up.setF Fld.TAMP_BIST_BUSY 1).flag Fld.TAMP_BIST_BUSY = true) ∧
    (let s := (up.setF Fld.RNG_STAT_HEALTHY 1).setF (Fld.WALE_WCFG_RESEED 47) 1
     up.flag Fld.RNG_STAT_HEALTHY = false ∧ s.onMain = true ∧ s.flag Fld.RNG_STAT_HEALTHY = true ∧ s.flag (Fld.WALE_WCFG_RESEED 47) = true) ∧
    (up.tamper.onBattery = false ∧ (battery up).tamper.onBattery ≠ false ∧ up.onMain = true ∧ (battery up).onMain = false ∧
      up.flag Fld.TAMP_STAT_BKLOW = false ∧ (up.setF Fld.TAMP_STAT_BKLOW 1).flag Fld.TAMP_STAT_BKLOW = true) := by
  refine ⟨⟨meets_accesses.2, fun _ => masters_supervisor _ _, fun _ => masters_supervisor _ _⟩, ?_, ?_⟩ <;> and_intros <;> decide +kernel

/-! ## Cartridges -/

/-- Port n in service, its guard open to hearth memory. -/
def served (n : Nat) (base : State) : State :=
  { base.setF (Fld.PG_UCTL_ENABLE n) 1 with guards := [(n, [(0x20, 0x80000000#32), (0x24, 0x80001F03#32)])] }
/-- The data that a burst through a port guard has brought. -/
def broughtBlock (r : Except (Nat × Nat) (List Byte)) (n : Nat := 512) : Bool := match r with | .ok d => d == zeros n | .error _ => false
/-- Words in hearth memory at its fabric address 0x80000000 + o. -/
def placed (o : Nat) (ws : List Word) (base : State) : State := { base with hmem := base.hmem.setBytes zeroByte o (wordsBytes ws) }
/-- Slot 2 in a state, with what it holds. -/
def slotted (st : Nat) (x : CrtSlot) (base : State := served 44 up) : State := (base.setSlotState 2 st).setSlot 2 x
/-- A write of two blocks from block 8, of which n are written. -/
def aWrite (n : Nat) : CrtOp := ⟨⟨0, 0, true, 0, 0, []⟩, [], 7, 8, 2, true, zeros 1024, n, false, false, none⟩
/-- A header with one journalled region of 16 blocks from block 4 for tenant 0, open to reads and writes. -/
def cartHeader : List Byte :=
  let h := cartHeaderOk.ascii8 ++ [0#8, 1#8] ++ zeros 6 ++ leBytes 4 4 ++ leBytes 4 16 ++ [0#8, 0#8, 3#8] ++ zeros 5 ++ zeros 0x1DC
  h ++ wordBytes (crc32c h)
/-- A descriptor of an operation on one block of region r into the buffer at 0x80001000. -/
def cartWords (op r : Nat) : List Word := [wd (op + 2 ^ 16 * r + 2 ^ 24), 3, 0x80001000#32, 0, 0, 0, 0, 0]

set_option maxRecDepth 100000 in
theorem meets_cartHeader : cartHeader.length = 512 ∧ cartHeaderOk cartHeader 100 = true ∧ cartHeaderOk cartHeader 19 = false := by
  decide +kernel

theorem meets_CartridgeSlotsMountReadWriteAndJournal :
    (up.portOn 44 = false ∧ (slotted 4 {}).slotState 2 ≠ Slot.empty ∧ (battery up).onMain = false ∧ (served 44 up).portOn 44 = true ∧
      (served 44 up).slotState 2 = Slot.empty ∧ (served 44 up).onMain = true) ∧
    (slotted 1 { phase := .mount 3 }).slotOf 2 = { phase := .mount 3 } ∧ ((slotted 1 { phase := .mount 7 }).slotOf 2).phase = .mount 7 ∧
    (up.slotOf 2).phase = .idle ∧
    (let s := slotted 4 { phase := .busy, writes := [aWrite 0] }
     (s.slotOf 2).phase = .busy ∧ (s.slotOf 2).writes = [aWrite 0] ∧ (aWrite 0).finished + 1 < (aWrite 0).count ∧
       (s.slotOf 2).tried = false) ∧
    (let s := slotted 4 { phase := .busy, writes := [aWrite 1] }
     (s.slotOf 2).writes = [aWrite 1] ∧ (s.slotOf 2).reads = [] ∧ (s.slotOf 2).sleepTo = none ∧ (aWrite 1).count ≤ (aWrite 1).finished + 1) ∧
    (let r : EngReq := ⟨0, 0, true, 0, 0x100, []⟩
     let at_ := fun ws base => placed 0x100 ws ((jobOn base 0x204 []).setF (Fld.CRT_STAT_HDRVALID 2) 1)
     let s := at_ (cartWords 1 0) (slotted 4 { header := cartHeader })
     let e := at_ (cartWords 1 5) (slotted 4 { header := cartHeader })
     let w := at_ (cartWords 2 0) (slotted 4 { header := cartHeader })
     let off := at_ (cartWords 1 0) up
     let gone := at_ (cartWords 1 0) (slotted 0 {})
     accesses s 0 (Reg.CRT_SUBMIT 2) .store = true ∧ accesses w 0 (Reg.CRT_STAGE 2) .store = true ∧
     accesses off 0 (Reg.CRT_SUBMIT 2) .store = true ∧ accesses gone 0 (Reg.CRT_SUBMIT 2) .store = true ∧ (s.drainStores 0).portSubmission 0 32 0x80000100#32 false = some r ∧
     ((s.drainStores 0).slotOf 2).reads = [] ∧ (off.drainStores 0).portSubmission 0 32 0x80000100#32 false = some r ∧
     (off.drainStores 0).portOn 44 = false ∧ (gone.drainStores 0).portOn 44 = true ∧
     ¬((gone.drainStores 0).slotState 2 = Slot.ready ∨ (gone.drainStores 0).slotState 2 = Slot.sleep) ∧
     (s.drainStores 0).slotState 2 = Slot.ready ∧ ((slotted 5 {}).slotState 2 = Slot.sleep) ∧
     (e.drainStores 0).cartCheck 2 r ((e.drainStores 0).portWords r 32) 1 = .error (St.policy, 0x0C) ∧
     (s.drainStores 0).cartCheck 2 r ((s.drainStores 0).portWords r 32) 1 = .ok (7, true) ∧
     (w.drainStores 0).cartCheck 2 r ((w.drainStores 0).portWords r 32) 2 = .ok (7, true) ∧
     (w.drainStores 0).armedJob 0 = some (aJob 0x204) ∧ (aJob 0x204).src ≠ .load ∧ (aJob 0x204).frameRoom 512 = true ∧
     ((w.drainStores 0).slotOf 2).writes.length + ((w.drainStores 0).stagedFor 44).length < 4 ∧
     broughtBlock (State.portRead 32 (w.drainStores 0) 44 0x80001000 512).2 = true ∧
     broughtBlock (State.portRead 32 (off.drainStores 0) 44 0x80001000 512).2 = false) := by
  and_intros <;> decide +kernel

/-- A journalled write at the head of slot 2, before any record. -/
def journalling (f : Nat) : State := atEntry (slotted 4 { writes := [aWrite 0] }) 3 [f, 2]
/-- What the journal services ask for where no device root is needed. -/
theorem meets_CartridgeSlotsMountReadWriteAndJournal_gate :
    (asks (atEntry up 3 [1, 8]) 3 1 = true ∧ (atEntry up 3 [1, 8]).gateArg 0 4 = 8) ∧
    (asks (atEntry up 3 [1, 2]) 3 1 = true ∧ ((atEntry up 3 [1, 2]).slotOf 2).writes = []) ∧
    (asks (journalling 1) 3 1 = true ∧ (journalling 1).gateArg 0 4 = 2 ∧ ((journalling 1).slotOf 2).writes = [aWrite 0] ∧
      (aWrite 0).journalled = true ∧ ((journalling 1).slotOf 2).phase = .idle ∧ (journalling 1).slotState 2 = Slot.ready) ∧
    (asks (atEntry up 3 [2, 2]) 3 2 = true ∧ (atEntry up 3 [2, 2]).flag (Fld.CRT_JSTAT_JDONE 2) = false) ∧
    (asks (atEntry up 3 [3, 2]) 3 3 = true ∧ (atEntry up 3 [3, 2]).slotState 2 = Slot.empty) ∧
    (asks (atEntry (slotted 3 {}) 3 [3, 2]) 3 3 = true ∧ (atEntry (slotted 3 {}) 3 [3, 2]).slotState 2 = Slot.held ∧
      (atEntry (slotted 3 {}) 3 [3, 2]).openRecords 2 = []) ∧
    (asks (atEntry up 3 [4, 2]) 3 4 = true ∧ (atEntry up 3 [4, 2]).openRecords 2 = []) := by
  and_intros <;> decide +kernel

/-- A device with a root key and blank NVM has the journal's key and room for its record. -/
theorem meets_CartridgeSlotsMountReadWriteAndJournal_open (r : Root) :
    let s : State := { journalling 1 with keys := { (journalling 1).keys with root := some r } }
    (∃ m, s.bootKey Label.lmac = some m) ∧ s.nvmBlank (jrnOff 2 (s.nextSeq 2)) 0x4000 = true :=
  ⟨by simp [State.bootKey, State.presentRoot], blank_of_empty _ _ _ rfl rfl⟩

/-! ## Contactless front ends -/

/-- The words of an exchange with n bytes at 0x80000200 sent and room for c bytes at 0x80000400. -/
def rfWords (op n c : Nat) : List Word :=
  [wd op, wd n, if n = 0 then 0 else 0x80000200#32, if c = 0 then 0 else 0x80000400#32, wd (c + 2 ^ 16), 0, 0, 0]
/-- An exchange of pair 0. -/
def exch (op n c : Nat) : PortExch := ⟨⟨0, 0, true, 0, 0x100, []⟩, rfWords op n c⟩
/-- Front end 1 as a reader with these exchanges queued. -/
def reading (q : List PortExch) : State :=
  (((((served 51 up).setF (Fld.RF_STAT_ACTIVE 1) 1).setF (Fld.RF_CFG_MODE 1) 1).setReg (Reg.RF_XLIMIT 1) 0xFFFFFFFF#32).setRf 1
    { queue := q, active := some ⟨false, 0, 64, 65536⟩ })
/-- The conditions of `State.RfRuns`, as a truth value. -/
def rfRuns (s : State) (f op : Nat) (x : PortExch) : Bool :=
  (s.rfOf f).queue.head? == some x && (s.rfOf f).result.isNone && s.portStarts (50 + f) && s.rfModeOf f == 1 && rfOp x.words == op &&
  (s.rfCheck f x).isNone
theorem rfRuns_of {s : State} {f op : Nat} {x : PortExch} (h : rfRuns s f op x = true) : s.RfRuns f op x := by
  simp only [rfRuns, Bool.and_eq_true, Option.isNone_iff_eq_none, beq_iff_eq] at h
  obtain ⟨⟨⟨⟨⟨a, b⟩, c⟩, d⟩, e⟩, g⟩ := h
  exact ⟨a, b, c, d, e, g⟩

theorem meets_FrontEndModesAndSubmissions :
    (let w := reading []
     (w.writeReg (Reg.RF_CFG 1) 1#32).getF (Fld.RF_CFG_MODE 1) = 1 ∧ (w.writeReg (Reg.RF_CFG 1) 1#32).rfModeOf 1 = 1 ∧
     (w.writeReg (Reg.RF_CFG 1) 2#32).getF (Fld.RF_CFG_MODE 1) = 2 ∧ (w.rfOf 1).result = none) ∧
    (let w := (reading []).updRf 1 (fun u => { u with result := some (0, 0, 0) })
     ((w.writeReg (Reg.RF_CFG 1) 2#32).rfOf 1).result ≠ none) ∧
    (let r : EngReq := ⟨0, 0, true, 0, 0x100, []⟩
     let b := (reading []).drainStores 0
     accesses (reading []) 0 (Reg.RF_SUBMIT 1) .store = true ∧ accesses up 0 (Reg.RF_SUBMIT 1) .store = true ∧ b.portSubmission 0 32 0x80000100#32 false = some r ∧
       b.ownsTenant 0 (b.getF (Fld.RF_CFG_TENANT 1)) = true ∧ b.portOn (50 + 1) = true ∧ b.rfModeOf 1 = 1 ∧ b.getF (Fld.RF_CFG_MODE 1) = 1 ∧
       (up.drainStores 0).portSubmission 0 32 0x80000100#32 false = some r ∧ (up.drainStores 0).portOn 51 = false) ∧
    (let s := up.updPair 5 (inRing 3)
     (∃ r, (s.drainStores 5).portSubmission 5 32 0x80000100#32 false = some r) ∧ accesses s 5 (Reg.RF_SUBMIT 1) .store = true ∧
       (s.drainStores 5).ownsTenant 5 ((s.drainStores 5).getF (Fld.RF_CFG_TENANT 1)) = false) ∧
    up.flag (Fld.RF_STAT_FIELD 1) = false ∧ (up.setF (Fld.RF_STAT_FIELD 1) 1).flag (Fld.RF_STAT_FIELD 1) = true ∧ up.rfModeOf 1 ≠ 2 ∧
    (up.setF (Fld.RF_STAT_ACTIVE 1) 2).rfModeOf 1 = 2 := by
  refine ⟨?_, ?_, ?_, ⟨⟨⟨5, 5, false, 3, 0x100, open_⟩, ?_⟩, ?_⟩, ?_⟩ <;> and_intros <;> decide +kernel

theorem meets_ReaderExchangesRunAndEnd :
    (∀ op ∈ [1, 2], rfRuns (reading [exch op 4 4]) 1 op (exch op 4 4) = true ∧
      broughtBlock (State.portRead 32 ((reading [exch op 4 4]).setF (Fld.RF_STAT_FON 1) 1) (50 + 1) 0x80000200 4).2 4 = true ∧
      (State.portWrite 32 ((reading [exch op 4 4]).setF (Fld.RF_STAT_FON 1) 1) (50 + 1) 0x80000400 (zeros 4)).2 = true) ∧
    (let s : State := { reading [exch 1 4 4] with guards := [] }
     rfRuns s 1 1 (exch 1 4 4) = true ∧
       broughtBlock (State.portRead 32 (s.setF (Fld.RF_STAT_FON 1) 1) (50 + 1) 0x80000200 4).2 4 = false) ∧
    (rfRuns (reading [exch 3 0 16]) 1 3 (exch 3 0 16) = true ∧ rfTypeB (exch 3 0 16).words = false ∧ 16 ≤ rfCap (exch 3 0 16).words) ∧
    rfRuns (reading [exch 4 16 4]) 1 4 (exch 4 16 4) = true ∧ rfRuns (reading [exch 5 0 0]) 1 5 (exch 5 0 0) = true ∧
    rfRuns (reading [exch 6 0 0]) 1 6 (exch 6 0 0) = true ∧
    (let s := reading [exch 5 0 0]
     let t := s.updRf 1 (fun u => { u with result := some (0, 0, 0) })
     (s.rfOf 1).queue = [exch 5 0 0] ∧ (s.rfOf 1).cut = false ∧ (s.rfOf 1).silent = false ∧ s.portStarts (50 + 1) = true ∧
       (t.rfOf 1).result = some (0, 0, 0) ∧ s.rfCheck 1 (exch 5 0 0) = none ∧ s.rfCheck 1 (exch 7 0 0) = some (St.param, 1) ∧ s.rfModeOf 1 = 1 ∧
       ((t.updRf 1 (fun u => { u with cut := true })).rfOf 1).cut = true ∧ ((t.updRf 1 (fun u => { u with silent := true })).rfOf 1).silent = true ∧
       (t.updRf 1 (fun u => { u with silent := true })).portStarts (50 + 1) = true) ∧
    (((reading []).rfOf 1).queue = [] ∧ ((reading []).setF (Fld.RF_STAT_FON 1) 1).flag (Fld.RF_STAT_FON 1) = true) := by
  and_intros <;> decide +kernel

/-- Front end 1 as an emulated tag in a state, with what it holds. -/
def tagged (st : Nat) (u : RfUnit) : State :=
  ((((served 51 up).setF (Fld.RF_STAT_ACTIVE 1) 2).setF (Fld.RF_STAT_FIELD 1) 1).setTstate 1 st).setRf 1 u
/-- A tag with a UID of 4 bytes. -/
def uid4 : RfUnit := { uid := [8#8, 1#8, 2#8, 3#8] }
/-- A tag with a UID of 7 bytes. -/
def uid7 : RfUnit := { uid := [4#8, 1#8, 2#8, 3#8, 4#8, 5#8, 6#8] }
theorem meets_EmulatedTagAnswersInItsStates :
    up.tagHears 1 = false ∧ (∀ st ∈ [1, 2, 3, 4, 5, 6, 7], (tagged st uid4).tagHears 1 = true ∧ (tagged st uid4).tstate 1 = st) ∧
    (tagged 2 uid4).rfOf 1 = uid4 ∧ uid4.level = 0 ∧ 2 ≤ uid4.levelBytes.length ∧ uid4.levelBytes ≠ [] ∧ uid4.uid.length ≠ 7 ∧
    (tagged 2 uid7).tagHears 1 = true ∧ (tagged 2 uid7).rfOf 1 = uid7 ∧ uid7.uid.length = 7 ∧ uid7.cl1 = false ∧ uid7.level = 0 ∧
    ({ uid7 with cl1 := true } : RfUnit).level = 1 ∧ (tagged 2 { uid7 with cl1 := true }).tagHears 1 = true ∧
    (3 : Fin 4).val ≤ ((tagged 5 uid4).setF (Fld.RF_CFG_EMURATE 1) 3).getF (Fld.RF_CFG_EMURATE 1) ∧
    ((tagged 5 uid4).setF (Fld.RF_CFG_EMURATE 1) 3).tagHears 1 = true := by
  and_intros <;> decide +kernel

theorem meets_TagCommandsAndAuthentication :
    ((tagged 5 uid4).tagPermits 1 3 0 = false ∧ ((tagged 5 uid4).setReg (Reg.RF_TACC0 1) 5#32).tagPermits 1 3 0 = true ∧
      ((tagged 5 uid4).setReg (Reg.RF_TACC0 1) 5#32).tagPermits 1 3 1 = true ∧ ((tagged 5 uid4).setReg (Reg.RF_TACC0 1) 5#32).tstate 1 = 5 ∧
      (1 : Nat) + 256 * 4 > 1023) ∧
    (let s := ((tagged 5 uid4).setReg (Reg.RF_TPWD 1) 0x12345678#32).setF (Fld.RF_CFG_PWDLIM 1) 3
     (tagged 5 uid4).reg (Reg.RF_TPWD 1) = 0 ∧ s.reg (Reg.RF_TPWD 1) ≠ 0 ∧ (s.rfOf 1).pwdFails < s.getF (Fld.RF_CFG_PWDLIM 1) ∧
       ofLe [0x78#8, 0x56#8, 0x34#8, 0x12#8] = (s.reg (Reg.RF_TPWD 1)).toNat ∧
       s.getF (Fld.RF_CFG_PWDLIM 1) ≤ ((s.updRf 1 (fun u => { u with pwdFails := 3 })).rfOf 1).pwdFails) ∧
    (let u := { uid4 with key := zeros 16, ra := zeros 16, rb := zeros 16 }
     let tr := (aesCmac u.key (0x52#8 :: u.rb ++ u.ra)).take 8
     ((tagged 5 u).rfOf 1).key ≠ [] ∧ ((tagged 5 uid4).rfOf 1).key = [] ∧ (tagged 5 u).rngHealthy = false ∧
       ((tagged 5 u).setF Fld.RNG_STAT_HEALTHY 1).rngHealthy = true ∧ u.rb ≠ [] ∧ tr.length = 8 ∧ tr ≠ zeros 8) ∧
    (let u := { uid4 with key := zeros 16, ks := zeros 16 }
     let s := (tagged 7 u).setReg (Reg.RF_TACC0 1) 5#32
     s.tstate 1 = 7 ∧ (u.mac 0x43#8 [0x10#8, 3#8, 0#8]).length = 4 ∧ u.mac 0x43#8 [0x10#8, 3#8, 0#8] ≠ zeros 4 ∧ s.tagPermits 1 3 0 = true) ∧
    (tagged 4 uid4).tstate 1 < 5 := by
  and_intros <;> decide +kernel

/-- A blob that a port has taken a key from. -/
def broughtKey (r : Except (Nat × Nat) (List Byte × State)) : Bool := match r with | .ok _ => true | .error _ => false
theorem meets_TagKeysStagingAndWindow :
    (let s := jobOn (served 51 up) 0x605 []
     let b := s.drainStores 0
     let key := b.portKey 0 0x80000200 (b.getF (Fld.RF_TKEYIDX_INDEX 1)) (b.getF (Fld.RF_CFG_TENANT 1)) (· == 1)
     accesses s 0 (Reg.RF_TKEY 1) .store = true ∧ accesses s 0 (Reg.RF_TSTG 1 7) .store = true ∧
       accesses s 0 (0x400000 + 0x4000 * 1 + 4 * 7) .load = true ∧ b.isSupervisor 0 = true ∧ b.armedJob 0 = some (aJob 0x605) ∧ (aJob 0x605).src ≠ .load ∧
       broughtKey key = false ∧ b.ownsTenant 0 (b.getF (Fld.RF_CFG_TENANT 1)) = true ∧ (aJob 0x605).frameRoom 16 = true ∧ b.portOn (50 + 1) = true ∧
       (b.setMreg 0 (Reg.RF_TSTG 1 7) 0).mreg 0 (Reg.RF_TSTG 1 5) = 0 ∧ (b.setMreg 0 (Reg.RF_TSTG 1 7) 0).mreg 0 (Reg.RF_TSTG 1 6) = 0 ∧
       ((b.setMreg 0 (Reg.RF_TSTG 1 5) 1).setMreg 0 (Reg.RF_TSTG 1 7) 0).mreg 0 (Reg.RF_TSTG 1 5) ≠ 0) ∧
    (let s := up.updPair 5 (inRing 3)
     let b := s.drainStores 5
     accesses s 5 (Reg.RF_TKEY 1) .store = true ∧ accesses s 5 (Reg.RF_TSTG 1 7) .store = true ∧
       accesses s 5 (0x400000 + 0x4000 * 1 + 4 * 7) .load = true ∧ b.isSupervisor 5 = false ∧ b.armedJob 5 = none ∧
       b.ownsTenant 5 (b.getF (Fld.RF_CFG_TENANT 1)) = false) := by
  and_intros <;> decide +kernel

/-! ## Heads, contact cards, actuation outputs -/

/-- Head 3 on an enabled port, with what it holds. -/
def heading (u : HeadUnit) (present keyed : Bool) : State :=
  (((served 13 up).setPresent 3 present).setF (Fld.HEAD_STAT_KEYED 3) (b2n keyed)).setHead 3 u

theorem meets_HeadsAreProbedAndKeyed :
    up.portOn (10 + 3) = false ∧ (heading {} false false).portOn (10 + 3) = true ∧ (heading {} false false).headPresent 3 = false ∧
    (due up.beatNow 32 (up.headOf 3).probeAt = true ∧ due up.beatNow 32 (some up.beatNow) = false ∧
      (heading {} false false).headOf 3 = {} ∧ ((heading {} false false).headOf 3).probing = false) ∧
    (let s := heading { probing := true, misses := 2, notices := [(1, [5#8])] } true true
     (s.headOf 3).probing = true ∧ s.headPresent 3 = true ∧ (s.headOf 3).misses = 2) ∧
    (let s := heading { probing := true, hid := zeros 16 } true false
     s.portOn (10 + 3) = true ∧ (s.headOf 3).probing = true ∧ s.headPresent 3 = true ∧ (s.headOf 3).hid = zeros 16 ∧ (zeros 16).length = 16) ∧
    (let s := heading { rd := zeros 16, key := zeros 16 } true false
     s.portOn (10 + 3) = true ∧ (s.headOf 3).rd ≠ [] ∧ (zeros 15).length ≠ 16) ∧ (up.headOf 3).rd = [] ∧
    (let s := jobOn (served 13 up) 0x604 []
     let b := s.drainStores 0
     let key := b.portKey 0 0x80000200 (b.getF (Fld.HEAD_HKEYIDX_INDEX 3)) (b.getF (Fld.HEAD_CFG_TENANT 3)) isAes
     accesses s 0 (Reg.HEAD_HKEY 3) .store = true ∧ b.isSupervisor 0 = true ∧ b.armedJob 0 ≠ none ∧ broughtKey key = false) := by
  and_intros <;> decide +kernel

theorem meets_HeadCommandsAndNotices :
    (let s := (heading { rx := some 0 } true true).setF (Fld.HEAD_CFG_BOUND 3) 1
     let got := s.updHead 3 (fun u => { u with rx := some 1 })
     let check := fun h params => got.headerCheck h params 968 0 0 (.head 3) (got.flag (Fld.HEAD_CFG_BOUND 3) && cmdTenant h ==
      got.getF (Fld.HEAD_CFG_TENANT 3)) (got.headOpOk 3 params)
     s.portStarts (10 + 3) = true ∧ s.headKeyed 3 = true ∧ (s.headOf 3).rx.getD 0 + 1 = 1 ∧ s.headOut 3 < 8 ∧
       headCmdLenOk (header 0x100 0 7 0) [] = true ∧ headCmdLenOk [0] [] = false ∧
       check (header 0x100 0 7 0) [] = none ∧ check (header 0x100 0 7 5) [] = some (St.param, 5) ∧
       (let t : State := { s with taken := List.replicate 8 ⟨.head 3, 1, 0, false, 0, 0x100, 0, false, false, 0, none, false, false, none⟩ }
        8 ≤ t.headOut 3) ∧
       up.portStarts (10 + 3) = false ∧ (s.setF (Fld.HEAD_STAT_KEYED 3) 0).headKeyed 3 = false ∧ (5 : Nat) ≠ (s.headOf 3).rx.getD 0 + 1) ∧
    (let at_ := fun n base => placed 0x100 [n, 0x80000200#32, 0, 0, 0, 0, 0, 0] (jobOn base 0x204 [])
     let s := at_ 4 (served 13 up)
     let b := s.drainStores 0
     let r : EngReq := ⟨0, 0, true, 0, 0x100, []⟩
     accesses s 0 (Reg.HEAD_STAGE 3) .store = true ∧ b.armedJob 0 = some (aJob 0x204) ∧ (aJob 0x204).src ≠ .load ∧ b.mayNotice 0 3 = true ∧
       r.allows 0x80000100 32 .load = true ∧ (aJob 0x204).frameRoom 4 = true ∧ b.portWords r 32 = [4, 0x80000200#32, 0, 0, 0, 0, 0, 0] ∧
       ((at_ 0 up).drainStores 0).portWords r 32 = [0, 0x80000200#32, 0, 0, 0, 0, 0, 0] ∧ r.allows 0x80000200 4 .load = true ∧
       r.allows 0x10000 4 .load = false ∧ ((at_ 4 up).drainStores 0).portOn (10 + 3) = false ∧ b.portOn (10 + 3) = true ∧
       b.noticePlaces 3 < 16 ∧ broughtBlock (State.portRead 32 b (10 + 3) 0x80000200 4).2 4 = true ∧
       broughtBlock (State.portRead 32 ({ b with guards := [] } : State) (10 + 3) 0x80000200 4).2 4 = false ∧
       16 ≤ ((b.updHead 3 (fun u => { u with notices := List.replicate 16 (1, []) }))).noticePlaces 3) := by
  and_intros <;> decide +kernel

/-- The words of an exchange with a card. -/
def scWords (op n c : Nat) : List Word := [wd op, wd n, if n = 0 then 0 else 0x80000200#32, if c = 0 then 0 else 0x80000400#32, wd c, 0, 0, 0]
/-- Contact card port 1, its card in a state, with a queue. -/
def carded (st : Nat) (q : List PortExch) : State :=
  ((((served 55 up).setF (Fld.SC_STAT_STATE 1) st).setReg (Reg.SC_XLIMIT 1) 0xFFFFFFFF#32).setF (Fld.SC_CFG_CLASSES 1) 1).setSc 1 { queue := q }
/-- The conditions of `State.ScRuns`, as a truth value. -/
def scRuns (s : State) (n op : Nat) (x : PortExch) : Bool :=
  (s.scOf n).queue.head? == some x && (s.scOf n).result.isNone && s.portStarts (54 + n) && descOp x.words == op && (s.scCheck n x).isNone
theorem scRuns_of {s : State} {n op : Nat} {x : PortExch} (h : scRuns s n op x = true) : s.ScRuns n op x := by
  simp only [scRuns, Bool.and_eq_true, Option.isNone_iff_eq_none, beq_iff_eq] at h
  obtain ⟨⟨⟨⟨a, b⟩, c⟩, d⟩, e⟩ := h
  exact ⟨a, b, c, d, e⟩
/-- An exchange of pair 0 with a card. -/
def cardExch (op n c : Nat) : PortExch := ⟨⟨0, 0, true, 0, 0x100, []⟩, scWords op n c⟩

theorem meets_ContactCardExchanges :
    (let r : EngReq := ⟨0, 0, true, 0, 0x100, []⟩
     let b := (carded 0 []).drainStores 0
     accesses (carded 0 []) 0 (Reg.SC_SUBMIT 1) .store = true ∧ accesses up 0 (Reg.SC_SUBMIT 1) .store = true ∧ b.portSubmission 0 32 0x80000100#32 false = some r ∧
       b.isSupervisor 0 = true ∧ b.portOn (54 + 1) = true ∧ (up.drainStores 0).portSubmission 0 32 0x80000100#32 false = some r ∧
       (up.drainStores 0).portOn (54 + 1) = false) ∧
    (let s := up.updPair 5 (inRing 3)
     (∃ r, (s.drainStores 5).portSubmission 5 32 0x80000100#32 false = some r) ∧ accesses s 5 (Reg.SC_SUBMIT 1) .store = true ∧ (s.drainStores 5).isSupervisor 5 = false) ∧
    scRuns (carded 0 [cardExch 1 0 0]) 1 1 (cardExch 1 0 0) = true ∧ (carded 0 [cardExch 1 0 0]).classPermitted 1 1 = true ∧
    (carded 0 [cardExch 1 0 0]).classPermitted 1 2 = false ∧
    (let s := carded 2 [cardExch 2 5 16]
     scRuns s 1 2 (cardExch 2 5 16) = true ∧ broughtBlock (State.portRead 300 s (54 + 1) 0x80000200 5).2 5 = true ∧
       broughtBlock (State.portRead 300 ({ s with guards := [] } : State) (54 + 1) 0x80000200 5).2 5 = false ∧
       (State.portWrite 300 s (54 + 1) 0x80000400 [0x90#8, 0#8]).2 = true ∧ s.flag (Fld.SC_STAT_T1 1) = false ∧
       (s.setF (Fld.SC_STAT_T1 1) 1).flag (Fld.SC_STAT_T1 1) = true ∧ scRuns (s.setF (Fld.SC_STAT_T1 1) 1) 1 2 (cardExch 2 5 16) = true) ∧
    scRuns (carded 2 [cardExch 3 0 0]) 1 3 (cardExch 3 0 0) = true ∧
    (let s := (carded 2 [cardExch 3 0 0]).updSc 1 (fun u => { u with result := some (0, 0, 0) })
     (s.scOf 1).queue = [cardExch 3 0 0] ∧ (s.scOf 1).result = some (0, 0, 0) ∧ (s.scOf 1).silent = false ∧ s.portStarts (54 + 1) = true ∧
       (s.setF (Fld.PG_UCTL_ENABLE 55) 0).portStarts (54 + 1) = false) := by
  refine ⟨?_, ⟨⟨⟨5, 5, false, 3, 0x100, open_⟩, ?_⟩, ?_⟩, ?_⟩ <;> and_intros <;> decide +kernel

/-- Output 2 on an enabled port, its pulses at most 100000 cycles long, with what it holds. -/
def pulsing (a : ActOutput) : State := ((served 58 up).setReg (Reg.ACT_MAXLEN 2) 100000).setAct 2 a
theorem meets_PulsesAreStagedDrivenAndReadBack :
    (let s := { (pulsing {}).setMreg 0 Reg.ACT_STG0 2 with jobs := [aJob 0x204] }
     let b := s.drainStores 0
     accesses s 0 Reg.ACT_STG1 .store = true ∧ b.armedJob 0 = some (aJob 0x204) ∧ (aJob 0x204).src ≠ .load ∧ (b.mreg 0 Reg.ACT_STG0).toNat = 2 ∧
       b.mayPulse 0 2 = true ∧ (aJob 0x204).pulses.length < 4 ∧ b.pulseRefusal (aJob 0x204) 2 100000 = none ∧
       b.pulseRefusal (aJob 0x204) 2 100001 = some (St.range, 8) ∧ b.getF (Fld.ACT_CFG_SETTLE 2) + 25000 ≤ 100000) ∧
    (up.drainStores 0).armedJob 0 = none ∧ accesses up 0 Reg.ACT_STG1 .store = true ∧
    (((pulsing { queue := [(1, 50000)] }).actOf 2).queue ≠ [] ∧ ((pulsing { queue := [(1, 50000)] }).actOf 2).rose = none) ∧ (up.actOf 2).queue = [] ∧
    (let a : ActOutput := { queue := [(1, 50000)], rose := some 10 }
     (pulsing a).actOf 2 = a ∧ a.queue = [(1, 50000)] ∧ a.rose = some 10 ∧ a.fell = none ∧ (9 : Nat) ≠ 10 + 50000) ∧
    ((pulsing {}).onMain = true ∧ (pulsing {}).portOn (56 + 2) = true ∧ (pulsing {}).actOf 2 = {}) ∧
    (let s := (pulsing { queue := [(1, 50000)], rose := some 10 }).setF (Fld.ACT_CFG_SETTLE 2) 100
     s.onMain = true ∧ 10 + s.getF (Fld.ACT_CFG_SETTLE 2) ≤ 110 ∧ 109 < 10 + s.getF (Fld.ACT_CFG_SETTLE 2)) := by
  and_intros <;> decide +kernel

/-! ## Weave and mirrors -/

/-- Link 2 in service and in sync, keyed or not, with what it holds. -/
def onLink (keyed : Bool) (x : WeaveLink) (base : State := up) : State :=
  (((base.setF (Fld.PG_UCTL_ENABLE 4) 1).setF (Fld.WEAVE_LSTAT_SYNC 2) 1).setF (Fld.WEAVE_LSTAT_KEYED 2) (b2n keyed)).setLink 2 x
/-- A good keyed frame from node 5 to a node, with an FSEQ and HOPS. -/
def framed (dst : Nat) (fseq : Word := 1) (hops : Nat := 1) : KeyedFrame := ⟨true, true, fseq, 5, dst, hops⟩
/-- The conditions of `State.Accepts`, as a truth value. -/
def accepts (s : State) (l : Nat) (fr : KeyedFrame) (khello : Bool) : Bool :=
  s.receives l && fr.crcOk && fr.tagOk && (s.linkKeyed l || (khello && (s.weaveLink l).lk != [])) &&
  fr.fseq.toNat == ((s.weaveLink l).rx.map (· + 1)).getD 0 && decide (fr.fseq.toNat < 0xFF000000)
theorem accepts_of {s : State} {l : Nat} {fr : KeyedFrame} {k : Bool} (h : accepts s l fr k = true) : s.Accepts l fr k := by
  simp only [accepts, Bool.and_eq_true, Bool.or_eq_true, beq_iff_eq, bne_iff_ne, decide_eq_true_eq] at h
  obtain ⟨⟨⟨⟨⟨a, b⟩, c⟩, d⟩, e⟩, g⟩ := h
  exact ⟨a, b, c, d, e, g⟩
/-- Link 2 keyed, a frame accepted before. -/
def keyedLink : State := onLink true { lk := zeros 16, rx := some 0 }
/-- A member of a basket, node 1, for which node 5 is reachable over link 2. -/
def member (base : State := keyedLink) : State :=
  ((base.setF Fld.WEAVE_BKEYIDX_LOADED 1).setF Fld.WEAVE_CFG_NODE 1).setMap 5 { state := 1, link := 2, hops := 1, prio := 7, elig := true }

theorem meets_WeaveLinksAreKeyed :
    (let s := onLink false {}
     let f : HelloFrame := ⟨true, 5, 1, true, true, 0, 9, 3⟩
     let m := member s
     s.receives 2 = true ∧ s.linkKeyed 2 = false ∧ keyedLink.linkKeyed 2 = true ∧ m.receives 2 = true ∧ m.helloConflict f = false ∧
       m.helloConflict { f with node := 1 } = true ∧ s.member = false ∧ s.helloConflict f = false ∧ m.member = true ∧
       f.basket.toNat = (m.reg (Reg.WEAVE_BASKET 0)).toNat + 2 ^ 32 * (m.reg (Reg.WEAVE_BASKET 1)).toNat) ∧
    accepts (onLink false { lk := zeros 16 }) 2 (framed 0xFFFF 0) true = true ∧ accepts keyedLink 2 (framed 0xFFFF) false = true ∧
    (keyedLink.weaveLink 2).rekeyRn = [] ∧ (keyedLink.took 2 (framed 0xFFFF)).rngHealthy = false ∧
    ((keyedLink.setF Fld.RNG_STAT_HEALTHY 1).took 2 (framed 0xFFFF)).rngHealthy = true ∧
    accepts (keyedLink.setF Fld.RNG_STAT_HEALTHY 1) 2 (framed 0xFFFF) false = true ∧ accepts (onLink true { lk := zeros 16, rekeyRn := zeros 16 }) 2 (framed 0xFFFF 0) false = true ∧
    ((onLink true { lk := zeros 16, rekeyRn := zeros 16 }).weaveLink 2).rekeyRn ≠ [] ∧ up.receives 2 = false ∧
    (framed 0xFFFF 7).fseq.toNat ≠ ((keyedLink.weaveLink 2).rx.map (· + 1)).getD 0 := by
  and_intros <;> decide +kernel

theorem meets_WeaveTimersAndBasketKey :
    (let s := (onLink false {}).setF Fld.RNG_STAT_HEALTHY 1
     s.linkOn 2 = true ∧ s.linkKeyed 2 = false ∧ s.rngHealthy = true ∧ due s.beatNow 16 (s.weaveLink 2).helloAt = true ∧
       due s.beatNow 16 (some s.beatNow) = false ∧ (onLink false {}).rngHealthy = false) ∧
    (keyedLink.linkOn 2 = true ∧ keyedLink.linkKeyed 2 = true ∧ due keyedLink.beatNow 16 (keyedLink.weaveLink 2).khelloAt = true ∧
      keyedLink.routeDue 2 = true ∧ (onLink true { routeAt := some (0, 0) }).routeDue 2 = false) ∧
    (let s : State := { keyedLink with beat := { up.beat with count := 64#48 } }
     s.hasNeighbour 2 = true ∧ (onLink false {}).hasNeighbour 2 = false ∧ (s.weaveLink 2).heard + 64 ≤ s.beatNow ∧ keyedLink.beatNow < (keyedLink.weaveLink 2).heard + 64) ∧
    (let x : WeaveLink := { rekeyRn := zeros 16, rekeyAt := 0 }
     let s : State := { onLink true x with beat := { up.beat with count := 16#48 } }
     (s.weaveLink 2).rekeyRn ≠ [] ∧ (s.weaveLink 2).rekeyAt + 16 ≤ s.beatNow ∧ (onLink true x).beatNow < x.rekeyAt + 16) ∧
    (((onLink false {}).setF Fld.WEAVE_BKEYIDX_LOADED 1).setF Fld.WEAVE_CFG_ELIG 1).isMaster = true ∧ up.isMaster = false ∧
    due up.beatNow 1024 up.weave.timeAt = true ∧
    (let s := jobOn up 0x700 []
     let b := s.drainStores 0
     let key := b.portKey 0 0x80000200 (b.getF Fld.WEAVE_BKEYIDX_INDEX) (b.getF Fld.WEAVE_CFG_TENANT) (· == 3)
     accesses s 0 Reg.WEAVE_BKEY .store = true ∧ accesses s 0 Reg.WEAVE_MAPIDX .store = true ∧ b.isSupervisor 0 = true ∧
       b.armedJob 0 ≠ none ∧ broughtKey key = false) := by
  and_intros <;> decide +kernel

/-- The member whose time master, node 5, is upstream on link 2. -/
def downstream : State := (member ((keyedLink.setF (Fld.WEAVE_LSTAT_UPSTREAM 2) 1).setF Fld.WEAVE_CFG_PRIO 1))
theorem meets_RoutesAndBasketTime :
    accepts downstream 2 (framed 0xFFFF) false = true ∧ (downstream.took 2 (framed 0xFFFF)).flag (Fld.WEAVE_LSTAT_UPSTREAM 2) = true ∧
    (downstream.took 2 (framed 0xFFFF)).computedMaster = some 5 ∧ (keyedLink.took 2 (framed 0xFFFF)).flag (Fld.WEAVE_LSTAT_UPSTREAM 2) = false ∧
    downstream.weave.btime = none ∧
    (let s : State := { downstream with weave := { downstream.weave with btime := some 2048, marks := 3 } }
     let t : State := { downstream with weave := { downstream.weave with btime := some 2048, marks := 1024 } }
     accepts s 2 (framed 0xFFFF) false = true ∧ (s.took 2 (framed 0xFFFF)).computedMaster = some 5 ∧ s.weave.btime ≠ none ∧ s.weave.marks ≠ 1024 ∧
       s.receives 2 = true ∧ s.flag (Fld.WEAVE_LSTAT_UPSTREAM 2) = true ∧ s.weave.btime = some 2048 ∧ t.weave.marks = 1024 ∧
       s.flag Fld.BEAT_STATUS_BASKET_QUAL = false ∧ (s.setF Fld.BEAT_STATUS_BASKET_QUAL 1).flag Fld.BEAT_STATUS_BASKET_QUAL = true) ∧
    up.receives 2 = false := by
  and_intros <;> decide +kernel

theorem meets_RoutedFramesAndMemberCommands :
    let t := (member).took 2 (framed 1)
    let check := fun h => t.headerCheck h [] 968 0 (t.nodeSeq 5) (.node 5) (cmdTenant h == t.getF Fld.WEAVE_CFG_TENANT)
      (fun o => o.code / 0x100 == 7 || o.code == 0x400)
    accepts (member) 2 (framed 1) false = true ∧ (member).ownNode = 1 ∧ accepts (member) 2 (framed 5) false = true ∧
    accepts (member) 2 (framed 1 1 16) false = true ∧ t.quarantined = false ∧ ((member).took 2 (framed 5)).reachable 5 = true ∧
    ((member).took 2 (framed 9)).reachable 9 = false ∧
    (let q := (member).setF Fld.TAMP_STAT_QUAR 1
     accepts q 2 (framed 1) false = true ∧ (q.took 2 (framed 1)).quarantined = true) ∧
    (header 0x700 0 7 0).length = 8 ∧ hdrLen (header 0x700 0 7 0) = 0 ∧ check (header 0x700 0 7 0) = none ∧
    check (header 0x100 0 7 0) = some (St.policy, 2) ∧ t.taken.countP (fun x => x.src == .node 5) < 8 ∧
    (let w : State := { (member) with taken := List.replicate 8 ⟨.node 5, 1, 0, false, 0, 0x100, 0, false, false, 0, none, false, false, none⟩ }
     8 ≤ (w.took 2 (framed 1)).taken.countP (fun x => x.src == .node 5)) := by
  and_intros <;> decide +kernel

/-- The member, with entry 40 and a mirror entry at 41 that pairs it with entry 60 of node 5 in a state, at HLSN 7. -/
def paired (st : Nat) : State :=
  ((member).setEntry 40 ⟨0, false, false, false, true, .counter 5 1⟩ 3).setEntry 41 (mirrorEntry 0 40 5 60 st 7) 3
/-- An image of counter entry i. -/
def anImage (i : Nat) : List Byte := Entry.bytes ⟨0, false, false, false, true, .counter 8 1⟩ i

theorem meets_MirrorUpdatesAndAcknowledgements :
    accepts (paired 4) 2 (framed 1) false = true ∧ (framed 1).dst = (paired 4).ownNode ∧
    (let t := (paired 4).took 2 (framed 1)
     t.quarantined = false ∧ t.copyFor 5 60 = some (40, 41, 7) ∧ t.copyFor 5 61 = none ∧
       (Entry.parse 60 (anImage 60)).isSome = true ∧ (Entry.parse 61 (anImage 61)).isSome = true ∧ t.copyPending 5 61 = false ∧
       t.allocIndex 1 [] = some 16 ∧ t.allocIndex 4 [16] = some 17) ∧
    ((((paired 4).setF Fld.TAMP_STAT_QUAR 1).took 2 (framed 1)).quarantined = true) ∧
    (let s : State := { paired 1 with ledger := { (paired 1).ledger with unacked := [40], closing := some ⟨9, [], false⟩ } }
     let t := s.took 2 (framed 1)
     t.awaitsAck 40 = true ∧ (t.ledger.closing.map (·.lsn)).getD 0 = 9 ∧ (t.mirrorOf 40).map (·.2.1) = some 5 ∧ s.awaitsAck 40 = true ∧
       40 ∉ s.ledger.resent) ∧
    (let h : Handover := ⟨40, 41, 5, 5, 60, 1, 2⟩
     let s : State := { paired 3 with weave := { (paired 3).weave with handovers := [h] } }
     let t := s.took 2 (framed 1)
     t.awaitsAck 40 = false ∧ t.weave.handovers.find? (fun h => h.entry == 40 && h.node == 5) = some h ∧ s.awaitsAck 40 = false ∧
       s.weave.handovers.find? (fun h => h.entry == 40 && decide (2 ≤ h.sends)) = some h) ∧
    (let h : Handover := ⟨40, 41, 5, 5, 60, 1, 1⟩
     let s : State := { paired 3 with weave := { (paired 3).weave with handovers := [h] } }
     s.awaitsAck 40 = false ∧ s.weave.handovers.find? (fun h => h.entry == 40 && h.sends == 1) = some h) ∧
    (paired 4).weave.handovers = [] ∧ (paired 4).awaitsAck 40 = false := by
  and_intros <;> decide +kernel

theorem meets_MirrorsResynchronise :
    (let t := (paired 4).took 2 (framed 1)
     accepts (paired 4) 2 (framed 1) false = true ∧ t.quarantined = false ∧ t.copyFor 5 60 = some (40, 41, 7)) ∧
    (let t := (paired 1).took 2 (framed 1)
     t.copyFor 5 60 = none ∧ (t.entry 40).mir = true ∧ t.mirrorState 40 ≠ 4) ∧
    (let t := (paired 5).took 2 (framed 1)
     t.mirrorOf 40 = some (41, 5, 60, 5, 7) ∧ (7 : Nat) < 9 ∧ (Entry.parse 60 (anImage 60)).isSome = true) := by
  and_intros <;> decide +kernel

/-! ## Frames, a double fault, the step

A statement over several parts is met where its parts are. -/

theorem meets_StepRunsTheFrontCommand : up.pending = [] ∧ ({ up with pending := [.beatTick 5] } : State).pending = [.beatTick 5] := ⟨rfl, rfl⟩

theorem meets_DoubleFaultReachesRingOne :
    let x := (cpu .wait (fun x => x.setPstat 2 false false true false)).pair 0
    (63 : Nat) < 64 ∧ x.exl = true ∧ x.df = false := by decide +kernel

theorem meets_RegisterInstructionsChangeOnlyTheirs :
    fits (.alu .addv 3 1 2 0) = true ∧ ((cpu (.alu .addv 3 1 2 0)).pair 0).pm = false ∧ fits (.imm .addi 5 6 0xFFFE) = true ∧
    fits (.branch .ne 1 2 3) = true ∧ fits (.branchImm .lt 1 0xFF 1) = true ∧ fits (.jump true 1) = true ∧
    (fits (.jumpReg true 5 4) = true ∧ (((cpu (.jumpReg true 5 4)).pair 0).greg 5 + (4#16).signExtend 32) &&& 3#32 = 0#32) ∧
    fits (.mul .div 1 2) = true ∧ ((cpu (.mul .div 1 2)).pair 0).pm = false := by decide +kernel

/-- A load whose word fails. -/
def fails (r : Loaded) : Bool := match r with | .fails _ _ => true | _ => false
theorem meets_LoadsAndStoresChangeOnlyTheirs :
    (let s := cpu (.load .ldw 7 0 0x200)
     let a := ((s.pair 0).greg 0 + (0x200#16).signExtend 32).toNat
     fits (.load .ldw 7 0 0x200) = true ∧ (s.begun 0 (.load .ldw 7 0 0x200)).dataExc 0 a 4 .load = none ∧
       spaceOf a = .loc ∧ fails ((s.begun 0 (.load .ldw 7 0 0x200)).loadValue 0 a 4 .clean) = false ∧ (s.pair 0).stores = []) ∧
    (let s := cpu (.store .stw 7 0 0x200)
     let a := ((s.pair 0).greg 0 + (0x200#16).signExtend 32).toNat
     fits (.store .stw 7 0 0x200) = true ∧ (s.begun 0 (.store .stw 7 0 0x200)).dataExc 0 a 4 .store = none ∧
       (s.begun 0 (.store .stw 7 0 0x200)).isDevice 0 a 4 = false ∧
       (s.pair 0).stores.length ≤ 3) ∧
    (((up.updPair 0 (fun x => { x with stores := [⟨0x200, 4, 5, false⟩] })).pair 0).stores[0]?).isSome = true := by decide +kernel

theorem meets_ZaendWordsAndInstructionsAgree :
    (Zaend.long .cteq 1 2 3 4).wf = true ∧ Zaend.decode 0b000010_00001_00010_00011_00100_100010#32 = some (.long .cteq 1 2 3 4) := by decide

/-! ## Words and values from outside the model -/

-- R88, R95, R96: the fields of the RR and RI formats, bit by bit
theorem test_word_xor : Zaend.decode 0b000001_00100_00101_00110_00000_000110#32 = some (.alu .xor_ 4 5 6 0) := by decide
theorem test_word_lui : Zaend.decode 0b001010_00100_00000_1000000000000001#32 = some (.imm .lui 4 0 0x8001) := by decide
theorem test_word_lui_ra : Zaend.decode 0b001010_00100_00001_1000000000000001#32 = none := by decide
-- R97: loads and stores
theorem test_word_ldbu : Zaend.decode 0b010100_00100_00101_1111111111111111#32 = some (.load .ldbu 4 5 0xFFFF) := by decide
theorem test_word_sth : Zaend.decode 0b011001_00100_00101_0000000000000010#32 = some (.store .sth 4 5 2) := by decide
-- R99, R100: branches and jumps
theorem test_word_bgeu : Zaend.decode 0b100101_00100_00101_1000000000000000#32 = some (.branch .geu 4 5 0x8000) := by decide
theorem test_word_bgeui : Zaend.decode 0b101101_00100_10000000_0000000000001#32 = some (.branchImm .geu 4 0x80 1) := by decide
theorem test_word_jalr : Zaend.decode 0b011101_00000_00101_0000000000000100#32 = some (.jumpReg true 5 4) := by decide
-- R101, R105: the multiplier and the long instructions, whose registers differ
theorem test_word_clmul : Zaend.decode 0b000010_00000_00100_00101_00000_000011#32 = some (.mul .clmul 4 5) := by decide
theorem test_word_bcopy_same : Zaend.decode 0b000010_00001_00001_00011_00000_100001#32 = none := by decide
-- R108: the SYS format
theorem test_word_mts : Zaend.decode 0b111111_00000_00100_00010110_00000001#32 = some (.mts 4 0x16) := by decide
theorem test_word_eret : Zaend.decode 0b111111_00000_00000_00000000_00001010#32 = some .eret := by decide

-- FIPS 180-4: SHA-256 of "abc"
theorem test_sha256 : (sha256 [0x61#8, 0x62#8, 0x63#8]).take 8 = [0xBA#8, 0x78#8, 0x16#8, 0xBF#8, 0x8F#8, 0x01#8, 0xCF#8, 0xEA#8] := by
  decide +kernel
-- FIPS 197, appendix C.1: AES-128
theorem test_aes128 : aesEnc ((List.range 16).map byte) ((List.range 16).map (fun i => byte (17 * i))) =
    [0x69#8, 0xC4#8, 0xE0#8, 0xD8#8, 0x6A#8, 0x7B#8, 0x04#8, 0x30#8, 0xD8#8, 0xCD#8, 0xB7#8, 0x80#8, 0x70#8, 0xB4#8, 0xC5#8, 0x5A#8] := by
  decide +kernel
-- SP 800-67: three-key TDEA
theorem test_tdea : tdeaEnc [0x01#8, 0x23#8, 0x45#8, 0x67#8, 0x89#8, 0xAB#8, 0xCD#8, 0xEF#8, 0x23#8, 0x45#8, 0x67#8, 0x89#8, 0xAB#8, 0xCD#8, 0xEF#8,
    0x01#8, 0x45#8, 0x67#8, 0x89#8, 0xAB#8, 0xCD#8, 0xEF#8, 0x01#8, 0x23#8] [0x54#8, 0x68#8, 0x65#8, 0x20#8, 0x71#8, 0x75#8, 0x66#8, 0x63#8] =
    [0xA8#8, 0x26#8, 0xFD#8, 0x8C#8, 0xE5#8, 0x3B#8, 0x85#8, 0x5F#8] := by decide +kernel
-- the check values of CRC-32C and CRC-32 over "123456789"
theorem test_crc32c : crc32c ((List.range 9).map (fun i => byte (0x31 + i))) = 0xE3069283#32 := by decide +kernel
theorem test_crc32 : crc32 ((List.range 9).map (fun i => byte (0x31 + i))) = 0xCBF43926#32 := by decide +kernel
-- ISO/IEC 14443-3, annex B: CRC_A and CRC_B
theorem test_crcA : crcA [0#8, 0#8] = [0xA0#8, 0x1E#8] := by decide +kernel
theorem test_crcB : crcB [0#8, 0#8, 0#8] = [0xCC#8, 0xC6#8] := by decide +kernel

end Sys2Proof.Tests
end

section
/-! SUPPORT. The registers of chapter 02: what a store to BEAT.NOMINAL, BEAT.WDOG and BEAT.WDOG_KICK leaves in each of its cases
(R45, R54), and what the watchdog's expiry does. -/

namespace Sys2Proof.Machine

/-! ## NOMINAL -/

/-- MARGIN with its quotient written as the rounding up that R45 asks for. -/
theorem marginOf_eq (n : Nat) : marginOf n = max 20 ((920000 + cpbMin n - 1) / cpbMin n) := rfl

theorem nominalStore_admitted {s : State} {v : Word} (unlocked : s.flag Fld.BEAT_CTRL_LOCK = false)
    (low : 1000 ≤ fld 16 0 v) (high : fld 16 0 v ≤ 100000) :
    s.nominalStore v = ((s.setF Fld.BEAT_NOMINAL_HZ (fld 16 0 v)).setF Fld.BEAT_CPB_MIN_CYCLES (cpbMin (fld 16 0 v))).setF
      Fld.BEAT_MARGIN_BEATS (marginOf (fld 16 0 v)) := by
  simp [State.nominalStore, unlocked, Nat.not_lt.2 low, Nat.not_lt.2 high]

theorem nominalStore_ignored {s : State} {v : Word}
    (h : s.flag Fld.BEAT_CTRL_LOCK = true ∨ fld 16 0 v < 1000 ∨ 100000 < fld 16 0 v) : s.nominalStore v = s := by
  rcases h with locked | low | high
  · simp [State.nominalStore, locked]
  · simp [State.nominalStore, low]
  · simp [State.nominalStore, high]

/-- NOMINAL_WRITE of a master that may write: the store's state. -/
theorem exec_nominalWrite {s b : State} {m : Master} (v : Word) (h : s.Masters m.val Reg.BEAT_NOMINAL b) :
    exec (.nominalWrite m v) s = .next (b.nominalStore v) :=
  congrArg Host.Outcome.next (masterWrite_of h rfl)

/-! ## WDOG and WDOG_KICK -/

theorem wdogStore_starts {s : State} {v : Word} (off : s.flag Fld.BEAT_WDOG_EN = false) (en : bit 31 v = true)
    (limit : fld 23 0 v ≠ 0) :
    s.wdogStore v = ((s.setF Fld.BEAT_WDOG_LIMIT (fld 23 0 v)).setF Fld.BEAT_WDOG_EN 1).setWdog 0 := by
  simp [State.wdogStore, off, en, limit]

theorem wdogStore_limitOnly {s : State} {v : Word} (off : s.flag Fld.BEAT_WDOG_EN = false)
    (h : bit 31 v = false ∨ fld 23 0 v = 0) : s.wdogStore v = s.setF Fld.BEAT_WDOG_LIMIT (fld 23 0 v) := by
  rcases h with noEn | noLimit
  · simp [State.wdogStore, off, noEn]
  · simp [State.wdogStore, off, noLimit]

theorem wdogStore_ignored {s : State} (v : Word) (on : s.flag Fld.BEAT_WDOG_EN = true) : s.wdogStore v = s := by
  simp [State.wdogStore, on]

@[simp] theorem kickStore_key (s : State) : s.kickStore 0xB3A7#32 = s.setWdog 0 := if_pos rfl

theorem kickStore_ignored (s : State) {v : Word} (h : v ≠ 0xB3A7#32) : s.kickStore v = s := if_neg h

/-- WDOG_WRITE of a master that may write: the store's state. -/
theorem exec_wdogWrite {s b : State} {m : Master} (v : Word) (h : s.Masters m.val Reg.BEAT_WDOG b) :
    exec (.wdogWrite m v) s = .next (b.wdogStore v) :=
  congrArg Host.Outcome.next (masterWrite_of h rfl)

/-- WDOG_KICK of a master that may write: the store's state. -/
theorem exec_wdogKick {s b : State} {m : Master} (v : Word) (h : s.Masters m.val Reg.BEAT_WDOG_KICK b) :
    exec (.wdogKick m v) s = .next (b.kickStore v) :=
  congrArg Host.Outcome.next (masterWrite_of h rfl)

theorem exec_wdogExpire_reached {s : State} (on : s.flag Fld.BEAT_WDOG_EN = true)
    (reached : s.getF Fld.BEAT_WDOG_LIMIT ≤ s.beat.wdogCount) : exec .wdogExpire s = .next (s.deviceReset 0x8#32) := by
  change execWdogExpire s = _
  simp only [execWdogExpire, on, reached, decide_true, Bool.and_self, if_true]
  rfl

theorem exec_wdogExpire_early {s : State}
    (h : s.flag Fld.BEAT_WDOG_EN = false ∨ s.beat.wdogCount < s.getF Fld.BEAT_WDOG_LIMIT) : exec .wdogExpire s = .next s := by
  change execWdogExpire s = _
  rcases h with off | early
  · simp [execWdogExpire, off]
  · simp [execWdogExpire, Nat.not_le.2 early]

end Sys2Proof.Machine
end

section
/-! SUPPORT. What the parts of a Beat leave of the watchdog, and the count that a Beat adds to it (R54). -/

namespace Sys2Proof.Machine

/-- The watchdog is that of `s`, and so is the work that a Beat takes up: the commands waiting for a pair in SUPERVISOR (R134) and the
refresh (R317). -/
structure State.SameWatch (s t : State) : Prop where
  wdog : t.reg Reg.BEAT_WDOG = s.reg Reg.BEAT_WDOG
  count : t.beat.wdogCount = s.beat.wdogCount
  intake : t.intake = s.intake
  refresh : t.refresh = s.refresh

theorem State.SameWatch.refl (s : State) : s.SameWatch s := ⟨rfl, rfl, rfl, rfl⟩

theorem State.SameWatch.trans {s t u : State} (a : s.SameWatch t) (b : t.SameWatch u) : s.SameWatch u :=
  ⟨b.wdog.trans a.wdog, b.count.trans a.count, b.intake.trans a.intake, b.refresh.trans a.refresh⟩

theorem State.SameWatch.enabled {s t : State} (h : s.SameWatch t) : t.flag Fld.BEAT_WDOG_EN = s.flag Fld.BEAT_WDOG_EN := by
  unfold State.flag State.getF; rw [h.wdog]

theorem State.SameWatch.setWdog {s t : State} (h : s.SameWatch t) (n : Nat) : (s.setWdog n).SameWatch (t.setWdog n) :=
  ⟨h.wdog, rfl, h.intake, h.refresh⟩

/-- A write of any register but BEAT.WDOG. -/
theorem sameWatch_setReg (s : State) {o : Nat} (v : Word) (h : Reg.BEAT_WDOG ≠ o) : s.SameWatch (s.setReg o v) :=
  ⟨State.reg_setReg_ne s v h, rfl, rfl, rfl⟩

theorem sameWatch_setF (s : State) {f : FieldAt} (n : Nat) (h : Reg.BEAT_WDOG ≠ f.off) : s.SameWatch (s.setF f n) :=
  sameWatch_setReg s _ h

/-- A record of the Beat that keeps the watchdog's count. -/
theorem sameWatch_beat (s : State) {b : BeatUnit} (h : b.wdogCount = s.beat.wdogCount) : s.SameWatch { s with beat := b } :=
  ⟨rfl, h, rfl, rfl⟩

theorem sameWatch_foldl {α : Type} (f : State → α → State) (h : ∀ (s : State) a, s.SameWatch (f s a)) (l : List α) (s : State) :
    s.SameWatch (l.foldl f s) :=
  List.foldlRecOn l f (.refl s) fun t ht a _ => ht.trans (h t a)

/-! ## The parts of a Beat -/

theorem sameWatch_syncMeas (s : State) : s.SameWatch s.syncMeas :=
  sameWatch_setF s (f := Fld.BEAT_PERIOD_MEAS_XTAL) _ (by decide)

theorem sameWatch_freeStep (s : State) (t : Nat) : s.SameWatch (s.freeStep t) := by
  unfold State.freeStep
  split
  · exact sameWatch_setF s _ (by decide)
  · split
    · split
      · exact (sameWatch_beat s (b := { s.beat with aligning := none }) rfl).trans
          (sameWatch_setF _ (f := Fld.BEAT_STATUS_FREE) 0 (by decide))
      · exact .refl s
    · exact .refl s

theorem sameWatch_debugBeat (s : State) : s.SameWatch s.debugBeat := by
  unfold State.debugBeat
  dsimp only
  split
  · exact .refl s
  · exact sameWatch_setReg s _ (by decide)

theorem sameWatch_bootMs (s : State) (t : Nat) : s.SameWatch (s.bootMs t) := by
  unfold State.bootMs
  split
  · exact sameWatch_setF s _ (by decide)
  · exact .refl s

theorem sameWatch_freshBytes (s : State) (n : Nat) : s.SameWatch (s.freshBytes n).2 := ⟨rfl, rfl, rfl, rfl⟩

theorem wdog_ne_rngSrc (i : Nat) : Reg.BEAT_WDOG ≠ Reg.RNG_SRC i := by
  unfold Reg.BEAT_WDOG Reg.RNG_SRC; omega

theorem sameWatch_rngWindows (s : State) : s.SameWatch s.rngWindows :=
  sameWatch_foldl _ (fun t i => (sameWatch_freshBytes t 4).trans (sameWatch_setReg _ _ (wdog_ne_rngSrc i))) _ s

theorem sameWatch_sendMarks (s : State) (but : Nat) : s.SameWatch (s.sendMarks but) :=
  sameWatch_foldl (fun t k => t.emit (.beatMark k)) (fun _ _ => ⟨rfl, rfl, rfl, rfl⟩) _ s

/-- Without a refresh in progress the Beat ends no step of one. -/
theorem refreshBeat_idle {s : State} (h : s.refresh = none) : s.refreshBeat = s := by simp [State.refreshBeat, h]

/-- With no command waiting none is taken up. -/
theorem takeIntake_nil {s : State} (h : s.intake = []) : s.takeIntake = s := by
  unfold State.takeIntake
  split
  · rfl
  · rw [h]; cases s; cases h; rfl

/-! ## The count of a Beat -/

/-- What `countBeat` does before the watchdog counts. -/
def State.countedBeat (s : State) (t : Nat) : State :=
  let s := (if s.trusted then s else s.incSat Reg.BEAT_FREE_BEATS).freeStep t
  { s with beat := { s.beat with
    count := s.beat.count + 1, lastT := t, lastUntrusted := if s.trusted then s.beat.lastUntrusted else some (s.beat.count + 1).toNat } }

theorem countBeat_eq (s : State) (t : Nat) :
    s.countBeat t = (let u := s.countedBeat t
      if u.flag Fld.BEAT_WDOG_EN then u.setWdog (u.beat.wdogCount + 1) else u).syncMeas := rfl

theorem sameWatch_countedBeat (s : State) (t : Nat) : s.SameWatch (s.countedBeat t) := by
  have free : s.SameWatch (if s.trusted then s else s.incSat Reg.BEAT_FREE_BEATS) := by
    split
    · exact .refl s
    · exact sameWatch_setReg s _ (by decide)
  exact (free.trans (sameWatch_freeStep _ t)).trans (sameWatch_beat _ rfl)

/-- While EN is set a Beat adds one to the watchdog's count. -/
theorem countBeat_counts {s : State} (t : Nat) (on : s.flag Fld.BEAT_WDOG_EN = true) :
    (s.setWdog (s.beat.wdogCount + 1)).SameWatch (s.countBeat t) := by
  have kept := sameWatch_countedBeat s t
  rw [countBeat_eq]
  simp only [kept.enabled, on, if_true, kept.count]
  exact (kept.setWdog _).trans (sameWatch_syncMeas _)

/-- What follows the count in a Beat that has neither a refresh nor a waiting command to take up leaves the watchdog alone. -/
theorem exec_beatTick_sameWatch {s : State} {t : Nat} (inRange : s.beatInRange t = true) (idle : (s.countBeat t).refresh = none)
    (noneWaits : (s.countBeat t).intake = []) : ∃ u, exec (.beatTick t) s = .next u ∧ (s.countBeat t).SameWatch u := by
  have kept : (s.countBeat t).SameWatch (((s.countBeat t).debugBeat).bootMs t).rngWindows :=
    ((sameWatch_debugBeat _).trans (sameWatch_bootMs _ t)).trans (sameWatch_rngWindows _)
  refine ⟨_, rfl, ?_⟩
  simp only [inRange, Bool.not_true, Bool.false_eq_true, if_false, refreshBeat_idle (kept.refresh.trans idle),
    takeIntake_nil (kept.intake.trans noneWaits)]
  split
  · exact kept.trans (sameWatch_sendMarks _ 8)
  · exact kept

theorem exec_beatTick_wdogCount {s : State} {t : Nat} (inRange : s.beatInRange t = true) (on : s.flag Fld.BEAT_WDOG_EN = true)
    (noneWaits : s.intake = []) (idle : s.refresh = none) :
    ∃ u : State, exec (.beatTick t) s = .next u ∧ u.beat.wdogCount = s.beat.wdogCount + 1 := by
  have counted := countBeat_counts t on
  obtain ⟨u, hu, kept⟩ := exec_beatTick_sameWatch inRange (counted.refresh.trans idle) (counted.intake.trans noneWaits)
  exact ⟨u, hu, (counted.trans kept).count⟩

end Sys2Proof.Machine
end

section
/-! The statements of chapter 02 settled. -/

namespace Sys2Proof.Machine

/-- Settles O17, by the two cases of a store to BEAT.NOMINAL (R40, R45). -/
theorem nominalRateRecomputesItsValues : Obligations.NominalRateRecomputesItsValues := by
  intro s b m v h
  refine ⟨fun unlocked low high => ?_, fun refused => ?_⟩
  · rw [exec_nominalWrite v h, nominalStore_admitted unlocked low high, marginOf_eq, cpbMin]
  · rw [exec_nominalWrite v h, nominalStore_ignored refused]

/-- Settles O18: the stores to WDOG and WDOG_KICK, the Beat that counts, and the expiry (R54). -/
theorem watchdogStartsKicksAndExpires : Obligations.WatchdogStartsKicksAndExpires := by
  refine ⟨fun s b m v h => ⟨fun off en limit => ?_, fun off noStart => ?_, fun on => ?_⟩, fun s b m v h => ⟨?_, fun wrong => ?_⟩,
    fun _ _ inRange on noneWaits idle => exec_beatTick_wdogCount inRange on noneWaits idle,
    fun _ => ⟨exec_wdogExpire_reached, exec_wdogExpire_early⟩⟩
  · rw [exec_wdogWrite v h, wdogStore_starts off en limit]; rfl
  · rw [exec_wdogWrite v h, wdogStore_limitOnly off noStart]
  · rw [exec_wdogWrite v h, wdogStore_ignored v on]
  · rw [exec_wdogKick _ h, kickStore_key]; rfl
  · rw [exec_wdogKick v h, kickStore_ignored b wrong]

end Sys2Proof.Machine
end

section
/-! SUPPORT. The integer, multiplier and divider instructions of chapter 03: what cycles bring to a pending result (R102), what
issuing one leaves pending (R103), and what the boundary of each answers, completed or with its arithmetic exception (R82, R83). -/

namespace Sys2Proof.Machine

/-- A pstat of zero is ring 0 with every flag clear (R60). -/
theorem fields_of_pstat_zero {x : Pair} (zero : x.sreg SR.pstat = 0#32) :
    x.ring = 0 ∧ x.ie = false ∧ x.exl = false ∧ x.df = false ∧ x.pm = false := by
  simp [Pair.ring, Pair.ie, Pair.exl, Pair.df, Pair.pm, zero, fld, bit]

/-! ## Cycles at the multiplier and the divider -/

@[simp] theorem mulPend_divDue (x : Pair) (n : Nat) : (x.divDue n).mulPend = x.mulPend := by
  unfold Pair.divDue
  split
  · split <;> rfl
  · rfl

theorem sreg_divDue (x : Pair) (n : Nat) {k : Nat} (q : k ≠ SR.dq) (r : k ≠ SR.dr) : (x.divDue n).sreg k = x.sreg k := by
  unfold Pair.divDue
  split
  · split
    · exact (Pair.sreg_setS_ne _ _ r).trans (Pair.sreg_setS_ne _ _ q)
    · rfl
  · rfl

@[simp] theorem divPend_mulDue (x : Pair) (n : Nat) : (x.mulDue n).divPend = x.divPend := by
  unfold Pair.mulDue
  split <;> rfl

/-- The cycles that the only pending product still needs make it visible (R102). -/
theorem advance_product {x : Pair} {h l : Word} {n : Nat} (e : x.mulPend = [(h, l, n)]) :
    (x.advance n).mulPend = [] ∧ (x.advance n).sreg SR.mh = h ∧ (x.advance n).sreg SR.ml = l := by
  have due : x.mulDue n = { (x.setS SR.mh h).setS SR.ml l with mulPend := [] } := by simp [Pair.mulDue, e]
  have mh : (x.mulDue n).sreg SR.mh = h := by
    rw [due]; exact (Pair.sreg_setS_ne _ l (by decide)).trans (Pair.sreg_setS x SR.mh h)
  have ml : (x.mulDue n).sreg SR.ml = l := by rw [due]; exact Pair.sreg_setS _ SR.ml l
  refine ⟨(mulPend_divDue _ n).trans (by rw [due]), ?_, ?_⟩
  · exact (sreg_divDue _ n (by decide) (by decide)).trans mh
  · exact (sreg_divDue _ n (by decide) (by decide)).trans ml

/-- The cycles that the pending divide still needs make quotient and remainder visible (R102). -/
theorem advance_quotient {x : Pair} {q r : Word} {n : Nat} (e : x.divPend = some (q, r, n)) :
    (x.advance n).divPend = none ∧ (x.advance n).sreg SR.dq = q ∧ (x.advance n).sreg SR.dr = r := by
  have due : (x.mulDue n).divDue n = { ((x.mulDue n).setS SR.dq q).setS SR.dr r with divPend := none } := by
    simp [Pair.divDue, e]
  unfold Pair.advance
  rw [due]
  exact ⟨rfl, (Pair.sreg_setS_ne _ r (by decide)).trans (Pair.sreg_setS _ SR.dq q), Pair.sreg_setS _ SR.dr r⟩

/-- MUL_RESULT with a product pending: it acts only where more cycles have passed than are counted (R102). -/
theorem exec_mulResult_pending {s : State} {p : PairId} {h l : Word} {n : Nat} {rest : List (Word × Word × Nat)}
    (e : (s.pair p.val).mulPend = (h, l, n) :: rest) :
    exec (.mulResult p) s = .next (if (s.pair p.val).unsteady then s.updPair p.val (fun x => x.advance n) else s) := by
  change execMulResult p s = _
  simp only [execMulResult, e]

/-- DIV_RESULT with a divide pending. -/
theorem exec_divResult_pending {s : State} {p : PairId} {q r : Word} {n : Nat} (e : (s.pair p.val).divPend = some (q, r, n)) :
    exec (.divResult p) s = .next (if (s.pair p.val).unsteady then s.updPair p.val (fun x => x.advance n) else s) := by
  change execDivResult p s = _
  simp only [execDivResult, e]

/-! ## What issuing leaves pending -/

/-- With no product pending a multiplier instruction is not held. -/
theorem issueMul_free {x : Pair} (free : x.mulPend = []) (op : MulOp) (a b : Word) :
    x.issueMul op a b = { x with mulPend := [((op.product a b).1, (op.product a b).2, op.latency)] } := by
  simp [Pair.issueMul, Pair.heldMul, free]

/-- With no divide pending a divide does not stall. -/
theorem issueDiv_free {x : Pair} (free : x.divPend = none) (op : MulOp) (a b : Word) :
    x.issueDiv op a b = { x with divPend := some ((op.quotient a b).1, (op.quotient a b).2, 18) } := by
  simp [Pair.issueDiv, free]

theorem pc_issueMul (x : Pair) (op : MulOp) (a b : Word) : (x.issueMul op a b).pc = x.pc := by
  unfold Pair.issueMul
  dsimp only
  split
  · rfl
  · exact (same_advance x _).pc

theorem pc_issueDiv (x : Pair) (op : MulOp) (a b : Word) : (x.issueDiv op a b).pc = x.pc := by
  unfold Pair.issueDiv
  split
  · exact (same_advance x _).pc
  · rfl

theorem imp_issueDiv (x : Pair) (op : MulOp) (a b : Word) : (x.issueDiv op a b).imp = x.imp := by
  unfold Pair.issueDiv
  split
  · exact (same_advance x _).imp
  · rfl

/-- A divide by zero gives all ones and the dividend (R82). -/
theorem quotient_zero (op : MulOp) (a : Word) : op.quotient a 0#32 = (0xFFFFFFFF#32, a) := if_pos rfl

theorem quotient_div (a : Word) {b : Word} (h : b ≠ 0#32) :
    MulOp.div.quotient a b = (BitVec.ofInt 32 (a.toInt.tdiv b.toInt), BitVec.ofInt 32 (a.toInt.tmod b.toInt)) := if_neg h

theorem quotient_divu (a : Word) {b : Word} (h : b ≠ 0#32) : MulOp.divu.quotient a b = (a / b, a % b) := if_neg h

/-! ## The instruction begun -/

/-- Commands that go on answer the same where their states are the same. -/
theorem next_congr {t u : State} (h : t = u) : (.next t : Host.Outcome State Fault Refusal) = .next u := congrArg _ h

/-- Instruction z of pair p, of `n` cycles, leaves the pair as `y` and goes on at the next word (R63). -/
def State.goesOn (s : State) (p : Nat) (z : Zaend) (y : Pair) (n : Nat) : State :=
  (s.begun p z).setPair p { y.retire n with pc := (s.pair p).pc + 4 }

theorem wrote_eq (s : State) (p : Nat) (z : Zaend) (rd : BitVec 5) (v : Word) (n : Nat) :
    s.wrote p z rd v n = (s.goesOn p z (((s.begun p z).pair p).setG rd.toNat v) n).ended p := rfl

theorem retireNext_begun {s : State} {p : Nat} {w : Word} {z : Zaend} (h : s.Executes p w z) {y : Pair}
    (hy : y.pc = ((s.begun p z).pair p).pc) (n : Nat) : (s.begun p z).retireNext p y n = s.goesOn p z y n := by
  rw [State.retireNext, hy, (begun_same h).pc, State.goesOn]

/-- The state with an imprecise exception of pair p pending, with the PC of its instruction and none retired since (R83). -/
def State.pendsImprecise (s : State) (p code : Nat) (pc : Word) : State :=
  s.updPair p (fun y => { y with imp := some ⟨code, pc, 0, false⟩ })

/-- An imprecise exception becomes the pending one where there is none (R83). -/
theorem addImprecise_goesOn (s : State) (p : Nat) (z : Zaend) {y : Pair} (noImp : y.imp = none) (n code : Nat) (pc : Word) :
    (s.goesOn p z y n).updPair p (fun y => y.addImprecise code pc) = (s.goesOn p z y n).pendsImprecise p code pc := by
  have retired : (y.retire n).imp = none := by rw [imp_retire, noImp]; rfl
  simp only [State.pendsImprecise, State.goesOn, State.updPair, State.pair_setPair, Pair.addImprecise, retired]

/-! ## Instructions of major 0x01 -/

section
variable {s : State} {p : Nat} {w : Word} {op : AluOp} {rd ra rb rc : BitVec 5}

/-- The cycles of an instruction of major 0x01: addv and subv take 2 with PM = 1 (R83). -/
def AluOp.cycles (op : AluOp) (pm : Bool) : Nat := if (op == .addv || op == .subv) && pm then 2 else 1

/-- One that does not overflow leaves its result in rd (R95). -/
theorem aluStep_wrote (h : s.Executes p w (.alu op rd ra rb rc))
    (fits : op.overflows ((s.pair p).greg ra.toNat) ((s.pair p).greg rb.toNat) = false) :
    s.aluStep p w op = s.wrote p (.alu op rd ra rb rc) rd
      (op.result ((s.pair p).greg ra.toNat) ((s.pair p).greg rb.toNat) ((s.pair p).greg rc.toNat)) (op.cycles (s.pair p).pm) := by
  have same := begun_same h
  rw [wrote_eq]
  refine issue_ok h ?_
  simp [State.doAlu, same.greg, same.pm, fits, retireNext_begun h (pc_setG _ _ _), AluOp.cycles]

/-- With PM = 1 an overflow leaves everything as it was and is raised with the PC (R82, R83). -/
theorem aluStep_precise (h : s.Executes p w (.alu op rd ra rb rc))
    (wraps : op.overflows ((s.pair p).greg ra.toNat) ((s.pair p).greg rb.toNat) = true) (pm : (s.pair p).pm = true) :
    s.aluStep p w op = ((s.begun p (.alu op rd ra rb rc)).raise p ⟨Cause.overflow, (s.pair p).pc⟩).ended p := by
  have same := begun_same h
  refine issue_fail h ?_
  simp [State.doAlu, same.greg, same.pm, same.pc, wraps, pm]

/-- With PM = 0 an overflow leaves the wrapped result in rd and is pending with the PC (R82, R83). -/
theorem aluStep_late (h : s.Executes p w (.alu op rd ra rb rc))
    (wraps : op.overflows ((s.pair p).greg ra.toNat) ((s.pair p).greg rb.toNat) = true) (pm : (s.pair p).pm = false) :
    s.aluStep p w op = ((s.goesOn p (.alu op rd ra rb rc) (((s.begun p (.alu op rd ra rb rc)).pair p).setG rd.toNat
      (op.result ((s.pair p).greg ra.toNat) ((s.pair p).greg rb.toNat) ((s.pair p).greg rc.toNat))) 1).pendsImprecise p Cause.overflow
      (s.pair p).pc).ended p := by
  have same := begun_same h
  have noImp : ∀ v, (((s.begun p (.alu op rd ra rb rc)).pair p).setG rd.toNat v).imp = none :=
    fun v => (imp_setG _ _ v).trans (same.imp.trans h.noImprecise)
  refine issue_ok h ?_
  simp [State.doAlu, same.greg, same.pm, same.pc, wraps, pm, retireNext_begun h (pc_setG _ _ _),
    addImprecise_goesOn _ _ _ (noImp _)]

end

theorem overflows_addv {a b : Word} : AluOp.addv.overflows a b = true ↔ (a + b).toInt ≠ a.toInt + b.toInt := decide_eq_true_iff

theorem overflows_subv {a b : Word} : AluOp.subv.overflows a b = true ↔ (a - b).toInt ≠ a.toInt - b.toInt := decide_eq_true_iff

/-! ## Multiplier and divider instructions -/

section
variable {s : State} {p : Nat} {w : Word} {op : MulOp} {ra rb : BitVec 5}

/-- A multiplier instruction leaves its product pending, after the cycles that it is held (R101–R103). -/
theorem mulStep_held (h : s.Executes p w (.mul op ra rb)) (mul : op.isDivide = false) :
    s.mulStep p w op = (s.goesOn p (.mul op ra rb)
      (((s.begun p (.mul op ra rb)).pair p).issueMul op ((s.pair p).greg ra.toNat) ((s.pair p).greg rb.toNat)) 1).ended p := by
  have same := begun_same h
  refine issue_ok h ?_
  simp [State.doMul, same.greg, mul, retireNext_begun h (pc_issueMul _ _ _ _)]

/-- With no product pending it is not held. -/
theorem mulStep_pends (h : s.Executes p w (.mul op ra rb)) (mul : op.isDivide = false) (free : (s.pair p).mulPend = []) :
    s.mulStep p w op = (s.goesOn p (.mul op ra rb) { (s.begun p (.mul op ra rb)).pair p with mulPend :=
      [((op.product ((s.pair p).greg ra.toNat) ((s.pair p).greg rb.toNat)).1,
        (op.product ((s.pair p).greg ra.toNat) ((s.pair p).greg rb.toNat)).2, op.latency)] } 1).ended p := by
  rw [mulStep_held h mul, issueMul_free ((begun_same h).noMul free)]

/-- A divide by other than zero stalls until an earlier one is written, and is then pending (R101, R103). -/
theorem mulStep_stalled (h : s.Executes p w (.mul op ra rb)) (div : op.isDivide = true) (nonzero : (s.pair p).greg rb.toNat ≠ 0#32) :
    s.mulStep p w op = (s.goesOn p (.mul op ra rb)
      (((s.begun p (.mul op ra rb)).pair p).issueDiv op ((s.pair p).greg ra.toNat) ((s.pair p).greg rb.toNat))
      (if (s.pair p).pm then 2 else 1)).ended p := by
  have same := begun_same h
  refine issue_ok h ?_
  simp [State.doMul, same.greg, same.pm, div, nonzero, retireNext_begun h (pc_issueDiv _ _ _ _)]

/-- With no divide pending it does not stall. -/
theorem mulStep_divides (h : s.Executes p w (.mul op ra rb)) (div : op.isDivide = true)
    (nonzero : (s.pair p).greg rb.toNat ≠ 0#32) (free : (s.pair p).divPend = none) {q r : Word}
    (quot : op.quotient ((s.pair p).greg ra.toNat) ((s.pair p).greg rb.toNat) = (q, r)) :
    s.mulStep p w op = (s.goesOn p (.mul op ra rb) { (s.begun p (.mul op ra rb)).pair p with divPend := some (q, r, 18) }
      (if (s.pair p).pm then 2 else 1)).ended p := by
  rw [mulStep_stalled h div nonzero, issueDiv_free ((begun_same h).noDiv free), quot]

/-- With PM = 0 a divide by zero is pending with all ones and the dividend, and so is its exception (R82, R83). -/
theorem mulStep_byZero (h : s.Executes p w (.mul op ra rb)) (div : op.isDivide = true) (zero : (s.pair p).greg rb.toNat = 0#32)
    (pm : (s.pair p).pm = false) (free : (s.pair p).divPend = none) :
    s.mulStep p w op = ((s.goesOn p (.mul op ra rb) { (s.begun p (.mul op ra rb)).pair p with
      divPend := some (0xFFFFFFFF#32, (s.pair p).greg ra.toNat, 18) } 1).pendsImprecise p Cause.divZero (s.pair p).pc).ended p := by
  have same := begun_same h
  have noImp : (((s.begun p (.mul op ra rb)).pair p).issueDiv op ((s.pair p).greg ra.toNat) 0#32).imp = none :=
    (imp_issueDiv _ op _ _).trans (same.imp.trans h.noImprecise)
  have issued := issueDiv_free (same.noDiv free) op ((s.pair p).greg ra.toNat) 0#32
  rw [quotient_zero] at issued
  rw [← issued]
  refine issue_ok h ?_
  simp [State.doMul, same.greg, same.pm, same.pc, div, zero, pm, retireNext_begun h (pc_issueDiv _ _ _ _),
    addImprecise_goesOn _ _ _ noImp]

/-- With PM = 1 a divide by zero leaves everything as it was and is raised with the PC (R82, R83). -/
theorem mulStep_zeroFault (h : s.Executes p w (.mul op ra rb)) (div : op.isDivide = true) (zero : (s.pair p).greg rb.toNat = 0#32)
    (pm : (s.pair p).pm = true) :
    s.mulStep p w op = ((s.begun p (.mul op ra rb)).raise p ⟨Cause.divZero, (s.pair p).pc⟩).ended p := by
  have same := begun_same h
  refine issue_fail h ?_
  simp [State.doMul, same.greg, same.pm, same.pc, div, zero, pm]

end

end Sys2Proof.Machine
end

section
/-! The statements of chapter 03 settled. -/

namespace Sys2Proof.Machine

/-- Settles O3: a pair that lists no register reads zero in each, pstat included (R66). -/
theorem pairResetLeavesRingZero : Obligations.PairResetLeavesRingZero := by
  intro passes x
  have pstat : x.sreg SR.pstat = 0#32 := rfl
  have greg : ∀ r, x.greg r = 0 := fun _ => ite_self 0
  obtain ⟨ring, ie, exl, df, pm⟩ := fields_of_pstat_zero pstat
  exact ⟨ring, ie, exl, df, pm, rfl, greg⟩

/-- Settles O4: the boundary of an instruction of major 0x01, and of the multiplier and divider, completed and with its exception
(R82, R83, R95, R101, R103), and the cycles that bring a pending result (R102). -/
theorem arithmeticResultsAndExceptions : Obligations.ArithmeticResultsAndExceptions := by
  refine ⟨fun s p w rd ra rb rc => ?results, fun s p w rd ra rb rc => ?overflow, fun s p w ra rb => ?products,
    fun s p h l n rest e => ⟨exec_mulResult_pending e, fun last => advance_product (last ▸ e)⟩,
    fun s p q r n e => ⟨exec_divResult_pending e, advance_quotient e⟩⟩
  case results =>
    intro a b c runs leaves
    have plain : ∀ op, op.overflows a b = false → op.cycles (s.pair p.val).pm = 1 → runs op →
        Host.Outcome.next (s.aluStep p.val w op) = (.next (leaves op (op.result a b c)) : Host.Outcome State Fault Refusal) := by
      intro op fits one h
      rw [aluStep_wrote h fits, one]
    refine ⟨plain .add rfl rfl, plain .sub rfl rfl, plain .and_ rfl rfl, plain .or_ rfl rfl, plain .xor_ rfl rfl,
      plain .andn rfl rfl, plain .sll rfl rfl, plain .srl rfl rfl, plain .sra rfl rfl, fun h => ?slt, fun h => ?sltu,
      plain .clz rfl rfl, plain .pop rfl rfl, plain .bswap rfl rfl, plain .csel rfl rfl, fun h fits => ?addv, fun h fits => ?subv⟩
    case slt =>
      have result : AluOp.slt.result a b c = if a.toInt < b.toInt then 1 else 0 := by simp [AluOp.result, BitVec.slt]
      exact result ▸ plain .slt rfl rfl h
    case sltu =>
      have result : AluOp.sltu.result a b c = if a.toNat < b.toNat then 1 else 0 := by simp [AluOp.result, BitVec.ult]
      exact result ▸ plain .sltu rfl rfl h
    case addv => exact next_congr (aluStep_wrote h (Bool.eq_false_iff.2 fun wraps => overflows_addv.1 wraps fits))
    case subv => exact next_congr (aluStep_wrote h (Bool.eq_false_iff.2 fun wraps => overflows_subv.1 wraps fits))
  case overflow =>
    intro x a b begun runs precise late
    refine ⟨fun h wraps => ⟨fun pm => ?_, fun pm => ?_⟩, fun h wraps => ⟨fun pm => ?_, fun pm => ?_⟩⟩
    · exact next_congr (aluStep_precise h (overflows_addv.2 wraps) pm)
    · exact next_congr (aluStep_late h (overflows_addv.2 wraps) pm)
    · exact next_congr (aluStep_precise h (overflows_subv.2 wraps) pm)
    · exact next_congr (aluStep_late h (overflows_subv.2 wraps) pm)
  case products =>
    intro x a b begun runs left pends held divided divides stalled byZero zeroFault n
    refine ⟨fun free h => ?mul, fun free h => ?mulh, fun free h => ?mulhu, fun free h => ?clmul,
      fun h => next_congr (mulStep_held h rfl), fun h => next_congr (mulStep_held h rfl),
      fun h => next_congr (mulStep_held h rfl), fun h => next_congr (mulStep_held h rfl),
      fun free h nonzero => ?div, fun free h nonzero => ?divu,
      fun h nonzero => next_congr (mulStep_stalled h rfl nonzero), fun h nonzero => next_congr (mulStep_stalled h rfl nonzero),
      fun free h zero pm => next_congr (mulStep_byZero h rfl zero pm free),
      fun free h zero pm => next_congr (mulStep_byZero h rfl zero pm free),
      fun h zero pm => next_congr (mulStep_zeroFault h rfl zero pm), fun h zero pm => next_congr (mulStep_zeroFault h rfl zero pm)⟩
    case div => exact next_congr (mulStep_divides h rfl nonzero free (quotient_div a nonzero))
    case divu => exact next_congr (mulStep_divides h rfl nonzero free (quotient_divu a nonzero))
    case mul | mulh | mulhu | clmul => exact next_congr (mulStep_pends h rfl free)

end Sys2Proof.Machine
end

section
/-! SUPPORT. A write of an MPU register (R147, R148): who may make it, what it stores, and what MPU_WRITE answers for each outcome. -/

namespace Sys2Proof.Machine

/-! ## The registers -/

/-- MPU_BASE and MPU_ATTR are stored to from rings 0 and 1 (R142). -/
theorem controlPermits_mpuRegister {o : Nat} (h : o < 0x80) (ring : Nat) : controlPermits o ring .store = decide (ring ≤ 1) := by
  simp [controlPermits, controlRing, h]

@[simp] theorem mpuBits_base (i : Nat) (v : Word) : mpuBits (8 * i) v = v &&& 0xFFFFFFE0#32 := if_pos (by omega)

@[simp] theorem mpuBits_attr (i : Nat) (v : Word) : mpuBits (8 * i + 4) v = v &&& 0x80003FFF#32 := if_neg (by omega)

/-! ## The written rule set -/

/-- What a write of region i comes to that would leave the written rule set `t`: MPU overlap where region i then overlaps another
enabled one (R148), and otherwise `t` with PEND set. -/
def State.putRules (s : State) (p i : Nat) (t : Table Word) : Resp :=
  if overlapsAny (ruleBase t) (ruleAttr t) 16 i then .fail s ⟨Cause.mpuOverlap, wd i⟩
  else .ok (s.updPair p (fun x => { x with mpuW := t, mpuPend := true }))

theorem putRules_clear {s : State} {i : Nat} {t : Table Word} (p : Nat)
    (clear : overlapsAny (ruleBase t) (ruleAttr t) 16 i = false) :
    s.putRules p i t = .ok (s.updPair p (fun x => { x with mpuW := t, mpuPend := true })) := by
  simp [State.putRules, clear]

theorem putRules_clash {s : State} {i : Nat} {t : Table Word} (p : Nat)
    (clash : overlapsAny (ruleBase t) (ruleAttr t) 16 i = true) :
    s.putRules p i t = .fail s ⟨Cause.mpuOverlap, wd i⟩ := if_pos clash

/-- A write of MPU_BASE<i> is never ignored. -/
theorem mpuStore_base (s : State) (p i : Nat) (v : Word) :
    s.mpuStore p (8 * i) v = s.putRules p i ((s.pair p).mpuW.set mpuReset (8 * i) (v &&& 0xFFFFFFE0#32)) := by
  have base : 8 * i % 8 = 0 := by omega
  have region : 8 * i / 8 = i := by omega
  simp [State.mpuStore, State.putRules, base, region]

/-- A write of MPU_ATTR<i> with SIZE within 5–32 (R147). -/
theorem mpuStore_attr {v : Word} (low : 5 ≤ fld 13 8 v) (high : fld 13 8 v ≤ 32) (s : State) (p i : Nat) :
    s.mpuStore p (8 * i + 4) v = s.putRules p i ((s.pair p).mpuW.set mpuReset (8 * i + 4) (v &&& 0x80003FFF#32)) := by
  have region : (8 * i + 4) / 8 = i := by omega
  simp [State.mpuStore, State.putRules, Nat.not_lt.2 low, Nat.not_lt.2 high, region]

/-- A write of MPU_ATTR<i> with SIZE outside 5–32 (R147). -/
theorem mpuStore_attr_ignored {v : Word} (size : fld 13 8 v < 5 ∨ 32 < fld 13 8 v) (s : State) (p i : Nat) :
    s.mpuStore p (8 * i + 4) v = .ok s := if_pos ⟨by omega, size⟩

/-! ## MPU_WRITE -/

/-- The state that a store of pair p leaves with its exception, if any, raised. -/
def Resp.leftAt (a : Resp) (p : Nat) : State :=
  match a with
  | .ok t => t
  | .fail t e => t.raiseAt p e

section
variable {s : State} {p : PairId} {r : Fin 32} {v : Word}

/-- From rings 0 and 1 the write follows the posted stores (R151), and its own answer is the command's. -/
theorem exec_mpuWrite_permitted (runs : s.runs p.val = true) (ring : (s.pair p.val).ring ≤ 1) :
    exec (.mpuWrite p r v) s = .next (((s.drainStores p.val).mpuStore p.val (4 * r.val) v).leftAt p.val) := by
  have permitted := controlPermits_mpuRegister (show 4 * r.val < 0x80 by omega) (s.pair p.val).ring
  change execMpuWrite p r v s = _
  simp only [execMpuWrite, runs, permitted, ring, decide_true, Bool.not_true, Bool.false_eq_true, if_false]
  rfl

theorem exec_mpuWrite_ok {t : State} (runs : s.runs p.val = true) (ring : (s.pair p.val).ring ≤ 1)
    (stored : (s.drainStores p.val).mpuStore p.val (4 * r.val) v = .ok t) : exec (.mpuWrite p r v) s = .next t := by
  rw [exec_mpuWrite_permitted runs ring, stored, Resp.leftAt]

theorem exec_mpuWrite_fail {t : State} {e : Exc} (runs : s.runs p.val = true) (ring : (s.pair p.val).ring ≤ 1)
    (failed : (s.drainStores p.val).mpuStore p.val (4 * r.val) v = .fail t e) :
    exec (.mpuWrite p r v) s = .next (t.raiseAt p.val e) := by
  rw [exec_mpuWrite_permitted runs ring, failed, Resp.leftAt]

/-- From rings 2 and 3 it raises MPU store with the register's address (R142), before any posted store is performed. -/
theorem exec_mpuWrite_forbidden (runs : s.runs p.val = true) (ring : 2 ≤ (s.pair p.val).ring) :
    exec (.mpuWrite p r v) s = .next (s.raiseAt p.val ⟨Cause.mpuStore, wd (0x10000 + 4 * r.val)⟩) := by
  have forbidden := controlPermits_mpuRegister (show 4 * r.val < 0x80 by omega) (s.pair p.val).ring
  change execMpuWrite p r v s = _
  simp [execMpuWrite, runs, forbidden, Nat.not_le.2 ring]

end

/-- Register 2i of the block is MPU_BASE<i>. -/
theorem four_mul_baseRegister (i : Fin 16) : 4 * (Fin.ofNat 32 (2 * i.val)).val = 8 * i.val := by
  simp only [Fin.ofNat]; omega

/-- Register 2i + 1 of the block is MPU_ATTR<i>. -/
theorem four_mul_attrRegister (i : Fin 16) : 4 * (Fin.ofNat 32 (2 * i.val + 1)).val = 8 * i.val + 4 := by
  simp only [Fin.ofNat]; omega

end Sys2Proof.Machine
end

section
/-! The statement of chapter 06 settled. -/

namespace Sys2Proof.Machine

/-- Settles O21: each register's store into the written rule set, with and without an overlap, and the rings that may make it
(R142, R147–R149). -/
theorem mpuWritesGoToTheWrittenRules : Obligations.MpuWritesGoToTheWrittenRules := by
  intro s p i v runs b base attr clash puts
  have baseWrite : b.mpuStore p.val (4 * (Fin.ofNat 32 (2 * i.val)).val) v = b.putRules p.val i.val base := by
    rw [four_mul_baseRegister, mpuStore_base]
  have attrWrite (low : 5 ≤ fld 13 8 v) (high : fld 13 8 v ≤ 32) :
      b.mpuStore p.val (4 * (Fin.ofNat 32 (2 * i.val + 1)).val) v = b.putRules p.val i.val attr := by
    rw [four_mul_attrRegister, mpuStore_attr low high]
  refine ⟨fun ring clear => ?baseStored, fun ring low high clear => ?attrStored, fun ring low high overlaps => ?attrOverlaps,
    fun ring overlaps => ?baseOverlaps, fun ring size => ?attrIgnored, fun r ring => exec_mpuWrite_forbidden runs ring⟩
  case baseStored => exact exec_mpuWrite_ok runs ring (baseWrite.trans (putRules_clear _ clear))
  case attrStored => exact exec_mpuWrite_ok runs ring ((attrWrite low high).trans (putRules_clear _ clear))
  case attrOverlaps => exact exec_mpuWrite_fail runs ring ((attrWrite low high).trans (putRules_clash _ overlaps))
  case baseOverlaps => exact exec_mpuWrite_fail runs ring (baseWrite.trans (putRules_clash _ overlaps))
  case attrIgnored =>
    refine exec_mpuWrite_ok runs ring ?_
    rw [four_mul_attrRegister, mpuStore_attr_ignored size]

end Sys2Proof.Machine
end

section
/-! SUPPORT. The main path of an arbiter (R180): the measure by which a requester is chosen, and the top rank among the waiting. -/

namespace Sys2Proof.Machine

/-! ## The first by a measure -/

/-- The first of a longer list is the rest's first where that measures strictly less, and else the head. -/
theorem firstBy_cons {f : Waiter → Nat} {u v : Waiter} {ws : List Waiter} (first : firstBy f ws = some v) :
    firstBy f (u :: ws) = some (if f v < f u then v else u) := by
  rw [firstBy, first, apply_ite some]

/-- Only an empty list has no first. -/
theorem firstBy_eq_none {f : Waiter → Nat} {ws : List Waiter} : firstBy f ws = none ↔ ws = [] := by
  cases ws with
  | nil => simp [firstBy]
  | cons u ws =>
    cases rest : firstBy f ws with
    | none => simp [firstBy, rest]
    | some v => simp [firstBy_cons rest]

/-- The first of a list by a measure stands in the list, and nothing in the list measures less. -/
theorem firstBy_eq_some {f : Waiter → Nat} {ws : List Waiter} {w : Waiter} (first : firstBy f ws = some w) :
    w ∈ ws ∧ ∀ v ∈ ws, f w ≤ f v := by
  induction ws generalizing w with
  | nil => cases first
  | cons u ws ih =>
    cases rest : firstBy f ws with
    | none =>
      obtain rfl := firstBy_eq_none.1 rest
      cases first
      simp
    | some v =>
      obtain ⟨mem, least⟩ := ih rest
      rw [firstBy_cons rest, Option.some.injEq] at first
      subst first
      rw [List.forall_mem_cons]
      split
      next less => exact ⟨.tail _ mem, less.le, least⟩
      next notLess => exact ⟨.head _, le_rfl, fun x hx => (not_lt.1 notLess).trans (least x hx)⟩

/-! ## The top rank -/

/-- No member ranks above the maximum that the main path takes over the waiting requesters. -/
theorem rankOf_le_top {cfg : Word} {v : Waiter} {ws : List Waiter} (waits : v ∈ ws) :
    rankOf cfg v.cls ≤ ws.foldl (fun m w => max m (rankOf cfg w.cls)) 0 := by
  rw [← List.foldl_map (f := fun w : Waiter => rankOf cfg w.cls), List.foldl_max, Nat.zero_max]
  exact List.le_max?_getD_of_mem (List.mem_map_of_mem waits)

/-- The main path chooses a waiting requester of the top rank, the first of that rank in turn (R180). -/
theorem mainPick_eq_some {x : Arbiter} {cfg : Word} {w : Waiter} (picked : x.mainPick cfg = some w) :
    w ∈ x.waiting ∧ rankOf cfg w.cls = x.waiting.foldl (fun m v => max m (rankOf cfg v.cls)) 0 ∧
    ∀ v ∈ x.waiting, rankOf cfg v.cls = rankOf cfg w.cls → turnAfter x.last w.idx ≤ turnAfter x.last v.idx := by
  obtain ⟨mem, least⟩ := firstBy_eq_some picked
  obtain ⟨waits, top⟩ := List.mem_filter.1 mem
  have isTop := eq_of_beq top
  exact ⟨waits, isTop, fun v hv same => least v (List.mem_filter.2 ⟨hv, beq_iff_eq.2 (same.trans isTop)⟩)⟩

end Sys2Proof.Machine
end

section
/-! The statement of chapter 07 settled. -/

namespace Sys2Proof.Machine

/-- Settles O25: the requester chosen has the top rank, which no waiting one exceeds, and is the first of that rank in turn (R180). -/
theorem mainPathIsRoundRobinWithinTheTopRank : Obligations.MainPathIsRoundRobinWithinTheTopRank := by
  intro x cfg w picked
  obtain ⟨waits, top, inTurn⟩ := mainPick_eq_some picked
  exact ⟨waits, fun v hv => top ▸ rankOf_le_top hv, inTurn⟩

end Sys2Proof.Machine
end

section
/-! SUPPORT. The words of the formats (R88): the fields of a word of each format, and a word put together from its fields. -/

namespace Sys2Proof.Machine

/-! ## The fields of a word put together -/

theorem fields_rr (major : BitVec 6) (rd ra rb rc : BitVec 5) (func : BitVec 6) :
    (rr major rd ra rb rc func).extractLsb' 26 6 = major ∧ (rr major rd ra rb rc func).extractLsb' 21 5 = rd ∧
    (rr major rd ra rb rc func).extractLsb' 16 5 = ra ∧ (rr major rd ra rb rc func).extractLsb' 11 5 = rb ∧
    (rr major rd ra rb rc func).extractLsb' 6 5 = rc ∧ (rr major rd ra rb rc func).extractLsb' 0 6 = func := by
  let w := major ++ rd ++ ra ++ rb ++ rc ++ func
  show w.extractLsb' 26 6 = _ ∧ w.extractLsb' 21 5 = _ ∧ w.extractLsb' 16 5 = _ ∧ w.extractLsb' 11 5 = _ ∧ w.extractLsb' 6 5 = _ ∧
    w.extractLsb' 0 6 = _
  simp (disch := decide) [w, BitVec.extractLsb'_append_eq_of_le, BitVec.extractLsb'_append_eq_of_add_le, BitVec.extractLsb'_eq_self,
    -Nat.reduceAdd]

theorem fields_ri (major : BitVec 6) (rd ra : BitVec 5) (i : BitVec 16) :
    (ri major rd ra i).extractLsb' 26 6 = major ∧ (ri major rd ra i).extractLsb' 21 5 = rd ∧
    (ri major rd ra i).extractLsb' 16 5 = ra ∧ (ri major rd ra i).extractLsb' 0 16 = i := by
  let w := major ++ rd ++ ra ++ i
  show w.extractLsb' 26 6 = _ ∧ w.extractLsb' 21 5 = _ ∧ w.extractLsb' 16 5 = _ ∧ w.extractLsb' 0 16 = _
  simp [w, BitVec.extractLsb'_append_eq_of_le, BitVec.extractLsb'_append_eq_of_add_le, BitVec.extractLsb'_eq_self, -Nat.reduceAdd]

theorem fields_cbi (major : BitVec 6) (ra : BitVec 5) (i : BitVec 8) (off : BitVec 13) :
    (cbi major ra i off).extractLsb' 26 6 = major ∧ (cbi major ra i off).extractLsb' 21 5 = ra ∧
    (cbi major ra i off).extractLsb' 13 8 = i ∧ (cbi major ra i off).extractLsb' 0 13 = off := by
  let w := major ++ ra ++ i ++ off
  show w.extractLsb' 26 6 = _ ∧ w.extractLsb' 21 5 = _ ∧ w.extractLsb' 13 8 = _ ∧ w.extractLsb' 0 13 = _
  simp [w, BitVec.extractLsb'_append_eq_of_le, BitVec.extractLsb'_append_eq_of_add_le, BitVec.extractLsb'_eq_self, -Nat.reduceAdd]

theorem fields_sysWord (rd ra : BitVec 5) (i f : BitVec 8) :
    (sysWord rd ra i f).extractLsb' 26 6 = 0x3F#6 ∧ (sysWord rd ra i f).extractLsb' 21 5 = rd ∧
    (sysWord rd ra i f).extractLsb' 16 5 = ra ∧ (sysWord rd ra i f).extractLsb' 8 8 = i ∧ (sysWord rd ra i f).extractLsb' 0 8 = f := by
  let w := 0x3F#6 ++ rd ++ ra ++ i ++ f
  show w.extractLsb' 26 6 = _ ∧ w.extractLsb' 21 5 = _ ∧ w.extractLsb' 16 5 = _ ∧ w.extractLsb' 8 8 = _ ∧ w.extractLsb' 0 8 = _
  simp [w, BitVec.extractLsb'_append_eq_of_le, BitVec.extractLsb'_append_eq_of_add_le, BitVec.extractLsb'_eq_self, -Nat.reduceAdd]

theorem fields_jump (major : BitVec 6) (off : BitVec 26) :
    (major ++ off : Word).extractLsb' 26 6 = major ∧ (major ++ off : Word).extractLsb' 0 26 = off :=
  ⟨BitVec.extractLsb'_append_eq_left, BitVec.extractLsb'_append_eq_right⟩

/-! ## A word put together from its fields -/

section
variable (w : Word)

theorem rr_of_fields : rr (w.extractLsb' 26 6) (w.extractLsb' 21 5) (w.extractLsb' 16 5) (w.extractLsb' 11 5) (w.extractLsb' 6 5)
    (w.extractLsb' 0 6) = w := by
  unfold rr
  rw [BitVec.extractLsb'_append_extractLsb'_eq_extractLsb' (show 26 = 21 + 5 from rfl),
    BitVec.extractLsb'_append_extractLsb'_eq_extractLsb' (show 21 = 16 + 5 from rfl),
    BitVec.extractLsb'_append_extractLsb'_eq_extractLsb' (show 16 = 11 + 5 from rfl),
    BitVec.extractLsb'_append_extractLsb'_eq_extractLsb' (show 11 = 6 + 5 from rfl),
    BitVec.extractLsb'_append_extractLsb'_eq_extractLsb' (show 6 = 0 + 6 from rfl)]
  exact BitVec.extractLsb'_eq_self

theorem ri_of_fields : ri (w.extractLsb' 26 6) (w.extractLsb' 21 5) (w.extractLsb' 16 5) (w.extractLsb' 0 16) = w := by
  unfold ri
  rw [BitVec.extractLsb'_append_extractLsb'_eq_extractLsb' (show 26 = 21 + 5 from rfl),
    BitVec.extractLsb'_append_extractLsb'_eq_extractLsb' (show 21 = 16 + 5 from rfl),
    BitVec.extractLsb'_append_extractLsb'_eq_extractLsb' (show 16 = 0 + 16 from rfl)]
  exact BitVec.extractLsb'_eq_self

theorem cbi_of_fields : cbi (w.extractLsb' 26 6) (w.extractLsb' 21 5) (w.extractLsb' 13 8) (w.extractLsb' 0 13) = w := by
  unfold cbi
  rw [BitVec.extractLsb'_append_extractLsb'_eq_extractLsb' (show 26 = 21 + 5 from rfl),
    BitVec.extractLsb'_append_extractLsb'_eq_extractLsb' (show 21 = 13 + 8 from rfl),
    BitVec.extractLsb'_append_extractLsb'_eq_extractLsb' (show 13 = 0 + 13 from rfl)]
  exact BitVec.extractLsb'_eq_self

theorem sysWord_of_fields (major : w.extractLsb' 26 6 = 0x3F#6) :
    sysWord (w.extractLsb' 21 5) (w.extractLsb' 16 5) (w.extractLsb' 8 8) (w.extractLsb' 0 8) = w := by
  unfold sysWord
  rw [← major, BitVec.extractLsb'_append_extractLsb'_eq_extractLsb' (show 26 = 21 + 5 from rfl),
    BitVec.extractLsb'_append_extractLsb'_eq_extractLsb' (show 21 = 16 + 5 from rfl),
    BitVec.extractLsb'_append_extractLsb'_eq_extractLsb' (show 16 = 8 + 8 from rfl),
    BitVec.extractLsb'_append_extractLsb'_eq_extractLsb' (show 8 = 0 + 8 from rfl)]
  exact BitVec.extractLsb'_eq_self

theorem jump_of_fields : (w.extractLsb' 26 6 ++ w.extractLsb' 0 26 : Word) = w :=
  BitVec.extractLsb'_append_extractLsb' (w := 6) (len := 26) (x := w)

end

/-! ## The operations and their codes -/

/-- The only member of a list that a test admits is the one found. -/
theorem find?_only {α : Type} {l : List α} {q : α → Bool} {x : α} (mem : x ∈ l) (admitted : q x = true)
    (only : ∀ y, q y = true → y = x) : l.find? q = some x := by
  obtain ⟨y, found⟩ := Option.isSome_iff_exists.1 (List.find?_isSome.2 ⟨x, mem, admitted⟩)
  rw [found, only y (List.find?_some found)]

theorem AluOp.find_func (op : AluOp) : AluOp.all.find? (fun o => o.func == op.func) = some op := by cases op <;> rfl
theorem MulOp.find_func (op : MulOp) : MulOp.all.find? (fun o => o.func == op.func) = some op := by cases op <;> rfl
theorem LongOp.find_func (op : LongOp) : LongOp.all.find? (fun o => o.func == op.func) = some op := by cases op <;> rfl

theorem AluOp.func_inj {a b : AluOp} (h : a.func = b.func) : a = b :=
  Option.some.inj ((AluOp.find_func a).symm.trans (h ▸ AluOp.find_func b))
theorem LongOp.func_inj {a b : LongOp} (h : a.func = b.func) : a = b :=
  Option.some.inj ((LongOp.find_func a).symm.trans (h ▸ LongOp.find_func b))

/-- No func of a long instruction is one of the multiplier or divider. -/
theorem MulOp.find_long (op : LongOp) : MulOp.all.find? (fun o => o.func == op.func) = none := by cases op <;> rfl

theorem decodeAlu_func {op : AluOp} {rb rc : BitVec 5} (ok : op.fieldsOk rb rc = true) (rd ra : BitVec 5) :
    decodeAlu rd ra rb rc op.func = some (.alu op rd ra rb rc) := by
  have found : AluOp.all.find? (fun o => o.func == op.func && o.fieldsOk rb rc) = some op :=
    find?_only (List.mem_of_find?_eq_some (AluOp.find_func op)) (by simp [ok])
      fun y admitted => AluOp.func_inj (eq_of_beq (Bool.and_eq_true_iff.1 admitted).1)
  rw [decodeAlu, found, Option.map_some]

theorem decodeMul_mul (op : MulOp) (ra rb : BitVec 5) : decodeMul 0 ra rb 0 op.func = some (.mul op ra rb) := by
  simp [decodeMul, MulOp.find_func]

theorem decodeMul_long {op : LongOp} {rd ra rb rc : BitVec 5} (ok : op.fieldsOk rd ra rb rc = true) :
    decodeMul rd ra rb rc op.func = some (.long op rd ra rb rc) := by
  have found : LongOp.all.find? (fun o => o.func == op.func && o.fieldsOk rd ra rb rc) = some op :=
    find?_only (List.mem_of_find?_eq_some (LongOp.find_func op)) (by simp [ok])
      fun y admitted => LongOp.func_inj (eq_of_beq (Bool.and_eq_true_iff.1 admitted).1)
  simp [decodeMul, MulOp.find_long, found]

theorem wf_of_decodeAlu {rd ra rb rc : BitVec 5} {f : BitVec 6} {z : Zaend} (h : decodeAlu rd ra rb rc f = some z) :
    z.wf = true ∧ z.encode = rr 0x01 rd ra rb rc f := by
  obtain ⟨op, found, rfl⟩ := Option.map_eq_some_iff.1 h
  have admitted := List.find?_some found
  obtain ⟨func, ok⟩ := Bool.and_eq_true_iff.1 admitted
  exact ⟨ok, by rw [Zaend.encode, eq_of_beq func]⟩

theorem wf_of_decodeMul {rd ra rb rc : BitVec 5} {f : BitVec 6} {z : Zaend} (h : decodeMul rd ra rb rc f = some z) :
    z.wf = true ∧ z.encode = rr 0x02 rd ra rb rc f := by
  unfold decodeMul at h
  split at h
  next op found =>
    have func := List.find?_some found
    rw [beq_iff_eq] at func
    split at h
    next zero =>
      obtain ⟨rfl, rfl⟩ := zero
      cases h
      exact ⟨rfl, by rw [Zaend.encode, func]⟩
    next => cases h
  next =>
    obtain ⟨op, found, rfl⟩ := Option.map_eq_some_iff.1 h
    have admitted := List.find?_some found
    obtain ⟨func, ok⟩ := Bool.and_eq_true_iff.1 admitted
    exact ⟨ok, by rw [Zaend.encode, eq_of_beq func]⟩

/-! ## Shift amounts (R96) -/

/-- A field of 16 bits is its bits [15:5] before its bits [4:0]. -/
theorem field_of_high {i : BitVec 16} {k : BitVec 11} (h : i >>> 5 = k.setWidth 16) : ∃ n : BitVec 5, i = k ++ n := by
  refine ⟨i.extractLsb' 0 5, ?_⟩
  have high : i.extractLsb' 5 11 = k := by
    have low := congrArg (BitVec.setWidth 11) h
    rw [BitVec.setWidth_setWidth_of_le _ (by decide), BitVec.setWidth_eq] at low
    exact low
  rw [← high]
  exact (BitVec.extractLsb'_append_extractLsb' (w := 11) (len := 5) (x := i)).symm

theorem shift_slli : ∀ n : BitVec 5, (0#11 ++ n : BitVec 16) >>> 5 = 0 ∧ (0#11 ++ n : BitVec 16) &&& 0x1F = 0#11 ++ n := by decide
theorem shift_srli : ∀ n : BitVec 5, (1#11 ++ n : BitVec 16) &&& 0x1F = 0#11 ++ n ∧
    (0#11 ++ n : BitVec 16) ||| 0x20 = 1#11 ++ n ∧ (1#11 ++ n : BitVec 16) >>> 5 = 1 := by decide
theorem shift_srai : ∀ n : BitVec 5, (2#11 ++ n : BitVec 16) &&& 0x1F = 0#11 ++ n ∧
    (0#11 ++ n : BitVec 16) ||| 0x40 = 2#11 ++ n ∧ (2#11 ++ n : BitVec 16) >>> 5 = 2 := by decide

/-- The words of the shifts by `n`. -/
theorem encode_shift (rd ra n : BitVec 5) :
    (Zaend.imm .slli rd ra (0#11 ++ n)).encode = ri 0x0B rd ra (0#11 ++ n) ∧
    (Zaend.imm .srli rd ra (0#11 ++ n)).encode = ri 0x0B rd ra (1#11 ++ n) ∧
    (Zaend.imm .srai rd ra (0#11 ++ n)).encode = ri 0x0B rd ra (2#11 ++ n) := by
  simp only [Zaend.encode, (shift_slli n).2, (shift_srli n).2.1, (shift_srai n).2.1, and_self]

theorem wf_shift {op : ImmOp} (h : op = .slli ∨ op = .srli ∨ op = .srai) (rd ra n : BitVec 5) :
    (Zaend.imm op rd ra (0#11 ++ n)).wf = true := by
  rcases h with rfl | rfl | rfl <;> exact beq_iff_eq.2 (shift_slli n).1

theorem wf_of_decodeShift {rd ra : BitVec 5} {i : BitVec 16} {z : Zaend} (h : decodeShift rd ra i = some z) :
    z.wf = true ∧ z.encode = ri 0x0B rd ra i := by
  unfold decodeShift at h
  split at h
  next zero =>
    obtain ⟨n, rfl⟩ := field_of_high (k := 0#11) zero
    cases h
    exact ⟨wf_shift (by decide) rd ra n, (encode_shift rd ra n).1⟩
  split at h
  next one =>
    obtain ⟨n, rfl⟩ := field_of_high (k := 1#11) one
    rw [(shift_srli n).1] at h
    cases h
    exact ⟨wf_shift (by decide) rd ra n, (encode_shift rd ra n).2.1⟩
  split at h
  next two =>
    obtain ⟨n, rfl⟩ := field_of_high (k := 2#11) two
    rw [(shift_srai n).1] at h
    cases h
    exact ⟨wf_shift (by decide) rd ra n, (encode_shift rd ra n).2.2⟩
  next => cases h

theorem decodeShift_high (rd ra n : BitVec 5) :
    decodeShift rd ra (0#11 ++ n) = some (.imm .slli rd ra (0#11 ++ n)) ∧
    decodeShift rd ra (1#11 ++ n) = some (.imm .srli rd ra (0#11 ++ n)) ∧
    decodeShift rd ra (2#11 ++ n) = some (.imm .srai rd ra (0#11 ++ n)) := by
  simp only [decodeShift, shift_slli n, shift_srli n, shift_srai n]
  exact ⟨rfl, rfl, rfl⟩

/-! ## Major 0x3F -/

theorem wf_of_decodeSys {rd ra : BitVec 5} {i f : BitVec 8} {z : Zaend} (h : decodeSys rd ra i f = some z) :
    z.wf = true ∧ z.encode = sysWord rd ra i f := by
  unfold decodeSys at h
  split at h
  next func =>
    split at h
    next zero => cases h; subst func zero; exact ⟨rfl, rfl⟩
    next => cases h
  split at h
  next func =>
    split at h
    next zero => cases h; subst func zero; exact ⟨rfl, rfl⟩
    next => cases h
  split at h
  next => cases h
  next registers =>
  obtain ⟨rfl, rfl⟩ : rd = 0 ∧ ra = 0 := by simpa using registers
  split at h
  next func =>
    split at h
    next gate => cases h; subst func; exact ⟨decide_eq_true gate, rfl⟩
    next => cases h
  split at h
  next func => cases h; subst func; exact ⟨rfl, rfl⟩
  split at h
  next => cases h
  next number =>
  obtain rfl : i = 0 := by simpa using number
  split at h
  next func => cases h; subst func; exact ⟨rfl, rfl⟩
  split at h
  next func => cases h; subst func; exact ⟨rfl, rfl⟩
  split at h
  next func => cases h; subst func; exact ⟨rfl, rfl⟩
  split at h
  next func => cases h; subst func; exact ⟨rfl, rfl⟩
  split at h
  next func => cases h; subst func; exact ⟨rfl, rfl⟩
  next => cases h

/-! ## The decoder, by major opcode -/

section
variable (rd ra rb rc : BitVec 5) (func : BitVec 6) (i : BitVec 16) (n f : BitVec 8)

theorem decode_rr_alu : Zaend.decode (rr 0x01 rd ra rb rc func) = decodeAlu rd ra rb rc func := by
  simp [Zaend.decode, fields_rr]

theorem decode_rr_mul : Zaend.decode (rr 0x02 rd ra rb rc func) = decodeMul rd ra rb rc func := by
  simp [Zaend.decode, fields_rr]

theorem decode_shift : Zaend.decode (ri 0x0B rd ra i) = decodeShift rd ra i := by
  simp [Zaend.decode, fields_ri]

theorem decode_sysWord : Zaend.decode (sysWord rd ra n f) = decodeSys rd ra n f := by
  simp [Zaend.decode, fields_sysWord]

/-- A condition is found by the major opcode of its CB and CBI words (R99). -/
theorem decode_branch (c : Cond) : Zaend.decode (ri (0x20 + c.code) ra rb i) = some (.branch c ra rb i) := by
  cases c <;> simp [Zaend.decode, fields_ri, Cond.code, Cond.all]

theorem decode_branchImm (c : Cond) (off : BitVec 13) : Zaend.decode (cbi (0x28 + c.code) ra n off) = some (.branchImm c ra n off) := by
  cases c <;> simp [Zaend.decode, fields_cbi, Cond.code, Cond.all]

end

/-- An instruction whose fields hold what its format admits is what its word decodes to. -/
theorem decode_encode {z : Zaend} (h : z.wf = true) : Zaend.decode z.encode = some z := by
  cases z with
  | alu op rd ra rb rc => rw [Zaend.encode, decode_rr_alu, decodeAlu_func h]
  | imm op rd ra i =>
    cases op with
    | slli =>
      obtain ⟨n, rfl⟩ := field_of_high (k := 0#11) (eq_of_beq h)
      rw [(encode_shift rd ra n).1, decode_shift, (decodeShift_high rd ra n).1]
    | srli =>
      obtain ⟨n, rfl⟩ := field_of_high (k := 0#11) (eq_of_beq h)
      rw [(encode_shift rd ra n).2.1, decode_shift, (decodeShift_high rd ra n).2.1]
    | srai =>
      obtain ⟨n, rfl⟩ := field_of_high (k := 0#11) (eq_of_beq h)
      rw [(encode_shift rd ra n).2.2, decode_shift, (decodeShift_high rd ra n).2.2]
    | lui =>
      obtain rfl := eq_of_beq h
      simp [Zaend.encode, Zaend.decode, ImmOp.major, fields_ri]
    | addi | andi | ori | xori | slti | sltiu => simp [Zaend.encode, Zaend.decode, ImmOp.major, fields_ri]
  | load op rd ra i => cases op <;> simp [Zaend.encode, Zaend.decode, LoadOp.major, fields_ri]
  | store op rs ra i => cases op <;> simp [Zaend.encode, Zaend.decode, StoreOp.major, fields_ri]
  | branch c ra rb off => exact decode_branch ra rb off c
  | branchImm c ra i off => exact decode_branchImm ra i c off
  | jump link off => cases link <;> simp [Zaend.encode, Zaend.decode, fields_jump]
  | jumpReg link ra i => cases link <;> simp [Zaend.encode, Zaend.decode, fields_ri]
  | mul op ra rb => rw [Zaend.encode, decode_rr_mul, decodeMul_mul]
  | long op rd ra rb rc => rw [Zaend.encode, decode_rr_mul, decodeMul_long h]
  | gate n => rw [Zaend.encode, decode_sysWord]; simpa [decodeSys, Zaend.wf] using h
  | mfs | mts | retG | eret | brk | fenceM | fenceP | wait => rw [Zaend.encode, decode_sysWord]; rfl

/-- A word decodes to no instruction but the one that encodes to it: the majors in the decoder's order. -/
theorem wf_and_encode_of_decode {w : Word} {z : Zaend} (h : Zaend.decode w = some z) : z.wf = true ∧ z.encode = w := by
  have rrWord := rr_of_fields w
  have riWord := ri_of_fields w
  have cbiWord := cbi_of_fields w
  have jumpWord := jump_of_fields w
  have sysWord := sysWord_of_fields w
  simp only [Zaend.decode, ite_eq_iff (α := Option Zaend)] at h
  generalize w.extractLsb' 26 6 = major at *
  rcases h with ⟨rfl, h⟩ | ⟨-, ⟨rfl, h⟩ | ⟨-, h⟩⟩
  · exact (wf_of_decodeAlu h).imp_right (·.trans rrWord)
  · exact (wf_of_decodeMul h).imp_right (·.trans rrWord)
  rcases h with ⟨rfl, ⟨⟩⟩ | ⟨-, ⟨rfl, ⟨⟩⟩ | ⟨-, ⟨rfl, ⟨⟩⟩ | ⟨-, ⟨rfl, ⟨⟩⟩ | ⟨-, ⟨rfl, ⟨⟩⟩ | ⟨-, ⟨rfl, ⟨⟩⟩ | ⟨-, h⟩⟩⟩⟩⟩⟩
  iterate 6 exact ⟨rfl, riWord⟩
  rcases h with ⟨rfl, ⟨lui, ⟨⟩⟩ | ⟨-, ⟨⟩⟩⟩ | ⟨-, ⟨rfl, h⟩ | ⟨-, h⟩⟩
  · exact ⟨beq_iff_eq.2 lui, riWord⟩
  · exact (wf_of_decodeShift h).imp_right (·.trans riWord)
  rcases h with ⟨rfl, ⟨⟩⟩ | ⟨-, ⟨rfl, ⟨⟩⟩ | ⟨-, ⟨rfl, ⟨⟩⟩ | ⟨-, ⟨rfl, ⟨⟩⟩ | ⟨-, ⟨rfl, ⟨⟩⟩ | ⟨-, h⟩⟩⟩⟩⟩
  iterate 5 exact ⟨rfl, riWord⟩
  rcases h with ⟨rfl, ⟨⟩⟩ | ⟨-, ⟨rfl, ⟨⟩⟩ | ⟨-, ⟨rfl, ⟨⟩⟩ | ⟨-, h⟩⟩⟩
  iterate 3 exact ⟨rfl, riWord⟩
  rcases h with ⟨rfl, ⟨zero, ⟨⟩⟩ | ⟨-, ⟨⟩⟩⟩ | ⟨-, ⟨rfl, ⟨zero, ⟨⟩⟩ | ⟨-, ⟨⟩⟩⟩ | ⟨-, h⟩⟩
  iterate 2 exact ⟨rfl, by rw [zero] at riWord; exact riWord⟩
  rcases h with ⟨rfl, ⟨⟩⟩ | ⟨-, ⟨rfl, ⟨⟩⟩ | ⟨-, ⟨rfl, h⟩ | ⟨-, h⟩⟩⟩
  iterate 2 exact ⟨rfl, jumpWord⟩
  · exact (wf_of_decodeSys h).imp_right (·.trans (sysWord rfl))
  split at h
  next c found =>
    cases h
    have code := List.find?_some found
    rw [beq_iff_eq] at code
    exact ⟨rfl, by rw [← code] at riWord; exact riWord⟩
  next =>
    obtain ⟨c, found, rfl⟩ := Option.map_eq_some_iff.1 h
    have code := List.find?_some found
    rw [beq_iff_eq] at code
    exact ⟨rfl, by rw [← code] at cbiWord; exact cbiWord⟩

end Sys2Proof.Machine
end

section
/-! The statements about the words of the pairs' instructions settled. -/

namespace Sys2Proof.Machine

/-- Settles O58: the decoder undoes the encoder on what the formats allow, and the encoder undoes the decoder (R88–R91). -/
theorem zaendWordsAndInstructionsAgree : Obligations.ZaendWordsAndInstructionsAgree :=
  ⟨fun _ => decode_encode, fun _ _ => wf_and_encode_of_decode⟩

/-- Settles O59: each word, by evaluating the decoder on it (R88, R89). -/
theorem zaendWordsDecode : Obligations.ZaendWordsDecode := by
  unfold Obligations.ZaendWordsDecode
  decide

end Sys2Proof.Machine
end

section
/-! SUPPORT. Immediate instructions, branches and jumps of chapter 04: what the boundary of each answers (R96, R99, R100). -/

namespace Sys2Proof.Machine

section
variable {s : State} {p : Nat} {w : Word}

/-! ## RI integer instructions -/

/-- It leaves its result in rd in one cycle (R96). -/
theorem immStep_wrote {op : ImmOp} {rd ra : BitVec 5} {i : BitVec 16} (h : s.Executes p w (.imm op rd ra i)) :
    s.immStep p w op = s.wrote p (.imm op rd ra i) rd (op.result ((s.pair p).greg ra.toNat) i) 1 := by
  have same := begun_same h
  rw [wrote_eq]
  refine issue_ok h ?_
  simp [State.doImm, same.greg, retireNext_begun h (pc_setG _ _ _)]

/-! ## Branches -/

theorem went_eq (s : State) (p : Nat) (z : Zaend) (t : Word) (n : Nat) :
    s.went p z t n = ((s.begun p z).retireTo p ((s.begun p z).pair p) t n).ended p := rfl

/-- A branch taken goes to its target in 2 cycles, one not taken to the next word in 1 (R99). -/
theorem doBranch_begun {z : Zaend} (h : s.Executes p w z) (taken : Bool) (off : Word) :
    (s.begun p z).doBranch p taken off = .ok (if taken
      then (s.begun p z).retireTo p ((s.begun p z).pair p) ((s.pair p).pc + off <<< 2) 2
      else (s.begun p z).retireTo p ((s.begun p z).pair p) ((s.pair p).pc + 4) 1) := by
  simp only [State.doBranch, State.retireNext, State.retireTo, (begun_same h).pc]

/-- The branch that goes to `t` where `q` holds. -/
def State.branched (s : State) (p : Nat) (z : Zaend) (t : Word) (q : Prop) [Decidable q] : State :=
  if q then s.went p z t 2 else s.went p z ((s.pair p).pc + 4) 1

theorem ended_branch {z : Zaend} {taken : Bool} {t : Word} {q : Prop} [Decidable q] (agree : taken = true ↔ q) :
    (if taken then (s.begun p z).retireTo p ((s.begun p z).pair p) t 2
      else (s.begun p z).retireTo p ((s.begun p z).pair p) ((s.pair p).pc + 4) 1).ended p = s.branched p z t q := by
  simp only [State.branched, went_eq, agree]
  split <;> rfl

theorem branchStep_goes {c : Cond} {ra rb : BitVec 5} {off : BitVec 16} (h : s.Executes p w (.branch c ra rb off))
    {q : Prop} [Decidable q] (agree : c.holds ((s.pair p).greg ra.toNat) ((s.pair p).greg rb.toNat) = true ↔ q) :
    s.branchStep p w c = s.branched p (.branch c ra rb off) ((s.pair p).pc + off.signExtend 32 <<< 2) q := by
  have same := begun_same h
  rw [← ended_branch agree]
  refine issue_ok h ?_
  simp [doBranch_begun h, same.greg]

theorem branchImmStep_goes {c : Cond} {ra : BitVec 5} {i : BitVec 8} {off : BitVec 13} (h : s.Executes p w (.branchImm c ra i off))
    {q : Prop} [Decidable q] (agree : c.holds ((s.pair p).greg ra.toNat) (c.ext i) = true ↔ q) :
    s.branchImmStep p w c = s.branched p (.branchImm c ra i off) ((s.pair p).pc + off.signExtend 32 <<< 2) q := by
  have same := begun_same h
  rw [← ended_branch agree]
  refine issue_ok h ?_
  simp [doBranch_begun h, same.greg]

/-! ## The conditions (R99) -/

theorem holds_eq (a b : Word) : Cond.eq.holds a b = true ↔ a = b := beq_iff_eq
theorem holds_ne (a b : Word) : Cond.ne.holds a b = true ↔ a ≠ b := bne_iff_ne
theorem holds_lt (a b : Word) : Cond.lt.holds a b = true ↔ a.toInt < b.toInt := by simp [Cond.holds, BitVec.slt]
theorem holds_ge (a b : Word) : Cond.ge.holds a b = true ↔ b.toInt ≤ a.toInt := by simp [Cond.holds, BitVec.slt]
theorem holds_ltu (a b : Word) : Cond.ltu.holds a b = true ↔ a.toNat < b.toNat := by simp [Cond.holds, BitVec.ult]
theorem holds_geu (a b : Word) : Cond.geu.holds a b = true ↔ b.toNat ≤ a.toNat := by simp [Cond.holds, BitVec.ult]

/-! ## Jumps -/

/-- Instruction z of pair p, of `n` cycles, leaves the return address in g1 and goes on at `t`. -/
def State.linked (s : State) (p : Nat) (z : Zaend) (t : Word) (n : Nat) : State :=
  ((s.begun p z).setPair p { (((s.begun p z).pair p).setG 1 ((s.pair p).pc + 4)).retire n with pc := t }).ended p

theorem jumpStep_went {off : BitVec 26} (h : s.Executes p w (.jump false off)) :
    s.jumpStep p w false = s.went p (.jump false off) ((s.pair p).pc + off.signExtend 32 <<< 2) 2 :=
  issue_ok h (by simp [State.doJump, State.retireTo, (begun_same h).pc])

theorem jumpStep_linked {off : BitVec 26} (h : s.Executes p w (.jump true off)) :
    s.jumpStep p w true = s.linked p (.jump true off) ((s.pair p).pc + off.signExtend 32 <<< 2) 2 :=
  issue_ok h (by simp [State.doJump, State.retireTo, (begun_same h).pc])

section
variable {ra : BitVec 5} {i : BitVec 16}

theorem jumpRegStep_went (h : s.Executes p w (.jumpReg false ra i))
    (aligned : ((s.pair p).greg ra.toNat + i.signExtend 32) &&& 3#32 = 0#32) :
    s.jumpRegStep p w false = s.went p (.jumpReg false ra i) ((s.pair p).greg ra.toNat + i.signExtend 32) 3 :=
  issue_ok h (by simp [State.doJumpReg, State.retireTo, (begun_same h).greg, aligned])

theorem jumpRegStep_linked (h : s.Executes p w (.jumpReg true ra i))
    (aligned : ((s.pair p).greg ra.toNat + i.signExtend 32) &&& 3#32 = 0#32) :
    s.jumpRegStep p w true = s.linked p (.jumpReg true ra i) ((s.pair p).greg ra.toNat + i.signExtend 32) 3 :=
  issue_ok h (by simp [State.doJumpReg, State.retireTo, (begun_same h).pc, (begun_same h).greg, aligned])

/-- An unaligned target is raised before g1 or the PC changes (R100). -/
theorem jumpRegStep_unaligned {link : Bool} (h : s.Executes p w (.jumpReg link ra i))
    (unaligned : ((s.pair p).greg ra.toNat + i.signExtend 32) &&& 3#32 ≠ 0#32) :
    s.jumpRegStep p w link = ((s.begun p (.jumpReg link ra i)).raise p
      ⟨Cause.misaligned, (s.pair p).greg ra.toNat + i.signExtend 32⟩).ended p :=
  issue_fail h (by simp [State.doJumpReg, (begun_same h).greg, unaligned])

end
end

end Sys2Proof.Machine
end

section
/-! The statements about immediate instructions, branches and jumps settled. -/

namespace Sys2Proof.Machine

/-- Settles O5: each operation writes its result, and the comparisons are those of the words' values (R96). -/
theorem immediateInstructionsWriteTheirResults : Obligations.ImmediateInstructionsWriteTheirResults := by
  intro s p w rd ra i a runs leaves
  have writes : ∀ op, runs op →
      Host.Outcome.next (s.immStep p.val w op) = (.next (leaves op (op.result a i)) : Host.Outcome State Fault Refusal) :=
    fun op h => next_congr (immStep_wrote h)
  have slti : ImmOp.slti.result a i = if a.toInt < (i.signExtend 32).toInt then 1 else 0 := by simp [ImmOp.result, BitVec.slt]
  have sltiu : ImmOp.sltiu.result a i = if a.toNat < (i.signExtend 32).toNat then 1 else 0 := by simp [ImmOp.result, BitVec.ult]
  exact ⟨writes .addi, writes .andi, writes .ori, writes .xori, slti ▸ writes .slti, sltiu ▸ writes .sltiu, writes .lui,
    writes .slli, writes .srli, writes .srai⟩

/-- Settles O6: each condition as the words' values compare, and the four jumps with aligned and unaligned targets (R99, R100). -/
theorem branchesAndJumpsGoWhereTheySay : Obligations.BranchesAndJumpsGoWhereTheySay := by
  refine ⟨fun s p w ra rb off i o13 => ?branches, fun s p w ra i off => ?jumps⟩
  case branches =>
    intro pc a b runs runsI goes goesI sx zx
    exact ⟨fun h => next_congr (branchStep_goes h (holds_eq a b)), fun h => next_congr (branchStep_goes h (holds_ne a b)),
      fun h => next_congr (branchStep_goes h (holds_lt a b)), fun h => next_congr (branchStep_goes h (holds_ge a b)),
      fun h => next_congr (branchStep_goes h (holds_ltu a b)), fun h => next_congr (branchStep_goes h (holds_geu a b)),
      fun h => next_congr (branchImmStep_goes h (holds_eq a sx)), fun h => next_congr (branchImmStep_goes h (holds_ne a sx)),
      fun h => next_congr (branchImmStep_goes h (holds_lt a sx)), fun h => next_congr (branchImmStep_goes h (holds_ge a sx)),
      fun h => next_congr (branchImmStep_goes h (holds_ltu a zx)), fun h => next_congr (branchImmStep_goes h (holds_geu a zx))⟩
  case jumps =>
    exact ⟨fun h => next_congr (jumpStep_went h), fun h => next_congr (jumpStep_linked h),
      fun h aligned => next_congr (jumpRegStep_went h aligned), fun h aligned => next_congr (jumpRegStep_linked h aligned),
      fun h unaligned => next_congr (jumpRegStep_unaligned h unaligned),
      fun h unaligned => next_congr (jumpRegStep_unaligned h unaligned)⟩

end Sys2Proof.Machine
end

section
/-! SUPPORT. The frames of the register instructions: what their effects change of the pair and of the rest of the machine (R95, R96,
R99–R101). -/

namespace Sys2Proof.Machine

/-! ## The fetch -/

/-- A fetch from outside hearth memory and the NVM window uses nothing of the block (R143, R179). -/
theorem fetched_eq_wake {s : State} {p : Nat} (notHearth : spaceOf (s.pair p).pc.toNat ≠ .hearth)
    (notNvm : spaceOf (s.pair p).pc.toNat ≠ .nvm) : s.fetched p = s.wake p := by
  unfold State.fetched State.fetchAt
  cases space : spaceOf (s.pair p).pc.toNat with
  | hearth => exact absurd space notHearth
  | nvm => exact absurd space notNvm
  | loc =>
    dsimp only
    split
    next ready => split at ready <;> cases ready; rfl
    next => rfl
  | _ => rfl

/-! ## The effects -/

section
variable {b : State} {p : Nat}

/-- An instruction that retires with the pair's named registers changed. -/
theorem framed_retire {named : List Nat} {y : Pair} (n : Nat) (t : Word) (h : (b.pair p).Keeps y named) :
    Resp.Framed b p named (some (.ok (b.setPair p { y.retire n with pc := t }))) :=
  framed_set (keeps_retire n t h)

theorem framed_doAlu {op : AluOp} {rd ra rb rc : BitVec 5}
    (raises : (op.overflows ((b.pair p).greg ra.toNat) ((b.pair p).greg rb.toNat) && (b.pair p).pm) = false) :
    Resp.Framed b p [rd.toNat] (some (b.doAlu p op rd ra rb rc)) := by
  have kept := keeps_setG (b.pair p) rd.toNat
    (op.result ((b.pair p).greg ra.toNat) ((b.pair p).greg rb.toNat) ((b.pair p).greg rc.toNat))
  simp only [State.doAlu, raises, Bool.false_eq_true, if_false]
  split
  · exact framed_imp _ _ (keeps_retire _ _ kept)
  · exact framed_retire _ _ kept

theorem framed_doImm (op : ImmOp) (rd ra : BitVec 5) (i : BitVec 16) :
    Resp.Framed b p [rd.toNat] (some (b.doImm p op rd ra i)) :=
  framed_retire _ _ (keeps_setG _ _ _)

theorem framed_doBranch (taken : Bool) (off : Word) : Resp.Framed b p [] (some (b.doBranch p taken off)) := by
  cases taken
  · exact framed_retire _ _ (keeps_refl _ _)
  · exact framed_retire _ _ (keeps_refl _ _)

/-- The registers that a jump names: g1 where it links. -/
def linkRegister (link : Bool) : List Nat := if link then [1] else []

theorem keeps_link (x : Pair) (link : Bool) : x.Keeps (if link then x.setG 1 (x.pc + 4) else x) (linkRegister link) := by
  cases link
  · exact keeps_refl _ _
  · exact keeps_setG x 1 (x.pc + 4)

theorem framed_doJump (link : Bool) (off : BitVec 26) : Resp.Framed b p (linkRegister link) (some (b.doJump p link off)) :=
  framed_retire _ _ (keeps_link _ _)

theorem framed_doJumpReg {ra : BitVec 5} {i : BitVec 16} (aligned : ((b.pair p).greg ra.toNat + i.signExtend 32) &&& 3#32 = 0#32)
    (link : Bool) : Resp.Framed b p (linkRegister link) (some (b.doJumpReg p link ra i)) := by
  have done : b.doJumpReg p link ra i = .ok (b.retireTo p (if link then (b.pair p).setG 1 ((b.pair p).pc + 4) else b.pair p)
      ((b.pair p).greg ra.toNat + i.signExtend 32) 3) := if_neg (not_not_intro aligned)
  rw [done]
  exact framed_retire _ _ (keeps_link _ _)

theorem keeps_issueMul (x : Pair) (op : MulOp) (a c : Word) : x.Keeps (x.issueMul op a c) [] := by
  unfold Pair.issueMul
  dsimp only
  split
  · exact keeps_pend _ _ _ _ (keeps_refl _ _)
  · exact keeps_pend _ _ _ _ (keeps_advance _ _ _)

theorem keeps_issueDiv (x : Pair) (op : MulOp) (a c : Word) : x.Keeps (x.issueDiv op a c) [] := by
  unfold Pair.issueDiv
  split
  · exact keeps_pend _ _ _ _ (keeps_advance _ _ _)
  · exact keeps_pend _ _ _ _ (keeps_refl _ _)

theorem framed_doMul {ra rb : BitVec 5} (raises : ¬((b.pair p).greg rb.toNat = 0#32 ∧ (b.pair p).pm = true)) (op : MulOp) :
    Resp.Framed b p [] (some (b.doMul p op ra rb)) := by
  unfold State.doMul
  dsimp only
  split
  · split
    next raised => exact absurd raised raises
    next =>
      split
      · exact framed_imp _ _ (keeps_retire _ _ (keeps_issueDiv _ _ _ _))
      · exact framed_retire _ _ (keeps_issueDiv _ _ _ _)
  · exact framed_retire _ _ (keeps_issueMul _ _ _ _)

end

/-! ## The commands -/

/-- The command's word is another instruction's and it changes nothing, or it changes no register but those named. -/
def State.Frames (s t : State) (p : Nat) (named : List Nat) : Prop :=
  t = s ∨ (s.LeavesRest t p ∧ (s.pair p).Keeps (t.pair p) named)

/-- A command whose instruction is not the one of its word changes nothing, and else its effect is framed. -/
theorem issue_frames_if {s : State} {p : Nat} {w : Word} {z : Zaend} {f : State → Zaend → Option Resp} {named : List Nat} {q : Prop}
    [Decidable q] {r : Resp} (h : s.Executes p w z) (hf : f (s.begun p z) z = if q then some r else none)
    (framed : q → Resp.Framed (s.begun p z) p named (some r)) : s.Frames (s.issue p w f) p named := by
  refine issue_frame h ?_
  rw [hf]
  split
  next hq => exact .inr (framed hq)
  next => exact .inl rfl

section
variable {s : State} {p : Nat} {w : Word}

theorem aluStep_frames {op : AluOp} {rd ra rb rc : BitVec 5} (h : s.Executes p w (.alu op rd ra rb rc)) {k : AluOp}
    (raises : (k.overflows ((s.pair p).greg ra.toNat) ((s.pair p).greg rb.toNat) && (s.pair p).pm) = false) :
    s.Frames (s.aluStep p w k) p [rd.toNat] := by
  have same := begun_same h
  refine issue_frames_if h rfl fun is => framed_doAlu ?_
  rw [same.greg, same.greg, same.pm, is, raises]

theorem immStep_frames {op : ImmOp} {rd ra : BitVec 5} {i : BitVec 16} (h : s.Executes p w (.imm op rd ra i)) (k : ImmOp) :
    s.Frames (s.immStep p w k) p [rd.toNat] :=
  issue_frames_if h rfl fun _ => framed_doImm _ _ _ _

theorem branchStep_frames {c : Cond} {ra rb : BitVec 5} {off : BitVec 16} (h : s.Executes p w (.branch c ra rb off)) (k : Cond) :
    s.Frames (s.branchStep p w k) p [] :=
  issue_frames_if h rfl fun _ => framed_doBranch _ _

theorem branchImmStep_frames {c : Cond} {ra : BitVec 5} {i : BitVec 8} {off : BitVec 13} (h : s.Executes p w (.branchImm c ra i off))
    (k : Cond) : s.Frames (s.branchImmStep p w k) p [] :=
  issue_frames_if h rfl fun _ => framed_doBranch _ _

theorem jumpStep_frames {link : Bool} {off : BitVec 26} (h : s.Executes p w (.jump link off)) :
    s.Frames (s.jumpStep p w link) p (linkRegister link) :=
  issue_frames_if h rfl fun _ => framed_doJump _ _

theorem jumpRegStep_frames {link : Bool} {ra : BitVec 5} {i : BitVec 16} (h : s.Executes p w (.jumpReg link ra i))
    (aligned : ((s.pair p).greg ra.toNat + i.signExtend 32) &&& 3#32 = 0#32) :
    s.Frames (s.jumpRegStep p w link) p (linkRegister link) :=
  issue_frames_if h rfl fun _ => framed_doJumpReg (by rw [(begun_same h).greg, aligned]) _

theorem mulStep_frames {op : MulOp} {ra rb : BitVec 5} (h : s.Executes p w (.mul op ra rb))
    (raises : ¬((s.pair p).greg rb.toNat = 0#32 ∧ (s.pair p).pm = true)) (k : MulOp) : s.Frames (s.mulStep p w k) p [] :=
  issue_frames_if h rfl fun _ => framed_doMul (by rw [(begun_same h).greg, (begun_same h).pm]; exact raises) _

end

/-- No operation of major 0x01 but addv and subv overflows (R82). -/
theorem overflows_plain {op : AluOp} (add : op ≠ .addv) (sub : op ≠ .subv) (a b : Word) : op.overflows a b = false := by
  cases op <;> simp_all [AluOp.overflows]

/-- The outcome of a command is one state. -/
theorem frames_of_exec {s t u : State} {c : Instr} {p : Nat} {named : List Nat} (h : exec c s = .next u) (k : s.Frames u p named)
    (e : exec c s = .next t) : s.Frames t p named := by
  cases h.symm.trans e
  exact k

end Sys2Proof.Machine
end

section
/-! The statement about the frames of the register instructions settled. -/

namespace Sys2Proof.Machine

/-- Settles O56: the effect of every register instruction is framed, whichever of them the command names (R95, R96, R99, R101). -/
theorem registerInstructionsChangeOnlyTheirs : Obligations.RegisterInstructionsChangeOnlyTheirs := by
  intro s t p w rd ra rb rc x a b runs frame
  refine ⟨fetched_eq_wake, fun op h => ⟨fun c hc => ?alu, fun fits => ?addv, fun fits => ?subv⟩, fun op i h c hc => ?imm,
    fun k off h c hc => ?branch, fun k i off h c hc => ?branchImm,
    fun off => ⟨fun h => frames_of_exec rfl (jumpStep_frames h), fun h => frames_of_exec rfl (jumpStep_frames h)⟩,
    fun i aligned => ⟨fun h => frames_of_exec rfl (jumpRegStep_frames h aligned),
      fun h => frames_of_exec rfl (jumpRegStep_frames h aligned)⟩,
    fun op h quiet c hc => ?mul⟩
  case alu =>
    have step : ∃ k : AluOp, exec c s = .next (s.aluStep p.val w k) ∧ k ≠ .addv ∧ k ≠ .subv := by
      simp only [List.mem_cons, List.not_mem_nil, or_false] at hc
      rcases hc with rfl | rfl | rfl | rfl | rfl | rfl | rfl | rfl | rfl | rfl | rfl | rfl | rfl | rfl | rfl <;>
        exact ⟨_, rfl, by decide, by decide⟩
    obtain ⟨k, is, add, sub⟩ := step
    exact frames_of_exec is (aluStep_frames h (by rw [overflows_plain add sub, Bool.false_and]))
  case addv =>
    refine frames_of_exec rfl (aluStep_frames h ?_)
    rcases fits with pm | fits
    · exact (congrArg _ pm).trans (Bool.and_false _)
    · rw [Bool.eq_false_iff.2 fun wraps => overflows_addv.1 wraps fits, Bool.false_and]
  case subv =>
    refine frames_of_exec rfl (aluStep_frames h ?_)
    rcases fits with pm | fits
    · exact (congrArg _ pm).trans (Bool.and_false _)
    · rw [Bool.eq_false_iff.2 fun wraps => overflows_subv.1 wraps fits, Bool.false_and]
  case imm =>
    have step : ∃ k : ImmOp, exec c s = .next (s.immStep p.val w k) := by
      simp only [List.mem_cons, List.not_mem_nil, or_false] at hc
      rcases hc with rfl | rfl | rfl | rfl | rfl | rfl | rfl | rfl | rfl | rfl <;> exact ⟨_, rfl⟩
    obtain ⟨k, is⟩ := step
    exact frames_of_exec is (immStep_frames h k)
  case branch =>
    have step : ∃ k : Cond, exec c s = .next (s.branchStep p.val w k) := by
      simp only [List.mem_cons, List.not_mem_nil, or_false] at hc
      rcases hc with rfl | rfl | rfl | rfl | rfl | rfl <;> exact ⟨_, rfl⟩
    obtain ⟨k, is⟩ := step
    exact frames_of_exec is (branchStep_frames h k)
  case branchImm =>
    have step : ∃ k : Cond, exec c s = .next (s.branchImmStep p.val w k) := by
      simp only [List.mem_cons, List.not_mem_nil, or_false] at hc
      rcases hc with rfl | rfl | rfl | rfl | rfl | rfl <;> exact ⟨_, rfl⟩
    obtain ⟨k, is⟩ := step
    exact frames_of_exec is (branchImmStep_frames h k)
  case mul =>
    have step : ∃ k : MulOp, exec c s = .next (s.mulStep p.val w k) := by
      simp only [List.mem_cons, List.not_mem_nil, or_false] at hc
      rcases hc with rfl | rfl | rfl | rfl | rfl | rfl <;> exact ⟨_, rfl⟩
    obtain ⟨k, is⟩ := step
    refine frames_of_exec is (mulStep_frames h ?_ k)
    rintro ⟨zero, pm⟩
    rcases quiet with precise | nonzero
    · exact Bool.false_ne_true (precise.symm.trans pm)
    · exact nonzero zero

end Sys2Proof.Machine
end

section
/-! SUPPORT. Loads and stores (R93, R97, R98, R151, R157): what the boundary of each answers. -/

namespace Sys2Proof.Machine

section
variable {s : State} {p : Nat} {w : Word}

/-! ## Loads -/

section
variable {op : LoadOp} {rd ra : BitVec 5} {i : BitVec 16}

/-- The address of a load, as of its beginning (R97). -/
theorem address_begun {z : Zaend} (h : s.Executes p w z) (ra : BitVec 5) (i : BitVec 16) :
    ((s.begun p z).pair p).address ra i = ((s.pair p).greg ra.toNat + i.signExtend 32).toNat := by
  unfold Pair.address
  rw [(begun_same h).greg]

/-- A load whose value is at hand gives it to rd (R97). -/
theorem loadStep_filled {chk : WordCheck} {a : Nat} {t : State} {v : Nat} {u : Word} (h : s.Executes p w (.load op rd ra i))
    (at_ : a = ((s.pair p).greg ra.toNat + i.signExtend 32).toNat)
    (checks : (s.begun p (.load op rd ra i)).dataExc p a op.size .load = none)
    (value : (s.begun p (.load op rd ra i)).loadValue p a op.size chk = .done t v) (widened : op.extend v = u) :
    s.loadStep p w op chk = t.filled p a rd u := by
  subst at_ widened
  refine issue_ok h ?_
  simp only [if_true, State.doLoad, address_begun h, checks, value]
  rfl

/-- A load whose read waits for its grant leaves the pair at the load (R179). -/
theorem loadStep_waits {chk : WordCheck} {a : Nat} {t : State} (h : s.Executes p w (.load op rd ra i))
    (at_ : a = ((s.pair p).greg ra.toNat + i.signExtend 32).toNat)
    (checks : (s.begun p (.load op rd ra i)).dataExc p a op.size .load = none)
    (value : (s.begun p (.load op rd ra i)).loadValue p a op.size chk = .waits t) : s.loadStep p w op chk = t.ended p := by
  subst at_
  refine issue_ok h ?_
  simp only [if_true, State.doLoad, address_begun h, checks, value]

/-- A load whose unit or word refuses it raises that exception (R157). -/
theorem loadStep_fails {chk : WordCheck} {a : Nat} {t : State} {e : Exc} (h : s.Executes p w (.load op rd ra i))
    (at_ : a = ((s.pair p).greg ra.toNat + i.signExtend 32).toNat)
    (checks : (s.begun p (.load op rd ra i)).dataExc p a op.size .load = none)
    (value : (s.begun p (.load op rd ra i)).loadValue p a op.size chk = .fails t e) :
    s.loadStep p w op chk = (t.raise p e).ended p := by
  subst at_
  refine issue_fail h ?_
  simp only [if_true, State.doLoad, address_begun h, checks, value]

/-- A load that a check refuses raises that check's exception (R98). -/
theorem loadStep_refused (chk : WordCheck) {a : Nat} {e : Exc} (h : s.Executes p w (.load op rd ra i))
    (at_ : a = ((s.pair p).greg ra.toNat + i.signExtend 32).toNat)
    (refused : (s.begun p (.load op rd ra i)).dataExc p a op.size .load = some e) :
    s.loadStep p w op chk = (((s.begun p (.load op rd ra i)).noteWrongSize p a op.size e).raise p e).ended p := by
  subst at_
  refine issue_fail h ?_
  simp only [if_true, State.doLoad, address_begun h, refused]

end

/-! ## The value of a load -/

section
variable {b t : State} {a n : Nat} {chk : WordCheck}

/-- A load from memory takes the bytes of its read as its word check lets them through. -/
theorem loadValue_read {bs : List Byte} (notControl : spaceOf a ≠ .control) (notWindow : spaceOf a ≠ .window)
    (read : b.reading p a n = .done t bs) :
    b.loadValue p a n chk = t.checkLoad p a (bs.zipIdx.map (fun x => (t.pair p).overlay (a + x.2) x.1)) chk := by
  have ordered : (if b.isDevice p a n then b.drainStores p else b.orderStrong p a n) = b.ordered p a n := rfl
  unfold State.reading at read
  unfold State.loadValue
  split
  next is => exact absurd is notControl
  next is => exact absurd is notWindow
  next =>
    dsimp only
    rw [ordered]
    split at read
    next waits => rw [if_pos waits, read]
    next free => cases read; rw [if_neg free]

theorem loadValue_waits (notControl : spaceOf a ≠ .control) (notWindow : spaceOf a ≠ .window)
    (read : b.reading p a n = .waits t) : b.loadValue p a n chk = .waits t := by
  have ordered : (if b.isDevice p a n then b.drainStores p else b.orderStrong p a n) = b.ordered p a n := rfl
  unfold State.reading at read
  unfold State.loadValue
  split
  next is => exact absurd is notControl
  next is => exact absurd is notWindow
  next =>
    dsimp only
    rw [ordered]
    split at read
    next waits => rw [if_pos waits, read]
    next => cases read

theorem loadValue_clean {bs : List Byte} (notControl : spaceOf a ≠ .control) (notWindow : spaceOf a ≠ .window)
    (read : b.reading p a n = .done t bs) (sound : t.flawed p a = false) : b.loadValue p a n .clean = .done t (t.seen p a bs) := by
  rw [loadValue_read notControl notWindow read]
  simp [State.checkLoad, sound, State.seen]

theorem loadValue_corrected {bs : List Byte} (notControl : spaceOf a ≠ .control) (notWindow : spaceOf a ≠ .window)
    (read : b.reading p a n = .done t bs) (sound : t.flawed p a = false) :
    b.loadValue p a n .corrected = .done (t.memCorrected p a) (t.seen p a bs) := by
  rw [loadValue_read notControl notWindow read]
  simp [State.checkLoad, sound, State.seen]

/-- An uncorrectable word, found now or known before, raises bus error (R157). -/
theorem loadValue_flawed {bs : List Byte} (notControl : spaceOf a ≠ .control) (notWindow : spaceOf a ≠ .window)
    (read : b.reading p a n = .done t bs) (flawed : chk = .uncorrectable ∨ t.flawed p a = true) :
    b.loadValue p a n chk = .fails (t.memUncorrectable p a) ⟨Cause.busError, wd a⟩ := by
  have found : (if t.flawed p a then .uncorrectable else chk : WordCheck) = .uncorrectable := by
    rcases flawed with rfl | known
    · exact ite_self _
    · rw [known, if_pos rfl]
  rw [loadValue_read notControl notWindow read]
  unfold State.checkLoad
  rw [found]

theorem loadValue_control (is : spaceOf a = .control) :
    b.loadValue p a n chk = .done (b.drainStores p) ((b.drainStores p).ctlLoad p (a - 0x10000)).toNat := by
  unfold State.loadValue
  rw [is]

theorem loadValue_window (is : spaceOf a = .window) :
    b.loadValue p a n chk = .ofUnit ((b.drainStores p).devLoad p (a - 0x40000000)) := by
  unfold State.loadValue
  rw [is]

end

/-! ## What rd takes of the value (R97) -/

theorem extend_ldw (v : Nat) : LoadOp.ldw.extend v = wd v := rfl
theorem extend_ldhu (v : Nat) : LoadOp.ldhu.extend v = wd v := rfl
theorem extend_ldbu (v : Nat) : LoadOp.ldbu.extend v = wd v := rfl
theorem extend_ldh (v : Nat) : LoadOp.ldh.extend v = (BitVec.ofNat 16 v).signExtend 32 := by
  rw [LoadOp.extend, sextWord, BitVec.setWidth_ofNat_of_le (by decide)]
theorem extend_ldb (v : Nat) : LoadOp.ldb.extend v = (BitVec.ofNat 8 v).signExtend 32 := by
  rw [LoadOp.extend, sextWord, BitVec.setWidth_ofNat_of_le (by decide)]
theorem extend_word (v : Word) : LoadOp.ldw.extend v.toNat = v := BitVec.ofNat_toNat 32 v |>.trans (BitVec.setWidth_eq v)

/-! ## Stores -/

section
variable {op : StoreOp} {rs ra : BitVec 5} {i : BitVec 16}

/-- A store that its target takes goes on at the next word; one in the window may leave the cycles uncounted (R94, R97). -/
theorem storeStep_stored {a : Nat} {t : State} (h : s.Executes p w (.store op rs ra i))
    (at_ : a = ((s.pair p).greg ra.toNat + i.signExtend 32).toNat)
    (checks : (s.begun p (.store op rs ra i)).dataExc p a op.size .store = none)
    (taken : ((s.begun p (.store op rs ra i)).storeValue p a op.size ((s.pair p).greg rs.toNat)).1 = .ok t) :
    s.storeStep p w op = (t.retireNext p (if spaceOf a = .window then { t.pair p with unsteady := true } else t.pair p)
      ((s.begun p (.store op rs ra i)).storeValue p a op.size ((s.pair p).greg rs.toNat)).2).ended p := by
  subst at_
  refine issue_ok h ?_
  simp only [if_true, State.doStore, address_begun h, checks, (begun_same h).greg, taken]

/-- A store that its target refuses raises the target's exception. -/
theorem storeStep_fails {a : Nat} {t : State} {e : Exc} (h : s.Executes p w (.store op rs ra i))
    (at_ : a = ((s.pair p).greg ra.toNat + i.signExtend 32).toNat)
    (checks : (s.begun p (.store op rs ra i)).dataExc p a op.size .store = none)
    (refused : ((s.begun p (.store op rs ra i)).storeValue p a op.size ((s.pair p).greg rs.toNat)).1 = .fail t e) :
    s.storeStep p w op = (t.raise p e).ended p := by
  subst at_
  refine issue_fail h ?_
  simp only [if_true, State.doStore, address_begun h, checks, (begun_same h).greg, refused]

/-- A store that a check refuses raises that check's exception (R98). -/
theorem storeStep_refused {a : Nat} {e : Exc} (h : s.Executes p w (.store op rs ra i))
    (at_ : a = ((s.pair p).greg ra.toNat + i.signExtend 32).toNat)
    (refused : (s.begun p (.store op rs ra i)).dataExc p a op.size .store = some e) :
    s.storeStep p w op = (((s.begun p (.store op rs ra i)).noteWrongSize p a op.size e).raise p e).ended p := by
  subst at_
  refine issue_fail h ?_
  simp only [if_true, State.doStore, address_begun h, refused]

end

section
variable {b : State} {a n : Nat} {v : Word}

/-- A store to memory enters the store buffer, or is performed at once in a device region (R93, R151). -/
theorem storeValue_mem (notControl : spaceOf a ≠ .control) (notWindow : spaceOf a ≠ .window) :
    b.storeValue p a n v = (.ok (if b.isDevice p a n then b.performNow p a n v else b.post p ⟨a, n, v, b.isStrong p a n⟩), 1) := by
  unfold State.storeValue
  split
  next is => exact absurd is notControl
  next is => exact absurd is notWindow
  next => rfl

/-- The pair with its posted stores performed, where it has any. -/
def State.withoutPosted (b : State) (p : Nat) : State :=
  if (b.pair p).stores.isEmpty then b else (b.drainStores p).updPair p (fun x => x.advanceLoose 0)

theorem storeValue_control (is : spaceOf a = .control) : b.storeValue p a n v = ((b.withoutPosted p).ctlStore p (a - 0x10000) v, 4) := by
  unfold State.storeValue
  rw [is]
  rfl

theorem storeValue_window (is : spaceOf a = .window) : b.storeValue p a n v = ((b.withoutPosted p).devStore p (a - 0x40000000) v, 20) := by
  unfold State.storeValue
  rw [is]
  rfl

end

/-- A store that the core-local block takes (R142). -/
theorem storeStep_control {op : StoreOp} {rs ra : BitVec 5} {i : BitVec 16} {a : Nat} {t : State}
    (h : s.Executes p w (.store op rs ra i)) (at_ : a = ((s.pair p).greg ra.toNat + i.signExtend 32).toNat)
    (checks : (s.begun p (.store op rs ra i)).dataExc p a op.size .store = none) (is : spaceOf a = .control)
    (taken : ((s.begun p (.store op rs ra i)).withoutPosted p).ctlStore p (a - 0x10000) ((s.pair p).greg rs.toNat) = .ok t) :
    s.storeStep p w op = t.storedAt p 4 := by
  have value := storeValue_control (b := s.begun p (.store op rs ra i)) (n := op.size) (v := (s.pair p).greg rs.toNat) (p := p) is
  rw [taken] at value
  rw [storeStep_stored (t := t) h at_ checks (by rw [value]), value, if_neg (by rw [is]; decide)]
  rfl

/-- A store that a unit of the window takes leaves its cycles uncounted (R94). -/
theorem storeStep_window {op : StoreOp} {rs ra : BitVec 5} {i : BitVec 16} {a : Nat} {t : State}
    (h : s.Executes p w (.store op rs ra i)) (at_ : a = ((s.pair p).greg ra.toNat + i.signExtend 32).toNat)
    (checks : (s.begun p (.store op rs ra i)).dataExc p a op.size .store = none) (is : spaceOf a = .window)
    (taken : ((s.begun p (.store op rs ra i)).withoutPosted p).devStore p (a - 0x40000000) ((s.pair p).greg rs.toNat) = .ok t) :
    s.storeStep p w op = (t.retireNext p { t.pair p with unsteady := true } 20).ended p := by
  have value := storeValue_window (b := s.begun p (.store op rs ra i)) (n := op.size) (v := (s.pair p).greg rs.toNat) (p := p) is
  rw [taken] at value
  rw [storeStep_stored (t := t) h at_ checks (by rw [value]), value, if_pos is]

/-- A store that the core-local block or a unit of the window refuses. -/
theorem storeStep_controlFails {op : StoreOp} {rs ra : BitVec 5} {i : BitVec 16} {a : Nat} {t : State} {e : Exc}
    (h : s.Executes p w (.store op rs ra i)) (at_ : a = ((s.pair p).greg ra.toNat + i.signExtend 32).toNat)
    (checks : (s.begun p (.store op rs ra i)).dataExc p a op.size .store = none) (is : spaceOf a = .control)
    (fails : ((s.begun p (.store op rs ra i)).withoutPosted p).ctlStore p (a - 0x10000) ((s.pair p).greg rs.toNat) = .fail t e) :
    s.storeStep p w op = (t.raise p e).ended p :=
  storeStep_fails h at_ checks (by rw [storeValue_control is, fails])

theorem storeStep_windowFails {op : StoreOp} {rs ra : BitVec 5} {i : BitVec 16} {a : Nat} {t : State} {e : Exc}
    (h : s.Executes p w (.store op rs ra i)) (at_ : a = ((s.pair p).greg ra.toNat + i.signExtend 32).toNat)
    (checks : (s.begun p (.store op rs ra i)).dataExc p a op.size .store = none) (is : spaceOf a = .window)
    (fails : ((s.begun p (.store op rs ra i)).withoutPosted p).devStore p (a - 0x40000000) ((s.pair p).greg rs.toNat) = .fail t e) :
    s.storeStep p w op = (t.raise p e).ended p :=
  storeStep_fails h at_ checks (by rw [storeValue_window is, fails])

/-- A store to memory whose checks pass (R93, R97, R151). -/
theorem storeStep_mem {op : StoreOp} {rs ra : BitVec 5} {i : BitVec 16} {a : Nat} (h : s.Executes p w (.store op rs ra i))
    (at_ : a = ((s.pair p).greg ra.toNat + i.signExtend 32).toNat)
    (checks : (s.begun p (.store op rs ra i)).dataExc p a op.size .store = none)
    (notControl : spaceOf a ≠ .control) (notWindow : spaceOf a ≠ .window) :
    let b := s.begun p (.store op rs ra i)
    let v := (s.pair p).greg rs.toNat
    s.storeStep p w op = if b.isDevice p a op.size then (b.performNow p a op.size v).storedAt p 1
      else (b.post p ⟨a, op.size, v, b.isStrong p a op.size⟩).storedAt p 1 := by
  intro b v
  have value := storeValue_mem (b := b) (n := op.size) (v := v) (p := p) notControl notWindow
  rw [storeStep_stored h at_ checks (congrArg Prod.fst value), if_neg notWindow, congrArg Prod.snd value]
  split <;> rfl

end

/-! ## Posted stores performed -/

section
variable {s : State} {p : PairId} {i : Nat} {t : PostedStore}

theorem storePerformed_waits (is : (s.pair p.val).stores[i]? = some t)
    (waits : (s.pair p.val).storeFree i = false ∨
      (spaceOf t.addr = .hearth ∧ (s.arb (bankAt p.val t.addr)).holds (indexOf p.val) = false)) :
    exec (.storePerformed p i) s = .next s := by
  change execStorePerformed p i s = _
  unfold execStorePerformed
  rw [is]
  rcases waits with held | ⟨hearth, ungranted⟩
  · simp [held]
  · simp [hearth, ungranted]

theorem storePerformed_performs (is : (s.pair p.val).stores[i]? = some t) (free : (s.pair p.val).storeFree i = true)
    (granted : spaceOf t.addr = .hearth → (s.arb (bankAt p.val t.addr)).holds (indexOf p.val) = true) :
    exec (.storePerformed p i) s = .next (((s.performStore p.val t).updPair p.val
      (fun x => { x with stores := x.stores.eraseIdx i })).askStores p.val) := by
  change execStorePerformed p i s = _
  have goes : ¬(spaceOf t.addr = .hearth ∧ (!(s.arb (bankAt p.val t.addr)).holds (indexOf p.val)) = true) := by
    rintro ⟨hearth, ungranted⟩
    simp [granted hearth] at ungranted
  unfold execStorePerformed
  rw [is]
  simp only [free, Bool.not_true, Bool.false_eq_true, if_false, if_neg goes, State.performAt, is]

end

/-- An access not aligned to its size raises misaligned (R98). -/
theorem dataExc_misaligned (s : State) (p : Nat) {a n : Nat} (k : Access) (unaligned : a % n ≠ 0) :
    s.dataExc p a n k = some ⟨Cause.misaligned, wd a⟩ := if_pos unaligned

end Sys2Proof.Machine
end

section
/-! The statement about loads and stores settled. -/

namespace Sys2Proof.Machine

/-- Settles O7: what each load and store answers as its target, its read and its word come out (R93, R97, R98, R151, R157). -/
theorem loadsAndStoresMoveTheirBytes : Obligations.LoadsAndStoresMoveTheirBytes := by
  refine ⟨fun s p w rd ra i => ⟨fun t bs => ⟨?_, ?_, ?_, ?_, ?_, ?_, ?_, ?_, ?_⟩, ?_, ?_, ?_, ?_⟩,
    ⟨fun s p w rs ra i => ⟨?_, ?_, ?_, ?_, ?_, ?_, ?_⟩, fun s p i t is => ⟨?_, ?_, ?_⟩⟩, fun s p w r ra i e => ⟨?_, ?_, ?_⟩⟩
  · rintro ⟨h, checks⟩ ⟨⟨⟨c, d⟩, read⟩, sound⟩
    exact congrArg _ (loadStep_filled h rfl checks (loadValue_clean c d read sound) (extend_ldw _))
  · rintro ⟨h, checks⟩ ⟨⟨⟨c, d⟩, read⟩, sound⟩
    exact congrArg _ (loadStep_filled h rfl checks (loadValue_clean c d read sound) (extend_ldh _))
  · rintro ⟨h, checks⟩ ⟨⟨⟨c, d⟩, read⟩, sound⟩
    exact congrArg _ (loadStep_filled h rfl checks (loadValue_clean c d read sound) (extend_ldhu _))
  · rintro ⟨h, checks⟩ ⟨⟨⟨c, d⟩, read⟩, sound⟩
    exact congrArg _ (loadStep_filled h rfl checks (loadValue_clean c d read sound) (extend_ldb _))
  · rintro ⟨h, checks⟩ ⟨⟨⟨c, d⟩, read⟩, sound⟩
    exact congrArg _ (loadStep_filled h rfl checks (loadValue_clean c d read sound) (extend_ldbu _))
  · rintro ⟨h, checks⟩ ⟨⟨⟨c, d⟩, read⟩, sound⟩
    exact congrArg _ (loadStep_filled h rfl checks (loadValue_corrected c d read sound) (extend_ldw _))
  · rintro ⟨h, checks⟩ ⟨⟨c, d⟩, read⟩
    exact congrArg _ (loadStep_fails h rfl checks (loadValue_flawed c d read (.inl rfl)))
  · rintro ⟨h, checks⟩ ⟨⟨c, d⟩, read⟩ known chk
    exact congrArg _ (loadStep_fails h rfl checks (loadValue_flawed c d read (.inr known)))
  · rintro ⟨h, checks⟩ ⟨⟨c, d⟩, read⟩ known chk
    exact congrArg _ (loadStep_fails h rfl checks (loadValue_flawed c d read (.inr known)))
  · rintro t chk ⟨c, d⟩ ⟨h, checks⟩ read
    exact congrArg _ (loadStep_waits h rfl checks (loadValue_waits c d read))
  · rintro is ⟨h, checks⟩ chk
    exact congrArg _ (loadStep_filled h rfl checks (loadValue_control is) (extend_word _))
  · rintro is ⟨h, checks⟩ chk t v answer
    exact congrArg _ (loadStep_filled h rfl checks ((loadValue_window is).trans (congrArg Loaded.ofUnit answer)) (extend_word _))
  · rintro is ⟨h, checks⟩ chk t e v answer
    exact congrArg _ (loadStep_fails h rfl checks ((loadValue_window is).trans (congrArg Loaded.ofUnit answer)))
  · rintro ⟨c, d⟩ ⟨h, checks⟩
    exact congrArg _ (storeStep_mem h rfl checks c d)
  · rintro ⟨c, d⟩ ⟨h, checks⟩
    exact congrArg _ (storeStep_mem h rfl checks c d)
  · rintro ⟨c, d⟩ ⟨h, checks⟩
    exact congrArg _ (storeStep_mem h rfl checks c d)
  · rintro is ⟨h, checks⟩ t answer
    exact congrArg _ (storeStep_control h rfl checks is answer)
  · rintro is ⟨h, checks⟩ t answer
    exact congrArg _ (storeStep_window h rfl checks is answer)
  · rintro is ⟨h, checks⟩ t e answer
    exact congrArg _ (storeStep_controlFails h rfl checks is answer)
  · rintro is ⟨h, checks⟩ t e answer
    exact congrArg _ (storeStep_windowFails h rfl checks is answer)
  · intro free notHearth
    rw [storePerformed_performs is free fun hearth => absurd hearth notHearth]
    simp only [State.performStore, if_neg notHearth]
  · intro free hearth granted
    rw [storePerformed_performs is free fun _ => granted]
    simp only [State.performStore, if_pos hearth]
  · exact storePerformed_waits is
  · intro op h refused chk
    cases op <;> exact congrArg _ (loadStep_refused chk h rfl refused)
  · intro op h refused
    cases op <;> exact congrArg _ (storeStep_refused h rfl refused)
  · exact fun n k _ unaligned => dataExc_misaligned s p.val k unaligned

end Sys2Proof.Machine
end

section
/-! SUPPORT. The frames of loads and stores: what a read, a posted store and a store performed leave of the pair, of the other pairs
and of the memories (R93, R97, R98). -/

namespace Sys2Proof.Machine

/-- A command whose instruction is not the one of its word changes nothing. -/
theorem issue_none {s : State} {p : Nat} {w : Word} {z : Zaend} {f : State → Zaend → Option Resp} (h : s.Executes p w z)
    (hf : f (s.begun p z) z = none) : s.issue p w f = s := by
  obtain ⟨issues, noImprecise, fetches, word, ready, decodes, _, _⟩ := h
  have begins : (s.fetched p).updPair p (fun x => x.await z) = s.begun p z := rfl
  simp [State.issue, issues, noImprecise, fetches, word, ready, decodes, begins, hf]

/-- Beginning an instruction leaves the memories alone. -/
theorem begun_mem {s : State} {p : Nat} {w : Word} {z : Zaend} (h : s.Executes p w z) :
    (s.begun p z).hmem = s.hmem ∧ (s.begun p z).nvm = s.nvm := by
  have k := (fetchAt_same h.ready).2.2
  exact ⟨k.1, k.2⟩

/-! ## Loads -/

section
variable {b : State} {p : Nat}

/-- There is nothing to drain where no store is posted. -/
theorem drainStores_none (none_ : (b.pair p).stores = []) : b.drainStores p = b := by
  simp [State.drainStores, none_]

theorem ordered_none (none_ : (b.pair p).stores = []) (a n : Nat) : b.ordered p a n = b := by
  unfold State.ordered State.orderStrong
  rw [drainStores_none none_, ite_self, ite_self]

/-- A read with no store posted leaves the pairs and the memories alone. -/
theorem untouched_reading (none_ : (b.pair p).stores = []) (a n : Nat) : b.Untouched (b.reading p a n).state := by
  unfold State.reading
  rw [ordered_none none_]
  split
  · exact untouched_pairRead _ _ _ _ _
  · exact .refl b

theorem keeps_loaded (x : Pair) (rd : Nat) (v : Word) (d : Nat × Bool) : x.Keeps (x.loaded rd v d) [rd] := by
  obtain ⟨g, sr, mem, mpu, timer, doorbells⟩ := keeps_setG x rd v
  exact ⟨g, sr, mem, mpu, timer, doorbells⟩

/-- What a load that has its value leaves, after a read that left the pairs and the memories alone. -/
theorem filled_frame {t : State} (kept : b.Untouched t) (a : Nat) (rd : BitVec 5) (v : Word) :
    (b.pair p).Keeps ((t.filled p a rd v).pair p) [rd.toNat] ∧ (∀ q, q ≠ p → (t.filled p a rd v).pair q = b.pair q) ∧
    (t.filled p a rd v).hmem = b.hmem ∧ (t.filled p a rd v).nvm = b.nvm := by
  have off : State.Off t (t.filled p a rd v) p := (off_set t p _).trans (off_ended _ p)
  refine ⟨?_, fun q hq => (off.pairs q hq).trans (kept.pair q), off.hm.trans kept.hmem, off.nv.trans kept.nvm⟩
  rw [← kept.pair p]
  refine keeps_ended _ _ _ _ ?_
  rw [State.pair_setPair]
  exact keeps_retire _ _ (keeps_loaded _ _ _ _)

/-- What a load that waits for its grant leaves. -/
theorem waits_frame {t : State} (kept : b.Untouched t) (named : List Nat) :
    (b.pair p).Keeps ((t.ended p).pair p) named ∧ (∀ q, q ≠ p → (t.ended p).pair q = b.pair q) ∧
    (t.ended p).hmem = b.hmem ∧ (t.ended p).nvm = b.nvm := by
  have off := off_ended t p
  refine ⟨?_, fun q hq => (off.pairs q hq).trans (kept.pair q), off.hm.trans kept.hmem, off.nv.trans kept.nvm⟩
  rw [← kept.pair p]
  exact keeps_ended _ _ _ _ (keeps_refl _ _)

end

section
variable {s : State} {p : Nat} {w : Word} {op : LoadOp} {rd ra : BitVec 5} {i : BitVec 16} {a : Nat}

/-- A load from memory that raises nothing, with no store posted (R97). -/
theorem loadStep_frame (h : s.Executes p w (.load op rd ra i)) (at_ : a = ((s.pair p).greg ra.toNat + i.signExtend 32).toNat)
    (checks : (s.begun p (.load op rd ra i)).dataExc p a op.size .load = none)
    (notControl : spaceOf a ≠ .control) (notWindow : spaceOf a ≠ .window)
    (raises : ∀ u e, (s.begun p (.load op rd ra i)).loadValue p a op.size .clean ≠ .fails u e) (none_ : (s.pair p).stores = []) :
    let t := s.loadStep p w op .clean
    ((s.begun p (.load op rd ra i)).pair p).Keeps (t.pair p) [rd.toNat] ∧
    (∀ q, q ≠ p → t.pair q = (s.begun p (.load op rd ra i)).pair q) ∧
    t.hmem = (s.begun p (.load op rd ra i)).hmem ∧ t.nvm = (s.begun p (.load op rd ra i)).nvm := by
  have kept := untouched_reading (p := p) ((begun_same h).stores.trans none_) a op.size
  dsimp only
  cases read : (s.begun p (.load op rd ra i)).reading p a op.size with
  | waits t =>
    rw [read] at kept
    rw [loadStep_waits h at_ checks (loadValue_waits notControl notWindow read)]
    exact waits_frame kept _
  | done t bs =>
    rw [read] at kept
    cases flawed : t.flawed p a with
    | true => exact absurd (loadValue_flawed notControl notWindow read (.inr flawed)) (raises _ _)
    | false =>
      rw [loadStep_filled h at_ checks (loadValue_clean notControl notWindow read flawed) rfl]
      exact filled_frame kept _ _ _

end

/-! ## What an operation leaves of the registers and of the memories -/

/-- The registers of pair p, the other pairs and the NVM array are those of `s`. -/
structure State.KeepsRegs (s t : State) (p : Nat) : Prop where
  g : (t.pair p).g = (s.pair p).g
  sr : (t.pair p).sr = (s.pair p).sr
  others : ∀ q, q ≠ p → t.pair q = s.pair q
  nvm : t.nvm = s.nvm

/-- Local memory of pair p and hearth memory too. -/
structure State.KeepsMem (s t : State) (p : Nat) : Prop extends s.KeepsRegs t p where
  lmem : (t.pair p).lmem = (s.pair p).lmem
  hmem : t.hmem = s.hmem

section
variable {s t u : State} {p : Nat}

theorem State.KeepsRegs.refl (s : State) (p : Nat) : s.KeepsRegs s p := ⟨rfl, rfl, fun _ _ => rfl, rfl⟩
theorem State.KeepsMem.refl (s : State) (p : Nat) : s.KeepsMem s p := ⟨.refl s p, rfl, rfl⟩

theorem State.KeepsRegs.trans (a : s.KeepsRegs t p) (b : t.KeepsRegs u p) : s.KeepsRegs u p :=
  ⟨b.g.trans a.g, b.sr.trans a.sr, fun q hq => (b.others q hq).trans (a.others q hq), b.nvm.trans a.nvm⟩

theorem State.KeepsMem.trans (a : s.KeepsMem t p) (b : t.KeepsMem u p) : s.KeepsMem u p :=
  ⟨a.toKeepsRegs.trans b.toKeepsRegs, b.lmem.trans a.lmem, b.hmem.trans a.hmem⟩

theorem State.KeepsRegs.greg (k : s.KeepsRegs t p) (r : Nat) : (t.pair p).greg r = (s.pair p).greg r := by
  unfold Pair.greg
  rw [k.g]

theorem State.KeepsRegs.sreg (k : s.KeepsRegs t p) (n : Nat) : (t.pair p).sreg n = (s.pair p).sreg n := by
  unfold Pair.sreg
  rw [k.sr]

theorem State.Untouched.keeps (h : s.Untouched t) (p : Nat) : s.KeepsMem t p :=
  ⟨⟨congrArg Pair.g (h.pair p), congrArg Pair.sr (h.pair p), fun q _ => h.pair q, h.nvm⟩, congrArg Pair.lmem (h.pair p), h.hmem⟩

/-- A change of the pair that leaves its registers. -/
theorem keepsRegs_updPair (s : State) (p : Nat) {f : Pair → Pair} (g : ∀ x, (f x).g = x.g) (sr : ∀ x, (f x).sr = x.sr) :
    s.KeepsRegs (s.updPair p f) p :=
  ⟨(congrArg Pair.g (State.pair_updPair s p f)).trans (g _), (congrArg Pair.sr (State.pair_updPair s p f)).trans (sr _),
    fun _ hq => State.pair_updPair_ne s f hq, rfl⟩

theorem keepsMem_updPair (s : State) (p : Nat) {f : Pair → Pair} (g : ∀ x, (f x).g = x.g) (sr : ∀ x, (f x).sr = x.sr)
    (lmem : ∀ x, (f x).lmem = x.lmem) : s.KeepsMem (s.updPair p f) p :=
  ⟨keepsRegs_updPair s p g sr, (congrArg Pair.lmem (State.pair_updPair s p f)).trans (lmem _), rfl⟩

theorem keepsMem_noteStore (s : State) (p a n : Nat) : s.KeepsMem (s.noteStore p a n) p := by
  unfold State.noteStore
  induction List.range ((a + n - 1) / 4 - a / 4 + 1) generalizing s with
  | nil => exact .refl s p
  | cons i l ih =>
    refine State.KeepsMem.trans ?_ (ih _)
    dsimp only
    split
    · exact .refl s p
    · exact keepsMem_updPair s p (fun _ => rfl) (fun _ => rfl) (fun _ => rfl)

theorem stores_noteStore (s : State) (p a n : Nat) : ((s.noteStore p a n).pair p).stores = (s.pair p).stores := by
  unfold State.noteStore
  induction List.range ((a + n - 1) / 4 - a / 4 + 1) generalizing s with
  | nil => rfl
  | cons i l ih =>
    refine (ih _).trans ?_
    dsimp only
    split
    · rfl
    · rw [State.pair_updPair]

/-- A buffer of fewer than four stores has room (R93). -/
theorem makeRoom_of_room (room : (s.pair p).stores.length ≤ 3) : s.makeRoom p = s := by
  unfold State.makeRoom
  split
  · exact if_pos (by omega)
  · rfl

/-- A store posted where the buffer has room (R93). -/
theorem keepsMem_post (room : (s.pair p).stores.length ≤ 3) (t : PostedStore) : s.KeepsMem (s.post p t) p := by
  unfold State.post
  rw [makeRoom_of_room (by rw [stores_noteStore]; exact room)]
  refine State.KeepsMem.trans ((keepsMem_noteStore s p t.addr t.size).trans ?_) ((untouched_askStores _ p).keeps p)
  refine keepsMem_updPair _ p ?_ ?_ ?_ <;> exact fun _ => rfl

end

section
variable {s : State} {p : Nat} {w : Word} {op : StoreOp} {rs ra : BitVec 5} {i : BitVec 16} {a : Nat}

/-- What a pair's posting of a store leaves, with what every instruction brings (R63, R102). -/
structure State.Posts (s t : State) (p : Nat) : Prop where
  greg : ∀ r, (t.pair p).greg r = (s.pair p).greg r
  sreg : ∀ n, n ∉ [SR.cnt, SR.mh, SR.ml, SR.dq, SR.dr] → (t.pair p).sreg n = (s.pair p).sreg n
  others : ∀ q, q ≠ p → t.pair q = s.pair q
  hmem : t.hmem = s.hmem
  nvm : t.nvm = s.nvm
  lmem : (t.pair p).lmem = (s.pair p).lmem

theorem State.Posts.refl (s : State) (p : Nat) : s.Posts s p := ⟨fun _ => rfl, fun _ _ => rfl, fun _ _ => rfl, rfl, rfl, rfl⟩

theorem storedAt_posts {z : Zaend} {t : State} (h : s.Executes p w z) (kept : (s.begun p z).KeepsMem t p) (n : Nat) :
    s.Posts (t.storedAt p n) p := by
  have off : State.Off t (t.storedAt p n) p := (off_set t p _).trans (off_ended _ p)
  have own : (t.pair p).Keeps ((t.storedAt p n).pair p) [] :=
    keeps_ended _ _ _ _ (by rw [State.pair_setPair]; exact keeps_retire _ _ (keeps_refl _ _))
  have same := keeps_same (begun_same h) []
  refine ⟨fun r => ?_, fun k hk => ?_, fun q hq => ?_, ?_, ?_, ?_⟩
  · exact ((own.greg r List.not_mem_nil).trans (kept.greg r)).trans (same.greg r List.not_mem_nil)
  · exact ((own.sreg k hk).trans (kept.sreg k)).trans (same.sreg k hk)
  · exact ((off.pairs q hq).trans (kept.others q hq)).trans (begun_other h q hq)
  · exact (off.hm.trans kept.hmem).trans (begun_mem h).1
  · exact (off.nv.trans kept.nvm).trans (begun_mem h).2
  · exact (own.mem.1.trans kept.lmem).trans same.mem.1

/-- A store to memory outside the device regions, where the buffer has room. -/
theorem storeStep_posts (h : s.Executes p w (.store op rs ra i)) (at_ : a = ((s.pair p).greg ra.toNat + i.signExtend 32).toNat)
    (checks : (s.begun p (.store op rs ra i)).dataExc p a op.size .store = none)
    (notControl : spaceOf a ≠ .control) (notWindow : spaceOf a ≠ .window)
    (posted : (s.begun p (.store op rs ra i)).isDevice p a op.size = false) (room : (s.pair p).stores.length ≤ 3) :
    s.Posts (s.storeStep p w op) p := by
  have eq := storeStep_mem h at_ checks notControl notWindow
  dsimp only at eq
  rw [posted, if_neg Bool.false_ne_true] at eq
  rw [eq]
  exact storedAt_posts h (keepsMem_post (by rw [(begun_same h).stores]; exact room) _) 1

end

/-! ## A store performed -/

/-- The NVM window shows what it shows in `s`. -/
def State.ShowsNvm (s t : State) : Prop := ∀ o, t.arrayByte (t.nvmSource o) = s.arrayByte (s.nvmSource o)

section
variable {s t u : State} {p : Nat}

theorem State.ShowsNvm.refl (s : State) : s.ShowsNvm s := fun _ => rfl
theorem State.ShowsNvm.trans (a : s.ShowsNvm t) (b : t.ShowsNvm u) : s.ShowsNvm u := fun o => (b o).trans (a o)

theorem showsNvm_setArb (s : State) (i : ArbId) (a : Arbiter) : s.ShowsNvm (s.setArb i a) := by
  cases i <;> exact fun _ => rfl

theorem showsNvm_updPair (s : State) (p : Nat) (f : Pair → Pair) : s.ShowsNvm (s.updPair p f) := fun _ => rfl

theorem showsNvm_writeMem (s : State) (p a : Nat) (bs : List Byte) : s.ShowsNvm (s.writeMem p a bs) := by
  unfold State.writeMem
  split <;> exact fun _ => rfl

theorem showsNvm_dropWriteBack (s : State) (h o n : Nat) : s.ShowsNvm (s.dropWriteBack h o n) := by
  unfold State.dropWriteBack
  dsimp only
  split <;> exact fun _ => rfl

theorem showsNvm_ask (s : State) (i : ArbId) (x : Nat) : s.ShowsNvm (s.ask i x) := by
  unfold State.ask
  dsimp only
  split
  · exact .refl s
  · exact showsNvm_setArb _ _ _

theorem showsNvm_askStores (s : State) (p : Nat) : s.ShowsNvm (s.askStores p) := by
  unfold State.askStores
  dsimp only
  generalize s.pair p = x
  induction List.range x.stores.length generalizing s with
  | nil => exact .refl s
  | cons i l ih =>
    refine State.ShowsNvm.trans ?_ (ih _)
    dsimp only
    split
    · split
      · exact showsNvm_ask _ _ _
      · exact .refl s
    · exact .refl s

theorem showsNvm_performStore (s : State) (p : Nat) (ps : PostedStore) : s.ShowsNvm (s.performStore p ps) := by
  unfold State.performStore
  dsimp only
  split
  · exact ((showsNvm_writeMem s _ _ _).trans (showsNvm_dropWriteBack _ _ _ _)).trans (showsNvm_setArb _ _ _)
  · exact showsNvm_writeMem s _ _ _

/-- A byte as memory holds it stands in local memory, hearth memory, the NVM window or the ROM. -/
theorem memByte_congr {a : Nat} (nvm : s.ShowsNvm t)
    (lmem : spaceOf a = .loc → (t.pair p).lmem.get zeroByte a = (s.pair p).lmem.get zeroByte a)
    (hmem : spaceOf a = .hearth → t.hmem.get zeroByte (hoff (hearthOf p) a) = s.hmem.get zeroByte (hoff (hearthOf p) a)) :
    t.memByte p a = s.memByte p a := by
  unfold State.memByte
  split
  next is => exact lmem is
  next is => exact hmem is
  next => exact nvm _
  all_goals rfl

theorem keepsRegs_writeMem (s : State) (p a : Nat) (bs : List Byte) : s.KeepsRegs (s.writeMem p a bs) p := by
  unfold State.writeMem
  split
  · have kept : s.KeepsRegs (s.updPair p fun x => { x with lmem := x.lmem.setBytes zeroByte a bs }) p :=
      keepsRegs_updPair s p (fun _ => rfl) (fun _ => rfl)
    exact ⟨kept.g, kept.sr, kept.others, kept.nvm⟩
  · exact ⟨rfl, rfl, fun _ _ => rfl, rfl⟩
  · exact .refl s p

theorem le_of_spaceOf_hearth {a : Nat} (is : spaceOf a = .hearth) : 0x10000000 ≤ a := by
  by_contra below
  have outside : ¬(0x10000000 ≤ a ∧ a < 0x10400000) := fun h => below h.1
  simp only [spaceOf, if_neg outside] at is
  split_ifs at is

/-- Two addresses of hearth memory lie in its bytes as they lie in the map. -/
theorem hoff_outside {a b n h : Nat} (ha : spaceOf a = .hearth) (hb : spaceOf b = .hearth) (outside : a < b ∨ b + n ≤ a) :
    hoff h a < hoff h b ∨ hoff h b + n ≤ hoff h a := by
  have := le_of_spaceOf_hearth ha
  have := le_of_spaceOf_hearth hb
  unfold hoff
  omega

theorem memByte_writeMem_ne (s : State) (p : Nat) {a b : Nat} (bs : List Byte) (outside : a < b ∨ b + bs.length ≤ a) :
    (s.writeMem p b bs).memByte p a = s.memByte p a := by
  refine memByte_congr (showsNvm_writeMem s p b bs) (fun is => ?_) (fun is => ?_)
  · unfold State.writeMem
    split
    · have own := State.pair_updPair s p fun x => { x with lmem := x.lmem.setBytes zeroByte b bs }
      exact (congrArg (fun x : Pair => x.lmem.get zeroByte a) own).trans (Table.get_setBytes_ne _ _ _ _ _ outside)
    · rfl
    · rfl
  · unfold State.writeMem
    split
    · rfl
    next hb => exact State.hmem_setHbytes_ne _ _ _ _ (hoff_outside is hb outside)
    · rfl

theorem untouched_dropWriteBack (s : State) (h o n : Nat) : s.Untouched (s.dropWriteBack h o n) := by
  unfold State.dropWriteBack
  dsimp only
  split <;> exact ⟨rfl, rfl, rfl⟩

theorem memByte_keeps {a : Nat} (kept : s.KeepsMem t p) (nvm : s.ShowsNvm t) : t.memByte p a = s.memByte p a :=
  memByte_congr nvm (fun _ => by rw [kept.lmem]) (fun _ => by rw [kept.hmem])

theorem length_leBytes (n v : Nat) : (leBytes n v).length = n := by
  induction n generalizing v with
  | zero => rfl
  | succ n ih => exact congrArg (· + 1) (ih _)

/-- What performing a store leaves: registers, other pairs and NVM, and the bytes that the store does not cover. -/
structure State.Performs (s t : State) (p : Nat) (ps : PostedStore) : Prop extends s.KeepsRegs t p where
  bytes : ∀ a, (a < ps.addr ∨ ps.addr + ps.size ≤ a) → t.memByte p a = s.memByte p a

theorem State.Performs.refl (s : State) (p : Nat) (ps : PostedStore) : s.Performs s p ps := ⟨.refl s p, fun _ _ => rfl⟩

theorem State.Performs.then {ps : PostedStore} (h : s.Performs t p ps) (kept : t.KeepsMem u p) (nvm : t.ShowsNvm u) :
    s.Performs u p ps :=
  ⟨h.toKeepsRegs.trans kept.toKeepsRegs, fun a outside => (memByte_keeps kept nvm).trans (h.bytes a outside)⟩

theorem writeMem_performs (s : State) (p : Nat) (ps : PostedStore) :
    s.Performs (s.writeMem p ps.addr (leBytes ps.size ps.value.toNat)) p ps :=
  ⟨keepsRegs_writeMem _ _ _ _, fun a outside => memByte_writeMem_ne s p _ (by rw [length_leBytes]; exact outside)⟩

theorem performStore_performs (s : State) (p : Nat) (ps : PostedStore) : s.Performs (s.performStore p ps) p ps := by
  unfold State.performStore
  dsimp only
  split
  · exact ((writeMem_performs s p ps).then ((untouched_dropWriteBack _ _ _ _).keeps p) (showsNvm_dropWriteBack _ _ _ _)).then
      ((untouched_setArb _ _ _).keeps p) (showsNvm_setArb _ _ _)
  · exact writeMem_performs s p ps

end

/-- STORE_PERFORMED (R93, R150). -/
theorem storePerformed_frame {s t : State} {p : PairId} {i : Nat} {ps : PostedStore} (is : (s.pair p.val).stores[i]? = some ps)
    (runs : exec (.storePerformed p i) s = .next t) : s.Performs t p.val ps := by
  by_cases waits : (s.pair p.val).storeFree i = false ∨
      (spaceOf ps.addr = .hearth ∧ (s.arb (bankAt p.val ps.addr)).holds (indexOf p.val) = false)
  · rw [storePerformed_waits is waits] at runs
    cases runs
    exact .refl s _ _
  · obtain ⟨free, granted⟩ := not_or.1 waits
    rw [storePerformed_performs is (Bool.of_not_eq_false free)
      (fun hearth => Bool.of_not_eq_false fun none_ => granted ⟨hearth, none_⟩)] at runs
    cases runs
    refine State.Performs.then (State.Performs.then (performStore_performs s p.val ps) ?_ (showsNvm_updPair _ _ _))
      ((untouched_askStores _ _).keeps _) (showsNvm_askStores _ _)
    refine keepsMem_updPair _ _ ?_ ?_ ?_ <;> exact fun _ => rfl

/-- A command whose word is another load's or store's changes nothing. -/
theorem loadStep_other {s : State} {p : Nat} {w : Word} {op k : LoadOp} {rd ra : BitVec 5} {i : BitVec 16}
    (h : s.Executes p w (.load op rd ra i)) (other : op ≠ k) (chk : WordCheck) : s.loadStep p w k chk = s :=
  issue_none h (if_neg other)

theorem storeStep_other {s : State} {p : Nat} {w : Word} {op k : StoreOp} {rs ra : BitVec 5} {i : BitVec 16}
    (h : s.Executes p w (.store op rs ra i)) (other : op ≠ k) : s.storeStep p w k = s :=
  issue_none h (if_neg other)

end Sys2Proof.Machine
end

section
/-! The statement about the frames of loads and stores settled. -/

namespace Sys2Proof.Machine

/-- Settles O57: a load's read leaves the memories, a posted store waits in the buffer, and a performed one writes its bytes. -/
theorem loadsAndStoresChangeOnlyTheirs : Obligations.LoadsAndStoresChangeOnlyTheirs := by
  refine ⟨?loads, ?stores, ?performed⟩
  case loads =>
    intro s t p w op rd ra i b a h checks notControl notWindow raises none_ c hc runs
    have step : ∃ k : LoadOp, exec c s = .next (s.loadStep p.val w k .clean) := by
      simp only [List.mem_cons, List.not_mem_nil, or_false] at hc
      rcases hc with rfl | rfl | rfl | rfl | rfl <;> exact ⟨_, rfl⟩
    obtain ⟨k, is⟩ := step
    cases is.symm.trans runs
    by_cases same : op = k
    · subst same
      obtain ⟨own, others, hmem, nvm⟩ := loadStep_frame h rfl checks notControl notWindow raises none_
      exact ⟨keeps_trans (keeps_same (begun_same h) _) own, fun q hq => (others q hq).trans (begun_other h q hq),
        hmem.trans (begun_mem h).1, nvm.trans (begun_mem h).2⟩
    · rw [loadStep_other h same]
      exact ⟨keeps_refl _ _, fun _ _ => rfl, rfl, rfl⟩
  case stores =>
    intro s t p w op rs ra i b a h checks notControl notWindow posted room c hc runs
    have step : ∃ k : StoreOp, exec c s = .next (s.storeStep p.val w k) := by
      simp only [List.mem_cons, List.not_mem_nil, or_false] at hc
      rcases hc with rfl | rfl | rfl <;> exact ⟨_, rfl⟩
    obtain ⟨k, is⟩ := step
    cases is.symm.trans runs
    have posts : s.Posts (s.storeStep p.val w k) p.val := by
      by_cases same : op = k
      · subst same
        exact storeStep_posts h rfl checks notControl notWindow posted room
      · rw [storeStep_other h same]
        exact .refl s _
    exact ⟨posts.greg, posts.sreg, posts.others, posts.hmem, posts.nvm, posts.lmem⟩
  case performed =>
    intro s t p i ps is runs
    have performs := storePerformed_frame is runs
    exact ⟨performs.bytes, performs.greg, performs.sreg, performs.others, performs.nvm⟩

end Sys2Proof.Machine
end

section
/-! SUPPORT. Long instructions (R105–R107): their steps, and what runs of them come to. -/

namespace Sys2Proof.Machine

/-- An instruction of pair p that answers `r` has ended: it completed, or raised its exception. -/
def Resp.endedAt (r : Resp) (p : Nat) : State :=
  match r with
  | .ok t => t.ended p
  | .fail t e => (t.raise p e).ended p

section
variable {s : State} {p : Nat} {w : Word}

theorem issue_endedAt {z : Zaend} {f : State → Zaend → Option Resp} {r : Resp} (h : s.Executes p w z)
    (hf : f (s.begun p z) z = some r) : s.issue p w f = r.endedAt p := by
  cases r with
  | ok t => exact issue_ok h hf
  | fail t e => exact issue_fail h hf

end

section
variable {s b t : State} {p : Nat} {w : Word} {op : LongOp} {rd ra rb rc : BitVec 5}

/-- The state in which a long instruction takes its first step: the posted stores performed, and 2 cycles passed (R105). -/
def State.longBegun (s : State) (p : Nat) (z : Zaend) : State :=
  ((s.begun p z).drainStores p).updPair p (fun x => x.advanceLoose 2)

/-- The steps that a run of up to k may take (R107, R352). -/
def Pair.stepLimit (x : Pair) (k : Nat) : Nat := if x.stepping then min 1 k else k

theorem stepLimit_one (x : Pair) : x.stepLimit 1 = 1 := ite_self 1

/-- A long instruction whose registers pass runs its steps after the posted stores. -/
theorem longStep_runs (h : s.Executes p w (.long op rd ra rb rc))
    (passes : ((s.begun p (.long op rd ra rb rc)).pair p).longMisaligned op rd ra rb rc = none) (k : Nat) :
    s.longStep p w op k = ((s.longBegun p (.long op rd ra rb rc)).longSteps p op rd ra rb rc
      (((s.begun p (.long op rd ra rb rc)).pair p).stepLimit k)).endedAt p := by
  refine issue_endedAt h ?_
  simp only [if_true, State.doLong, passes]
  rfl

/-! ## Runs of steps -/

/-- With the count at zero it completes, whatever steps it may take. -/
theorem longSteps_zero (zero : (b.pair p).greg (op.roles rd ra rb rc).2.toNat = 0#32) (k : Nat) :
    b.longSteps p op rd ra rb rc k = .ok (b.retireNext p (b.pair p) 0) := by
  cases k <;> exact if_pos zero

/-- What is left of a count after a step. -/
theorem count_left_eq_zero (c : Word) : c - wd (min 32 c.toNat) = 0#32 ↔ c.toNat ≤ 32 := by
  have := c.isLt
  rw [← BitVec.toNat_inj, BitVec.toNat_sub, BitVec.toNat_ofNat, BitVec.toNat_ofNat]
  omega

/-- One step that passes: the instruction completes where it has moved what was left. -/
theorem longSteps_one {c : Word} (count : (b.pair p).greg (op.roles rd ra rb rc).2.toNat = c) (more : c ≠ 0#32)
    (moved : b.longOne p op rd ra rb rc = .ok t)
    (left : (t.pair p).greg (op.roles rd ra rb rc).2.toNat = c - wd (min 32 c.toNat)) :
    b.longSteps p op rd ra rb rc 1 = .ok (if c.toNat ≤ 32 then t.retireNext p (t.pair p) 0 else t) := by
  have goesOn : t.longSteps p op rd ra rb rc 0 = .ok (if c.toNat ≤ 32 then t.retireNext p (t.pair p) 0 else t) := by
    simp only [State.longSteps, left, count_left_eq_zero, BitVec.ofNat_eq_ofNat]
    split <;> rfl
  rw [State.longSteps, count]
  refine (if_neg more).trans ?_
  rw [moved]
  exact goesOn

/-! ## One step -/

theorem firstExc_nil : firstExc [] = none := rfl

/-- A step whose accesses pass their checks and whose words are sound does its work (R106). -/
theorem longStepOf_passes {n : Nat} {reads writes : List Word} {f : State → State}
    (readable : ∀ a ∈ reads, b.rangeExcs p a n .load = []) (writable : ∀ a ∈ writes, b.rangeExcs p a n .store = [])
    (used : (reads ++ writes).foldl (fun t a => t.useRange p a) b = t) (sound : ∀ a ∈ reads, t.rangeFlaw p a n = none) :
    b.longStepOf p n reads writes f = .ok ((f t).updPair p (fun x => x.advanceLoose (((reads ++ writes).map rangeCycles).sum))) := by
  subst used
  have passes : reads.flatMap (fun a => b.rangeExcs p a n .load) ++ writes.flatMap (fun a => b.rangeExcs p a n .store) = [] := by
    rw [List.append_eq_nil_iff]
    exact ⟨List.flatMap_eq_nil_iff.2 readable, List.flatMap_eq_nil_iff.2 writable⟩
  unfold State.longStepOf
  rw [passes, firstExc_nil]
  dsimp only
  rw [List.findSome?_eq_none_iff.2 sound]

/-- The count register holds what is left, being written last. -/
theorem greg_counted (u : State) (p : Nat) (f : Pair → Pair) {c : BitVec 5} (nonzero : c.toNat ≠ 0) (v : Word) (n : Nat) :
    (((u.updPair p (fun y => (f y).setG c.toNat v)).updPair p (fun y => y.advanceLoose n)).pair p).greg c.toNat = v := by
  rw [State.pair_updPair, (same_advanceLoose _ _).greg, State.pair_updPair, Pair.greg_setG _ _ nonzero]

/-- A register that is not zero is not g0. -/
theorem toNat_ne_zero_of_greg {x : Pair} {c : BitVec 5} (h : x.greg c.toNat ≠ 0#32) : c.toNat ≠ 0 :=
  fun is => h (by rw [is]; rfl)

/-- The outcome of one step of pair p that took the registers to `f` and `n` cycles, over the count c. -/
def State.stepped (u : State) (p : Nat) (c : Word) (n : Nat) : State :=
  (if c.toNat ≤ 32 then (u.updPair p (fun x => x.advanceLoose n)).retireNext p ((u.updPair p (fun x => x.advanceLoose n)).pair p) 0
    else u.updPair p (fun x => x.advanceLoose n)).ended p

/-- One step that leaves the count register written last. -/
theorem longSteps_stepped {u : State} {f : Pair → Pair} {c : BitVec 5} {n : Nat} (counts : (op.roles rd ra rb rc).2 = c)
    (more : (b.pair p).greg c.toNat ≠ 0#32)
    (moved : b.longOne p op rd ra rb rc = .ok ((u.updPair p (fun y => (f y).setG c.toNat
      ((b.pair p).greg c.toNat - wd (min 32 ((b.pair p).greg c.toNat).toNat)))).updPair p (fun y => y.advanceLoose n))) :
    (b.longSteps p op rd ra rb rc 1).endedAt p = (u.updPair p (fun y => (f y).setG c.toNat
      ((b.pair p).greg c.toNat - wd (min 32 ((b.pair p).greg c.toNat).toNat)))).stepped p ((b.pair p).greg c.toNat) n := by
  subst counts
  rw [longSteps_one rfl more moved (greg_counted _ _ _ (toNat_ne_zero_of_greg more) _ _)]
  rfl

/-- One step of wipe zeroes its range. -/
theorem longSteps_wipe (more : (b.pair p).greg rb.toNat ≠ 0#32)
    (writable : b.rangeExcs p ((b.pair p).greg ra.toNat) (min 32 ((b.pair p).greg rb.toNat).toNat) .store = []) :
    let g := fun r : BitVec 5 => (b.pair p).greg r.toNat
    let m := min 32 (g rb).toNat
    (b.longSteps p .wipe rd ra rb rc 1).endedAt p =
      (((b.useRange p (g ra)).writeRange p (g ra) (List.replicate (m / 4) 0)).updPair p
        (fun y => (y.setG ra.toNat (g ra + wd m)).setG rb.toNat (g rb - wd m))).stepped p (g rb) (rangeCycles (g ra)) := by
  intro g m
  refine longSteps_stepped (f := fun y => y.setG ra.toNat (g ra + wd m)) rfl more ?_
  dsimp only [State.longOne, LongOp.roles]
  exact longStepOf_passes (fun _ h => absurd h List.not_mem_nil) (fun a h => by rw [List.mem_singleton.1 h]; exact writable) rfl
    (fun _ h => absurd h List.not_mem_nil)

/-- One step of bcopy copies its range. -/
theorem longSteps_bcopy (more : (b.pair p).greg rb.toNat ≠ 0#32) {u : State}
    (readable : b.rangeExcs p ((b.pair p).greg ra.toNat) (min 32 ((b.pair p).greg rb.toNat).toNat) .load = [])
    (writable : b.rangeExcs p ((b.pair p).greg rd.toNat) (min 32 ((b.pair p).greg rb.toNat).toNat) .store = [])
    (used : (b.useRange p ((b.pair p).greg ra.toNat)).useRange p ((b.pair p).greg rd.toNat) = u)
    (sound : u.rangeFlaw p ((b.pair p).greg ra.toNat) (min 32 ((b.pair p).greg rb.toNat).toNat) = none) :
    let g := fun r : BitVec 5 => (b.pair p).greg r.toNat
    let m := min 32 (g rb).toNat
    (b.longSteps p .bcopy rd ra rb rc 1).endedAt p =
      ((u.writeRange p (g rd) (u.rangeWords p (g ra) m)).updPair p
        (fun y => ((y.setG rd.toNat (g rd + wd m)).setG ra.toNat (g ra + wd m)).setG rb.toNat (g rb - wd m))).stepped p (g rb)
        (rangeCycles (g ra) + rangeCycles (g rd)) := by
  intro g m
  refine longSteps_stepped (f := fun y => (y.setG rd.toNat (g rd + wd m)).setG ra.toNat (g ra + wd m)) rfl more ?_
  dsimp only [State.longOne, LongOp.roles]
  exact longStepOf_passes (reads := [_]) (writes := [_]) (fun a h => by rw [List.mem_singleton.1 h]; exact readable)
    (fun a h => by rw [List.mem_singleton.1 h]; exact writable) used (fun a h => by rw [List.mem_singleton.1 h]; exact sound)

/-- One step of cteq folds the differences of its ranges into rd. -/
theorem longSteps_cteq (more : (b.pair p).greg rc.toNat ≠ 0#32) {u : State}
    (readableA : b.rangeExcs p ((b.pair p).greg ra.toNat) (min 32 ((b.pair p).greg rc.toNat).toNat) .load = [])
    (readableB : b.rangeExcs p ((b.pair p).greg rb.toNat) (min 32 ((b.pair p).greg rc.toNat).toNat) .load = [])
    (used : (b.useRange p ((b.pair p).greg ra.toNat)).useRange p ((b.pair p).greg rb.toNat) = u)
    (soundA : u.rangeFlaw p ((b.pair p).greg ra.toNat) (min 32 ((b.pair p).greg rc.toNat).toNat) = none)
    (soundB : u.rangeFlaw p ((b.pair p).greg rb.toNat) (min 32 ((b.pair p).greg rc.toNat).toNat) = none) :
    let g := fun r : BitVec 5 => (b.pair p).greg r.toNat
    let m := min 32 (g rc).toNat
    (b.longSteps p .cteq rd ra rb rc 1).endedAt p =
      (u.updPair p (fun y => (((y.setG rd.toNat (g rd |||
        (List.zipWith (· ^^^ ·) (u.rangeWords p (g ra) m) (u.rangeWords p (g rb) m)).foldl (· ||| ·) 0)).setG
          ra.toNat (g ra + wd m)).setG rb.toNat (g rb + wd m)).setG rc.toNat (g rc - wd m))).stepped p (g rc)
        (rangeCycles (g ra) + rangeCycles (g rb)) := by
  intro g m
  refine longSteps_stepped (f := fun y => ((y.setG rd.toNat (g rd |||
    (List.zipWith (· ^^^ ·) (u.rangeWords p (g ra) m) (u.rangeWords p (g rb) m)).foldl (· ||| ·) 0)).setG
      ra.toNat (g ra + wd m)).setG rb.toNat (g rb + wd m)) rfl more ?_
  dsimp only [State.longOne, LongOp.roles]
  refine longStepOf_passes (reads := [_, _]) (writes := []) (fun a h => ?_) (fun _ h => absurd h List.not_mem_nil) used (fun a h => ?_)
  · rcases List.mem_pair.1 h with rfl | rfl
    · exact readableA
    · exact readableB
  · rcases List.mem_pair.1 h with rfl | rfl
    · exact soundA
    · exact soundB

end

end Sys2Proof.Machine
end

section
/-! The statement about long instructions settled. -/

namespace Sys2Proof.Machine

/-- Settles O8: each long instruction completes at a zero count, takes its step, and runs its steps (R105–R107). -/
theorem longInstructionsRunInSteps : Obligations.LongInstructionsRunInSteps := by
  intro s p w rd ra rb rc k z b ok g done n stepped free used sound steps ends
  have completes : ∀ op k, ok op → g op (op.roles rd ra rb rc).2 = 0#32 →
      s.longStep p.val w op k = (done (b op)).ended p.val := fun op k ⟨h, passes⟩ zero => by
    rw [longStep_runs h passes, longSteps_zero (b := s.longBegun p.val (z op)) zero]
    rfl
  have takes : ∀ op, ok op →
      s.longStep p.val w op 1 = ((s.longBegun p.val (z op)).longSteps p.val op rd ra rb rc 1).endedAt p.val := fun op ⟨h, passes⟩ => by
    rw [longStep_runs h passes, stepLimit_one]
  have runs : ∀ op, ok op → s.longStep p.val w op k = ends (steps op) := fun op ⟨h, passes⟩ => by
    rw [longStep_runs h passes]
    rfl
  refine ⟨fun h zero => ?_, fun h zero => ?_, fun h zero => ?_, ?_, ?_, ?_, fun h => ?_, fun h => ?_, fun h => ?_⟩
  · exact congrArg Host.Outcome.next (completes .wipe k h zero)
  · exact congrArg Host.Outcome.next (completes .bcopy k h zero)
  · exact congrArg Host.Outcome.next (completes .cteq k h zero)
  · intro h more m writable
    exact congrArg Host.Outcome.next ((takes .wipe h).trans (longSteps_wipe more writable))
  · intro h more m readable writable flawless
    exact congrArg Host.Outcome.next ((takes .bcopy h).trans (longSteps_bcopy more readable writable rfl flawless))
  · intro h more m readableA readableB flawlessA flawlessB u
    exact congrArg Host.Outcome.next ((takes .cteq h).trans (longSteps_cteq more readableA readableB rfl flawlessA flawlessB))
  · exact congrArg Host.Outcome.next (runs .wipe h)
  · exact congrArg Host.Outcome.next (runs .bcopy h)
  · exact congrArg Host.Outcome.next (runs .cteq h)

end Sys2Proof.Machine
end

section
/-! SUPPORT. Changes of ring (R67, R68, R69, R77, R78, R84, R85): what an entry into a ring leaves of the registers of a pair. -/

namespace Sys2Proof.Machine

/-! ## pstat -/

section
variable (x : Pair) (r : Nat) (ie pm exl df : Bool)

/-- The fields of a pstat made of its fields (R60). -/
theorem fields_mkPstat : fld 1 0 (mkPstat r ie pm exl df) = r % 4 ∧ bit 2 (mkPstat r ie pm exl df) = ie ∧
    bit 3 (mkPstat r ie pm exl df) = pm ∧ bit 4 (mkPstat r ie pm exl df) = exl ∧ bit 5 (mkPstat r ie pm exl df) = df := by
  unfold mkPstat
  have low : r % 4 < 4 := Nat.mod_lt _ (by decide)
  interval_cases r % 4 <;> cases ie <;> cases pm <;> cases exl <;> cases df <;> decide

theorem sreg_setPstat_self : (x.setPstat r ie pm exl df).sreg SR.pstat = mkPstat r ie pm exl df := Pair.sreg_setS _ _ _
@[simp] theorem ring_setPstat : (x.setPstat r ie pm exl df).ring = r % 4 := by
  rw [Pair.ring, sreg_setPstat_self, (fields_mkPstat r ie pm exl df).1]
@[simp] theorem ie_setPstat : (x.setPstat r ie pm exl df).ie = ie := by
  rw [Pair.ie, sreg_setPstat_self, (fields_mkPstat r ie pm exl df).2.1]
@[simp] theorem pm_setPstat : (x.setPstat r ie pm exl df).pm = pm := by
  rw [Pair.pm, sreg_setPstat_self, (fields_mkPstat r ie pm exl df).2.2.1]
@[simp] theorem exl_setPstat : (x.setPstat r ie pm exl df).exl = exl := by
  rw [Pair.exl, sreg_setPstat_self, (fields_mkPstat r ie pm exl df).2.2.2.1]
@[simp] theorem df_setPstat : (x.setPstat r ie pm exl df).df = df := by
  rw [Pair.df, sreg_setPstat_self, (fields_mkPstat r ie pm exl df).2.2.2.2]

end

theorem ring_lt (x : Pair) : x.ring < 4 := Nat.mod_lt _ (by decide)

section
variable {x y : Pair}

/-- The fields of pstat are those of its word. -/
theorem pstat_congr (h : y.sreg SR.pstat = x.sreg SR.pstat) :
    y.ring = x.ring ∧ y.ie = x.ie ∧ y.pm = x.pm ∧ y.exl = x.exl ∧ y.df = x.df := by
  simp [Pair.ring, Pair.ie, Pair.pm, Pair.exl, Pair.df, h]

theorem Pair.Same.ring (h : x.Same y) : y.ring = x.ring := (pstat_congr (h.sreg SR.pstat (by decide))).1
theorem Pair.Same.ie (h : x.Same y) : y.ie = x.ie := (pstat_congr (h.sreg SR.pstat (by decide))).2.1
theorem Pair.Same.exl (h : x.Same y) : y.exl = x.exl := (pstat_congr (h.sreg SR.pstat (by decide))).2.2.2.1
theorem Pair.Same.df (h : x.Same y) : y.df = x.df := (pstat_congr (h.sreg SR.pstat (by decide))).2.2.2.2

/-- A special register that is no result of the multiplier or divider. -/
theorem Pair.Same.sreg_of_le (h : x.Same y) {n : Nat} (above : 4 ≤ n) : y.sreg n = x.sreg n := by
  refine h.sreg n fun is => ?_
  simp only [List.mem_cons, List.not_mem_nil, or_false] at is
  rcases is with rfl | rfl | rfl | rfl <;> exact absurd above (by decide)

end

/-- Pending results written out leave the pair the same but for them (R68, R77). -/
theorem same_flushResults (x : Pair) : x.Same x.flushResults := by
  have products : x.Same (match x.mulPend.getLast? with
      | some (h, l, _) => (x.setS SR.mh h).setS SR.ml l
      | none => x) := by
    split
    · exact (same_setS x SR.mh _ (by decide)).trans (same_setS _ SR.ml _ (by decide))
    · exact .refl x
  have quotients : ∀ y : Pair, y.Same (match y.divPend with
      | some (q, r, _) => (y.setS SR.dq q).setS SR.dr r
      | none => y) := by
    intro y
    split
    · exact (same_setS y SR.dq _ (by decide)).trans (same_setS _ SR.dr _ (by decide))
    · exact .refl y
  have h := products.trans (quotients _)
  unfold Pair.flushResults
  exact ⟨h.g, h.sreg, h.pc, h.imp, h.lmem, h.stores, h.unfenced, h.mpuW, h.mpuF, h.slot, h.deadline, h.dbPend0, h.dbPend1,
    h.dbMask0, h.dbMask1, fun _ => rfl, fun _ => rfl⟩

/-! ## Entering a ring -/

section
variable (x : Pair) (c t : Nat)

@[simp] theorem greg_applyRules (r : Nat) : (x.applyRules c t).greg r = x.greg r := by unfold Pair.applyRules; split <;> rfl
@[simp] theorem sreg_applyRules (n : Nat) : (x.applyRules c t).sreg n = x.sreg n := by unfold Pair.applyRules; split <;> rfl
@[simp] theorem deadline_applyRules : (x.applyRules c t).deadline = x.deadline := by unfold Pair.applyRules; split <;> rfl
@[simp] theorem lmem_applyRules : (x.applyRules c t).lmem = x.lmem := by unfold Pair.applyRules; split <;> rfl
@[simp] theorem mulPend_applyRules : (x.applyRules c t).mulPend = x.mulPend := by unfold Pair.applyRules; split <;> rfl
@[simp] theorem divPend_applyRules : (x.applyRules c t).divPend = x.divPend := by unfold Pair.applyRules; split <;> rfl

@[simp] theorem deadline_setG (r : Nat) (v : Word) : (x.setG r v).deadline = x.deadline := by unfold Pair.setG; split <;> rfl
@[simp] theorem lmem_setG (r : Nat) (v : Word) : (x.setG r v).lmem = x.lmem := by unfold Pair.setG; split <;> rfl
@[simp] theorem mulPend_setG (r : Nat) (v : Word) : (x.setG r v).mulPend = x.mulPend := by unfold Pair.setG; split <;> rfl
@[simp] theorem divPend_setG (r : Nat) (v : Word) : (x.setG r v).divPend = x.divPend := by unfold Pair.setG; split <;> rfl

@[simp] theorem deadline_exchange : (x.exchange c t).deadline = x.deadline := by
  unfold Pair.exchange
  split
  · rfl
  · exact deadline_setG _ _ _
@[simp] theorem lmem_exchange : (x.exchange c t).lmem = x.lmem := by
  unfold Pair.exchange
  split
  · rfl
  · exact lmem_setG _ _ _
@[simp] theorem mulPend_exchange : (x.exchange c t).mulPend = x.mulPend := by
  unfold Pair.exchange
  split
  · rfl
  · exact mulPend_setG _ _ _
@[simp] theorem divPend_exchange : (x.exchange c t).divPend = x.divPend := by
  unfold Pair.exchange
  split
  · rfl
  · exact divPend_setG _ _ _

/-- The exchange of stacks changes no special register but the one that takes the stack left (R67). -/
theorem sreg_exchange {n : Nat} (other : n ≠ SR.gs c) : (x.exchange c t).sreg n = x.sreg n := by
  unfold Pair.exchange
  split
  · rfl
  · rw [Pair.sreg_setG]
    exact Pair.sreg_setS_ne x _ other

theorem exchanged_exchange : x.Exchanged (x.exchange c t) c t := by
  unfold Pair.exchange
  split
  next same =>
    exact ⟨fun _ => rfl, fun other => absurd same.symm other, fun _ _ => rfl⟩
  next differ =>
    have ne : SR.gs t ≠ SR.gs c := fun is => differ (Nat.add_left_cancel is).symm
    refine ⟨fun same => absurd same.symm differ, fun _ => ⟨?_, ?_⟩, fun r hr => ?_⟩
    · rw [Pair.sreg_setG]
      exact Pair.sreg_setS x _ _
    · rw [Pair.greg_setG _ _ (by decide)]
      exact Pair.sreg_setS_ne x _ ne
    · rw [Pair.greg_setG_ne _ _ hr]
      exact Pair.greg_setS x _ _ _

/-- The pair after it goes from ring c to ring t: stacks exchanged, rules in force, pstat and PC set (R67, R149). -/
def Pair.entered (x : Pair) (c t : Nat) (ie pm exl df : Bool) (pc : Word) : Pair :=
  { ((x.exchange c t).applyRules c t).setPstat t ie pm exl df with pc := pc }

variable (ie pm exl df : Bool) (pc : Word)

/-- Pair y is pair x gone from ring c to ring t, with pstat and the PC as given. -/
structure Pair.Enters (x y : Pair) (c t : Nat) (ie pm exl df : Bool) (pc : Word) : Prop where
  ring : y.ring = t
  ie : y.ie = ie
  pm : y.pm = pm
  exl : y.exl = exl
  df : y.df = df
  pc : y.pc = pc
  /-- No special register changes but pstat and the one that takes the stack left. -/
  sreg : ∀ n, n ≠ SR.pstat → n ≠ SR.gs c → y.sreg n = x.sreg n
  exchanged : x.Exchanged y c t

theorem entered_enters (h : t < 4) : x.Enters (x.entered c t ie pm exl df pc) c t ie pm exl df pc where
  ring := (ring_setPstat _ _ _ _ _ _).trans (Nat.mod_eq_of_lt h)
  ie := ie_setPstat _ _ _ _ _ _
  pm := pm_setPstat _ _ _ _ _ _
  exl := exl_setPstat _ _ _ _ _ _
  df := df_setPstat _ _ _ _ _ _
  pc := rfl
  sreg := fun n notPstat other => by
    have below : (x.entered c t ie pm exl df pc).sreg n = ((x.exchange c t).applyRules c t).sreg n :=
      Pair.sreg_setS_ne _ _ notPstat
    exact below.trans ((sreg_applyRules _ _ _ _).trans (sreg_exchange x c t other))
  exchanged := by
    have sreg : ∀ k, (x.entered c t ie pm exl df pc).sreg (SR.gs k) = (x.exchange c t).sreg (SR.gs k) := fun k =>
      (Pair.sreg_setS_ne _ _ (show 0x28 + k ≠ 8 by omega)).trans (sreg_applyRules _ _ _ _)
    have greg : ∀ r, (x.entered c t ie pm exl df pc).greg r = (x.exchange c t).greg r := fun r =>
      greg_applyRules (x.exchange c t) c t r
    obtain ⟨same, differ, rest⟩ := exchanged_exchange x c t
    exact ⟨fun e => (greg 2).trans (same e), fun e => ⟨(sreg c).trans (differ e).1, (greg 2).trans (differ e).2⟩,
      fun r hr => (greg r).trans (rest r hr)⟩

/-- The fields of pstat after the exchange and the rules are those before. -/
theorem fields_exchanged : ((x.exchange c t).applyRules c t).ring = x.ring ∧ ((x.exchange c t).applyRules c t).ie = x.ie ∧
    ((x.exchange c t).applyRules c t).pm = x.pm ∧ ((x.exchange c t).applyRules c t).exl = x.exl ∧
    ((x.exchange c t).applyRules c t).df = x.df :=
  pstat_congr ((sreg_applyRules _ _ _ _).trans (sreg_exchange x c t (by show 8 ≠ 0x28 + c; omega)))

end

/-- The exchange is as of a pair with the same registers and the same stack to take. -/
theorem Pair.Exchanged.of_left {x z y : Pair} {c t : Nat} (h : z.Exchanged y c t) (greg : ∀ r, z.greg r = x.greg r)
    (sreg : z.sreg (SR.gs t) = x.sreg (SR.gs t)) : x.Exchanged y c t := by
  obtain ⟨same, differ, rest⟩ := h
  refine ⟨fun e => (same e).trans (greg 2), fun e => ⟨(differ e).1.trans (greg 2), (differ e).2.trans sreg⟩,
    fun r hr => (rest r hr).trans (greg r)⟩

theorem Pair.Exchanged.of_same {x z y : Pair} {c t : Nat} (h : z.Exchanged y c t) (same : x.Same z) : x.Exchanged y c t :=
  h.of_left same.greg (same.sreg_of_le (by show 4 ≤ 0x28 + t; omega))

/-- What has the registers and the PC of a pair gone to a ring has gone there. -/
theorem Pair.Enters.of_right {x y z : Pair} {c t : Nat} {ie pm exl df : Bool} {pc : Word} (h : x.Enters y c t ie pm exl df pc)
    (g : z.g = y.g) (sr : z.sr = y.sr) (at_ : z.pc = y.pc) : x.Enters z c t ie pm exl df pc := by
  have greg : ∀ r, z.greg r = y.greg r := fun r => by unfold Pair.greg; rw [g]
  have sreg : ∀ n, z.sreg n = y.sreg n := fun n => by unfold Pair.sreg; rw [sr]
  obtain ⟨ring', ie', pm', exl', df'⟩ := pstat_congr (sreg SR.pstat)
  obtain ⟨same, differ, rest⟩ := h.exchanged
  exact ⟨ring'.trans h.ring, ie'.trans h.ie, pm'.trans h.pm, exl'.trans h.exl, df'.trans h.df, at_.trans h.pc,
    fun n notPstat other => (sreg n).trans (h.sreg n notPstat other), fun e => (greg 2).trans (same e),
    fun e => ⟨(sreg _).trans (differ e).1, (greg 2).trans (differ e).2⟩, fun r hr => (greg r).trans (rest r hr)⟩

/-! ## What follows an instruction -/

section
variable (s : State) (p : Nat)

/-- What follows an instruction leaves registers and PC of its pair. -/
theorem ended_pair : ((s.ended p).pair p).g = (s.pair p).g ∧ ((s.ended p).pair p).sr = (s.pair p).sr ∧
    ((s.ended p).pair p).pc = (s.pair p).pc := by
  unfold State.ended
  split
  · exact ⟨rfl, rfl, rfl⟩
  · obtain ⟨_, _, _, _, after⟩ := afterStep_pair s p
    rw [after]
    exact ⟨rfl, rfl, rfl⟩

theorem Pair.Enters.ended {x y : Pair} {c t : Nat} {ie pm exl df : Bool} {pc : Word} (h : x.Enters y c t ie pm exl df pc) :
    x.Enters (((s.setPair p y).ended p).pair p) c t ie pm exl df pc := by
  obtain ⟨g, sr, at_⟩ := ended_pair (s.setPair p y) p
  rw [State.pair_setPair] at g sr at_
  exact h.of_right g sr at_

end

end Sys2Proof.Machine
end

section
/-! SUPPORT. Gates and returns (R68, R69, R78, R108): where they are permitted and what they leave. -/

namespace Sys2Proof.Machine

/-! ## What they leave of the pair -/

section
variable (x : Pair)

/-- The pair with the link registers of gate n. -/
def Pair.gateLinked (x : Pair) (n : Nat) : Pair :=
  (x.flushResults.setS SR.lpc (x.pc + 4)).setS SR.lst (wd (256 * n + 4 * x.ring + x.ring))

theorem fields_gateLinked (n : Nat) : (x.gateLinked n).ring = x.ring ∧ (x.gateLinked n).ie = x.ie ∧ (x.gateLinked n).pm = x.pm ∧
    (x.gateLinked n).exl = x.exl ∧ (x.gateLinked n).df = x.df :=
  pstat_congr <| by
    unfold Pair.gateLinked
    rw [Pair.sreg_setS_ne _ _ (by decide), Pair.sreg_setS_ne _ _ (by decide), (same_flushResults x).sreg_of_le (by decide)]

theorem lst_gateLinked (n : Nat) : (x.gateLinked n).sreg SR.lst = wd (256 * n + 4 * x.ring + x.ring) := Pair.sreg_setS _ _ _

theorem lpc_gateLinked (n : Nat) : (x.gateLinked n).sreg SR.lpc = x.pc + 4 :=
  (Pair.sreg_setS_ne _ _ (by decide)).trans (Pair.sreg_setS _ _ _)

theorem greg_gateLinked (n r : Nat) : (x.gateLinked n).greg r = x.greg r := (same_flushResults x).greg r

theorem gs_gateLinked (n t : Nat) : (x.gateLinked n).sreg (SR.gs t) = x.sreg (SR.gs t) := by
  unfold Pair.gateLinked
  rw [Pair.sreg_setS_ne _ _ (by show 0x28 + t ≠ 0x21; omega), Pair.sreg_setS_ne _ _ (by show 0x28 + t ≠ 0x20; omega),
    (same_flushResults x).sreg_of_le (by show 4 ≤ 0x28 + t; omega)]

/-- Gate n enters the ring that its entry names, at its entry (R68). -/
theorem enterGate_eq (n : Nat) : x.enterGate n = (x.gateLinked n).entered x.ring (fld 1 0 (x.sreg (SR.ge n))) x.ie x.pm x.exl x.df
    (x.sreg (SR.ge n) &&& 0xFFFFFFFC#32) := by
  obtain ⟨_, ie, pm, exl, df⟩ := fields_exchanged (x.gateLinked n) x.ring (fld 1 0 (x.sreg (SR.ge n)))
  obtain ⟨_, ie', pm', exl', df'⟩ := fields_gateLinked x n
  have linked : (x.flushResults.setS SR.lpc (x.flushResults.pc + 4)).setS SR.lst (wd (256 * n + 4 * x.ring + x.ring)) =
      x.gateLinked n := by rw [(same_flushResults x).pc]; rfl
  unfold Pair.enterGate Pair.entered
  dsimp only
  rw [linked, ie, pm, exl, df, ie', pm', exl', df']
  rfl

/-- ret.g goes to the ring and the PC of its frame (R69). -/
theorem leaveGate_eq : x.leaveGate = x.entered x.ring (fld 1 0 (x.sreg SR.lst)) x.ie x.pm x.exl x.df (x.sreg SR.lpc) := by
  obtain ⟨_, ie, pm, exl, df⟩ := fields_exchanged x x.ring (fld 1 0 (x.sreg SR.lst))
  unfold Pair.leaveGate Pair.entered
  dsimp only
  rw [ie, pm, exl, df, sreg_applyRules, sreg_exchange _ _ _ (by show 0x20 ≠ 0x28 + x.ring; omega)]

/-- eret goes to the ring and the PC of its frame (R78). -/
theorem leaveException_eq : x.leaveException = (x.advance 3).entered x.ring (fld 1 0 (x.sreg SR.estat)) (bit 4 (x.sreg SR.estat))
    (bit 5 (x.sreg SR.estat)) false (x.df && x.ring != 1) (x.sreg SR.epc) := by
  obtain ⟨_, _, _, _, df⟩ := fields_exchanged (x.advance 3) x.ring (fld 1 0 (x.sreg SR.estat))
  have same := same_advance x 3
  unfold Pair.leaveException Pair.entered
  dsimp only
  rw [df, same.df, sreg_applyRules, sreg_exchange _ _ _ (by show 0x10 ≠ 0x28 + x.ring; omega), same.sreg_of_le (by decide)]

/-- Retiring leaves the pair the same but for cnt, the results due and a pending imprecise exception's count. -/
theorem keeps_retireSelf (n : Nat) : x.Keeps (x.retire n) [] := by
  obtain ⟨greg, sreg, mem, mpu, timer, doorbells⟩ := keeps_retire n x.pc (keeps_refl x [])
  exact ⟨greg, sreg, mem, mpu, timer, doorbells⟩

theorem sreg_retire (k : Nat) {n : Nat} (above : 4 < n) : (x.retire k).sreg n = x.sreg n := by
  refine (keeps_retireSelf x k).sreg n fun is => ?_
  simp only [List.mem_cons, List.not_mem_nil, or_false] at is
  rcases is with rfl | rfl | rfl | rfl | rfl <;> exact absurd above (by decide)

theorem greg_retire (k r : Nat) : (x.retire k).greg r = x.greg r := (keeps_retireSelf x k).greg r List.not_mem_nil

end

/-! ## Their commands -/

section
variable {s : State} {p : PairId} {w : Word}

theorem exec_gate {n : BitVec 8} (h : s.Executes p.val w (.gate n)) :
    exec (.gate p w) s = .next (((s.begun p.val (.gate n)).doGate p.val n.toNat).endedAt p.val) :=
  congrArg Host.Outcome.next (issue_endedAt h rfl)

theorem exec_retG (h : s.Executes p.val w .retG) :
    exec (.retG p w) s = .next (((s.begun p.val .retG).doRetG p.val).endedAt p.val) :=
  congrArg Host.Outcome.next (issue_endedAt h rfl)

theorem exec_eret (h : s.Executes p.val w .eret) :
    exec (.eret p w) s = .next (((s.begun p.val .eret).doEret p.val w).endedAt p.val) :=
  congrArg Host.Outcome.next (issue_endedAt h rfl)

theorem exec_brk {c : BitVec 8} (h : s.Executes p.val w (.brk c)) :
    exec (.brk p w) s = .next (((s.begun p.val (.brk c)).raise p.val ⟨Cause.breakpoint, c.setWidth 32⟩).ended p.val) :=
  congrArg Host.Outcome.next (issue_fail h rfl)

end

section
variable {x y : Pair}

/-- A gate is bad that has no entry, that would enter a less privileged ring, or that the ring may not call (R68). -/
theorem badGate_iff (same : x.Same y) (n : Nat) : y.badGate n = true ↔ x.sreg (SR.ge n) = 0#32 ∨ x.ring < fld 1 0 (x.sreg (SR.ge n)) ∨
    fld (2 * n + 1) (2 * n) (x.sreg SR.gcall) < x.ring := by
  simp only [Pair.badGate, same.sreg_of_le (show 4 ≤ 0x30 + n by omega), same.sreg_of_le (show 4 ≤ SR.gcall by decide), same.ring,
    Bool.or_eq_true, beq_iff_eq, decide_eq_true_eq, BitVec.ofNat_eq_ofNat, or_assoc]

theorem badReturn_iff (same : x.Same y) :
    y.badReturn = true ↔ fld 1 0 (x.sreg SR.lst) < fld 3 2 (x.sreg SR.lst) ∨ fld 1 0 (x.sreg SR.lst) < x.ring := by
  simp only [Pair.badReturn, same.sreg_of_le (show 4 ≤ SR.lst by decide), same.ring, Bool.or_eq_true, decide_eq_true_eq]

theorem badEret_iff (same : x.Same y) :
    y.badEret = true ↔ fld 1 0 (x.sreg SR.estat) < fld 3 2 (x.sreg SR.estat) ∨ fld 1 0 (x.sreg SR.estat) < x.ring := by
  simp only [Pair.badEret, same.sreg_of_le (show 4 ≤ SR.estat by decide), same.ring, Bool.or_eq_true, decide_eq_true_eq]

/-- A two-bit field names a ring. -/
theorem fld_one_zero_lt (w : Word) : fld 1 0 w < 4 := Nat.mod_lt _ (by decide)

end

/-! ## Permitted -/

/-- A gate that the ring may call enters the ring of its entry (R68). -/
theorem gate_enters (s : State) (p : PairId) (w : Word) (n : BitVec 8) (h : s.Executes p.val w (.gate n)) :
    let x := s.pair p.val
    let c := x.ring
    let ge := x.sreg (SR.ge n.toNat)
    let t := fld 1 0 ge
    ge ≠ 0#32 → t ≤ c → c ≤ fld (2 * n.toNat + 1) (2 * n.toNat) (x.sreg SR.gcall) →
    ∃ u, exec (.gate p w) s = .next u ∧
      let y := u.pair p.val
      y.sreg SR.lpc = x.pc + 4 ∧ y.sreg SR.lst = wd (256 * n.toNat + 4 * c + c) ∧ y.ring = t ∧
      y.ie = x.ie ∧ y.pm = x.pm ∧ y.exl = x.exl ∧ y.df = x.df ∧ y.pc = ge &&& 0xFFFFFFFC#32 ∧ x.Exchanged y c t := by
  intro x c ge t entry below callable
  have same := begun_same h
  have good : ((s.begun p.val (.gate n)).pair p.val).badGate n.toNat = false := by
    rw [Bool.eq_false_iff, Ne, badGate_iff same]
    rintro (none_ | above | closed)
    · exact entry none_
    · exact absurd above (Nat.not_lt.2 below)
    · exact absurd closed (Nat.not_lt.2 callable)
  have entered : ∃ u, exec (.gate p w) s = .next u ∧ (((s.begun p.val (.gate n)).pair p.val).gateLinked n.toNat).Enters
      (u.pair p.val) x.ring t x.ie x.pm x.exl x.df (ge &&& 0xFFFFFFFC#32) := by
    refine ⟨_, exec_gate h, ?_⟩
    simp only [State.doGate, good, Bool.false_eq_true, if_false, Resp.endedAt, enterGate_eq,
      same.sreg_of_le (show 4 ≤ SR.ge n.toNat by show 4 ≤ 0x30 + n.toNat; omega), same.ring, same.ie, same.pm, same.exl, same.df]
    exact (entered_enters _ _ _ _ _ _ _ _ (fld_one_zero_lt _)).ended _ _
  obtain ⟨u, is, enters⟩ := entered
  have lpc := enters.sreg SR.lpc (by decide) (by show 0x20 ≠ 0x28 + x.ring; omega)
  have lst := enters.sreg SR.lst (by decide) (by show 0x21 ≠ 0x28 + x.ring; omega)
  rw [lpc_gateLinked, same.pc] at lpc
  rw [lst_gateLinked, same.ring] at lst
  exact ⟨u, is, lpc, lst, enters.ring, enters.ie, enters.pm, enters.exl, enters.df, enters.pc,
    (enters.exchanged.of_left (greg_gateLinked _ _) (gs_gateLinked _ _ _)).of_same same⟩

/-- A ret.g whose frame is sound goes to the ring of the frame (R69). -/
theorem retG_enters (s : State) (p : PairId) (w : Word) (h : s.Executes p.val w .retG) :
    let x := s.pair p.val
    let c := x.ring
    let r := fld 1 0 (x.sreg SR.lst)
    fld 3 2 (x.sreg SR.lst) ≤ r → c ≤ r →
    ∃ u, exec (.retG p w) s = .next u ∧
      let y := u.pair p.val
      y.ring = r ∧ y.pc = x.sreg SR.lpc ∧ y.ie = x.ie ∧ y.exl = x.exl ∧ y.sreg SR.lpc = x.sreg SR.lpc ∧
      y.sreg SR.lst = x.sreg SR.lst ∧ x.Exchanged y c r := by
  intro x c r entry below
  have same := begun_same h
  have good : ((s.begun p.val .retG).pair p.val).badReturn = false := by
    rw [Bool.eq_false_iff, Ne, badReturn_iff same]
    rintro (inner | above)
    · exact absurd inner (Nat.not_lt.2 entry)
    · exact absurd above (Nat.not_lt.2 below)
  have kept : ∀ k, 4 < k → (((s.begun p.val .retG).pair p.val).retire 2).sreg k = x.sreg k := fun k above =>
    (sreg_retire _ _ above).trans (same.sreg_of_le (Nat.le_of_lt above))
  obtain ⟨ring, ie, pm, exl, df⟩ := pstat_congr (kept SR.pstat (by decide))
  have entered : ∃ u, exec (.retG p w) s = .next u ∧ (((s.begun p.val .retG).pair p.val).retire 2).Enters
      (u.pair p.val) x.ring r x.ie x.pm x.exl x.df (x.sreg SR.lpc) := by
    refine ⟨_, exec_retG h, ?_⟩
    simp only [State.doRetG, good, Bool.false_eq_true, if_false, Resp.endedAt, leaveGate_eq, ring, ie, pm, exl, df,
      kept SR.lst (by decide), kept SR.lpc (by decide)]
    exact (entered_enters _ _ _ _ _ _ _ _ (fld_one_zero_lt _)).ended _ _
  obtain ⟨u, is, enters⟩ := entered
  have lpc := enters.sreg SR.lpc (by decide) (by show 0x20 ≠ 0x28 + x.ring; omega)
  have lst := enters.sreg SR.lst (by decide) (by show 0x21 ≠ 0x28 + x.ring; omega)
  exact ⟨u, is, enters.ring, enters.pc, enters.ie, enters.exl, lpc.trans (kept _ (by decide)), lst.trans (kept _ (by decide)),
    enters.exchanged.of_left (fun r => (greg_retire _ _ _).trans (same.greg r)) (kept _ (by show 4 < 0x28 + r; omega))⟩

/-- An eret whose frame is sound goes to the ring of the frame (R78). -/
theorem eret_enters (s : State) (p : PairId) (w : Word) (h : s.Executes p.val w .eret) :
    let x := s.pair p.val
    let c := x.ring
    let st := x.sreg SR.estat
    let r := fld 1 0 st
    c ≠ 3 → fld 3 2 st ≤ r → c ≤ r →
    ∃ u, exec (.eret p w) s = .next u ∧
      let y := u.pair p.val
      y.ring = r ∧ y.pc = x.sreg SR.epc ∧ y.ie = bit 4 st ∧ y.pm = bit 5 st ∧ y.exl = false ∧
      y.df = (x.df && c != 1) ∧ x.Exchanged y c r := by
  intro x c st r ring entry below
  have notUser : (s.pair p.val).ring ≠ 3 := ring
  have same := begun_same h
  have good : ((s.begun p.val .eret).pair p.val).badEret = false := by
    rw [Bool.eq_false_iff, Ne, badEret_iff same]
    rintro (inner | above)
    · exact absurd inner (Nat.not_lt.2 entry)
    · exact absurd above (Nat.not_lt.2 below)
  have entered : ∃ u, exec (.eret p w) s = .next u ∧ (((s.begun p.val .eret).pair p.val).advance 3).Enters
      (u.pair p.val) x.ring r (bit 4 st) (bit 5 st) false (x.df && x.ring != 1) (x.sreg SR.epc) := by
    refine ⟨_, exec_eret h, ?_⟩
    simp only [State.doEret, same.ring, if_neg notUser, good, Bool.false_eq_true, if_false, Resp.endedAt, leaveException_eq,
      same.df, same.sreg_of_le (show 4 ≤ SR.estat by decide), same.sreg_of_le (show 4 ≤ SR.epc by decide)]
    exact (entered_enters _ _ _ _ _ _ _ _ (fld_one_zero_lt _)).ended _ _
  obtain ⟨u, is, enters⟩ := entered
  exact ⟨u, is, enters.ring, enters.pc, enters.ie, enters.pm, enters.exl, enters.df,
    enters.exchanged.of_same (same.trans (same_advance _ _))⟩

end Sys2Proof.Machine
end

section
/-! The statement about gates and returns settled. -/

namespace Sys2Proof.Machine

/-- Settles O10: each of them is an entry into a ring where its checks pass, and a trap where one fails (R68, R69, R78, R108). -/
theorem gatesAndReturnsChangeRings : Obligations.GatesAndReturnsChangeRings := by
  refine ⟨?permitted, fun s p w => ⟨?badGate, ?badRetG, ?user, ?badEret, ?brk⟩⟩
  case permitted =>
    intro s p w x c
    exact ⟨gate_enters s p w, retG_enters s p w, eret_enters s p w⟩
  case badGate =>
    intro n h bad
    rw [exec_gate h, State.doGate, if_pos ((badGate_iff (begun_same h) _).2 bad)]
    rfl
  case badRetG =>
    intro h bad
    rw [exec_retG h, State.doRetG, if_pos ((badReturn_iff (begun_same h)).2 bad),
      (begun_same h).sreg_of_le (show 4 ≤ SR.lpc by decide)]
    rfl
  case user =>
    intro h user
    rw [exec_eret h, State.doEret, if_pos ((begun_same h).ring.trans user)]
    rfl
  case badEret =>
    intro h inner bad
    rw [exec_eret h, State.doEret, if_neg (by rw [(begun_same h).ring]; exact inner),
      if_pos ((badEret_iff (begun_same h)).2 bad), (begun_same h).sreg_of_le (show 4 ≤ SR.epc by decide)]
    rfl
  case brk =>
    exact fun c h => exec_brk h

end Sys2Proof.Machine
end

section
/-! SUPPORT. Exception entry and the exceptions taken at a boundary (R76, R77, R80, R81, R83–R85). -/

namespace Sys2Proof.Machine

/-! ## Entry (R77) -/

section
variable (x : Pair) (k : Nat) (v : Word)

/-- The pair with the exception registers of an entry that is not imprecise. -/
def Pair.excNoted (x : Pair) (k : Nat) (v : Word) : Pair :=
  (((x.flushResults.setS SR.epc x.pc).setS SR.ecause (wd k)).setS SR.eval v).setS SR.estat
    (wd (x.ring + 4 * x.ring + 16 * b2n x.ie + 32 * b2n x.pm))

theorem sreg_excNoted {n : Nat} (above : 4 ≤ n) (other : n ∉ [SR.epc, SR.ecause, SR.eval, SR.estat]) :
    (x.excNoted k v).sreg n = x.sreg n := by
  simp only [List.mem_cons, List.not_mem_nil, or_false, not_or] at other
  obtain ⟨epc, ecause, eval, estat⟩ := other
  unfold Pair.excNoted
  rw [Pair.sreg_setS_ne _ _ estat, Pair.sreg_setS_ne _ _ eval, Pair.sreg_setS_ne _ _ ecause, Pair.sreg_setS_ne _ _ epc,
    (same_flushResults x).sreg_of_le above]

theorem noted_excNoted : (x.excNoted k v).sreg SR.epc = x.pc ∧ (x.excNoted k v).sreg SR.ecause = wd k ∧
    (x.excNoted k v).sreg SR.eval = v ∧
    (x.excNoted k v).sreg SR.estat = wd (x.ring + 4 * x.ring + 16 * b2n x.ie + 32 * b2n x.pm) := by
  unfold Pair.excNoted
  refine ⟨?_, ?_, ?_, Pair.sreg_setS _ _ _⟩
  · rw [Pair.sreg_setS_ne _ _ (by decide), Pair.sreg_setS_ne _ _ (by decide), Pair.sreg_setS_ne _ _ (by decide), Pair.sreg_setS]
  · rw [Pair.sreg_setS_ne _ _ (by decide), Pair.sreg_setS_ne _ _ (by decide), Pair.sreg_setS]
  · rw [Pair.sreg_setS_ne _ _ (by decide), Pair.sreg_setS]

/-- The ring that an exception enters (R76). -/
def Pair.excRing (x : Pair) (k : Nat) : Nat := if x.ring = 0 then 0 else if x.ring = 3 ∧ bit k (x.sreg SR.edel) = true then 2 else 1

theorem excRing_lt : x.excRing k < 4 := by
  unfold Pair.excRing
  split_ifs <;> decide

/-- The PC at which an exception enters its ring (R76). -/
def Pair.excEntry (x : Pair) (k : Nat) : Word :=
  if x.ring = 0 then 0xFFFF0080#32
  else if x.excRing k = 2 then x.sreg SR.evec2 &&& 0xFFFFFFFC#32 else x.sreg SR.evec1 &&& 0xFFFFFFFC#32

theorem excTarget_eq {y : Pair} (same : x.Same y) : y.excTarget k x.ring = (x.excRing k, x.excEntry k) := by
  unfold Pair.excTarget Pair.excEntry Pair.excRing
  rw [same.sreg_of_le (show 4 ≤ SR.edel by decide), same.sreg_of_le (show 4 ≤ SR.evec1 by decide),
    same.sreg_of_le (show 4 ≤ SR.evec2 by decide)]
  by_cases monitor : x.ring = 0
  · simp [monitor]
  · by_cases delegated : x.ring = 3 ∧ bit k (x.sreg SR.edel) = true
    · simp [delegated]
    · simp [monitor, delegated]

/-- Entry of an exception goes to its ring, at its entry, with the exception named (R76, R77). -/
theorem enter_eq : x.enter k v false false =
    { (x.excNoted k v).entered x.ring (x.excRing k) false x.pm true x.df (x.excEntry k) with imp := none } := by
  have same := same_flushResults x
  have noted : (((x.flushResults.setS SR.epc x.flushResults.pc).setS SR.ecause
      (wd (k + 2 ^ 29 * b2n false + 2 ^ 31 * b2n false))).setS SR.eval v).setS SR.estat
        (wd (x.ring + 4 * x.ring + 16 * b2n ((((x.flushResults.setS SR.epc x.flushResults.pc).setS SR.ecause
          (wd (k + 2 ^ 29 * b2n false + 2 ^ 31 * b2n false))).setS SR.eval v).ie) +
          32 * b2n ((((x.flushResults.setS SR.epc x.flushResults.pc).setS SR.ecause
          (wd (k + 2 ^ 29 * b2n false + 2 ^ 31 * b2n false))).setS SR.eval v).pm))) = x.excNoted k v := by
    obtain ⟨_, ie, pm, _, _⟩ := pstat_congr (x := x) (y := ((x.flushResults.setS SR.epc x.flushResults.pc).setS SR.ecause
      (wd (k + 2 ^ 29 * b2n false + 2 ^ 31 * b2n false))).setS SR.eval v) (by
        rw [Pair.sreg_setS_ne _ _ (by decide), Pair.sreg_setS_ne _ _ (by decide), Pair.sreg_setS_ne _ _ (by decide),
          same.sreg_of_le (by decide)])
    rw [ie, pm, same.pc]
    rfl
  obtain ⟨_, _, pm, _, df⟩ := fields_exchanged (x.excNoted k v) x.ring (x.excRing k)
  obtain ⟨_, _, pm', _, df'⟩ := pstat_congr (sreg_excNoted x k v (n := SR.pstat) (by decide) (by decide))
  unfold Pair.enter Pair.entered
  dsimp only
  rw [noted, excTarget_eq x k same]
  dsimp only
  rw [pm, df, pm', df']

/-- Entry of an exception, of a deadline that is pending no more. -/
theorem enter_enters (e : Exc) : (x.excNoted k v).Enters ((x.enter k v false false).took e) x.ring (x.excRing k) false x.pm true x.df
    (x.excEntry k) := by
  have enters := entered_enters (x.excNoted k v) x.ring (x.excRing k) false x.pm true x.df (x.excEntry k) (excRing_lt x k)
  rw [enter_eq]
  unfold Pair.took
  split <;> exact enters.of_right rfl rfl rfl

/-- What entry leaves beside registers: no pending result or imprecise exception, and local memory as it was. -/
theorem enter_rest (e : Exc) : ((x.enter k v false false).took e).imp = none ∧ ((x.enter k v false false).took e).mulPend = [] ∧
    ((x.enter k v false false).took e).divPend = none ∧ ((x.enter k v false false).took e).lmem = x.lmem ∧
    ((x.enter k v false false).took e).deadline = (if e.code = Cause.deadline then none else x.deadline) := by
  let y := x.excNoted k v
  have mul : ((y.exchange x.ring (x.excRing k)).applyRules x.ring (x.excRing k)).mulPend = [] := by simp [y, Pair.excNoted]; rfl
  have div : ((y.exchange x.ring (x.excRing k)).applyRules x.ring (x.excRing k)).divPend = none := by simp [y, Pair.excNoted]; rfl
  have mem : ((y.exchange x.ring (x.excRing k)).applyRules x.ring (x.excRing k)).lmem = x.lmem := by
    rw [lmem_applyRules, lmem_exchange]
    exact (same_flushResults x).lmem
  have due : ((y.exchange x.ring (x.excRing k)).applyRules x.ring (x.excRing k)).deadline = x.deadline := by
    rw [deadline_applyRules, deadline_exchange]
    exact (same_flushResults x).deadline
  rw [enter_eq]
  unfold Pair.took
  split
  · exact ⟨rfl, mul, div, mem, rfl⟩
  · exact ⟨rfl, mul, div, mem, due⟩

/-! ## Double fault (R84, R85) -/

/-- The pair with the registers of a double fault of cause k. -/
def Pair.faultNoted (x : Pair) (k : Nat) (xpc : Word) : Pair :=
  (x.flushResults.setS SR.xpc xpc).setS SR.xstat (wd (k + 256 * fld 5 0 (x.sreg SR.ecause) + 2 ^ 14 * x.ring))

theorem sreg_faultNoted {n : Nat} (above : 4 ≤ n) (xpc : n ≠ SR.xpc) (xstat : n ≠ SR.xstat) :
    (x.faultNoted k v).sreg n = x.sreg n := by
  unfold Pair.faultNoted
  rw [Pair.sreg_setS_ne _ _ xstat, Pair.sreg_setS_ne _ _ xpc, (same_flushResults x).sreg_of_le above]

theorem doubleFault_enters : (x.faultNoted k v).Enters (x.doubleFault k v false) x.ring 0 false x.pm true true 0xFFFF0100#32 := by
  have enters := entered_enters (x.faultNoted k v) x.ring 0 false x.pm true true 0xFFFF0100#32 (by decide)
  have noted : (x.flushResults.setS SR.xpc v).setS SR.xstat
      (wd (k + 256 * fld 5 0 ((x.flushResults.setS SR.xpc v).sreg SR.ecause) + 2 ^ 14 * x.ring)) = x.faultNoted k v := by
    rw [Pair.sreg_setS_ne _ _ (by decide), (same_flushResults x).sreg_of_le (by decide)]
    rfl
  obtain ⟨_, _, pm, _, _⟩ := fields_exchanged (x.faultNoted k v) x.ring 0
  obtain ⟨_, _, pm', _, _⟩ := pstat_congr (sreg_faultNoted x k v (n := SR.pstat) (by decide) (by decide) (by decide))
  have faulted : x.doubleFault k v false = (x.faultNoted k v).entered x.ring 0 false x.pm true true 0xFFFF0100#32 := by
    unfold Pair.doubleFault Pair.entered
    dsimp only
    rw [noted, pm, pm', if_neg Bool.false_ne_true]
  rw [faulted]
  exact enters

/-- The handler of Furdauc hands over to ring 1 at evec1 (R85). -/
theorem handover_enters : (x.setS SR.ecause (x.sreg SR.ecause ||| 0x40000000#32)).Enters x.handover 0 1 x.ie x.pm x.exl x.df
    (x.sreg SR.evec1 &&& 0xFFFFFFFC#32) := by
  have enters := entered_enters (x.setS SR.ecause (x.sreg SR.ecause ||| 0x40000000#32)) 0 1 x.ie x.pm x.exl x.df
    (x.sreg SR.evec1 &&& 0xFFFFFFFC#32) (by decide)
  obtain ⟨_, ie, pm, exl, df⟩ := fields_exchanged (x.setS SR.ecause (x.sreg SR.ecause ||| 0x40000000#32)) 0 1
  obtain ⟨_, ie', pm', exl', df'⟩ := pstat_congr (x := x) (y := x.setS SR.ecause (x.sreg SR.ecause ||| 0x40000000#32))
    (Pair.sreg_setS_ne _ _ (by decide))
  have handed : x.handover = (x.setS SR.ecause (x.sreg SR.ecause ||| 0x40000000#32)).entered 0 1 x.ie x.pm x.exl x.df
      (x.sreg SR.evec1 &&& 0xFFFFFFFC#32) := by
    unfold Pair.handover Pair.entered
    dsimp only
    rw [ie, pm, exl, df, ie', pm', exl', df', sreg_applyRules, sreg_exchange _ _ _ (by decide), Pair.sreg_setS_ne _ _ (by decide)]
    rfl
  rw [handed]
  exact enters

end

/-! ## Raising -/

section
variable {s : State} {p : Nat} {e : Exc}

/-- The state in which an exception is raised: a read of a running erase's sector has suspended the erase (R320). -/
theorem raise_pair (s : State) (p : Nat) (e : Exc) :
    (if e.code = Cause.eraseSuspended then s.touchBank (s.readBank (e.eval.toNat - 0x20000000)) else s).pair p = s.pair p := by
  split
  · exact (untouched_touchBank _ _).pair p
  · rfl

theorem pair_raise (noDf : (s.pair p).df = false) (noExl : (s.pair p).exl = false) :
    (s.raise p e).pair p = ((s.pair p).enter e.code e.eval false false).took e := by
  unfold State.raise
  dsimp only
  rw [raise_pair, noDf, noExl, if_neg Bool.false_ne_true, if_neg Bool.false_ne_true, State.pair_setPair]

/-- An exception in a pair with EXL = 1 is a double fault, and the handler retires as many instructions as the manual does not say. -/
theorem pair_raise_twice (noDf : (s.pair p).df = false) (exl : (s.pair p).exl = true) :
    ∃ n, (s.raise p e).pair p = (((s.pair p).doubleFault e.code (s.pair p).pc false).ran n).handover := by
  unfold State.raise State.doubleFault
  dsimp only
  rw [raise_pair, noDf, exl, if_neg Bool.false_ne_true, if_pos rfl, (untouched_logEvent _ _ _ _ _ _ _).pair, State.pair_setPair]
  exact ⟨_, rfl⟩

end

/-! ## What a double fault leaves (R84, R85) -/

section
variable (x : Pair) (k : Nat) (xpc n : Word)

/-- A special register that neither the faults nor their handler set. -/
theorem sreg_faulted {m : Nat} (above : 4 < m) (notPstat : m ≠ SR.pstat) (notEcause : m ≠ SR.ecause) (below : m < 0x28) :
    (((x.doubleFault k xpc false).ran n).handover).sreg m = (x.faultNoted k xpc).sreg m := by
  rw [(handover_enters _).sreg m notPstat (by show m ≠ 0x28; omega), Pair.sreg_setS_ne _ _ notEcause]
  refine (Pair.sreg_setS_ne _ _ (by show m ≠ 4; omega)).trans ?_
  exact (doubleFault_enters x k xpc).sreg m notPstat (by show m ≠ 0x28 + x.ring; omega)

/-- The pair as the handler leaves it. -/
theorem faulted_enters : (((x.doubleFault k xpc false).ran n).setS SR.ecause (x.sreg SR.ecause ||| 0x40000000#32)).Enters
    ((x.doubleFault k xpc false).ran n).handover 0 1 false x.pm true true (x.sreg SR.evec1 &&& 0xFFFFFFFC#32) := by
  let y := (x.doubleFault k xpc false).ran n
  have first := doubleFault_enters x k xpc
  have keeps : ∀ m, 4 < m → m ≠ SR.pstat → m < 0x28 → y.sreg m = (x.faultNoted k xpc).sreg m := fun m above notPstat below =>
    (Pair.sreg_setS_ne _ _ (by show m ≠ 4; omega)).trans (first.sreg m notPstat (by show m ≠ 0x28 + x.ring; omega))
  obtain ⟨_, ie, pm, exl, df⟩ := pstat_congr (x := x.doubleFault k xpc false) (y := y) (Pair.sreg_setS_ne _ _ (by decide))
  have second := handover_enters y
  rwa [keeps SR.ecause (by decide) (by decide) (by decide), keeps SR.evec1 (by decide) (by decide) (by decide),
    sreg_faultNoted x k xpc (by decide) (by decide) (by decide), sreg_faultNoted x k xpc (by decide) (by decide) (by decide),
    ie, pm, exl, df, first.ie, first.pm, first.exl, first.df] at second

end

/-! ## Exceptions at a boundary (R75, R80, R81, R83) -/

section
variable {s : State} {p : PairId}

theorem takeAsync_raise {e : Exc} {p : Nat} (precise : (s.pair p).imp = none) (quiet : (s.wake p).nextExc p = none) :
    s.takeAsync p e = ((s.wake p).raise p e).afterStep p := by
  unfold State.takeAsync
  rw [precise]
  dsimp only
  rw [quiet]

theorem exec_deadlineException {a : Word} (due : (s.pair p.val).deadline = some a) (at_ : s.atBoundary p.val = true)
    (open_ : (s.pair p.val).interruptible = true) : exec (.deadlineException p) s = .next (s.takeAsync p.val ⟨Cause.deadline, a⟩) := by
  change execDeadlineException p s = _
  simp [execDeadlineException, due, at_, open_]

theorem exec_interrupt {v : Word} (pends : s.irqPending p.val = some v) (at_ : s.atBoundary p.val = true)
    (open_ : (s.pair p.val).interruptible = true) (ie : (s.pair p.val).ie = true) (noDeadline : (s.pair p.val).deadline = none) :
    exec (.interrupt p) s = .next (s.takeAsync p.val ⟨Cause.interrupt, v⟩) := by
  change execInterrupt p s = _
  simp [execInterrupt, pends, at_, open_, ie, noDeadline]

/-- An imprecise exception whose cause seven instructions have passed (R83). -/
theorem exec_impreciseException {i : Imprecise} (pends : (s.pair p.val).imp = some i) (at_ : s.atBoundary p.val = true)
    (late : 7 ≤ i.after) : exec (.impreciseException p) s = .next (((s.wake p.val).takeImprecise p.val i).afterStep p.val) := by
  change execImpreciseException p s = _
  simp [execImpreciseException, pends, at_, late]

theorem takeImprecise_enters {i : Imprecise} {p : Nat} (noDf : (s.pair p).df = false) (noExl : (s.pair p).exl = false) :
    s.takeImprecise p i = s.setPair p ((s.pair p).enter i.code i.pc true i.multi) := by
  simp [State.takeImprecise, noDf, noExl]

end

end Sys2Proof.Machine
end

section
/-! The statement about exceptions settled. -/

namespace Sys2Proof.Machine

/-- Settles O9: an entry into the ring of the exception, a double fault handed over to ring 1, and the boundary's own exceptions (R75–R85). -/
theorem exceptionsEnterTheirRing : Obligations.ExceptionsEnterTheirRing := by
  refine ⟨?entry, ?twice, ?boundary⟩
  case entry =>
    intro s p k v x c t y _ noDf noExl
    have raised : y = (x.enter k v false false).took ⟨k, v⟩ := pair_raise noDf noExl
    have enters := enter_enters x k v ⟨k, v⟩
    obtain ⟨imp, mul, div, mem, due⟩ := enter_rest x k v ⟨k, v⟩
    obtain ⟨epc, ecause, eval, estat⟩ := noted_excNoted x k v
    have kept : ∀ m, m ≠ SR.pstat → m < 0x28 → y.sreg m = (x.excNoted k v).sreg m := fun m notPstat below => by
      rw [raised, enters.sreg m notPstat (by show m ≠ 0x28 + x.ring; omega)]
    have stands : ∀ m, 4 ≤ m → m ≠ SR.pstat → m < 0x28 → m ∉ [SR.epc, SR.ecause, SR.eval, SR.estat] → y.sreg m = x.sreg m :=
      fun m above notPstat below other => (kept m notPstat below).trans (sreg_excNoted x k v above other)
    have greg : ∀ r, (x.excNoted k v).greg r = x.greg r := (same_flushResults x).greg
    have gs : (x.excNoted k v).sreg (SR.gs (x.excRing k)) = x.sreg (SR.gs (x.excRing k)) :=
      sreg_excNoted x k v (by show 4 ≤ 0x28 + x.excRing k; omega) (by
        simp only [List.mem_cons, List.not_mem_nil, or_false, not_or]
        refine ⟨?_, ?_, ?_, ?_⟩
        all_goals exact Nat.ne_of_gt (by show _ < 0x28 + x.excRing k; simp only [SR.epc, SR.ecause, SR.eval, SR.estat]; omega))
    rw [raised] at kept stands ⊢
    exact ⟨(kept _ (by decide) (by decide)).trans epc, (kept _ (by decide) (by decide)).trans ecause,
      (kept _ (by decide) (by decide)).trans eval, (kept _ (by decide) (by decide)).trans estat,
      enters.ring, enters.ie, enters.exl, enters.pm, enters.df.trans noDf, imp, enters.pc, enters.exchanged.of_left greg gs, mul, div,
      mem, stands _ (by decide) (by decide) (by decide) (by decide), stands _ (by decide) (by decide) (by decide) (by decide),
      stands _ (by decide) (by decide) (by decide) (by decide), due⟩
  case twice =>
    intro s p k v x y _ exl noDf
    obtain ⟨n, raised⟩ : ∃ n, y = ((x.doubleFault k x.pc false).ran n).handover := pair_raise_twice noDf exl
    have enters := faulted_enters x k x.pc n
    have stands : ∀ m, 4 < m → m ≠ SR.pstat → m ≠ SR.ecause → m < 0x28 → m ≠ SR.xpc → m ≠ SR.xstat → y.sreg m = x.sreg m :=
      fun m above notPstat notEcause below notXpc notXstat => by
        rw [raised, sreg_faulted x k x.pc n above notPstat notEcause below,
          sreg_faultNoted x k x.pc (Nat.le_of_lt above) notXpc notXstat]
    have noted : ∀ m, 4 < m → m ≠ SR.pstat → m ≠ SR.ecause → m < 0x28 → y.sreg m = (x.faultNoted k x.pc).sreg m :=
      fun m above notPstat notEcause below => by rw [raised, sreg_faulted x k x.pc n above notPstat notEcause below]
    have xpc : (x.faultNoted k x.pc).sreg SR.xpc = x.pc :=
      (Pair.sreg_setS_ne _ _ (by decide)).trans (Pair.sreg_setS _ _ _)
    have ecause := (enters.sreg SR.ecause (by decide) (by decide)).trans (Pair.sreg_setS _ _ _)
    rw [← raised] at enters ecause
    exact ⟨(noted _ (by decide) (by decide) (by decide) (by decide)).trans xpc,
      (noted _ (by decide) (by decide) (by decide) (by decide)).trans (Pair.sreg_setS _ _ _),
      stands _ (by decide) (by decide) (by decide) (by decide) (by decide) (by decide),
      stands _ (by decide) (by decide) (by decide) (by decide) (by decide) (by decide),
      stands _ (by decide) (by decide) (by decide) (by decide) (by decide) (by decide),
      ecause, enters.ring, enters.df, enters.exl, enters.ie, enters.pm, enters.pc⟩
  case boundary =>
    intro s p x t
    refine ⟨fun a at_ open_ precise due quiet => ?_, fun v at_ open_ ie precise noDeadline pends quiet => ?_,
      fun i at_ pends late noDf noExl => ?_⟩
    · rw [exec_deadlineException due at_ open_, takeAsync_raise precise quiet]
    · rw [exec_interrupt pends at_ open_ ie noDeadline, takeAsync_raise precise quiet]
    · have woken := same_wake s p.val
      rw [exec_impreciseException pends at_ late, takeImprecise_enters (woken.df.trans noDf) (woken.exl.trans noExl)]

end Sys2Proof.Machine
end

section
/-! SUPPORT. mfs, mts, fences and wait (R60–R64, R109–R111): what the boundary of each answers. -/

namespace Sys2Proof.Machine

section
variable {s : State} {p : PairId} {w : Word} {r : BitVec 5} {n : BitVec 8}

/-! ## mfs (R60) -/

theorem exec_mfs (h : s.Executes p.val w (.mfs r n)) :
    exec (.mfs p w) s = .next (((s.begun p.val (.mfs r n)).doMfs p.val w r n.toNat).endedAt p.val) :=
  congrArg Host.Outcome.next (issue_endedAt h rfl)

theorem exec_mfs_reads {k : Nat} (h : s.Executes p.val w (.mfs r n)) (may : srReadRing n.toNat = some k)
    (within : (s.pair p.val).ring ≤ k) :
    exec (.mfs p w) s = .next (s.wrote p.val (.mfs r n) r (((s.begun p.val (.mfs r n)).pair p.val).readSr n.toNat) 1) := by
  rw [exec_mfs h, wrote_eq]
  simp only [State.doMfs, may, (begun_same h).ring, if_neg (Nat.not_lt.2 within), Resp.endedAt, retireNext_begun h (pc_setG _ _ _)]

theorem exec_mfs_privilege {k : Nat} (h : s.Executes p.val w (.mfs r n)) (may : srReadRing n.toNat = some k)
    (beyond : k < (s.pair p.val).ring) :
    exec (.mfs p w) s = .next (((s.begun p.val (.mfs r n)).raise p.val ⟨Cause.privilege, w⟩).ended p.val) := by
  rw [exec_mfs h]
  simp only [State.doMfs, may, (begun_same h).ring, if_pos beyond, Resp.endedAt]

theorem exec_mfs_illegal (h : s.Executes p.val w (.mfs r n)) (none_ : srReadRing n.toNat = none) :
    exec (.mfs p w) s = .next (((s.begun p.val (.mfs r n)).raise p.val ⟨Cause.illegal, w⟩).ended p.val) := by
  rw [exec_mfs h]
  simp only [State.doMfs, none_, Resp.endedAt]

/-! ## mts (R61, R62, R64) -/

theorem exec_mts (h : s.Executes p.val w (.mts r n)) :
    exec (.mts p w) s = .next (((s.begun p.val (.mts r n)).doMts p.val w r n.toNat).endedAt p.val) :=
  congrArg Host.Outcome.next (issue_endedAt h rfl)

theorem pc_writeSr (x : Pair) (m : Nat) (v : Word) : (x.writeSr m v).pc = x.pc := by
  unfold Pair.writeSr
  split_ifs <;> rfl

/-- An mts of pair p that leaves the pair as `f` makes it. -/
def State.putSr (s : State) (p : Nat) (z : Zaend) (f : Pair → Pair) : State :=
  ((s.begun p z).setPair p { (f ((s.begun p z).pair p)).retire 1 with pc := (s.pair p).pc + 4 }).ended p

theorem exec_mts_writes {k : Nat} (h : s.Executes p.val w (.mts r n)) (may : srWriteRing n.toNat = some k)
    (within : (s.pair p.val).ring ≤ k) (open_ : ringForbidden n.toNat (s.pair p.val).ring ((s.pair p.val).greg r.toNat) = false) :
    exec (.mts p w) s = .next (s.putSr p.val (.mts r n) (fun y => y.writeSr n.toNat ((s.pair p.val).greg r.toNat))) := by
  rw [exec_mts h]
  simp only [State.doMts, may, (begun_same h).ring, (begun_same h).greg, decide_eq_false (Nat.not_lt.2 within), open_, Bool.or_self,
    Bool.false_eq_true, if_false, Resp.endedAt, retireNext_begun h (pc_writeSr _ _ _)]
  rfl

theorem exec_mts_privilege {k : Nat} (h : s.Executes p.val w (.mts r n)) (may : srWriteRing n.toNat = some k)
    (closed : k < (s.pair p.val).ring ∨ ringForbidden n.toNat (s.pair p.val).ring ((s.pair p.val).greg r.toNat) = true) :
    exec (.mts p w) s = .next (((s.begun p.val (.mts r n)).raise p.val ⟨Cause.privilege, w⟩).ended p.val) := by
  rw [exec_mts h]
  have refused : (decide (k < (s.pair p.val).ring) || ringForbidden n.toNat (s.pair p.val).ring ((s.pair p.val).greg r.toNat)) = true := by
    simpa using closed
  simp only [State.doMts, may, (begun_same h).ring, (begun_same h).greg, refused, if_true, Resp.endedAt]

theorem exec_mts_illegal (h : s.Executes p.val w (.mts r n)) (none_ : srWriteRing n.toNat = none) :
    exec (.mts p w) s = .next (((s.begun p.val (.mts r n)).raise p.val ⟨Cause.illegal, w⟩).ended p.val) := by
  rw [exec_mts h]
  simp only [State.doMts, none_, Resp.endedAt]

theorem srWriteRing_pstat : srWriteRing (0x08#8).toNat = some 3 := by decide
theorem srWriteRing_mh : srWriteRing (0x00#8).toNat = some 3 := by decide
theorem srWriteRing_evec1 : srWriteRing (0x14#8).toNat = some 1 := by decide
theorem srWriteRing_estat : srWriteRing (0x13#8).toNat = some 2 := by decide

theorem writeSr_pstat (x : Pair) (v : Word) : x.writeSr (0x08#8).toNat v = x.writePstat v := if_pos rfl
theorem writeSr_mh (x : Pair) (v : Word) : x.writeSr (0x00#8).toNat v = { x.setS SR.mh v with mulPend := [] } := by
  simp [Pair.writeSr]
theorem writeSr_evec1 (x : Pair) (v : Word) : x.writeSr (0x14#8).toNat v = x.setS SR.evec1 (v &&& 0xFFFFFFFC#32) := by
  simp [Pair.writeSr, srMask]

/-- The registers that are no ring field of a frame or gate entry take any value (R61). -/
theorem ringForbidden_plain {m : Nat} (ring : Nat) (v : Word) (estat : m ≠ SR.estat) (lst : m ≠ SR.lst) (below : m < 0x30) :
    ringForbidden m ring v = false := by
  unfold ringForbidden
  rw [if_neg (by simp only [not_or]; exact ⟨estat, lst⟩), if_neg (by omega)]

theorem ringForbidden_estat {ring : Nat} {v : Word} (inner : fld 1 0 v < ring ∨ fld 3 2 v < ring) :
    ringForbidden (0x13#8).toNat ring v = true := by
  simpa [ringForbidden] using inner

/-- What putSr makes of the pair as the instruction began. -/
theorem putSr_congr {z : Zaend} {f g : Pair → Pair} (same : f ((s.begun p.val z).pair p.val) = g ((s.begun p.val z).pair p.val)) :
    s.putSr p.val z f = s.putSr p.val z g := by
  unfold State.putSr
  rw [same]

/-- mts of pstat changes PM, and EXL and IE as the ring may (R64). -/
theorem exec_mts_pstat (h : s.Executes p.val w (.mts r 0x08)) :
    let x := s.pair p.val
    let v := x.greg r.toNat
    exec (.mts p w) s = .next (s.putSr p.val (.mts r 0x08) (fun y => y.setPstat x.ring (if x.ring ≤ 1 then bit 2 v else x.ie) (bit 3 v)
      (if x.ring ≤ 2 then bit 4 v else x.exl) (x.df && !(x.ring == 1 && !bit 4 v)))) := by
  intro x v
  have same := begun_same h
  rw [exec_mts_writes h srWriteRing_pstat (Nat.le_of_lt_succ (ring_lt _))
    (ringForbidden_plain _ _ (by decide) (by decide) (by decide))]
  refine congrArg Host.Outcome.next (putSr_congr ?_)
  refine (writeSr_pstat _ _).trans ?_
  unfold Pair.writePstat
  dsimp only
  rw [same.ring, same.ie, same.exl, same.df]

/-- mts of mh cancels what the multiplier still owes (R62). -/
theorem exec_mts_mh (h : s.Executes p.val w (.mts r 0x00)) : exec (.mts p w) s =
    .next (s.putSr p.val (.mts r 0x00) (fun y => { y.setS SR.mh ((s.pair p.val).greg r.toNat) with mulPend := [] })) := by
  rw [exec_mts_writes h srWriteRing_mh (Nat.le_of_lt_succ (ring_lt _)) (ringForbidden_plain _ _ (by decide) (by decide) (by decide))]
  exact congrArg Host.Outcome.next (putSr_congr (writeSr_mh _ _))

theorem exec_mts_evec1 (h : s.Executes p.val w (.mts r 0x14)) (within : (s.pair p.val).ring ≤ 1) : exec (.mts p w) s =
    .next (s.putSr p.val (.mts r 0x14) (fun y => y.setS SR.evec1 ((s.pair p.val).greg r.toNat &&& 0xFFFFFFFC#32))) := by
  rw [exec_mts_writes h srWriteRing_evec1 within (ringForbidden_plain _ _ (by decide) (by decide) (by decide))]
  exact congrArg Host.Outcome.next (putSr_congr (writeSr_evec1 _ _))

end

/-! ## Fences and wait -/

section
variable {s : State} {p : PairId} {w : Word}

theorem exec_fenceM (h : s.Executes p.val w .fenceM) :
    exec (.fenceM p w) s = .next (((s.begun p.val .fenceM).doFenceM p.val).endedAt p.val) :=
  congrArg Host.Outcome.next (issue_endedAt h rfl)

theorem exec_fenceP (h : s.Executes p.val w .fenceP) :
    exec (.fenceP p w) s = .next (((s.begun p.val .fenceP).doFenceP p.val).endedAt p.val) :=
  congrArg Host.Outcome.next (issue_endedAt h rfl)

theorem exec_wait (h : s.Executes p.val w .wait) :
    exec (.wait_ p w) s = .next (((s.begun p.val .wait).doWait p.val).endedAt p.val) :=
  congrArg Host.Outcome.next (issue_endedAt h rfl)

/-- wait holds issue in rings 1–3 with nothing pending (R111). -/
theorem doWait_hold {b : State} {p : Nat} {hold : Bool} (holds : ((b.pair p).ring != 0 && !b.wakes p) = hold) :
    b.doWait p = .ok (b.retireNext p { b.pair p with waiting := hold, unsteady := (b.pair p).unsteady || hold } 1) := by
  subst holds
  rfl

end

end Sys2Proof.Machine
end

section
/-! The statement about system instructions settled. -/

namespace Sys2Proof.Machine

/-- Settles O11: what mfs, mts, the fences and wait do by the ring and the register (R60–R64, R109–R111). -/
theorem systemInstructionsAct : Obligations.SystemInstructionsAct := by
  refine ⟨?registers, ?fences⟩
  case registers =>
    intro s p w r n x v y traps puts
    refine ⟨fun k h may within => exec_mfs_reads h may within, fun k h may beyond => exec_mfs_privilege h may beyond, exec_mfs_illegal,
      fun h => ?_, fun h => ?_, fun h within => ?_, fun h within forbidden => ?_,
      fun k h may within open_ => exec_mts_writes h may within open_, fun k h may beyond => exec_mts_privilege h may (.inl beyond),
      exec_mts_illegal⟩
    · exact exec_mts_pstat h
    · exact exec_mts_mh h
    · exact exec_mts_evec1 h within
    · exact exec_mts_privilege h srWriteRing_estat (.inr (ringForbidden_estat forbidden))
  case fences =>
    intro s p w dm dp b y left
    refine ⟨fun h => ⟨stores_drainStores _ _ p.isLt, ?_⟩, fun h => ⟨stores_drainStores _ _ p.isLt, ?_⟩, fun h ring quiet => ?_,
      fun h goes => ?_⟩
    · rw [exec_fenceM h]
      refine congrArg Host.Outcome.next ?_
      show (dm.retireNext p.val _ 1).ended p.val = left dm _ 1
      unfold State.retireNext
      split <;> rfl
    · exact exec_fenceP h
    · have hold : ((b.pair p.val).ring != 0 && !b.wakes p.val) = true := by
        rw [(begun_same h).ring, quiet]
        simpa using ring
      rw [exec_wait h, doWait_hold hold, Bool.or_true]
      rfl
    · have hold : ((b.pair p.val).ring != 0 && !b.wakes p.val) = false := by
        rw [(begun_same h).ring]
        rcases goes with monitor | wakes
        · simp [monitor]
        · simp [wakes]
      rw [exec_wait h, doWait_hold hold, Bool.or_false]
      rfl

end Sys2Proof.Machine
end

section
/-! SUPPORT. Fields of words and registers: what a field reads as after a write of it or of another. -/

namespace Sys2Proof.Machine

/-! ## Words -/

theorem testBit_fld (hi lo : Nat) (w : Word) (i : Nat) :
    (fld hi lo w).testBit i = (decide (i < hi + 1 - lo) && w.getLsbD (lo + i)) := by
  rw [fld, Nat.testBit_mod_two_pow, BitVec.toNat_ushiftRight, Nat.testBit_shiftRight]
  rfl

theorem getLsbD_fieldMask (hi lo i : Nat) : (fieldMask hi lo).getLsbD i = (decide (i < 32) && decide (lo ≤ i ∧ i < hi + 1)) := by
  rw [fieldMask, BitVec.getLsbD_ofNat, Nat.testBit_mul_two_pow, Nat.testBit_two_pow_sub_one]
  congr 1
  simp only [← Bool.decide_and, decide_eq_decide]
  omega

theorem getLsbD_setFld (hi lo n : Nat) (w : Word) {i : Nat} (h : i < 32) :
    (setFld hi lo n w).getLsbD i = if lo ≤ i ∧ i < hi + 1 then n.testBit (i - lo) else w.getLsbD i := by
  rw [setFld, BitVec.getLsbD_or, BitVec.getLsbD_and, BitVec.getLsbD_not, getLsbD_fieldMask, BitVec.getLsbD_ofNat,
    Nat.testBit_mul_two_pow, Nat.testBit_mod_two_pow]
  by_cases within : lo ≤ i ∧ i < hi + 1
  · have below : i - lo < hi + 1 - lo := by omega
    simp [h, within, below]
  · rw [if_neg within]
    rcases not_and_or.1 within with low | high
    · simp [h, low]
    · have beyond : ¬(i - lo < hi + 1 - lo ∧ lo ≤ i) := by omega
      by_cases above : lo ≤ i
      · simp [h, above, high, show ¬(i - lo < hi + 1 - lo) by omega]
      · simp [h, above]

/-- A field that has been set reads as what it was set to. -/
theorem fld_setFld_self {hi lo : Nat} (n : Nat) (w : Word) (h : hi < 32) : fld hi lo (setFld hi lo n w) = n % 2 ^ (hi + 1 - lo) := by
  refine Nat.eq_of_testBit_eq fun i => ?_
  rw [testBit_fld, Nat.testBit_mod_two_pow]
  by_cases within : i < hi + 1 - lo
  · rw [getLsbD_setFld _ _ _ _ (by omega), if_pos (by omega), Nat.add_sub_cancel_left]
  · simp [within]

/-- A field apart from one that has been set reads as before. -/
theorem fld_setFld_ne {hi lo hi' lo' : Nat} (n : Nat) (w : Word) (h : hi < 32) (apart : hi < lo' ∨ hi' < lo) :
    fld hi lo (setFld hi' lo' n w) = fld hi lo w := by
  refine Nat.eq_of_testBit_eq fun i => ?_
  rw [testBit_fld, testBit_fld]
  by_cases within : i < hi + 1 - lo
  · rw [getLsbD_setFld _ _ _ _ (by omega), if_neg (by omega)]
  · simp [within]

theorem bit_setFld_self {k : Nat} (n : Nat) (w : Word) (h : k < 32) : bit k (setFld k k n w) = n.testBit 0 := by
  rw [bit, getLsbD_setFld _ _ _ _ h, if_pos (by omega), Nat.sub_self]

theorem bit_setFld_ne {k hi lo : Nat} (n : Nat) (w : Word) (h : k < 32) (apart : k < lo ∨ hi < k) :
    bit k (setFld hi lo n w) = bit k w := by
  rw [bit, getLsbD_setFld _ _ _ _ h, if_neg (by omega)]
  rfl

/-- A field of one bit is that bit. -/
theorem fld_bit (k : Nat) (w : Word) : fld k k w = b2n (bit k w) := by
  refine Nat.eq_of_testBit_eq fun i => ?_
  rw [testBit_fld]
  cases i with
  | zero => cases hb : w.getLsbD k <;> simp [b2n, bit, hb]
  | succ i => cases hb : w.getLsbD k <;> simp [b2n, bit, hb, Nat.testBit_succ]

/-! ## Registers -/

theorem reg_congr {s t : State} (h : t.regs = s.regs) (o : Nat) : t.reg o = s.reg o := by rw [State.reg, h, State.reg]
theorem getF_congr {s t : State} (h : t.regs = s.regs) (f : FieldAt) : t.getF f = s.getF f := by
  rw [State.getF, reg_congr h, State.getF]
theorem flag_congr {s t : State} (h : t.regs = s.regs) (f : FieldAt) : t.flag f = s.flag f := by
  rw [State.flag, getF_congr h, State.flag]

section
variable (s : State)

theorem getF_setReg_ne {f : FieldAt} {o : Nat} (v : Word) (h : f.off ≠ o) : (s.setReg o v).getF f = s.getF f := by
  rw [State.getF, State.reg_setReg_ne s v h]
  rfl

theorem getF_setF_self {f : FieldAt} (n : Nat) (h : f.hi < 32) : (s.setF f n).getF f = n % 2 ^ (f.hi + 1 - f.lo) := by
  rw [State.getF, State.setF, State.reg_setReg, fld_setFld_self _ _ h]

theorem getF_setF_ne {f g : FieldAt} (n : Nat) (h : f.off ≠ g.off) : (s.setF g n).getF f = s.getF f := getF_setReg_ne s _ h

theorem getF_setF_apart {f g : FieldAt} (n : Nat) (h : f.hi < 32) (apart : f.hi < g.lo ∨ g.hi < f.lo) :
    (s.setF g n).getF f = s.getF f := by
  by_cases same : f.off = g.off
  · rw [State.getF, State.setF, same, State.reg_setReg, fld_setFld_ne _ _ h apart, State.getF, same]
  · exact getF_setF_ne s n same

/-- A field of one bit that has been set. -/
theorem flag_setF_self {f : FieldAt} (n : Nat) (bit : f.lo = f.hi) (h : f.hi < 32) : (s.setF f n).flag f = decide (n % 2 ≠ 0) := by
  rw [State.flag, getF_setF_self s n h, bit, Nat.add_sub_cancel_left, pow_one]

theorem flag_setF_b2n {f : FieldAt} (c : Bool) (bit : f.lo = f.hi) (h : f.hi < 32) : (s.setF f (b2n c)).flag f = c := by
  rw [flag_setF_self s _ bit h]
  cases c <;> rfl

theorem flag_setF_ne {f g : FieldAt} (n : Nat) (h : f.off ≠ g.off) : (s.setF g n).flag f = s.flag f := by
  rw [State.flag, getF_setF_ne s n h, State.flag]

theorem flag_setF_apart {f g : FieldAt} (n : Nat) (h : f.hi < 32) (apart : f.hi < g.lo ∨ g.hi < f.lo) :
    (s.setF g n).flag f = s.flag f := by
  rw [State.flag, getF_setF_apart s n h apart, State.flag]

theorem flag_eq (f : FieldAt) : s.flag f = true ↔ s.getF f ≠ 0 := decide_eq_true_iff

end

/-! ## Reset values -/

/-- The reset value of PST<k> (R116). -/
theorem resetReg_pst {h k : Nat} (hearth : h < 16) (index : k < 32) :
    resetReg (Reg.HRT_PST h k) = setFld 31 28 (roleReset h k) (setFld 15 12 h 0) := by
  have at_ : instanceReset (Reg.HRT_PST h k) = some (setFld 31 28 (roleReset h k) (setFld 15 12 h 0)) := by
    have notId : 0x100100 + 0x1000 * h + 0x4 * k ≠ Reg.SYS_ID := by unfold Reg.SYS_ID; omega
    have hearthOf_ : (0x100100 + 0x1000 * h + 0x4 * k - 0x100000) / 0x1000 = h := by omega
    have offset : (0x100100 + 0x1000 * h + 0x4 * k - 0x100000) % 0x1000 = 0x100 + 4 * k := by omega
    have index_ : (0x100 + 4 * k - 0x100) / 4 = k := by rw [Nat.add_sub_cancel_left, Nat.mul_div_cancel_left k (by decide)]
    have block : 0x100000 ≤ 0x100100 + 0x1000 * h + 0x4 * k ∧ 0x100100 + 0x1000 * h + 0x4 * k < 0x110000 := by omega
    show instanceReset (0x100100 + 0x1000 * h + 0x4 * k) = _
    unfold instanceReset
    rw [if_neg notId, if_pos block]
    dsimp only
    rw [hearthOf_, offset, if_neg (by omega), if_neg (by omega), if_pos (by omega), index_]
  unfold resetReg
  rw [at_]

/-- The roles of R12 and R116 at reset. -/
theorem roleReset_pair (p : Nat) : roleReset (hearthOf p) (indexOf p) =
    if p < 2 then Role.supervisor else if indexOf p = 31 then Role.spare else Role.free := by
  unfold roleReset hearthOf indexOf
  by_cases first : p < 2
  · rw [if_pos (by omega), if_pos first]
  · rw [if_neg (by omega), if_neg first]

/-- A register that power-on reset leaves at its reset value. -/
theorem reg_reset {o : Nat} (notCause : o ≠ Reg.SYS_RSTCAUSE) (notStat : o ≠ Reg.LCS_STAT) : State.reset.reg o = resetReg o := by
  show Table.get resetReg [(Reg.SYS_RSTCAUSE, 1#32), (Reg.LCS_STAT, 0x10000000#32)] o = _
  rw [Table.get, if_neg notCause, Table.get, if_neg notStat, Table.get]

theorem role_reset (p : PairId) : State.reset.role p.val =
    if p.val < 2 then Role.supervisor else if indexOf p.val = 31 then Role.spare else Role.free := by
  have hearth : hearthOf p.val < 16 := by have := p.isLt; unfold hearthOf; omega
  have index : indexOf p.val < 32 := Nat.mod_lt _ (by decide)
  have value : State.reset.reg (Reg.HRT_PST (hearthOf p.val) (indexOf p.val)) =
      setFld 31 28 (roleReset (hearthOf p.val) (indexOf p.val)) (setFld 15 12 (hearthOf p.val) 0) := by
    rw [reg_reset, resetReg_pst hearth index]
    · show 0x100100 + 0x1000 * hearthOf p.val + 0x4 * indexOf p.val ≠ Reg.SYS_RSTCAUSE
      unfold Reg.SYS_RSTCAUSE
      omega
    · show 0x100100 + 0x1000 * hearthOf p.val + 0x4 * indexOf p.val ≠ Reg.LCS_STAT
      unfold Reg.LCS_STAT
      omega
  have fits : roleReset (hearthOf p.val) (indexOf p.val) % 2 ^ 4 = roleReset (hearthOf p.val) (indexOf p.val) := by
    rw [roleReset_pair]
    split_ifs <;> rfl
  show fld 31 28 (State.reset.reg (Reg.HRT_PST (hearthOf p.val) (indexOf p.val))) = _
  rw [value, fld_setFld_self _ _ (by decide), fits, roleReset_pair]

theorem pair_reset (p : Nat) : State.reset.pair p = Pair.reset := rfl

/-- A region of a rule set that no write has changed (R146). -/
theorem rule_reset (i : Nat) : ruleAttr [] i = 0x500#32 ∧ ruleBase [] i = 0#32 := by
  constructor
  · show mpuReset (8 * i + 4) = _
    unfold mpuReset
    rw [if_pos (by omega)]
  · show mpuReset (8 * i) = _
    unfold mpuReset
    rw [if_neg (by omega)]
    rfl

end Sys2Proof.Machine
end

section
/-! SUPPORT. Every command answers a next state (logs 2 and 12). -/

namespace Sys2Proof.Machine

/-- The end of a self-test, in each of its outcomes, goes on. -/
theorem selftestDone_next (p : PairId) (pass : Bool) (s : State) : ∃ t, execSelftestDone p pass s = .next t := by
  unfold execSelftestDone
  dsimp only
  split_ifs <;> exact ⟨_, rfl⟩

/-- A line of the scrub, taken or not, goes on. -/
theorem scrubLine_next (u : Fin 17) (b : Fin 16) (corrected uncorrectable : BitVec 8) (s : State) :
    ∃ t, execScrubLine u b corrected uncorrectable s = .next t := by
  unfold execScrubLine
  dsimp only
  split_ifs <;> exact ⟨_, rfl⟩

/-- Every other command is a next state as it stands. -/
theorem exec_next (c : Instr) (s : State) : ∃ t, exec c s = .next t := by
  cases c
  case selftestDone p pass => exact selftestDone_next p pass s
  case scrubLine u b corrected uncorrectable => exact scrubLine_next u b corrected uncorrectable s
  all_goals exact ⟨_, rfl⟩

end Sys2Proof.Machine
end

section
/-! The statements about the queue, the reset and the outcome settled. -/

namespace Sys2Proof.Machine

/-- Settles O1: the queue's front is the command run. -/
theorem stepRunsTheFrontCommand : Obligations.StepRunsTheFrontCommand :=
  ⟨fun _ _ => rfl, fun s none_ => by unfold step; rw [none_]⟩

/-- Settles O2: the reset values of the registers and of a pair (R12, R41, R45, R66, R116, R146, R471). -/
theorem powerOnResetState : Obligations.PowerOnResetState :=
  ⟨rfl, fun p => ⟨rfl, rfl, rfl, rfl, fun r => by rw [pair_reset]; unfold Pair.greg; split <;> rfl, rule_reset, role_reset p⟩,
    rfl, by decide, rfl⟩

/-- Settles O60: no command ends in a fault or a refusal. -/
theorem everyStepAnswersANextState : Obligations.EveryStepAnswersANextState := by
  intro s
  unfold SafeStep step
  split
  · exact ⟨s, rfl⟩
  · exact exec_next _ _

end Sys2Proof.Machine
end

section
/-! SUPPORT. A job that waits to start in its second attempt, though its phase is `admitted`: its start sets PST.REPLAY. -/

namespace Sys2Proof.Machine

/-- An admitted job of pair 0 in attempt 1. -/
def secondAttempt : Job :=
  { j := 1, attempt := 1, pair := 0, src := .load, tag := 0, opcode := 0, tenant := 0, params := [], a := none, w := 0, tArr := 0
    phase := .admitted, session := none, updates := [], pulses := [], frames := [], reply := none, effects := [], portsOff := [] }

/-- The machine after power-on reset with that job waiting for its start. -/
def secondAttemptWaits : State := { State.reset with jobs := [secondAttempt] }

/-- PST.REPLAY after a job's start says whether the attempt is another than the first. -/
theorem replay_armJob (s : State) (p : Nat) (j : Job) (admitted : j.phase ≠ .abandoned) :
    (s.armJob p j).flag (Fld.HRT_PST_REPLAY (hearthOf p) (indexOf p)) = decide (j.attempt ≠ 0) := by
  have last : ∃ u : State, (s.armJob p j).regs =
      (u.setF (Fld.HRT_PST_REPLAY (hearthOf p) (indexOf p)) (b2n (decide (j.attempt ≠ 0)))).regs := by
    unfold State.armJob
    rw [if_neg admitted]
    exact ⟨_, rfl⟩
  obtain ⟨u, regs⟩ := last
  exact (flag_congr regs _).trans (flag_setF_b2n u _ rfl (show 1 < 32 by decide))

theorem role_secondAttemptWaits : secondAttemptWaits.role 0 = Role.supervisor := role_reset 0

theorem startable_secondAttemptWaits : secondAttemptWaits.startable 0 = some secondAttempt := by
  unfold State.startable
  rw [if_pos (.inr role_secondAttemptWaits)]
  rfl

/-- Nothing holds its start: no job is armed or commits, the pair is a supervisor, and hearth 0 is enabled. -/
theorem starts_secondAttemptWaits :
    ¬(secondAttemptWaits.jobBit 0 = true ∨ (secondAttemptWaits.quarantined = true ∧ secondAttemptWaits.isSupervisor 0 = false) ∨
      secondAttemptWaits.commitsOn 0 = true ∨
      (secondAttempt.phase = .admitted ∧ secondAttemptWaits.hearthEnabled (hearthOf 0) = false)) := by
  have idle : secondAttemptWaits.jobBit 0 = false := by decide
  have supervisor : secondAttemptWaits.isSupervisor 0 = true := by
    unfold State.isSupervisor
    rw [role_secondAttemptWaits]
    rfl
  have enabled : secondAttemptWaits.hearthEnabled (hearthOf 0) = true := by decide
  rintro (armed | ⟨-, other⟩ | commits | ⟨-, disabled⟩)
  · exact Bool.false_ne_true (idle.symm.trans armed)
  · exact Bool.false_ne_true (other.symm.trans supervisor)
  · exact Bool.false_ne_true commits
  · exact Bool.false_ne_true (disabled.symm.trans enabled)

theorem exec_jobStart_secondAttempt :
    exec (.jobStart 0) secondAttemptWaits = .next (secondAttemptWaits.armJob 0 secondAttempt) := by
  have goes : (secondAttemptWaits.jobBit 0 || (secondAttemptWaits.quarantined && !secondAttemptWaits.isSupervisor 0) ||
      secondAttemptWaits.commitsOn 0 ||
      (secondAttempt.phase == .admitted && !secondAttemptWaits.hearthEnabled (hearthOf 0))) = false := by
    have starts := starts_secondAttemptWaits
    rw [Bool.eq_false_iff]
    intro holds
    refine starts ?_
    simpa [or_assoc] using holds
  change execJobStart 0 secondAttemptWaits = _
  unfold execJobStart
  have at_ : secondAttemptWaits.startable (0 : PairId).val = some secondAttempt := startable_secondAttemptWaits
  rw [at_]
  dsimp only
  exact congrArg Host.Outcome.next (if_neg (Bool.eq_false_iff.1 goes))

end Sys2Proof.Machine
end

section
/-! The statement about the slot timers refuted. -/

namespace Sys2Proof.Machine

/-- Refutes O14: a job admitted in attempt 1 starts with PST.REPLAY set, though it was not abandoned. -/
theorem not_slotTimersRunFromJobStart : ¬ Obligations.SlotTimersRunFromJobStart := by
  unfold Obligations.SlotTimersRunFromJobStart
  intro h
  obtain ⟨starts, -, -⟩ := h.1 secondAttemptWaits 0 secondAttempt startable_secondAttemptWaits
  obtain ⟨t, runs, -, -, replay, -⟩ := starts starts_secondAttemptWaits (fun x on => by cases on)
  rw [show (0 : PairId).val = 0 from rfl] at replay
  cases (exec_jobStart_secondAttempt.symm.trans runs)
  have set : (secondAttemptWaits.armJob 0 secondAttempt).flag (Fld.HRT_PST_REPLAY (hearthOf 0) (indexOf 0)) = true :=
    replay_armJob _ _ _ (by decide)
  exact absurd (replay.1 set) (by decide)

end Sys2Proof.Machine
end

section
/-! SUPPORT. Uses of the banks (R178): what a transfer's grants leave, whoever's posted stores they perform in between. -/

namespace Sys2Proof.Machine

/-- State t is s but for what grants and the stores performed under them change: registers of the arbiters and the event log, the
arbiters, reads and write-backs, hearth memory, and posted stores. -/
structure State.Uses (s t : State) : Prop where
  rest : ({ t with
    regs := s.regs, pairs := s.pairs, hmem := s.hmem, flaws := s.flaws, scrub := s.scrub, pkeArb := s.pkeArb, bankArb := s.bankArb
    nvmArb := s.nvmArb, reads := s.reads, log := s.log, mgtQueue := s.mgtQueue, mgtSending := s.mgtSending } : State) = s
  pairs : ∀ q, ∃ l, t.pair q = { s.pair q with stores := l }

section
variable {s t u : State}

theorem State.Uses.refl (s : State) : s.Uses s := ⟨rfl, fun _ => ⟨_, rfl⟩⟩

theorem State.Uses.trans (a : s.Uses t) (b : t.Uses u) : s.Uses u := by
  refine ⟨?_, fun q => ?_⟩
  · have first := a.rest
    have second := b.rest
    cases s; cases t; cases u
    simp_all
  · obtain ⟨l, hl⟩ := a.pairs q
    obtain ⟨m, hm⟩ := b.pairs q
    exact ⟨m, by rw [hm, hl]⟩

theorem State.Uses.ledger (h : s.Uses t) : t.ledger = s.ledger := by
  have field := congrArg State.ledger h.rest
  exact field
theorem State.Uses.jobs (h : s.Uses t) : t.jobs = s.jobs := by
  have field := congrArg State.jobs h.rest
  exact field
theorem State.Uses.nvm (h : s.Uses t) : t.nvm = s.nvm := by
  have field := congrArg State.nvm h.rest
  exact field
theorem State.Uses.sessions (h : s.Uses t) : t.sessions = s.sessions := by
  have field := congrArg State.sessions h.rest
  exact field

theorem State.Uses.g (h : s.Uses t) (q : Nat) : (t.pair q).g = (s.pair q).g := by
  obtain ⟨l, hl⟩ := h.pairs q
  rw [hl]

theorem State.Uses.lmem (h : s.Uses t) (q : Nat) : (t.pair q).lmem = (s.pair q).lmem := by
  obtain ⟨l, hl⟩ := h.pairs q
  rw [hl]

/-- What changes no pair. -/
theorem uses_of_pairs (rest : ({ t with
    regs := s.regs, pairs := s.pairs, hmem := s.hmem, flaws := s.flaws, scrub := s.scrub, pkeArb := s.pkeArb, bankArb := s.bankArb
    nvmArb := s.nvmArb, reads := s.reads, log := s.log, mgtQueue := s.mgtQueue, mgtSending := s.mgtSending } : State) = s)
    (pairs : t.pairs = s.pairs) : s.Uses t :=
  ⟨rest, fun q => ⟨(s.pair q).stores, by rw [State.pair, pairs]; rfl⟩⟩

theorem uses_foldl {α : Type} (f : State → α → State) (h : ∀ (s : State) a, s.Uses (f s a)) (l : List α) (s : State) :
    s.Uses (l.foldl f s) := List.foldlRecOn l f (.refl s) fun t ht a _ => ht.trans (h t a)

end

theorem uses_setReg (s : State) (o : Nat) (v : Word) : s.Uses (s.setReg o v) := uses_of_pairs rfl rfl
theorem uses_setArb (s : State) (i : ArbId) (a : Arbiter) : s.Uses (s.setArb i a) := by
  cases i <;> exact uses_of_pairs rfl rfl
theorem uses_setHbytes (s : State) (a : Nat) (bs : List Byte) : s.Uses (s.setHbytes a bs) := uses_of_pairs rfl rfl

theorem uses_dropWriteBack (s : State) (h o n : Nat) : s.Uses (s.dropWriteBack h o n) := by
  unfold State.dropWriteBack
  dsimp only
  split
  · exact uses_of_pairs rfl rfl
  · exact .refl s

/-! ## The event log -/

/-- The state with an entry in the event log, which may overwrite one (R483, R485). -/
def State.entered (s : State) (e : LogEntry) (full lost : Bool) : State :=
  let s := ({ s with log := (if full then s.log.drop 1 else s.log) ++ [e] } : State).setF Fld.SYS_LOG_STAT_NEXT ((e.seq + 1) % 0x10000)
  if lost then s.incSat Reg.SYS_LOG_OVF else s

/-- An entry offered to the management serial port (R487). -/
def State.offered (s : State) (e : LogEntry) : State :=
  let on := s.flag (Fld.PG_UCTL_ENABLE 125)
  if (on || s.booting) && decide (s.mgtQueue.length < 2) then
    if s.mgtSending.isNone then
      { (if on then s else s.undrain125) with mgtSending := some e }
    else { s with mgtQueue := s.mgtQueue ++ [e] }
  else s

theorem logRaw_eq (s : State) (beat flags src code unit : Nat) (a b : Word) (n : Nat) :
    ∃ e full lost, s.logRaw beat flags src code unit a b n = (s.entered e full lost).offered e := ⟨_, _, _, rfl⟩

theorem uses_entered (s : State) (e : LogEntry) (full lost : Bool) : s.Uses (s.entered e full lost) := by
  have logged : s.Uses { s with log := (if full then s.log.drop 1 else s.log) ++ [e] } := uses_of_pairs rfl rfl
  cases lost
  · exact logged.trans (uses_setReg _ _ _)
  · exact (logged.trans (uses_setReg _ _ _)).trans (uses_setReg _ _ _)

theorem uses_undrain125 (s : State) : s.Uses s.undrain125 := by
  unfold State.undrain125
  dsimp only
  split
  · exact (uses_setReg s _ _).trans (uses_setReg _ _ _)
  · exact uses_setReg s _ _

theorem uses_offered (s : State) (e : LogEntry) : s.Uses (s.offered e) := by
  unfold State.offered
  dsimp only
  split
  · split
    · split
      · exact uses_of_pairs rfl rfl
      · exact (uses_undrain125 s).trans (uses_of_pairs rfl rfl)
    · exact uses_of_pairs rfl rfl
  · exact .refl s

theorem uses_logEvent (s : State) (src code unit : Nat) (a b : Word) (n : Nat) : s.Uses (s.logEvent src code unit a b n) := by
  obtain ⟨e, full, lost, is⟩ := logRaw_eq s s.beatNow (b2n s.trusted) src code unit a b n
  rw [State.logEvent, is]
  exact (uses_entered s e full lost).trans (uses_offered _ e)

/-! ## Grants -/

theorem uses_starve (s : State) (i : ArbId) (w : Waiter) : s.Uses (s.starve i w) := by
  unfold State.starve
  dsimp only
  split
  · exact uses_logEvent _ _ _ _ _ _ _
  · exact (uses_setReg s _ _).trans (uses_logEvent _ _ _ _ _ _ _)

theorem uses_afterGrant (s : State) (i : ArbId) (a : Arbiter) (n : Nat) : s.Uses (s.afterGrant i a n) := by
  unfold State.afterGrant
  refine State.Uses.trans ?_ (uses_foldl _ (fun s v => uses_starve s i v) _ _)
  exact ((uses_setArb s _ _).trans (uses_setReg _ _ _)).trans (uses_setReg _ _ _)

theorem uses_grant (s : State) (i : ArbId) : s.Uses (s.grant i) := by
  unfold State.grant
  dsimp only
  split
  · exact .refl s
  · split
    · exact uses_setArb _ _ _
    · exact uses_afterGrant _ _ _ _

theorem uses_ask (s : State) (i : ArbId) (x : Nat) : s.Uses (s.ask i x) := by
  unfold State.ask
  dsimp only
  split
  · exact .refl s
  · exact uses_setArb _ _ _

theorem uses_endUse (s : State) (i : ArbId) : s.Uses (s.endUse i) := uses_setArb _ _ _

theorem uses_askStores (s : State) (p : Nat) : s.Uses (s.askStores p) := by
  unfold State.askStores
  dsimp only
  generalize s.pair p = x
  refine uses_foldl _ (fun s i => ?_) _ s
  split
  · split
    · exact uses_ask _ _ _
    · exact .refl s
  · exact .refl s

theorem uses_presentPort (s : State) (h : Nat) : s.Uses (s.presentPort h) := by
  unfold State.presentPort
  split
  · exact uses_ask _ _ _
  · exact .refl s

theorem uses_latchRead (s : State) (p : Nat) : s.Uses (s.latchRead p) := uses_of_pairs rfl rfl

/-! ## The end of a use -/

theorem uses_erase (s : State) (p i : Nat) : s.Uses (s.updPair p (fun x => { x with stores := x.stores.eraseIdx i })) := by
  refine ⟨rfl, fun q => ?_⟩
  by_cases own : q = p
  · subst own
    exact ⟨_, State.pair_updPair _ _ _⟩
  · exact ⟨_, State.pair_updPair_ne s (fun x => { x with stores := x.stores.eraseIdx i }) own⟩

theorem uses_performStore (s : State) (p : Nat) {t : PostedStore} (hearth : spaceOf t.addr = .hearth) :
    s.Uses (s.performStore p t) := by
  have written : s.writeMem p t.addr (leBytes t.size t.value.toNat) =
      s.setHbytes (hoff (hearthOf p) t.addr) (leBytes t.size t.value.toNat) := by
    unfold State.writeMem
    rw [hearth]
  unfold State.performStore
  dsimp only
  rw [if_pos hearth, written]
  exact ((uses_setHbytes s _ _).trans (uses_dropWriteBack _ _ _ _)).trans (uses_setArb _ _ _)

/-- A posted store to hearth memory performed. -/
theorem uses_performAt (s : State) (p i : Nat) (hearth : ∀ t, (s.pair p).stores[i]? = some t → spaceOf t.addr = .hearth) :
    s.Uses (s.performAt p i) := by
  unfold State.performAt
  split
  next t at_ =>
    exact ((uses_performStore s p (hearth t at_)).trans (uses_erase _ _ _)).trans (uses_askStores _ _)
  next => exact .refl s

/-- The use in progress that ends at an arbiter. -/
theorem uses_finishUse (s : State) (i : ArbId) : s.Uses (s.finishUse i) := by
  unfold State.finishUse
  dsimp only
  split
  next => exact .refl s
  next idx _ =>
    have ended := uses_setArb s i { s.arb i with inUse := none, emergency := false }
    split
    next => exact ended
    next =>
      split
      next h b =>
        split
        next => exact ended
        next =>
          split
          next => exact (ended.trans (uses_latchRead _ _)).trans (uses_askStores _ _)
          next =>
            split
            next k first =>
              refine ended.trans (uses_performAt _ _ _ fun t at_ => ?_)
              have here := List.find?_some first
              rw [at_] at here
              simp only [Option.map_some, Option.getD_some, Bool.and_eq_true, beq_iff_eq] at here
              exact here.2.1
            next => exact ended
      next =>
        split
        next => exact ended
        next =>
          split
          next => exact (ended.trans (uses_latchRead _ _)).trans (uses_presentPort _ _)
          next => exact ended
      next => exact ended

theorem uses_win (s : State) (i : ArbId) (x n : Nat) : s.Uses (s.win i x n) := by
  induction n generalizing s with
  | zero => exact .refl s
  | succ n ih =>
    unfold State.win
    split
    · exact .refl s
    · exact (((uses_ask s i x).trans (uses_finishUse _ i)).trans (uses_grant _ i)).trans (ih _)

/-- One use of a resource (R178). -/
theorem uses_use (s : State) (i : ArbId) (x : Nat) : s.Uses (s.use i x) := (uses_win s i x 256).trans (uses_endUse _ i)

theorem uses_useBanks (s : State) (x o n : Nat) : s.Uses (s.useBanks x o n) := uses_foldl _ (fun s _ => uses_use s _ _) _ s

/-- A write to hearth memory by a unit other than a pair (R162, R178). -/
theorem uses_busWrite (s : State) (x o : Nat) (bs : List Byte) : s.Uses (s.busWrite x o bs) := by
  unfold State.busWrite
  split
  · exact .refl s
  · exact ((uses_useBanks s x o bs.length).trans (uses_setHbytes _ _ _)).trans (uses_dropWriteBack _ _ _ _)

end Sys2Proof.Machine
end

section
/-! SUPPORT. Roles (R115), mismatches and self-tests (R114, R132), and the commit store (R125). -/

namespace Sys2Proof.Machine

/-! ## PST writes -/

section
variable {s b : State} {p : Nat} {v : Word}

theorem pstWrite_refused (closed : b.roleAllowed p (fld 31 28 v) = false) : b.pstWrite p v = b := by
  simp [State.pstWrite, closed]

/-- A listed transition, in what it brings with it (R115). -/
theorem pstWrite_allowed (allowed : b.roleAllowed p (fld 31 28 v) = true) :
    b.pstWrite p v =
      if fld 31 28 v = Role.loading then (b.pstWritten p v).armLoad p v
      else if fld 31 28 v = Role.supervisor then
        (b.pstWritten p v).startSupervisor p ((b.pstWritten p v).pair p).restart.programGates 0
      else if fld 31 28 v = Role.free then
        (if b.role p = Role.loading then (b.pstWritten p v).disarmLoad p else b.pstWritten p v).cancelEngines p true
      else b.pstWritten p v := by
  rw [State.pstWrite, allowed]
  rfl

/-- The load job of a pair on a disabled hearth is not armed (R31). -/
theorem armLoad_disabled (disabled : s.hearthEnabled (hearthOf p) = false) : s.armLoad p v = s := by
  simp [State.armLoad, disabled]

/-- The transitions of R115 by the role that they lead to. -/
theorem roleAllowed_loading : b.roleAllowed p Role.loading = true ↔ b.role p = Role.free ∨ b.role p = Role.spare := by
  unfold State.roleAllowed
  dsimp only
  split_ifs <;> simp_all

theorem roleAllowed_spare : b.roleAllowed p Role.spare = true ↔ b.role p = Role.free := by
  unfold State.roleAllowed
  dsimp only
  split_ifs <;> simp_all

theorem roleAllowed_retired : b.roleAllowed p Role.retired = true ↔ b.role p = Role.free ∨ b.role p = Role.spare := by
  unfold State.roleAllowed
  dsimp only
  split_ifs <;> simp_all

theorem roleAllowed_free : b.roleAllowed p Role.free = true ↔
    b.role p = Role.spare ∨ b.role p = Role.loading ∨ (b.role p = Role.session ∧ b.jobBit p = false) := by
  unfold State.roleAllowed
  dsimp only
  split_ifs <;> simp_all

theorem roleAllowed_supervisor : b.roleAllowed p Role.supervisor = true ↔
    b.role p = Role.spare ∧ hearthOf p = 0 ∧ (b.pairsIn Role.supervisor).length < 2 := by
  unfold State.roleAllowed
  dsimp only
  split_ifs <;> simp_all

/-- A role command whose word names its role, of a master that may write. -/
theorem roleCommand_of {m role : Nat} (may : s.Masters m (Reg.HRT_PST (hearthOf p) (indexOf p)) b) (names : fld 31 28 v = role) :
    s.roleCommand m p v role = b.pstWrite p v := by
  unfold State.roleCommand
  rw [if_neg (not_not_intro names)]
  exact masterWrite_of may rfl

/-- A transition that R115 does not list changes nothing. -/
theorem roleCommand_refused {m role : Nat} (may : s.Masters m (Reg.HRT_PST (hearthOf p) (indexOf p)) b) (names : fld 31 28 v = role)
    (closed : ¬b.roleAllowed p role = true) : s.roleCommand m p v role = b := by
  rw [roleCommand_of may names, pstWrite_refused]
  rw [names]
  exact Bool.eq_false_iff.2 closed

theorem roleCommand_loading {m : Nat} (may : s.Masters m (Reg.HRT_PST (hearthOf p) (indexOf p)) b) (names : fld 31 28 v = Role.loading)
    (from_ : b.role p = Role.free ∨ b.role p = Role.spare) : s.roleCommand m p v Role.loading = (b.pstWritten p v).armLoad p v := by
  rw [roleCommand_of may names, pstWrite_allowed (by rw [names]; exact roleAllowed_loading.2 from_), if_pos names]

theorem roleCommand_supervisor {m : Nat} (may : s.Masters m (Reg.HRT_PST (hearthOf p) (indexOf p)) b)
    (names : fld 31 28 v = Role.supervisor)
    (from_ : b.role p = Role.spare ∧ hearthOf p = 0 ∧ (b.pairsIn Role.supervisor).length < 2) :
    s.roleCommand m p v Role.supervisor =
      (b.pstWritten p v).startSupervisor p ((b.pstWritten p v).pair p).restart.programGates 0 := by
  rw [roleCommand_of may names, pstWrite_allowed (by rw [names]; exact roleAllowed_supervisor.2 from_),
    if_neg (by rw [names]; decide), if_pos names]

theorem roleCommand_free {m : Nat} (may : s.Masters m (Reg.HRT_PST (hearthOf p) (indexOf p)) b) (names : fld 31 28 v = Role.free)
    (from_ : b.role p = Role.spare ∨ b.role p = Role.loading ∨ (b.role p = Role.session ∧ b.jobBit p = false)) :
    s.roleCommand m p v Role.free =
      (if b.role p = Role.loading then (b.pstWritten p v).disarmLoad p else b.pstWritten p v).cancelEngines p true := by
  rw [roleCommand_of may names, pstWrite_allowed (by rw [names]; exact roleAllowed_free.2 from_),
    if_neg (by rw [names]; decide), if_neg (by rw [names]; decide), if_pos names]

/-- SPARE and RETIRED write the role and nothing else. -/
theorem roleCommand_plain {m role : Nat} (may : s.Masters m (Reg.HRT_PST (hearthOf p) (indexOf p)) b) (names : fld 31 28 v = role)
    (plain : role ≠ Role.loading ∧ role ≠ Role.supervisor ∧ role ≠ Role.free) (allowed : b.roleAllowed p role = true) :
    s.roleCommand m p v role = b.pstWritten p v := by
  obtain ⟨loading, supervisor, free⟩ := plain
  rw [roleCommand_of may names, pstWrite_allowed (by rw [names]; exact allowed), names, if_neg loading, if_neg supervisor, if_neg free]

end

/-! ## Mismatch and self-test -/

section
variable {s : State} {p : PairId}

theorem exec_lockstepMismatch_out (k : Fin 4) (pc : Word) (out : s.role p.val = Role.selftest ∨ s.role p.val = Role.retired) :
    exec (.lockstepMismatch p k pc) s = .next s := congrArg Host.Outcome.next (if_pos out)

/-- A mismatch of a pair in use (R114). -/
theorem exec_lockstepMismatch (k : Fin 4) (pc : Word) (notSelftest : s.role p.val ≠ Role.selftest) (notRetired : s.role p.val ≠ Role.retired) :
    exec (.lockstepMismatch p k pc) s = .next (((((((((s.recordMismatch p.val k.val pc).setRole p.val Role.selftest).mismatchJob p.val
      (s.isSupervisor p.val)).cancelEngines p.val true).flueStop p.val).clearCopies p.val).dropAccesses p.val).updPair p.val (fun x =>
      { x with
        dbPend0 := 0, dbPend1 := 0, dbMask0 := 0, dbMask1 := 0, deadline := none, imp := none, waiting := false
        haltReq := false, stepping := false, slot := { x.slot with armed := false } })).logEvent Src.pair 1 p.val pc (wd k.val) 0) :=
  congrArg Host.Outcome.next (if_neg (not_or.2 ⟨notSelftest, notRetired⟩))

theorem exec_selftestDone_none (pass : Bool) (none_ : s.role p.val ≠ Role.selftest) : exec (.selftestDone p pass) s = .next s :=
  if_pos none_

theorem exec_selftestDone_fails (in_ : s.role p.val = Role.selftest) :
    exec (.selftestDone p false) s = .next ((s.setRole p.val Role.retired).logEvent Src.pair 3 p.val 0 0 0) := by
  change execSelftestDone p false s = _
  unfold execSelftestDone
  dsimp only
  rw [if_neg (not_not_intro in_)]
  rfl

/-- The Beats of the passes that count with one that ends now (R132). -/
def State.passesWithin (s : State) (p : Nat) : List Nat :=
  (s.pair p).passes.filter (fun t => decide (s.beatNow < t + s.getF (Fld.HRT_RPOL_WINDOW (hearthOf p))))

/-- A pair that has passed its self-test: counted, wiped and its gates programmed. -/
def State.selftestPassed (s : State) (p : Nat) : State :=
  ({ s.incF (Fld.HRT_PST_TRANSIENTS (hearthOf p) (indexOf p)) with
    flaws := s.flaws.drop (fun k => decide (2 ^ 24 + p * 2 ^ 14 ≤ k ∧ k < 2 ^ 24 + (p + 1) * 2 ^ 14)) } : State).setPair p
      { Pair.reset.programGates with passes := s.beatNow :: s.passesWithin p }

theorem exec_selftestDone_passes (in_ : s.role p.val = Role.selftest) :
    exec (.selftestDone p true) s = .next (
      if s.getF (Fld.HRT_RPOL_LIMIT (hearthOf p.val)) ≠ 0 ∧
          s.getF (Fld.HRT_RPOL_LIMIT (hearthOf p.val)) ≤ (s.passesWithin p.val).length + 1 then
        ((s.selftestPassed p.val).setRole p.val Role.retired).logEvent Src.pair 3 p.val 0 0 0
      else ((s.selftestPassed p.val).setRole p.val Role.spare).logEvent Src.pair 2 p.val 0 0 0) := by
  change execSelftestDone p true s = _
  unfold execSelftestDone
  dsimp only
  rw [if_neg (not_not_intro in_)]
  rfl

end

/-! ## The commit store -/

section
variable {s b : State} {p : PairId} {v : Word}

theorem exec_commit {t : State} (reaches : s.Accesses p.val (Reg.HRT_COMMIT (hearthOf p.val)) .store b)
    (taken : b.commitStore p.val v = .ok t) : exec (.commit p v) s = .next t :=
  congrArg Host.Outcome.next (pairAccess_ok reaches taken)

theorem exec_commit_refused (reaches : s.Accesses p.val (Reg.HRT_COMMIT (hearthOf p.val)) .store b)
    (refused : b.commitStore p.val v = busAt b (Reg.HRT_COMMIT (hearthOf p.val))) :
    exec (.commit p v) s = .next (b.raise p.val ⟨Cause.busError, wd (0x40000000 + Reg.HRT_COMMIT (hearthOf p.val))⟩) :=
  congrArg Host.Outcome.next (pairAccess_fail reaches refused)

theorem commitStore_key {j : Job} {p : Nat} (armed : b.armedJob p = some j) : b.commitStore p 0xC3E1#32 = .ok (b.commitJob p j) := by
  simp [State.commitStore, armed]

theorem commitStore_wrong {j : Job} {p : Nat} (armed : b.armedJob p = some j) (wrong : v ≠ 0xC3E1#32) :
    b.commitStore p v = busAt b (Reg.HRT_COMMIT (hearthOf p)) := by
  simp [State.commitStore, armed, wrong]

theorem commitStore_unarmed {p : Nat} (unarmed : b.armedJob p = none) :
    b.commitStore p v = busAt b (Reg.HRT_COMMIT (hearthOf p)) := by
  simp [State.commitStore, unarmed]

end

section
variable {b : State} {p : Nat} {j : Job}

/-- The record of a job whose commit store has been performed (R125): the ports out of service then are noted. -/
def Job.committed (j : Job) (s : State) : Job := { j with phase := .committing, portsOff := j.ports.filter (fun n => !s.portOn n) }

/-- The state in which the set of a committed job is handed to the ledger (R125, steps 1 to 3). -/
def State.stored (b : State) (p : Nat) (j : Job) : State :=
  ((b.checkpointed p j).setJob j (j.committed (b.checkpointed p j))).disarm p

theorem notLoad (src : j.src ≠ .load) : (j.src == Stream.load) = false := beq_eq_false_iff_ne.2 src

/-- A commit before the deadline, outside a quarantine, from a sound session region (R125). -/
theorem commitJob_stored (src : j.src ≠ .load) (inTime : ∀ a, j.a = some a → b.beatNow < a) (open_ : b.quarantined = false)
    (sound : ∀ x, b.jobSession j = some x → b.regionFlawed p x = false) :
    b.commitJob p j = (b.stored p j).handSet p (j.committed (b.checkpointed p j)) := by
  have notDue : j.a.filter (fun a => decide (a ≤ b.beatNow)) = none := by
    cases h : j.a with
    | none => rfl
    | some a => simp [Option.filter, Nat.not_le.2 (inTime a h)]
  have clean : ((b.jobSession j).map (b.regionFlawed p)).getD false = false := by
    cases h : b.jobSession j with
    | none => rfl
    | some x => exact sound x h
  unfold State.commitJob
  rw [notLoad src, notDue, open_, clean]
  rfl

theorem commitJob_late {a : Nat} (src : j.src ≠ .load) (deadline : j.a = some a) (late : a ≤ b.beatNow) :
    b.commitJob p j = b.abandonAtDeadline p j a := by
  unfold State.commitJob
  rw [notLoad src, deadline]
  simp [Option.filter, late]

/-- Steps 1 and 2 of R125 leave the registers and local memories of the pairs, and the ledger. -/
theorem uses_checkpointed (b : State) (p : Nat) (j : Job) : b.Uses (b.checkpointed p j) := by
  unfold State.checkpointed
  split
  · exact uses_busWrite _ _ _ _
  · exact .refl b

theorem pair_disarm (s : State) (p : Nat) : (s.disarm p).pair p = { s.pair p with slot := { (s.pair p).slot with armed := false } } := by
  unfold State.disarm
  rw [State.pair_setF, State.pair_setF, State.pair_updPair]

/-- Disarming clears PST.JOB. -/
theorem jobBit_disarm (s : State) (p : Nat) : (s.disarm p).jobBit p = false := by
  unfold State.disarm State.jobBit
  dsimp only
  rw [flag_setF_apart _ _ (show 0 < 32 by decide) (.inl (show 0 < 1 by decide)), flag_setF_self _ 0 rfl (show 0 < 32 by decide)]
  rfl

theorem stored_pair (b : State) (p : Nat) (j : Job) : (b.stored p j).pair p =
    { (b.checkpointed p j).pair p with slot := { ((b.checkpointed p j).pair p).slot with armed := false } } := pair_disarm _ _

theorem stored_disarmed (b : State) (p : Nat) (j : Job) : ((b.stored p j).pair p).slot.armed = false := by rw [stored_pair]

theorem stored_g (b : State) (p : Nat) (j : Job) : ((b.stored p j).pair p).g = (b.pair p).g := by
  rw [stored_pair]
  exact (uses_checkpointed b p j).g p

theorem stored_lmem (b : State) (p : Nat) (j : Job) : ((b.stored p j).pair p).lmem = (b.pair p).lmem := by
  rw [stored_pair]
  exact (uses_checkpointed b p j).lmem p

theorem stored_ledger (b : State) (p : Nat) (j : Job) : (b.stored p j).ledger = b.ledger := (uses_checkpointed b p j).ledger

/-- A set that is not marked applied and whose proofs hold joins the open sets (R296). -/
theorem handSet_joins {c : State} (updates : j.updates ≠ []) (fresh : (c.ledger.applied.get (fun _ => (0, [])) p).1 ≠ j.j)
    (proved : c.proofFails j.updates = none) :
    c.handSet p j = { c with ledger := { c.ledger with openSets := c.ledger.openSets ++ [⟨j.j, p, j.updates, []⟩] } } := by
  have some_ : j.updates.isEmpty = false := by simpa using updates
  unfold State.handSet
  rw [some_, beq_eq_false_iff_ne.2 fresh, proved]
  rfl

/-- A set marked applied, or a job without updates, goes on to the release (R127, R297). -/
theorem handSet_releases {c : State} (done : j.updates = [] ∨ (c.ledger.applied.get (fun _ => (0, [])) p).1 = j.j) :
    c.handSet p j = c.releaseJob j false := by
  have goes : (j.updates.isEmpty || (c.ledger.applied.get (fun _ => (0, [])) p).1 == j.j) = true := by
    rcases done with none_ | applied
    · simp [none_]
    · rw [beq_iff_eq.2 applied, Bool.or_true]
  unfold State.handSet
  rw [if_pos goes]

end

end Sys2Proof.Machine
end

section
/-! The statements about roles and the commit store settled. -/

namespace Sys2Proof.Machine

/-- Settles O13: the transitions of R115 by the role written, a mismatch's steps, and the outcomes of a self-test (R114, R132). -/
theorem rolesChangeOnlyAsListed : Obligations.RolesChangeOnlyAsListed := by
  refine ⟨?writes, ?faults⟩
  case writes =>
    intro s b m p v may r w
    refine ⟨fun names from_ => ?_, fun names from_ disabled => ?_, fun names from_ => ?_, fun names from_ => ?_, fun names from_ => ?_,
      fun names from_ => ?_, fun names spare hearth room => ?_, fun names other => ?_, fun names other => ?_,
      fun names notFree notSpare => ?_, fun names notFree notSpare => ?_, fun names other => ?_⟩
    · exact congrArg Host.Outcome.next (roleCommand_loading may names from_)
    · exact congrArg Host.Outcome.next ((roleCommand_loading may names from_).trans (armLoad_disabled disabled))
    · have notLoading : b.role p.val ≠ Role.loading := by
        rcases from_ with spare | ⟨session, -⟩
        · exact fun is => absurd (spare.symm.trans is) (by decide)
        · exact fun is => absurd (session.symm.trans is) (by decide)
      refine congrArg Host.Outcome.next ((roleCommand_free may names (from_.imp_right .inr)).trans ?_)
      rw [if_neg notLoading]
    · refine congrArg Host.Outcome.next ((roleCommand_free may names (.inr (.inl from_))).trans ?_)
      rw [if_pos from_]
    · exact congrArg Host.Outcome.next (roleCommand_plain may names (by decide) (roleAllowed_spare.2 from_))
    · exact congrArg Host.Outcome.next (roleCommand_plain may names (by decide) (roleAllowed_retired.2 from_))
    · exact congrArg Host.Outcome.next (roleCommand_supervisor may names ⟨spare, hearth, room⟩)
    · refine congrArg Host.Outcome.next (roleCommand_refused may names fun allowed => ?_)
      have listed := roleAllowed_free.1 allowed
      simp only [r] at other
      rcases other with is | is | is | is | ⟨is, armed⟩ <;> simp [is] at listed
      exact Bool.false_ne_true (listed.symm.trans armed)
    · exact congrArg Host.Outcome.next (roleCommand_refused may names fun allowed => other (roleAllowed_spare.1 allowed))
    · exact congrArg Host.Outcome.next (roleCommand_refused may names fun allowed =>
        (roleAllowed_loading.1 allowed).elim notFree notSpare)
    · exact congrArg Host.Outcome.next (roleCommand_refused may names fun allowed =>
        (roleAllowed_retired.1 allowed).elim notFree notSpare)
    · refine congrArg Host.Outcome.next (roleCommand_refused may names fun allowed => ?_)
      obtain ⟨spare, hearth, room⟩ := roleAllowed_supervisor.1 allowed
      rcases other with notSpare | elsewhere | full
      · exact notSpare spare
      · exact elsewhere hearth
      · exact absurd room (Nat.not_lt.2 full)
  case faults =>
    intro s p h
    refine ⟨fun k pc notSelftest notRetired => exec_lockstepMismatch k pc notSelftest notRetired,
      fun k pc out => exec_lockstepMismatch_out k pc out, fun in_ => ?_, exec_selftestDone_fails, fun ok => exec_selftestDone_none ok⟩
    refine ⟨s.selftestPassed p.val, State.pair_setPair _ _ _, rfl, rfl, fun q hq => State.pair_setPair_ne _ _ hq, fun few => ?_,
      fun limited many => ?_⟩
    · rw [exec_selftestDone_passes in_, if_neg]
      rintro ⟨limited, reached⟩
      rcases few with unlimited | below
      · exact limited unlimited
      · exact absurd below (Nat.not_lt.2 reached)
    · rw [exec_selftestDone_passes in_, if_pos ⟨limited, many⟩]

/-- Settles O15: the commit store of the key in time, late, and what it refuses (R49, R125, R127). -/
theorem commitTakesOnlyItsKeyFromAnArmedPair : Obligations.CommitTakesOnlyItsKeyFromAnArmedPair := by
  intro s b p v reaches refused
  refine ⟨?_, fun j a armed src deadline late => ?_, fun j armed wrong => ?_, fun unarmed => ?_⟩
  · intro j armed src inTime open_ sound
    refine ⟨?_, stored_disarmed b p.val j, jobBit_disarm _ _, stored_g b p.val j, stored_lmem b p.val j, stored_ledger b p.val j,
      handSet_joins (j := j.committed (b.checkpointed p.val j)), handSet_releases (j := j.committed (b.checkpointed p.val j))⟩
    exact (exec_commit reaches (commitStore_key armed)).trans
      (congrArg Host.Outcome.next (commitJob_stored src inTime open_ sound))
  · rw [exec_commit reaches (commitStore_key armed), commitJob_late src deadline late]
  · exact exec_commit_refused reaches (commitStore_wrong armed wrong)
  · exact exec_commit_refused reaches (commitStore_unarmed unarmed)

end Sys2Proof.Machine
end

section
/-! SUPPORT. The register window as masters reach it (R512, R513), units (R26–R30), flues (R166–R170) and the scrub (R160–R163). -/

namespace Sys2Proof.Machine

/-! ## Register writes -/

/-- An access of a pair that raises an exception in a state whose unit has recorded the refusal, and changed no pair. -/
theorem pairAccess_fails {s b t : State} {p o : Nat} {k : Access} {f : State → Resp} (reaches : s.Accesses p o k b) {e : Exc}
    (fails : f b = .fail t e) (pairs : t.pairs = b.pairs) : s.pairAccess p o k f = t.raise p e := by
  obtain ⟨runs, imp, checks, rfl, impAfter⟩ := reaches
  have none_ : (t.pair p).imp = none := by rw [State.pair, pairs]; exact impAfter
  simp [State.pairAccess, runs, imp, checks, fails, raiseAt_raise none_]

section
variable {s b : State} {m o : Nat} {f : State → Resp}

/-- A pair without the right of R512 raises bus error at the register. -/
theorem masterWrite_closed (pair_ : m < 512) (reaches : s.Accesses m o .store b) (closed : b.mayWrite m = false) :
    s.masterWrite m o f = b.raise m ⟨Cause.busError, wd (0x40000000 + o)⟩ := by
  rw [State.masterWrite, if_pos pair_]
  exact pairAccess_fail reaches (by rw [closed]; rfl)

/-- A host link's write is dropped and counted (R513). -/
theorem masterWrite_host (host : m = 512 ∨ m = 513) : s.masterWrite m o f = s.incSat (Reg.HOST_MALF_CNT (m - 512)) := by
  rw [State.masterWrite, if_neg (by omega), if_neg (by omega), if_pos host]

end

theorem exec_registerWrite {s : State} {m : Master} {o : Nat} (v : Word) (lies : windowOffset (wd (0x40000000 + o)) = some o) :
    exec (.registerWrite m (wd (0x40000000 + o)) v) s = .next (
      if m.val < 512 then s.pairAccess m.val o .store (fun s => s.windowStore m.val o v)
      else if m.val = 512 ∨ m.val = 513 then s.hostWindowWrite (m.val - 512) o v
      else if m.val = 722 then (s.windowStore 722 o v).state
      else s) := by
  change execRegisterWrite _ _ _ _ = _
  unfold execRegisterWrite
  rw [lies]

theorem exec_lowWordRead_pair {s : State} {m : Master} {o : Nat} (lies : windowOffset (wd (0x40000000 + o)) = some o) (pair_ : m.val < 512) :
    exec (.lowWordRead m (wd (0x40000000 + o))) s = .next (s.pairAccess m.val o .load (fun s => (s.windowLoad m.val o).1)) := by
  change execLowWordRead _ _ _ = _
  unfold execLowWordRead
  rw [lies]
  exact congrArg Host.Outcome.next (if_pos pair_)

/-- A host link's read of a register that it reaches. -/
theorem exec_lowWordRead_link {s : State} {m : Master} {o : Nat} {w : Word} (lies : windowOffset (wd (0x40000000 + o)) = some o)
    (host : m.val = 512 ∨ m.val = 513) (reads : s.hostWindowRead (m.val - 512) o = some w) (reached : s.hostReadable o = true) :
    exec (.lowWordRead m (wd (0x40000000 + o))) s = .next ((s.readEffect m.val o).emit (.hostData (m.val - 512) w)) := by
  change execLowWordRead _ _ _ = _
  unfold execLowWordRead
  rw [lies]
  dsimp only
  rw [if_neg (by omega), if_pos host, reads, if_pos reached]

theorem windowOffset_rpol (h : HearthId) : windowOffset (wd (0x40000000 + Reg.HRT_RPOL h.val)) = some (Reg.HRT_RPOL h.val) := by
  revert h
  decide

/-- What is decided of RPOL's offset alone: it is no slot, no tag store window, no register of `openReg` and none of master 722. -/
theorem rpol_plain (h : HearthId) : isSlot (Reg.HRT_RPOL h.val) = false ∧ isTagStore (Reg.HRT_RPOL h.val) = false ∧
    inBlock (Reg.HRT_RPOL h.val) = true ∧ openReg (Reg.HRT_RPOL h.val) = false ∧ reserved722 (Reg.HRT_RPOL h.val) = false := by
  revert h
  decide

/-- A master that R512 admits may write a register that is not reserved to master 722. -/
theorem writeRight_of {b : State} {m o : Nat} (may : (m < 512 ∧ b.mayWrite m = true) ∨ m = 722) (plain : reserved722 o = false) :
    b.writeRight m o = true := by
  rcases may with ⟨pair_, may⟩ | rfl
  · unfold State.mayWrite at may
    simp only [Bool.or_eq_true, beq_iff_eq] at may
    rcases may with supervisor | ring
    · simp [State.writeRight, supervisor, plain]
    · simp [State.writeRight, pair_, ring]
  · simp [State.writeRight]

theorem registerStore_rpol (b : State) (m : Nat) (h : HearthId) (v : Word) :
    b.registerStore m (Reg.HRT_RPOL h.val) v = b.writeReg (Reg.HRT_RPOL h.val) v := by
  have bound := h.isLt
  have hearth : (0x10001C + 0x1000 * h.val - 0x100000) / 0x1000 = h.val := by omega
  have offset : (0x10001C + 0x1000 * h.val) % 0x1000 = 0x1C := by omega
  show b.registerStore m (0x10001C + 0x1000 * h.val) v = b.writeReg (0x10001C + 0x1000 * h.val) v
  rw [State.registerStore, if_neg (by omega), if_pos (by omega), hearth, offset]
  show b.writeReg (0x100000 + 0x1000 * h.val + 0x1C) v = _
  congr 1
  omega

theorem windowStore_rpol {b : State} {m : Nat} (h : HearthId) (v : Word) (may : (m < 512 ∧ b.mayWrite m = true) ∨ m = 722) :
    b.windowStore m (Reg.HRT_RPOL h.val) v = .ok (b.writeReg (Reg.HRT_RPOL h.val) v) := by
  obtain ⟨notSlot, notTag, block, notOpen, plain⟩ := rpol_plain h
  unfold State.windowStore
  rw [notSlot, notTag, block, notOpen, writeRight_of may plain, registerStore_rpol]
  rfl

/-- A permitted write of RPOL by REGISTER_WRITE. -/
theorem exec_registerWrite_rpol {s b : State} {m : Master} {h : HearthId} (v : Word) (may : s.Masters m.val (Reg.HRT_RPOL h.val) b) :
    exec (.registerWrite m (wd (0x40000000 + Reg.HRT_RPOL h.val)) v) s = .next (b.writeReg (Reg.HRT_RPOL h.val) v) := by
  rw [exec_registerWrite v (windowOffset_rpol h)]
  rcases may with ⟨pair_, reaches, may⟩ | ⟨boot, rfl⟩
  · rw [if_pos pair_, pairAccess_ok reaches (windowStore_rpol h v (.inl ⟨pair_, may⟩))]
  · rw [if_neg (by omega), if_neg (by omega), if_pos boot, windowStore_rpol h v (.inr rfl)]
    rfl

/-! ## Reads of BEAT.COUNT_LO -/

/-- A read of BEAT.COUNT_LO copies the high word into the reader's hold (R9). -/
theorem readEffect_count (b : State) (m : Nat) : b.readEffect m Reg.BEAT_COUNT_LO =
    { b with holds := b.holds.set zeroWord (mkey m Reg.BEAT_COUNT_HI) (wd (b.beatNow / 2 ^ 32)) } := rfl

theorem windowLoad_count {b : State} {m : Nat} (pair_ : m < 512) : (b.windowLoad m Reg.BEAT_COUNT_LO).1 =
    .ok { b with holds := b.holds.set zeroWord (mkey m Reg.BEAT_COUNT_HI) (wd (b.beatNow / 2 ^ 32)) } := by
  have self : identOf m = m := if_neg (by omega)
  unfold State.windowLoad
  rw [self]
  exact congrArg Resp.ok (readEffect_count b m)

/-- What a read of BEAT.COUNT_LO returns (R41). -/
theorem windowRead_count (s : State) (m : Nat) : s.windowRead m Reg.BEAT_COUNT_LO = wd (s.beatNow % 2 ^ 32) := rfl

theorem hostReadable_count (s : State) : s.hostReadable Reg.BEAT_COUNT_LO = true := by
  have low : decide (Reg.BEAT_COUNT_LO < 0x4000) = true := by decide
  unfold State.hostReadable
  rw [low, Bool.or_true]
  decide

theorem hostWindowRead_count (s : State) (l : Nat) : s.hostWindowRead l Reg.BEAT_COUNT_LO = some (wd (s.beatNow % 2 ^ 32)) := by
  unfold State.hostWindowRead
  rw [hostReadable_count, windowRead_count]
  rfl

theorem exec_lowWordRead_host (s : State) (l : Fin 2) :
    exec (.lowWordRead (Fin.ofNat 1024 (512 + l.val)) (wd (0x40000000 + Reg.BEAT_COUNT_LO))) s = .next
      (({ s with holds := s.holds.set zeroWord (mkey (512 + l.val) Reg.BEAT_COUNT_HI) (wd (s.beatNow / 2 ^ 32)) } : State).emit
        (.hostData l.val (wd (s.beatNow % 2 ^ 32)))) := by
  have master : (Fin.ofNat 1024 (512 + l.val)).val = 512 + l.val := Nat.mod_eq_of_lt (by omega)
  rw [exec_lowWordRead_link (by decide) (by omega) (hostWindowRead_count s _) (hostReadable_count s), master, readEffect_count,
    Nat.add_sub_cancel_left]

/-! ## Units -/

section
variable {s b : State} {m : Nat} {u : UnitId}

/-- The state in which a write of ENABLE that keeps DRAIN_IE and DRAINEV decides (R26). -/
def State.enabling (b : State) (u : UnitId) : State :=
  (b.drainSync u).setF ⟨unitOff u, 1, 1⟩ (fld 1 1 (b.reg (unitOff u)))

/-- The word that such a write stores: DRAIN_IE as it is, ENABLE as written, and no clearing of DRAINEV. -/
theorem enableWord (w : Word) (on : Bool) : fld 1 1 ((w &&& 2#32) ||| wd (b2n on)) = fld 1 1 w ∧
    bit 2 ((w &&& 2#32) ||| wd (b2n on)) = false ∧ bit 0 ((w &&& 2#32) ||| wd (b2n on)) = on := by
  refine ⟨?_, ?_, ?_⟩
  · rw [fld_bit, fld_bit]
    cases on <;> simp [bit, wd, b2n]
  · cases on <;> simp [bit, wd, b2n]
  · cases on <;> simp [bit, wd, b2n]

theorem uctlStore_enabling (b : State) (u : UnitId) (on : Bool) :
    b.uctlStore u ((b.reg (unitOff u) &&& 2#32) ||| wd (b2n on)) =
      if (b.enabling u).enableTakes u on then
        (if on then (b.enabling u).enableUnit u else if (b.enabling u).unitOn u then (b.enabling u).disableUnit u else b.enabling u)
      else b.enabling u := by
  obtain ⟨ie, ev, enable⟩ := enableWord (b.reg (unitOff u)) on
  unfold State.uctlStore
  dsimp only
  rw [ie, ev, enable, if_neg Bool.false_ne_true]
  show (if !(b.enabling u).enableTakes u on then b.enabling u else _) = _
  cases (b.enabling u).enableTakes u on <;> rfl

theorem enableWrite_of (may : s.Masters m (unitOff u) b) (on : Bool) : s.enableWrite m u on =
    if (b.enabling u).enableTakes u on then
      (if on then (b.enabling u).enableUnit u else if (b.enabling u).unitOn u then (b.enabling u).disableUnit u else b.enabling u)
    else b.enabling u :=
  masterWrite_of may (congrArg Resp.ok (uctlStore_enabling b u on))

theorem drainSync_due (due : s.unitOn u = false ∧ bit 30 (s.reg (unitOff u)) = true ∧ s.unitEmpty u = true) :
    s.drainSync u = (s.setF ⟨unitOff u, 30, 30⟩ 0).setF ⟨unitOff u, 2, 2⟩ 1 := by
  obtain ⟨off, draining, empty⟩ := due
  rw [State.drainSync, off, draining, empty]
  rfl

theorem drainSync_notDue (notDue : ¬(s.unitOn u = false ∧ bit 30 (s.reg (unitOff u)) = true ∧ s.unitEmpty u = true)) :
    s.drainSync u = s :=
  if_neg fun due => notDue (by simpa [and_assoc] using due)

end

/-! ## Flues -/

theorem pairs_logEvent (s : State) (src code unit : Nat) (x y : Word) (n : Nat) : (s.logEvent src code unit x y n).pairs = s.pairs :=
  (untouched_logEvent s src code unit x y n).pairs

theorem pairs_flueRefuse (s : State) (c m : Nat) (full log : Bool) : (s.flueRefuse c m full log).pairs = s.pairs := by
  cases log
  · rfl
  · exact pairs_logEvent _ _ _ _ _ _ _

section
variable {b : State} {c i m : Nat} {v : Word}

theorem slotStore_fills (enabled : b.flueEnabled c = true) (sender : b.isSender c m = true) (empty : b.flueIsFull c = false) :
    b.slotStore c i m v = .ok (if i = 7 then (b.setReg (slotOff c i) v).deliver c else b.setReg (slotOff c i) v) := by
  simp [State.slotStore, enabled, sender, empty]

theorem slotStore_full (enabled : b.flueEnabled c = true) (sender : b.isSender c m = true) (full : b.flueIsFull c = true) :
    b.slotStore c i m v = .fail (b.flueRefuse c m true true) ⟨Cause.flueFull, wd (0x40000000 + slotOff c i)⟩ := by
  simp [State.slotStore, enabled, sender, full]

/-- Neither end of an enabled channel. -/
theorem slotStore_unbound (unbound : b.flueEnabled c = false ∨ (b.isSender c m = false ∧ b.isReceiver c m = false)) :
    b.slotStore c i m v = .fail (b.flueRefuse c m false true) ⟨Cause.busError, wd (0x40000000 + slotOff c i)⟩ := by
  rcases unbound with disabled | ⟨notSender, notReceiver⟩
  · simp [State.slotStore, disabled]
  · simp [State.slotStore, notSender, notReceiver]

/-- A receiver's store to a word before the last is refused as an unbound master's (log 74). -/
theorem slotStore_before (before : i ≠ 7) (refused : b.flueEnabled c = false ∨ b.isSender c m = false) :
    b.slotStore c i m v = .fail (b.flueRefuse c m false true) ⟨Cause.busError, wd (0x40000000 + slotOff c i)⟩ := by
  rcases refused with disabled | notSender
  · exact slotStore_unbound (.inl disabled)
  · cases receiver : b.isReceiver c m
    · exact slotStore_unbound (.inr ⟨notSender, receiver⟩)
    · cases enabled : b.flueEnabled c
      · exact slotStore_unbound (.inl enabled)
      · simp [State.slotStore, enabled, notSender, receiver, before]

/-- The receiver's store to word 7 frees a full slot. -/
theorem slotStore_frees (enabled : b.flueEnabled c = true) (notSender : b.isSender c m = false) (receiver : b.isReceiver c m = true) :
    b.slotStore c 7 m v = .ok (if b.flueIsFull c then b.releaseFlue c else b) := by
  simp [State.slotStore, enabled, notSender, receiver]

theorem channelWrite_stored (unlocked : b.flag Fld.FLUE_CTRL_LOCK = false)
    (wellFormed : bit 31 v = false ∨ (fld 9 0 v ≠ fld 25 16 v ∧ fld 9 0 v ≠ 1023)) :
    b.channelWrite c v = ((b.setReg (Reg.CHAN_W0 c) (wd (2 ^ 31 * b2n (bit 31 v) + 2 ^ 16 * fld 25 16 v + fld 9 0 v))).zeroSlot c).setF
      (Fld.CHAN_W1_SEQ c) 0 := by
  have taken : (bit 31 v && (fld 9 0 v == fld 25 16 v || fld 9 0 v == 1023)) = false := by
    rcases wellFormed with off | ⟨ends, alias_⟩
    · rw [off, Bool.false_and]
    · rw [beq_eq_false_iff_ne.2 ends, beq_eq_false_iff_ne.2 alias_, Bool.or_self, Bool.and_false]
  unfold State.channelWrite
  rw [unlocked, taken]
  rfl

theorem channelWrite_ignored
    (ignored : b.flag Fld.FLUE_CTRL_LOCK = true ∨ (bit 31 v = true ∧ (fld 9 0 v = fld 25 16 v ∨ fld 9 0 v = 1023))) :
    b.channelWrite c v = b := by
  rcases ignored with locked | ⟨on, same⟩
  · rw [State.channelWrite, if_pos locked]
  · have bad : (bit 31 v && (fld 9 0 v == fld 25 16 v || fld 9 0 v == 1023)) = true := by
      simpa [on] using same
    unfold State.channelWrite
    rw [bad, if_pos rfl, ite_self]

end

section
variable {s b : State} {p : PairId} {c : Fin 2048} {v : Word}

theorem exec_flueStore {t : State} {i : Fin 7} (reaches : s.Accesses p.val (slotOff c.val i.val) .store b)
    (taken : b.slotStore c.val i.val p.val v = .ok t) : exec (.flueStore p c i v) s = .next t :=
  congrArg Host.Outcome.next (pairAccess_ok reaches taken)

theorem exec_flueStore_refused {i : Fin 7} {full : Bool} {e : Exc} (reaches : s.Accesses p.val (slotOff c.val i.val) .store b)
    (refused : b.slotStore c.val i.val p.val v = .fail (b.flueRefuse c.val p.val full true) e) :
    exec (.flueStore p c i v) s = .next ((b.flueRefuse c.val p.val full true).raise p.val e) :=
  congrArg Host.Outcome.next (pairAccess_fails reaches refused (pairs_flueRefuse _ _ _ _ _))

theorem exec_flueDeliver {t : State} (reaches : s.Accesses p.val (slotOff c.val 7) .store b)
    (delivers : (s.isReceiver c.val p.val && s.flueEnabled c.val) = false) (taken : b.slotStore c.val 7 p.val v = .ok t) :
    exec (.flueDeliver p c v) s = .next t :=
  congrArg Host.Outcome.next ((if_neg (Bool.eq_false_iff.1 delivers)).trans (pairAccess_ok reaches taken))

theorem exec_flueDeliver_refused {full : Bool} {e : Exc} (reaches : s.Accesses p.val (slotOff c.val 7) .store b)
    (delivers : (s.isReceiver c.val p.val && s.flueEnabled c.val) = false)
    (refused : b.slotStore c.val 7 p.val v = .fail (b.flueRefuse c.val p.val full true) e) :
    exec (.flueDeliver p c v) s = .next ((b.flueRefuse c.val p.val full true).raise p.val e) :=
  congrArg Host.Outcome.next ((if_neg (Bool.eq_false_iff.1 delivers)).trans
    (pairAccess_fails reaches refused (pairs_flueRefuse _ _ _ _ _)))

theorem exec_flueRelease {t : State} (reaches : s.Accesses p.val (slotOff c.val 7) .store b)
    (releases : (s.isSender c.val p.val && s.flueEnabled c.val) = false) (taken : b.slotStore c.val 7 p.val v = .ok t) :
    exec (.flueRelease p c v) s = .next t :=
  congrArg Host.Outcome.next ((if_neg (Bool.eq_false_iff.1 releases)).trans (pairAccess_ok reaches taken))

theorem exec_flueFabricWrite {m : Master} {ws : List Word} (fabric : 512 ≤ m.val) (whole : ws.length = 8) :
    exec (.flueFabricWrite m c ws) s = .next (s.fabricMessage c.val m.val ws).1 :=
  congrArg Host.Outcome.next (if_neg (by omega))

end

/-! ## Scrub -/

section
variable {s : State} {u addr : Nat}

/-- A word that verifies and is not known to be uncorrectable leaves the block as it is (R157). -/
theorem scrubWord_clean (sound : u = 16 ∨ s.hasFlaw ((u * 0x400000 + addr) / 4) = false) : s.scrubWord u addr .clean = s := by
  have notFlawed : ¬(u ≠ 16 ∧ s.hasFlaw ((u * 0x400000 + addr) / 4) = true) := by
    rintro ⟨hearth, flawed⟩
    rcases sound with directory | sound
    · exact hearth directory
    · exact Bool.false_ne_true (sound.symm.trans flawed)
  unfold State.scrubWord
  dsimp only
  rw [if_neg notFlawed]

/-- A line whose words all verify. -/
theorem scrubWords_clean (l : List (Fin 8)) (co un : BitVec 8)
    (clean : ∀ k : Fin 8, lineCheck co un k = .clean ∧ (u = 16 ∨ s.hasFlaw ((u * 0x400000 + (addr + 4 * k.val)) / 4) = false)) :
    l.foldl (fun s (k : Fin 8) => s.scrubWord u (addr + 4 * k.val) (lineCheck co un k)) s = s := by
  induction l with
  | nil => rfl
  | cons k l ih =>
    obtain ⟨verifies, sound⟩ := clean k
    rw [List.foldl_cons, verifies, scrubWord_clean sound, ih]

end

section
variable {s : State} {u : Fin 17} {b : Fin 16} {co un : BitVec 8}

theorem exec_scrubLine_notDue
    (notDue : ¬((s.scrubUnit u.val).passStart ≤ s.beatNow ∧ (s.scrubUnit u.val).lines b.val < (s.scrubUnit u.val).due s.beatNow ∧
      s.bankBusy u.val b.val = false)) : exec (.scrubLine u b co un) s = .next s := by
  refine if_pos ?_
  by_contra busy
  simp only [not_or, Nat.not_lt, Nat.not_le, Bool.not_eq_true] at busy
  exact notDue busy

theorem exec_scrubLine_clean {o : Nat} (at_ : o = b.val * 0x40000 + (s.scrubUnit u.val).lines b.val * 32)
    (free : (s.scrubUnit u.val).passStart ≤ s.beatNow ∧ (s.scrubUnit u.val).lines b.val < (s.scrubUnit u.val).due s.beatNow ∧
      s.bankBusy u.val b.val = false)
    (clean : ∀ k : Fin 8, lineCheck co un k = .clean ∧ (u.val = 16 ∨ s.hasFlaw ((u.val * 0x400000 + (o + 4 * k.val)) / 4) = false))
    {x y : ScrubUnit} (unit_ : x = s.scrubUnit u.val)
    (after : y = { x with pos := x.pos.set (fun _ => 0) b.val (x.lines b.val + 1) })
    {r : State} (moved : r = if u.val ≠ 16 ∧ b.val = 0 then s.setReg (Reg.HRT_SCRUB_POS u.val) (wd o) else s) :
    exec (.scrubLine u b co un) s = .next (if y.done then
        (r.setScrub u.val { y with pos := [], overran := false, passStart := max s.beatNow (x.passStart + 6000000) }).setF
          ⟨scrubReg u.val, 23, 0⟩ (min 0xFFFFFF (fld 23 0 (r.reg (scrubReg u.val)) + 1))
      else r.setScrub u.val y) := by
  obtain ⟨started, due, idle⟩ := free
  have reads : ¬(s.beatNow < (s.scrubUnit u.val).passStart ∨ (s.scrubUnit u.val).due s.beatNow ≤ (s.scrubUnit u.val).lines b.val ∨
      s.bankBusy u.val b.val = true) := by
    rw [not_or, not_or, idle]
    exact ⟨Nat.not_lt.2 started, Nat.not_le.2 due, Bool.false_ne_true⟩
  subst at_ unit_ after moved
  change execScrubLine _ _ _ _ _ = _
  unfold execScrubLine
  dsimp only
  rw [if_neg reads, scrubWords_clean _ _ _ clean]
  by_cases first : u.val ≠ 16 ∧ b.val = 0
  · rw [if_pos first]
    rfl
  · rw [if_neg first]

theorem exec_scrubWriteback_busy {a : Nat} (busy : s.bankBusy u.val (a / 0x40000) = true) : exec (.scrubWriteback u a) s = .next s :=
  congrArg Host.Outcome.next (if_pos busy)

theorem exec_scrubWriteback_free {a : Nat} (free : s.bankBusy u.val (a / 0x40000) = false) : exec (.scrubWriteback u a) s =
    .next (s.setScrub u.val { s.scrubUnit u.val with writeBack := (s.scrubUnit u.val).writeBack.erase a }) :=
  congrArg Host.Outcome.next (if_neg (Bool.eq_false_iff.1 free))

end

end Sys2Proof.Machine
end

section
/-! The statements about register writes, units, the scrub and the flues settled. -/

namespace Sys2Proof.Machine

/-- Settles O12: the one check of the register commands, RPOL, and the reads of BEAT.COUNT_LO (R8, R9, R512, R513). -/
theorem registerWritesAndReadsOfMasters : Obligations.RegisterWritesAndReadsOfMasters := by
  refine ⟨?_, ?_, ?_, ?_⟩
  · intro s b m v u a c n r refused
    have checks : ∀ (o : Nat) (f : State → Resp), refused o (.next (s.masterWrite m.val o f)) := fun o f =>
      ⟨fun pair_ reaches closed => congrArg Host.Outcome.next (masterWrite_closed pair_ reaches closed),
        fun host => congrArg Host.Outcome.next (masterWrite_host host)⟩
    exact ⟨checks _ _, checks _ _, checks _ _, checks _ _, checks _ _, checks _ _, checks _ _, checks _ _, checks _ _⟩
  · exact fun s b m h v may => exec_registerWrite_rpol v may
  · intro s b m pair_ reaches
    rw [exec_lowWordRead_pair (by decide) pair_, pairAccess_ok reaches (windowLoad_count pair_)]
  · exact exec_lowWordRead_host

/-- Settles O19: ENABLE cleared and set, and the end of a drain (R26, R28, R30). -/
theorem unitsLeaveAndReturnToService : Obligations.UnitsLeaveAndReturnToService := by
  refine ⟨fun s b m u may => ⟨fun takes => ?_, fun ignored => ?_, fun takes on => ?_, fun ignored => ?_⟩, fun s u => ⟨fun due => ?_, fun notDue => ?_⟩⟩
  · exact congrArg Host.Outcome.next ((enableWrite_of may true).trans (if_pos takes))
  · exact congrArg Host.Outcome.next ((enableWrite_of may true).trans (if_neg (Bool.eq_false_iff.1 ignored)))
  · exact congrArg Host.Outcome.next ((enableWrite_of may false).trans ((if_pos takes).trans (if_pos on)))
  · refine congrArg Host.Outcome.next ((enableWrite_of may false).trans ?_)
    rcases ignored with ignored | off
    · exact if_neg (Bool.eq_false_iff.1 ignored)
    · exact (congrArg (ite _ · _) (if_neg (Bool.eq_false_iff.1 off))).trans (ite_self _)
  · exact congrArg Host.Outcome.next (drainSync_due due)
  · exact congrArg Host.Outcome.next (drainSync_notDue notDue)

/-- Settles O22: a due line that verifies, the end of a pass, a write-back and the overrun (R160–R163). -/
theorem scrubReadsDueLines : Obligations.ScrubReadsDueLines := by
  intro s u b co un a
  refine ⟨fun free clean more => ?_, fun free clean last => ?_, fun notDue => exec_scrubLine_notDue notDue, exec_scrubWriteback_free,
    exec_scrubWriteback_busy, fun late unread first => ?_, fun quiet => ?_⟩
  · exact (exec_scrubLine_clean rfl free clean rfl rfl rfl).trans (congrArg Host.Outcome.next (if_neg (Bool.eq_false_iff.1 more)))
  · exact (exec_scrubLine_clean rfl free clean rfl rfl rfl).trans (congrArg Host.Outcome.next (if_pos last))
  · refine congrArg Host.Outcome.next (if_neg ?_)
    rw [unread, first]
    simpa using late
  · exact congrArg Host.Outcome.next (if_pos quiet)

/-- Settles O23: the stores of a slot's ends, whole messages, and the channel table (R166–R170). -/
theorem fluesCarryMessagesOfTheirEnds : Obligations.FluesCarryMessagesOfTheirEnds := by
  refine ⟨⟨?_, ?_, ?_⟩, ?_⟩
  · intro s b p c i v reaches
    have before : i.val ≠ 7 := by omega
    refine ⟨fun ⟨enabled, sender⟩ empty => ?_, fun ⟨enabled, sender⟩ full => ?_, fun refused => ?_⟩
    · rw [exec_flueStore reaches (slotStore_fills enabled sender empty), if_neg before]
    · exact exec_flueStore_refused reaches (slotStore_full enabled sender full)
    · exact exec_flueStore_refused reaches (slotStore_before before refused)
  · intro s b p c v reaches
    refine ⟨fun delivers => ⟨fun ⟨enabled, sender⟩ empty => ?_, fun ⟨enabled, sender⟩ full => ?_, fun unbound => ?_⟩,
      fun releases => ⟨fun ⟨enabled, notSender, receiver⟩ full => ?_, fun ⟨enabled, notSender, receiver⟩ empty => ?_⟩⟩
    · exact exec_flueDeliver reaches delivers (slotStore_fills enabled sender empty)
    · exact exec_flueDeliver_refused reaches delivers (slotStore_full enabled sender full)
    · exact exec_flueDeliver_refused reaches delivers (slotStore_unbound unbound)
    · rw [exec_flueRelease reaches releases (slotStore_frees enabled notSender receiver), if_pos full]
      rfl
    · rw [exec_flueRelease reaches releases (slotStore_frees enabled notSender receiver), if_neg (Bool.eq_false_iff.1 empty)]
  · intro s m c ws fabric whole
    refine ⟨fun ⟨enabled, sender⟩ empty => ?_, fun ⟨enabled, sender⟩ full => ?_, fun unbound => ?_⟩
    · rw [exec_flueFabricWrite fabric whole, State.fabricMessage, enabled, sender, empty]
      rfl
    · rw [exec_flueFabricWrite fabric whole, State.fabricMessage, enabled, sender, full]
      rfl
    · rw [exec_flueFabricWrite fabric whole, State.fabricMessage, if_pos]
      simpa [imp_iff_not_or] using unbound
  · exact fun s b m c v may =>
      ⟨fun unlocked wellFormed => congrArg Host.Outcome.next (masterWrite_of may (congrArg Resp.ok (channelWrite_stored unlocked wellFormed))),
        fun ignored => congrArg Host.Outcome.next (masterWrite_of may (congrArg Resp.ok (channelWrite_ignored ignored)))⟩

end Sys2Proof.Machine
end

section
/-! SUPPORT. The port guards (R153–R155) and uses of banks that nobody else claims (R178). -/

namespace Sys2Proof.Machine

/-! ## Idle banks -/

/-- Nobody uses or waits for a bank of hearth memory. -/
def State.BanksIdle (s : State) : Prop := ∀ k, (s.bankArb.get (fun _ => {}) k).inUse = none ∧ (s.bankArb.get (fun _ => {}) k).waiting = []

/-- The banks stay idle, and the pairs and memories as they were. -/
structure State.KeepsIdle (s t : State) : Prop where
  idle : t.BanksIdle
  kept : s.Untouched t

theorem bankArb_logEvent (s : State) (src code unit : Nat) (x y : Word) (n : Nat) :
    (s.logEvent src code unit x y n).bankArb = s.bankArb := by
  obtain ⟨e, full, lost, is⟩ := logRaw_eq s s.beatNow (b2n s.trusted) src code unit x y n
  rw [State.logEvent, is]
  unfold State.offered State.entered State.undrain125
  dsimp only
  split_ifs <;> rfl

theorem bankArb_starve (s : State) (i : ArbId) (w : Waiter) : (s.starve i w).bankArb = s.bankArb := by
  unfold State.starve
  dsimp only
  split
  · exact bankArb_logEvent _ _ _ _ _ _ _
  · exact bankArb_logEvent _ _ _ _ _ _ _

theorem bankArb_foldl {α : Type} (f : State → α → State) (h : ∀ (s : State) a, (f s a).bankArb = s.bankArb) (l : List α) (s : State) :
    (l.foldl f s).bankArb = s.bankArb := List.foldlRecOn (motive := fun t : State => t.bankArb = s.bankArb) l f rfl
  fun t ht a _ => (h t a).trans ht

theorem arb_setArb (s : State) (i : ArbId) (a : Arbiter) : (s.setArb i a).arb i = a := by
  cases i
  · exact Table.get_set_self _ _ _ _
  · exact Table.get_set_self _ _ _ _
  · rfl

theorem arb_congr {s t : State} {h : HearthId} {b : Fin 16} (same : t.bankArb = s.bankArb) : t.arb (.bank h b) = s.arb (.bank h b) := by
  rw [State.arb, State.bankArbOf, same]
  rfl

section
variable {s : State} {i : ArbId} {x : Nat}

/-- A request at an arbiter where nobody waits. -/
theorem ask_first (waiting : (s.arb i).waiting = []) (inUse : (s.arb i).inUse = none) :
    s.ask i x = s.setArb i { s.arb i with waiting := [⟨x, s.classAt i x, 0, false, none⟩] } := by
  unfold State.ask
  dsimp only
  rw [Arbiter.waits, Arbiter.holds, waiting, inUse]
  rfl

theorem finishUse_idle (inUse : (s.arb i).inUse = none) : s.finishUse i = s := by
  unfold State.finishUse
  dsimp only
  rw [inUse]

/-- The only one that waits is granted next. -/
theorem pick_only {a : Arbiter} {w : Waiter} (cfg : Word) (only : a.waiting = [w]) : a.pick cfg = some w := by
  have main : a.mainPick cfg = some w := by
    unfold Arbiter.mainPick
    rw [only]
    simp [firstBy]
  have back : ∀ v, (a.revoked.bind fun i => a.waiting.find? fun w => w.idx == i) = some v → v = w := by
    intro v hv
    obtain ⟨i, -, found⟩ := Option.bind_eq_some_iff.1 hv
    have := List.mem_of_find?_eq_some found
    rw [only] at this
    exact List.mem_singleton.1 this
  unfold Arbiter.pick
  split
  next v hv => rw [back v hv]
  next => rw [main, only]; exact ite_self _

/-- The grant to the only one that waits at a bank: it uses the bank, and nobody waits. -/
theorem grant_only {h : HearthId} {b : Fin 16} {w : Waiter} (only : (s.arb (.bank h b)).waiting = [w])
    (inUse : (s.arb (.bank h b)).inUse = none) :
    ∃ a : Arbiter, (s.grant (.bank h b)).bankArb = (s.setArb (.bank h b) a).bankArb ∧ a.waiting = [] ∧ a.holds w.idx = true := by
  have none_ : (w :: ([] : List Waiter)).eraseP (fun v => v.idx == w.idx) = [] := by simp
  refine ⟨((s.arb (.bank h b)).granted w (fbEn (s.reg (arbCfgOf (.bank h b))))).hinted (s.reg (arbCfgOf (.bank h b))), ?_, ?_, ?_⟩
  · unfold State.grant
    dsimp only
    rw [inUse, Option.isSome_none, Bool.false_and, if_neg Bool.false_ne_true,
      pick_only (a := { s.arb (.bank h b) with inUse := none }) _ only]
    unfold State.afterGrant
    dsimp only
    rw [bankArb_foldl _ (fun s v => bankArb_starve s _ v)]
    unfold Arbiter.granted
    rw [only, none_]
    rfl
  · unfold Arbiter.hinted Arbiter.granted
    rw [only, none_]
    rfl
  · unfold Arbiter.holds Arbiter.hinted Arbiter.granted
    simp

end

/-! ## Uses of idle banks -/

section
variable {s t : State} {h : HearthId} {b : Fin 16}

theorem idle_arb (idle : s.BanksIdle) (h : HearthId) (b : Fin 16) :
    (s.arb (.bank h b)).inUse = none ∧ (s.arb (.bank h b)).waiting = [] := idle _

theorem bankArb_set_ne (s : State) (h : HearthId) (b : Fin 16) (a : Arbiter) {k : Nat} (other : k ≠ 16 * h.val + b.val) :
    (s.setArb (.bank h b) a).bankArb.get (fun _ => {}) k = s.bankArb.get (fun _ => {}) k := Table.get_set_ne _ _ _ other

/-- With the last bank set idle all are. -/
theorem idle_setArb {a : Arbiter} (idle : s.BanksIdle)
    (others : ∀ k, k ≠ 16 * h.val + b.val → t.bankArb.get (fun _ => {}) k = s.bankArb.get (fun _ => {}) k)
    (waiting : a.waiting = []) (inUse : a.inUse = none) : (t.setArb (.bank h b) a).BanksIdle := by
  intro k
  by_cases own : k = 16 * h.val + b.val
  · subst own
    rw [show (t.setArb (.bank h b) a).bankArb.get (fun _ => {}) (16 * h.val + b.val) = a from arb_setArb t (.bank h b) a]
    exact ⟨inUse, waiting⟩
  · rw [bankArb_set_ne _ _ _ _ own, others k own]
    exact idle k

/-- One use of an idle bank is granted at once. -/
theorem keepsIdle_use (idle : s.BanksIdle) (h : HearthId) (b : Fin 16) (x : Nat) : s.KeepsIdle (s.use (.bank h b) x) := by
  obtain ⟨inUse, waiting⟩ := idle_arb idle h b
  have asked := ask_first (x := x) waiting inUse
  have arbAsked : (s.ask (.bank h b) x).arb (.bank h b) =
      { s.arb (.bank h b) with waiting := [⟨x, s.classAt (.bank h b) x, 0, false, none⟩] } := by rw [asked, arb_setArb]
  have unused : ((s.ask (.bank h b) x).arb (.bank h b)).inUse = none := by rw [arbAsked]; exact inUse
  obtain ⟨a, set, empty, holds⟩ := grant_only (s := s.ask (.bank h b) x)
    (w := ⟨x, s.classAt (.bank h b) x, 0, false, none⟩) (by rw [arbAsked]) unused
  have granted : ((s.ask (.bank h b) x).grant (.bank h b)).arb (.bank h b) = a :=
    (arb_congr set).trans (arb_setArb _ _ _)
  have notYet : (s.arb (.bank h b)).holds x = false := by rw [Arbiter.holds, inUse]; rfl
  have wins : s.win (.bank h b) x 256 = (s.ask (.bank h b) x).grant (.bank h b) := by
    rw [State.win, notYet, if_neg Bool.false_ne_true, finishUse_idle unused, State.win, granted, holds, if_pos rfl]
  constructor
  · rw [State.use, wins, State.endUse, granted]
    refine idle_setArb idle (fun k other => ?_) empty rfl
    rw [set, bankArb_set_ne _ _ _ _ other, asked, bankArb_set_ne _ _ _ _ other]
  · rw [State.use, wins]
    exact ((untouched_ask s _ _).trans (untouched_grant _ _)).trans (untouched_endUse _ _)

theorem keepsIdle_useBanks (idle : s.BanksIdle) (x o n : Nat) : s.KeepsIdle (s.useBanks x o n) := by
  unfold State.useBanks
  refine List.foldlRecOn (motive := fun t : State => s.KeepsIdle t) _ _ ⟨idle, .refl s⟩ fun t ht k _ => ?_
  have used := keepsIdle_use ht.idle (Fin.ofNat 16 ((o + 32 * k) / 0x400000)) (Fin.ofNat 16 ((o + 32 * k) % 0x400000 / 0x40000)) x
  exact ⟨used.idle, ht.kept.trans used.kept⟩

end

/-! ## Port guards -/

section
variable {s b : State} {n : Nat} {v : Word}

/-- The two words of region `i` of a port guard. -/
theorem pgWord_base (n i : Nat) : pgWord n (2 * i) = Reg.PG_UCTL n + 0x20 + 8 * i := by unfold pgWord; omega
theorem pgWord_attr (n i : Nat) : pgWord n (2 * i + 1) = Reg.PG_UCTL n + 0x20 + 8 * i + 4 := by unfold pgWord; omega

/-- A region word whose write is not ignored (R155). -/
theorem pgStore_of {r : Nat} (sized : ¬(r % 2 = 1 ∧ (fld 13 8 v < 5 ∨ 32 < fld 13 8 v))) : b.pgStore n r v =
    if overlapsAny ((b.setReg (pgWord n r) (pgBits r v)).pgBase n) ((b.setReg (pgWord n r) (pgBits r v)).pgAttr n) 8 (r / 2)
    then b.setF (Fld.PG_PGSTAT_OVL n) 1 else b.setReg (pgWord n r) (pgBits r v) := if_neg sized

theorem pgStore_base (i : Nat) : b.pgStore n (2 * i) v =
    if overlapsAny ((b.setReg (Reg.PG_UCTL n + 0x20 + 8 * i) (v &&& 0xFFFFFFE0#32)).pgBase n)
      ((b.setReg (Reg.PG_UCTL n + 0x20 + 8 * i) (v &&& 0xFFFFFFE0#32)).pgAttr n) 8 i
    then b.setF (Fld.PG_PGSTAT_OVL n) 1 else b.setReg (Reg.PG_UCTL n + 0x20 + 8 * i) (v &&& 0xFFFFFFE0#32) := by
  have even : 2 * i % 2 = 0 := by omega
  have half : 2 * i / 2 = i := by omega
  rw [pgStore_of (by omega), half, pgWord_base, pgBits, if_pos even]

theorem pgStore_attr (i : Nat) (low : 5 ≤ fld 13 8 v) (high : fld 13 8 v ≤ 32) : b.pgStore n (2 * i + 1) v =
    if overlapsAny ((b.setReg (Reg.PG_UCTL n + 0x20 + 8 * i + 4) (v &&& 0x80003F03#32)).pgBase n)
      ((b.setReg (Reg.PG_UCTL n + 0x20 + 8 * i + 4) (v &&& 0x80003F03#32)).pgAttr n) 8 i
    then b.setF (Fld.PG_PGSTAT_OVL n) 1 else b.setReg (Reg.PG_UCTL n + 0x20 + 8 * i + 4) (v &&& 0x80003F03#32) := by
  have odd : ¬(2 * i + 1) % 2 = 0 := by omega
  have half : (2 * i + 1) / 2 = i := by omega
  rw [pgStore_of (by omega), half, pgWord_attr, pgBits, if_neg odd]

theorem exec_pgRegionWrite_base {m : Master} {n : PortId} {i : Fin 8} (may : s.Masters m.val (Reg.PG_UCTL n.val + 0x20 + 8 * i.val) b) :
    exec (.pgRegionWrite m n (Fin.ofNat 16 (2 * i.val)) v) s = .next (b.pgStore n.val (2 * i.val) v) := by
  have word : (Fin.ofNat 16 (2 * i.val)).val = 2 * i.val := Nat.mod_eq_of_lt (by omega)
  refine congrArg Host.Outcome.next ?_
  rw [word, pgWord_base]
  exact masterWrite_of may rfl

theorem exec_pgRegionWrite_attr {m : Master} {n : PortId} {i : Fin 8}
    (may : s.Masters m.val (Reg.PG_UCTL n.val + 0x20 + 8 * i.val + 4) b) :
    exec (.pgRegionWrite m n (Fin.ofNat 16 (2 * i.val + 1)) v) s = .next (b.pgStore n.val (2 * i.val + 1) v) := by
  have word : (Fin.ofNat 16 (2 * i.val + 1)).val = 2 * i.val + 1 := Nat.mod_eq_of_lt (by omega)
  refine congrArg Host.Outcome.next ?_
  rw [word, pgWord_attr]
  exact masterWrite_of may rfl

end

/-! ## Bursts -/

section
variable {s : State} {n : PortId} {wr : Bool} {a : Nat} {data : List Byte}

theorem exec_portBurst (some_ : data ≠ []) (fits : data.length ≤ 256) :
    exec (.portBurst n wr a data) s = .next (s.burst n.val wr a data).1 := by
  have sized : ¬(data.length = 0 ∨ 256 < data.length) := by
    rw [List.length_eq_zero_iff]
    exact not_or.2 ⟨some_, Nat.not_lt.2 fits⟩
  exact congrArg Host.Outcome.next (if_neg sized)

theorem regs_dropWriteBack (s : State) (h o n : Nat) : (s.dropWriteBack h o n).regs = s.regs := by
  unfold State.dropWriteBack
  dsimp only
  split <;> rfl

/-- What the banks hold after a write of a port, but for the write-backs that it overtakes (R162). -/
theorem busWrite_of (x o : Nat) (some_ : data ≠ []) :
    s.busWrite x o data = ((s.useBanks x o data.length).setHbytes o data).dropWriteBack (o / 0x400000) (o % 0x400000) data.length :=
  if_neg (by simpa using some_)

theorem burst_read (permits : s.pgPermits n.val a data.length false = true) (sound : s.hflawed (a - 0x80000000) data.length = false) :
    (s.burst n.val false a data).1 = (s.useBanks 37 (a - 0x80000000) data.length).incWrap (Reg.PG_XFER_CNT n.val) 1 := by
  unfold State.burst
  dsimp only
  rw [if_pos permits]
  show (if _ && s.hflawed (a - 0x80000000) data.length then _ else _ : State × Option (Nat × Nat)).1 = _
  rw [sound]
  rfl

theorem burst_flawed (permits : s.pgPermits n.val a data.length false = true) (flawed : s.hflawed (a - 0x80000000) data.length = true) :
    (s.burst n.val false a data).1 = s.useBanks 37 (a - 0x80000000) data.length := by
  unfold State.burst
  dsimp only
  rw [if_pos permits]
  show (if _ && s.hflawed (a - 0x80000000) data.length then _ else _ : State × Option (Nat × Nat)).1 = _
  rw [flawed]
  rfl

theorem burst_write (permits : s.pgPermits n.val a data.length true = true) :
    (s.burst n.val true a data).1 = (s.busWrite 37 (a - 0x80000000) data).incWrap (Reg.PG_XFER_CNT n.val) 1 := by
  unfold State.burst
  dsimp only
  rw [if_pos permits]
  rfl

theorem burst_refused (refused : s.pgPermits n.val a data.length wr = false) : (s.burst n.val wr a data).1 =
    ((s.setReg (Reg.PG_FAULT_ADDR n.val) (wd a)).setReg (Reg.PG_FAULT_INFO n.val)
      (wd (2 ^ 31 + 2 ^ 9 * b2n wr + data.length % 512))).incSat (Reg.PG_REFUSE_CNT n.val) := by
  unfold State.burst
  dsimp only
  rw [if_neg (Bool.eq_false_iff.1 refused)]

end

end Sys2Proof.Machine
end

section
/-! The statement about the port guards settled. -/

namespace Sys2Proof.Machine

/-- Settles O20: region words, PG_APPLY, and bursts permitted and refused (R153–R155, R157, R178). -/
theorem portGuardsCheckBursts : Obligations.PortGuardsCheckBursts := by
  refine ⟨?_, ?_⟩
  · intro s b m n i v
    refine ⟨fun may => ⟨fun apart => ?_, fun clash => ?_⟩, fun may => ⟨fun low high apart => ?_, fun low high clash => ?_, fun bad => ?_⟩,
      fun may => ⟨fun applies => ?_, fun keeps => ?_⟩⟩
    · rw [exec_pgRegionWrite_base may, pgStore_base]
      exact congrArg Host.Outcome.next (if_neg (Bool.eq_false_iff.1 apart))
    · rw [exec_pgRegionWrite_base may, pgStore_base]
      exact congrArg Host.Outcome.next (if_pos clash)
    · rw [exec_pgRegionWrite_attr may, pgStore_attr _ low high]
      exact congrArg Host.Outcome.next (if_neg (Bool.eq_false_iff.1 apart))
    · rw [exec_pgRegionWrite_attr may, pgStore_attr _ low high]
      exact congrArg Host.Outcome.next (if_pos clash)
    · rw [exec_pgRegionWrite_attr may]
      exact congrArg Host.Outcome.next (if_pos ⟨by omega, bad⟩)
    · exact congrArg Host.Outcome.next (masterWrite_of may (congrArg Resp.ok (if_pos applies)))
    · exact congrArg Host.Outcome.next (masterWrite_of may (congrArg Resp.ok (if_neg (Bool.eq_false_iff.1 keeps))))
  · intro s n wr a data some_ fits
    refine ⟨fun permits sound => ?_, fun permits flawed => ?_, fun refused => ?_, fun idle => ?_⟩
    · refine ⟨_, exec_portBurst some_ fits, ?_⟩
      cases wr
      case false =>
        rw [burst_read permits (sound.resolve_left Bool.false_ne_true)]
        exact ⟨rfl, rfl, rfl, State.reg_setReg _ _ _⟩
      case true =>
        have dropped := untouched_dropWriteBack ((s.useBanks 37 (a - 0x80000000) data.length).setHbytes (a - 0x80000000) data)
          ((a - 0x80000000) / 0x400000) ((a - 0x80000000) % 0x400000) data.length
        rw [burst_write permits, busWrite_of _ _ some_]
        refine ⟨dropped.pairs, dropped.nvm, dropped.hmem, (State.reg_setReg _ _ _).trans ?_⟩
        rw [reg_congr (regs_dropWriteBack _ _ _ _), reg_congr rfl]
        rfl
    · rw [exec_portBurst some_ fits, burst_flawed permits flawed]
    · rw [exec_portBurst some_ fits, burst_refused refused]
    · have all : s.BanksIdle := fun k => by simpa [State.bankArbOf] using idle 0 k
      have kept := (keepsIdle_useBanks all 37 (a - 0x80000000) data.length).kept
      exact ⟨kept.hmem, kept.pairs, kept.nvm⟩

end Sys2Proof.Machine
end

section
/-! SUPPORT. The sources of the Beat (R36, R39) and what a Beat leaves (R35, R38, R41). -/

namespace Sys2Proof.Machine

/-! ## Edges -/

/-- The distance `d` (100 nominal-rate cycles) lies in window k after the last good edge (R36). -/
def InWindow (d k : Nat) : Prop := 1 ≤ k ∧ k ≤ 4 ∧ (100 * k - 2) * xtalHz ≤ d ∧ d ≤ (100 * k + 2) * xtalHz

section
variable {nominal dt k : Nat}

/-- What `edgeAt` decides by: the number of the window whose start is the last before the edge, and the distance from that start. -/
theorem edgeAt_eq (nominal dt : Nat) : edgeAt nominal dt =
    if 1 ≤ (100 * dt * nominal + 2 * xtalHz) / (100 * xtalHz) ∧ (100 * dt * nominal + 2 * xtalHz) / (100 * xtalHz) ≤ 4 ∧
      (100 * dt * nominal + 2 * xtalHz) % (100 * xtalHz) ≤ 4 * xtalHz
    then ((100 * dt * nominal + 2 * xtalHz) / (100 * xtalHz), true)
    else ((100 * dt * nominal + 2 * xtalHz) / (100 * xtalHz) + 1, false) := rfl

theorem inWindow_iff {d : Nat} : InWindow d k ↔ (d + 2 * xtalHz) / (100 * xtalHz) = k ∧
    (1 ≤ (d + 2 * xtalHz) / (100 * xtalHz) ∧ (d + 2 * xtalHz) / (100 * xtalHz) ≤ 4 ∧ (d + 2 * xtalHz) % (100 * xtalHz) ≤ 4 * xtalHz) := by
  unfold InWindow xtalHz
  omega

theorem edgeAt_window (within : InWindow (100 * dt * nominal) k) : edgeAt nominal dt = (k, true) := by
  obtain ⟨number, conditions⟩ := inWindow_iff.1 within
  rw [edgeAt_eq, if_pos conditions, number]

theorem window_of_edgeAt (at_ : edgeAt nominal dt = (k, true)) : InWindow (100 * dt * nominal) k := by
  rw [edgeAt_eq] at at_
  split at at_
  next conditions => exact inWindow_iff.2 ⟨congrArg Prod.fst at_, conditions⟩
  next => exact absurd (congrArg Prod.snd at_) Bool.false_ne_true

/-- An edge outside the windows fails the period before whose window it comes. -/
theorem edgeAt_outside (outside : ∀ k, ¬InWindow (100 * dt * nominal) k) :
    edgeAt nominal dt = ((100 * dt * nominal + 2 * xtalHz) / (100 * xtalHz) + 1, false) := by
  rw [edgeAt_eq, if_neg]
  exact fun conditions => outside _ (inWindow_iff.2 ⟨rfl, conditions⟩)

/-- Before the end of window 4 the next window is one of the first five. -/
theorem window_early {d : Nat} (early : d < 402 * xtalHz) : (d + 2 * xtalHz) / (100 * xtalHz) + 1 ≤ 5 := by
  unfold xtalHz at *
  omega

end

/-! ## A pin's edge -/

section
variable {s : State} {t e : Nat}

theorem exec_pinEdge_disabled (off : s.portOn 126 = false) : exec (.pinEdge t) s = .next s :=
  congrArg Host.Outcome.next (if_neg (Bool.eq_false_iff.1 off))

theorem exec_pinEdge (on : s.portOn 126 = true) : exec (.pinEdge t) s = .next (s.sourceEdge .pin t) :=
  congrArg Host.Outcome.next (if_pos on)

theorem sourceEdge_unqualified {src : BeatSource} (unqualified : s.flag (qualOf src) = false) : s.sourceEdge src t = s.qualify src t := by
  unfold State.sourceEdge
  rw [unqualified]

theorem sourceEdge_qualified {src : BeatSource} (qualified : s.flag (qualOf src) = true) (good : (s.measOf src).lastGood = some e) :
    s.sourceEdge src t = s.trackEdge src t e := by
  unfold State.sourceEdge
  rw [qualified, good]

/-- The state with the pin's measurement set. -/
def State.pinned (s : State) (x : SourceMeas) : State := { s with beat := { s.beat with pin := x } }

/-- The periods in a row that an unqualified pin counts after an edge. -/
def State.pinGood (s : State) (t : Nat) : Nat :=
  match s.beat.pin.lastEdge with
  | some e => if edgeAt s.nominal (t - e) = (1, true) then s.beat.pin.good + 1 else 0
  | none => 0

theorem pinGood_first (first : s.beat.pin.lastEdge = none) : s.pinGood t = 0 := by
  unfold State.pinGood
  rw [first]

theorem pinGood_window (last : s.beat.pin.lastEdge = some e) (within : InWindow (100 * (t - e) * s.nominal) 1) :
    s.pinGood t = s.beat.pin.good + 1 := by
  unfold State.pinGood
  rw [last]
  exact if_pos (edgeAt_window within)

theorem pinGood_outside (last : s.beat.pin.lastEdge = some e) (outside : ¬InWindow (100 * (t - e) * s.nominal) 1) :
    s.pinGood t = 0 := by
  unfold State.pinGood
  rw [last]
  exact if_neg fun at_ => outside (window_of_edgeAt at_)

theorem qualify_counts (few : s.pinGood t < 16) :
    s.qualify .pin t = s.pinned { s.beat.pin with lastEdge := some t, good := s.pinGood t } := if_pos few

theorem qualify_qualifies (all : s.pinGood t = 16) (last : s.beat.pin.lastEdge = some e) :
    s.qualify .pin t = ((s.pinned { lastGood := some t, lastEdge := some t, failed := [], good := 16, period := t - e }).setF
      Fld.BEAT_STATUS_PIN_QUAL 1).reselect := by
  have reached : ¬s.pinGood t < 16 := by omega
  refine (if_neg reached).trans ?_
  show ((s.pinned ⟨some t, some t, [], s.pinGood t, t - s.beat.pin.lastEdge.getD t⟩).setF Fld.BEAT_STATUS_PIN_QUAL 1).reselect = _
  rw [all, last]
  rfl

theorem exec_pinEdge_counts {n : Nat} (on : s.portOn 126 = true) (unqualified : s.flag Fld.BEAT_STATUS_PIN_QUAL = false)
    (counted : s.pinGood t = n) (few : n < 16) :
    exec (.pinEdge t) s = .next (s.pinned { s.beat.pin with lastEdge := some t, good := n }) := by
  subst counted
  rw [exec_pinEdge on, sourceEdge_unqualified (src := .pin) unqualified, qualify_counts few]

theorem exec_pinEdge_qualifies (on : s.portOn 126 = true) (unqualified : s.flag Fld.BEAT_STATUS_PIN_QUAL = false)
    (all : s.pinGood t = 16) (last : s.beat.pin.lastEdge = some e) : exec (.pinEdge t) s = .next
      (((s.pinned { lastGood := some t, lastEdge := some t, failed := [], good := 16, period := t - e }).setF
        Fld.BEAT_STATUS_PIN_QUAL 1).reselect) := by
  rw [exec_pinEdge on, sourceEdge_unqualified (src := .pin) unqualified, qualify_qualifies all last]

/-- A good edge of a qualified pin (R36). -/
theorem trackEdge_good {k : Nat} (within : InWindow (100 * (t - e) * s.nominal) k) (fresh : k ∉ s.beat.pin.failed) :
    s.trackEdge .pin t e =
      let u := s.pinned { s.beat.pin with lastGood := some t, lastEdge := some t, failed := [], period := (t - e) / k }
      if s.getF Fld.BEAT_STATUS_ACTIVE = 0 then ({ u with beat := { u.beat with period := (t - e) / k } } : State).syncMeas else u := by
  have not_ : (s.measOf .pin).failed.contains k = false := by simpa [State.measOf] using fresh
  unfold State.trackEdge
  dsimp only
  rw [edgeAt_window within, not_]
  rfl

theorem trackEdge_outside {w : Nat} (at_ : edgeAt s.nominal (t - e) = (w, false)) (kept : s.lossDue .pin t = false) :
    s.trackEdge .pin t e = s.pinned { s.beat.pin with lastEdge := some t, failed := w :: s.beat.pin.failed } := by
  unfold State.trackEdge
  dsimp only
  rw [at_, kept]
  rfl

theorem lossDue_of {src : BeatSource} (qualified : s.flag (qualOf src) = true) (good : (s.measOf src).lastGood = some e) :
    s.lossDue src t = decide (402 * xtalHz ≤ 100 * (t - e) * s.nominal) := by
  unfold State.lossDue
  rw [qualified, good]

theorem lossDue_not {src : BeatSource} (kept : s.flag (qualOf src) = false ∨ (s.measOf src).lastGood = none) :
    s.lossDue src t = false := by
  unfold State.lossDue
  rcases kept with unqualified | none_
  · rw [unqualified]
  · rw [none_]
    cases s.flag (qualOf src) <;> rfl

theorem exec_sourceLost {src : BeatSource} (due : s.lossDue src t = true) : exec (.sourceLost src t) s = .next (s.loseSource src) :=
  congrArg Host.Outcome.next (if_pos due)

theorem exec_sourceLost_kept {src : BeatSource} (kept : s.lossDue src t = false) : exec (.sourceLost src t) s = .next s :=
  congrArg Host.Outcome.next (if_neg (Bool.eq_false_iff.1 kept))

end

/-! ## The end of a Beat -/

/-- What a Beat without other work leaves: memories, pairs, the ledger and the work waiting, and the count once it has been made. -/
structure State.KeepsBlock (s t : State) : Prop where
  kept : s.Untouched t
  ledger : t.ledger = s.ledger
  intake : t.intake = s.intake
  refresh : t.refresh = s.refresh
  count : t.beat.count = s.beat.count
  lastT : t.beat.lastT = s.beat.lastT

theorem State.KeepsBlock.refl (s : State) : s.KeepsBlock s := ⟨.refl s, rfl, rfl, rfl, rfl, rfl⟩

theorem State.KeepsBlock.trans {s t u : State} (a : s.KeepsBlock t) (b : t.KeepsBlock u) : s.KeepsBlock u :=
  ⟨a.kept.trans b.kept, b.ledger.trans a.ledger, b.intake.trans a.intake, b.refresh.trans a.refresh, b.count.trans a.count,
    b.lastT.trans a.lastT⟩

theorem keepsBlock_setReg (s : State) (o : Nat) (v : Word) : s.KeepsBlock (s.setReg o v) := ⟨⟨rfl, rfl, rfl⟩, rfl, rfl, rfl, rfl, rfl⟩

theorem keepsBlock_beat (s : State) {x : BeatUnit} (count : x.count = s.beat.count) (lastT : x.lastT = s.beat.lastT) :
    s.KeepsBlock { s with beat := x } := ⟨⟨rfl, rfl, rfl⟩, rfl, rfl, rfl, count, lastT⟩

theorem keepsBlock_foldl {α : Type} (f : State → α → State) (h : ∀ (s : State) a, s.KeepsBlock (f s a)) (l : List α) (s : State) :
    s.KeepsBlock (l.foldl f s) := List.foldlRecOn l f (.refl s) fun t ht a _ => ht.trans (h t a)

theorem keepsBlock_freeStep (s : State) (t : Nat) : s.KeepsBlock (s.freeStep t) := by
  unfold State.freeStep
  split
  · exact keepsBlock_setReg s _ _
  · split
    · split
      · exact (keepsBlock_beat s (x := { s.beat with aligning := none }) rfl rfl).trans (keepsBlock_setReg _ _ _)
      · exact .refl s
    · exact .refl s

/-- What a Beat does before it counts. -/
theorem keepsBlock_beforeCount (s : State) (t : Nat) : s.KeepsBlock ((if s.trusted then s else s.incSat Reg.BEAT_FREE_BEATS).freeStep t) := by
  refine State.KeepsBlock.trans ?_ (keepsBlock_freeStep _ t)
  split
  · exact .refl s
  · exact keepsBlock_setReg s _ _

/-- A Beat counts one and keeps its end; of the block it leaves the rest as it was. -/
theorem countBeat_counted (s : State) (t : Nat) :
    ({ s with beat := { s.beat with count := s.beat.count + 1, lastT := t } } : State).KeepsBlock (s.countBeat t) := by
  obtain ⟨kept, ledger, intake, refresh, count, lastT⟩ := keepsBlock_beforeCount s t
  have counted : ({ s with beat := { s.beat with count := s.beat.count + 1, lastT := t } } : State).KeepsBlock (s.countedBeat t) :=
    ⟨⟨kept.pairs, kept.hmem, kept.nvm⟩, ledger, intake, refresh, congrArg (· + 1) count, rfl⟩
  rw [countBeat_eq]
  refine counted.trans (State.KeepsBlock.trans ?_ (keepsBlock_setReg _ _ _))
  dsimp only
  split
  · exact keepsBlock_beat _ rfl rfl
  · exact .refl _

theorem keepsBlock_debugBeat (s : State) : s.KeepsBlock s.debugBeat := by
  unfold State.debugBeat
  dsimp only
  split
  · exact .refl s
  · exact keepsBlock_setReg s _ _

theorem keepsBlock_bootMs (s : State) (t : Nat) : s.KeepsBlock (s.bootMs t) := by
  unfold State.bootMs
  split
  · exact keepsBlock_setReg s _ _
  · exact .refl s

theorem keepsBlock_rngWindows (s : State) : s.KeepsBlock s.rngWindows :=
  keepsBlock_foldl _ (fun t _ => State.KeepsBlock.trans (t := (t.freshBytes 4).2) ⟨⟨rfl, rfl, rfl⟩, rfl, rfl, rfl, rfl, rfl⟩
    (keepsBlock_setReg _ _ _)) _ s

theorem keepsBlock_sendMarks (s : State) (but : Nat) : s.KeepsBlock (s.sendMarks but) :=
  keepsBlock_foldl (fun t k => t.emit (.beatMark k)) (fun _ _ => ⟨⟨rfl, rfl, rfl⟩, rfl, rfl, rfl, rfl, rfl⟩) _ s

theorem exec_beatTick_counts {s : State} {t : Nat} (inRange : s.beatInRange t = true) (noneWaits : s.intake = [])
    (idle : s.refresh = none) : ∃ u, exec (.beatTick t) s = .next u ∧
      ({ s with beat := { s.beat with count := s.beat.count + 1, lastT := t } } : State).KeepsBlock u := by
  have kept : ({ s with beat := { s.beat with count := s.beat.count + 1, lastT := t } } : State).KeepsBlock
      (((s.countBeat t).debugBeat).bootMs t).rngWindows :=
    (((countBeat_counted s t).trans (keepsBlock_debugBeat _)).trans (keepsBlock_bootMs _ t)).trans (keepsBlock_rngWindows _)
  refine ⟨_, rfl, ?_⟩
  simp only [inRange, Bool.not_true, Bool.false_eq_true, if_false, refreshBeat_idle (kept.refresh.trans idle),
    takeIntake_nil (kept.intake.trans noneWaits)]
  split
  · exact kept.trans (keepsBlock_sendMarks _ 8)
  · exact kept

/-- No Beat ends before the last one ended, or outside the lengths of R35. -/
theorem beatInRange_outside {s : State} {t : Nat} (outside : t < s.beat.lastT ∨ 100 * (t - s.beat.lastT) * s.nominal < 98 * xtalHz ∨
    102 * xtalHz < 100 * (t - s.beat.lastT) * s.nominal) : s.beatInRange t = false := by
  unfold State.beatInRange State.lengthOk
  rcases outside with before | short | long
  · simp [Nat.not_le.2 before]
  · simp [Nat.not_le.2 short]
  · simp [Nat.not_le.2 long]

/-- In holdover a Beat lasts the last measured period (R38, log 98). -/
theorem beatInRange_holdover {s : State} {t : Nat} (after : s.beat.lastT ≤ t) (admitted : s.lengthOk s.beat.period = true)
    (holdover : s.beat.holdover = true) (aligned : s.beat.aligning = none) :
    s.beatInRange t = true ↔ t - s.beat.lastT = s.beat.period := by
  unfold State.beatInRange
  dsimp only
  rw [admitted, holdover, aligned]
  simp only [after, decide_true, Bool.true_and, Bool.not_true, Bool.false_or, Option.isNone_none, Bool.true_or, Bool.and_true,
    Bool.and_eq_true, beq_iff_eq]
  exact ⟨fun ⟨_, same⟩ => same, fun same => ⟨same ▸ admitted, same⟩⟩

end Sys2Proof.Machine
end

section
/-! The statement about the Beat settled. -/

namespace Sys2Proof.Machine

/-- Settles O16: the pin's edges, the loss of a source, and the end of a Beat (R35, R36, R38, R39, R41). -/
theorem beatSourcesAndTheCounter : Obligations.BeatSourcesAndTheCounter := by
  refine ⟨?_, fun s t => ⟨fun inRange noneWaits idle => ?_, fun outside => ?_, beatInRange_outside, beatInRange_holdover⟩⟩
  · intro s t e k
    refine ⟨exec_pinEdge_disabled, fun on unqualified => ⟨fun first => ?_, fun last within few => ?_, fun last within all => ?_,
      fun last outside => ?_⟩, fun on qualified good => ⟨fun within fresh => ?_, fun outside early => ?_⟩, fun src qualified good late => ?_,
      fun src kept => ?_⟩
    · exact exec_pinEdge_counts on unqualified (pinGood_first first) (by decide)
    · exact exec_pinEdge_counts on unqualified (pinGood_window last within) (Nat.succ_lt_succ few)
    · exact exec_pinEdge_qualifies on unqualified ((pinGood_window last within).trans (congrArg (· + 1) all)) last
    · exact exec_pinEdge_counts on unqualified (pinGood_outside last outside) (by decide)
    · rw [exec_pinEdge on, sourceEdge_qualified (src := .pin) qualified good]
      exact congrArg Host.Outcome.next (trackEdge_good within fresh)
    · have kept : s.lossDue .pin t = false := (lossDue_of (src := .pin) qualified good).trans (decide_eq_false (Nat.not_le.2 early))
      refine ⟨(100 * (t - e) * s.nominal + 2 * xtalHz) / (100 * xtalHz) + 1, window_early early, ?_⟩
      rw [exec_pinEdge on, sourceEdge_qualified (src := .pin) qualified good, trackEdge_outside (edgeAt_outside outside) kept]
      rfl
    · rw [exec_sourceLost ((lossDue_of qualified good).trans (decide_eq_true late))]
      rfl
    · refine exec_sourceLost_kept ?_
      rcases kept with unqualified | none_ | ⟨good, early⟩
      · exact lossDue_not (.inl unqualified)
      · exact lossDue_not (.inr none_)
      · cases qualified : s.flag (qualOf src)
        · exact lossDue_not (.inl qualified)
        · exact (lossDue_of qualified good).trans (decide_eq_false (Nat.not_le.2 early))
  · obtain ⟨u, ends, kept⟩ := exec_beatTick_counts inRange noneWaits idle
    exact ⟨u, ends, kept.count, kept.lastT, kept.kept.pairs, kept.kept.hmem, kept.kept.nvm, kept.ledger⟩
  · exact congrArg Host.Outcome.next (if_pos (by rw [outside]; rfl))

end Sys2Proof.Machine
end

section
/-! SUPPORT. The event log's frame (R483, R487) and the grants of an arbiter (R178–R185). -/

namespace Sys2Proof.Machine

/-! ## Entries of the event log -/

/-- State t is s but for the event log, what is offered to the management serial port, and the registers of both. -/
structure State.Logs (s t : State) : Prop where
  rest : ({ t with regs := s.regs, log := s.log, mgtQueue := s.mgtQueue, mgtSending := s.mgtSending } : State) = s
  reg : ∀ o, o ≠ Reg.SYS_LOG_STAT → o ≠ Reg.SYS_LOG_OVF → o ≠ Reg.PG_UCTL 125 → t.reg o = s.reg o

section
variable {s t u : State}

theorem State.Logs.refl (s : State) : s.Logs s := ⟨rfl, fun _ _ _ _ => rfl⟩

theorem State.Logs.trans (a : s.Logs t) (b : t.Logs u) : s.Logs u := by
  refine ⟨?_, fun o stat ovf port => (b.reg o stat ovf port).trans (a.reg o stat ovf port)⟩
  have first := a.rest
  have second := b.rest
  cases s; cases t; cases u
  simp_all

theorem State.Logs.arb (h : s.Logs t) (i : ArbId) : t.arb i = s.arb i := by
  have same := congrArg (fun x : State => x.arb i) h.rest
  cases i <;> exact same

theorem State.Logs.untouched (h : s.Logs t) : s.Untouched t := by
  have pairs := congrArg State.pairs h.rest
  have hmem := congrArg State.hmem h.rest
  have nvm := congrArg State.nvm h.rest
  exact ⟨pairs, hmem, nvm⟩

theorem logs_foldl {α : Type} (f : State → α → State) (h : ∀ (s : State) a, s.Logs (f s a)) (l : List α) (s : State) :
    s.Logs (l.foldl f s) := List.foldlRecOn l f (.refl s) fun t ht a _ => ht.trans (h t a)

end

theorem logs_entered (s : State) (e : LogEntry) (full lost : Bool) : s.Logs (s.entered e full lost) := by
  have next : ∀ o, o ≠ Reg.SYS_LOG_STAT →
      (({ s with log := (if full then s.log.drop 1 else s.log) ++ [e] } : State).setF Fld.SYS_LOG_STAT_NEXT ((e.seq + 1) % 0x10000)).reg o =
        s.reg o := fun o stat => State.reg_setReg_ne _ _ stat
  cases lost
  · exact ⟨rfl, fun o stat _ _ => next o stat⟩
  · exact ⟨rfl, fun o stat ovf _ => (State.reg_setReg_ne _ _ ovf).trans (next o stat)⟩

theorem logs_undrain125 (s : State) : s.Logs s.undrain125 := by
  unfold State.undrain125
  dsimp only
  split
  · exact ⟨rfl, fun o _ _ port => (State.reg_setReg_ne _ _ port).trans (State.reg_setReg_ne _ _ port)⟩
  · exact ⟨rfl, fun o _ _ port => State.reg_setReg_ne _ _ port⟩

theorem logs_offered (s : State) (e : LogEntry) : s.Logs (s.offered e) := by
  unfold State.offered
  dsimp only
  split
  · split
    · split
      · exact ⟨rfl, fun _ _ _ _ => rfl⟩
      · exact (logs_undrain125 s).trans ⟨rfl, fun _ _ _ _ => rfl⟩
    · exact ⟨rfl, fun _ _ _ _ => rfl⟩
  · exact .refl s

/-- An event registered changes the log and its registers alone. -/
theorem logs_logEvent (s : State) (src code unit : Nat) (x y : Word) (n : Nat) : s.Logs (s.logEvent src code unit x y n) := by
  obtain ⟨e, full, lost, is⟩ := logRaw_eq s s.beatNow (b2n s.trusted) src code unit x y n
  rw [State.logEvent, is]
  exact (logs_entered s e full lost).trans (logs_offered _ e)

/-! ## Grants -/

/-- The registers of an arbiter are none of the event log's. -/
theorem arbStat_apart (i : ArbId) : arbStatOf i ≠ Reg.SYS_LOG_STAT ∧ arbStatOf i ≠ Reg.SYS_LOG_OVF ∧ arbStatOf i ≠ Reg.PG_UCTL 125 ∧
    arbStatOf i ≠ arbGrantsOf i := by
  cases i
  case pke h => have := h.isLt; unfold arbStatOf arbGrantsOf; simp only [Reg.HRT_PKE_ARB_STAT, Reg.HRT_PKE_ARB_GRANTS, Reg.PG_UCTL, Reg.SYS_LOG_STAT, Reg.SYS_LOG_OVF]; omega
  case bank h b => have := h.isLt; unfold arbStatOf arbGrantsOf; simp only [Reg.HRT_BANK_ARB_STAT, Reg.HRT_BANK_ARB_GRANTS, Reg.PG_UCTL, Reg.SYS_LOG_STAT, Reg.SYS_LOG_OVF]; omega
  case nvm => decide

section
variable {s : State} {i : ArbId}

/-- The starvation flag of a request (R182) leaves the arbiters, the memories, and the bit that records a revocation (R189). -/
theorem arb_starve (s : State) (i : ArbId) (w : Waiter) (k : ArbId) : (s.starve i w).arb k = s.arb k := by
  unfold State.starve
  dsimp only
  split
  · exact (logs_logEvent _ _ _ _ _ _ _).arb k
  · exact ((logs_logEvent _ _ _ _ _ _ _).arb k).trans (by cases k <;> rfl)

theorem revoked_starve (s : State) (i : ArbId) (w : Waiter) :
    bit 29 ((s.starve i w).reg (arbStatOf i)) = bit 29 (s.reg (arbStatOf i)) := by
  obtain ⟨stat, ovf, port, -⟩ := arbStat_apart i
  unfold State.starve
  dsimp only
  rw [(logs_logEvent _ _ _ _ _ _ _).reg _ stat ovf port]
  split
  · rfl
  · rw [State.reg_setReg, bit_setFld_ne _ _ (by decide) (.inr (by decide)), bit_setFld_ne _ _ (by decide) (.inr (by decide)),
      bit_setFld_ne _ _ (by decide) (.inl (by decide))]

/-- The arbiter after a grant made as `a`: its waiting requests have their hints and flags. -/
theorem arb_afterGrant (s : State) (i : ArbId) (a : Arbiter) (n : Nat) :
    (s.afterGrant i a n).arb i = ({ a with waiting := a.waiting.map (fun v =>
      { v with flagged := v.flagged || decide (starveLimit (s.reg (arbCfgOf i)) < v.waited) }) } : Arbiter).hinted (s.reg (arbCfgOf i)) := by
  unfold State.afterGrant
  refine (List.foldlRecOn (motive := fun t : State => t.arb i = _) _ _ ?_ fun t ht v _ => (arb_starve t i v i).trans ht)
  exact arb_setArb s i _

theorem revoked_afterGrant (s : State) (i : ArbId) (a : Arbiter) (n : Nat) :
    bit 29 ((s.afterGrant i a n).reg (arbStatOf i)) = bit 29 (s.reg (arbStatOf i)) := by
  obtain ⟨-, -, -, grants⟩ := arbStat_apart i
  unfold State.afterGrant
  refine (List.foldlRecOn (motive := fun t : State => bit 29 (t.reg (arbStatOf i)) = _) _ _ ?_
    fun t ht v _ => (revoked_starve t i v).trans ht)
  dsimp only
  rw [State.reg_setReg, bit_setFld_ne _ _ (by decide) (.inr (by decide))]
  refine congrArg (bit 29) ((State.reg_setReg_ne _ _ grants).trans ?_)
  cases i <;> rfl

theorem map_idx_hinted (a : Arbiter) (cfg : Word) : (a.hinted cfg).waiting.map (·.idx) = a.waiting.map (·.idx) := by
  simp [Arbiter.hinted, Function.comp_def]
theorem map_waited_hinted (a : Arbiter) (cfg : Word) : (a.hinted cfg).waiting.map (·.waited) = a.waiting.map (·.waited) := by
  simp [Arbiter.hinted, Function.comp_def]

/-- What an arbiter is after a grant made as `a`. -/
theorem afterGrant_arb {t : State} {a : Arbiter} {n : Nat} (made : t = s.afterGrant i a n) : (t.arb i).inUse = a.inUse ∧ (t.arb i).last = a.last ∧
    (t.arb i).emergency = a.emergency ∧ (t.arb i).revoked = a.revoked ∧ (t.arb i).waiting.map (·.idx) = a.waiting.map (·.idx) ∧
    (t.arb i).waiting.map (·.waited) = a.waiting.map (·.waited) := by
  rw [made, arb_afterGrant]
  refine ⟨rfl, rfl, rfl, rfl, ?_, ?_⟩
  · rw [map_idx_hinted]
    simp [Function.comp_def]
  · rw [map_waited_hinted]
    simp [Function.comp_def]

/-- A grant of a resource that nobody uses. -/
theorem grant_free {w : Waiter} (free : (s.arb i).inUse = none) (picked : (s.arb i).pick (s.reg (arbCfgOf i)) = some w) :
    s.grant i = s.afterGrant i ((s.arb i).granted w (fbEn (s.reg (arbCfgOf i)))) w.waited := by
  have same : ({ s.arb i with inUse := none } : Arbiter) = s.arb i := by rw [← free]
  unfold State.grant
  dsimp only
  rw [same, free, picked]
  rfl

/-- The end of an emergency use (R185). -/
theorem finishUse_emergency (inUse : (s.arb i).inUse.isSome = true) (emergency : (s.arb i).emergency = true) :
    s.finishUse i = s.setArb i { s.arb i with inUse := none, emergency := false } := by
  obtain ⟨k, used⟩ := Option.isSome_iff_exists.1 inUse
  unfold State.finishUse
  dsimp only
  rw [used, emergency]
  rfl

/-- The end of a use of a bank by a pair whose read waits for it (R179). -/
theorem finishUse_read {h : HearthId} {b : Fin 16} {k : Nat} {r : PendingRead} (used : (s.arb (.bank h b)).inUse = some k) (pair_ : k < 32)
    (plain : (s.arb (.bank h b)).emergency = false) (waits : r ∈ s.reads) (own : r.pair = 32 * h.val + k) (open_ : r.data = none)
    (hearth : spaceOf r.line = .hearth) (here : hearthBank r.line = b.val) : s.finishUse (.bank h b) =
      ((s.setArb (.bank h b) { s.arb (.bank h b) with inUse := none, emergency := false }).latchRead (32 * h.val + k)).askStores
        (32 * h.val + k) := by
  have found : (s.reads.any fun r => r.pair == 32 * h.val + k && r.data.isNone &&
      (spaceOf r.line == .hearth && hearthBank r.line == b.val)) = true :=
    List.any_eq_true.2 ⟨r, waits, by simp [own, open_, hearth, here]⟩
  unfold State.finishUse
  dsimp only
  rw [used, plain]
  dsimp only
  rw [if_neg Bool.false_ne_true, if_neg (by omega)]
  exact if_pos found

/-- The end of a use of the NVM controller by a read port. -/
theorem finishUse_port {k : Nat} {r : PendingRead} (used : (s.arb .nvm).inUse = some k) (port : k < 16)
    (plain : (s.arb .nvm).emergency = false) (head : s.portHead k = some r) : s.finishUse .nvm =
      ((s.setArb .nvm { s.arb .nvm with inUse := none, emergency := false }).latchRead r.pair).presentPort k := by
  have head' : (s.setArb .nvm { s.arb .nvm with inUse := none, emergency := false }).portHead k = some r := head
  unfold State.finishUse
  dsimp only
  rw [used, plain]
  dsimp only
  rw [if_neg Bool.false_ne_true, if_neg (by omega), head']

end

/-! ## ARB_GRANT -/

section
variable {s : State} {h : HearthId}

theorem exec_arbGrant {a : ArbId} (noEngine : ∀ h, a ≠ .pke h) : exec (.arbGrant a) s = .next ((s.finishUse a).grant a) := by
  cases a
  case pke h => exact absurd rfl (noEngine h)
  case bank h b => rfl
  case nvm => rfl

theorem exec_arbGrant_closed (closed : s.pkeClosed h.val = true) : exec (.arbGrant (.pke h)) s =
    .next (if (s.pkeOf h.val).run.isNone then s.flushPke h.val else s) := congrArg Host.Outcome.next (if_pos closed)

theorem exec_arbGrant_used (open_ : s.pkeClosed h.val = false) (used : (s.pkeArbOf h.val).inUse.isSome = true) :
    exec (.arbGrant (.pke h)) s = .next s :=
  congrArg Host.Outcome.next ((if_neg (Bool.eq_false_iff.1 open_)).trans (if_pos used))

theorem exec_arbGrant_open (open_ : s.pkeClosed h.val = false) (free : (s.pkeArbOf h.val).inUse = none) :
    exec (.arbGrant (.pke h)) s = .next (match ((s.grant (.pke h)).pkeArbOf h.val).inUse with
      | some idx => (s.grant (.pke h)).pkeStart h.val idx
      | none => s.grant (.pke h)) := by
  have unused : ¬(s.pkeArbOf h.val).inUse.isSome = true := by rw [free]; exact Bool.false_ne_true
  exact congrArg Host.Outcome.next ((if_neg (Bool.eq_false_iff.1 open_)).trans (if_neg unused))

/-- The next grant at a resource that is free. -/
theorem exec_arbGrant_picks {a : ArbId} {w : Waiter} (noEngine : ∀ h, a ≠ .pke h) (free : (s.arb a).inUse = none)
    (picked : (s.arb a).pick (s.reg (arbCfgOf a)) = some w) : exec (.arbGrant a) s =
      .next (s.afterGrant a ((s.arb a).granted w (fbEn (s.reg (arbCfgOf a)))) w.waited) := by
  rw [exec_arbGrant noEngine, finishUse_idle free, grant_free free picked]

end

/-! ## Emergency use and ARB_CFG -/

/-- Who has an emergency use of what (R178, R185, R350). -/
def State.mayInterrupt (s : State) (a : ArbId) (r : EmergencyUser) : Bool :=
  match a, r with
  | .pke _, _ => false
  | .bank _ _, .nvmRefresh => false
  | .nvm, .nvmRefresh => s.refresh.isSome
  | _, .debugHalt => s.haltRight

section
variable {s b : State} {a : ArbId} {r : EmergencyUser} {v : Word}

theorem exec_emergencyGrant (s : State) (a : ArbId) (r : EmergencyUser) :
    exec (.emergencyGrant a r) s = .next (if s.mayInterrupt a r then s.takeEmergency a else s) := by
  cases a <;> cases r <;> rfl

theorem mayInterrupt_iff : s.mayInterrupt a r = true ↔ (a = .nvm ∧ r = .nvmRefresh ∧ s.refresh.isSome = true) ∨
    ((a = .nvm ∨ ∃ h b, a = .bank h b) ∧ r = .debugHalt ∧ s.haltRight = true) := by
  cases a <;> cases r <;> simp [State.mayInterrupt]

/-- The arbiter that an emergency use makes: it has taken back the grant in use, whose requester waits first (R185). -/
def State.interrupted (s : State) (a : ArbId) : Arbiter :=
  { s.arb a with
    inUse := some 63, emergency := true, revoked := (s.arb a).inUse.or (s.arb a).revoked
    waiting := (s.arb a).inUse.toList.map (fun j => (⟨j, s.classAt a j, 0, false, none⟩ : Waiter)) ++
      (s.arb a).waiting.map (fun v => { v with waited := v.waited + 1 }) }

/-- REVOKED set where a grant in use is taken back. -/
def State.revoking (s : State) (a : ArbId) : State :=
  if (s.arb a).inUse.isSome then s.setReg (arbStatOf a) (setFld 29 29 1 (s.reg (arbStatOf a))) else s

theorem takeEmergency_plain (plain : (s.arb a).emergency = false) :
    s.takeEmergency a = (s.revoking a).afterGrant a (s.interrupted a) 0 := by
  unfold State.takeEmergency
  dsimp only
  rw [plain, if_neg Bool.false_ne_true]
  rfl

theorem untouched_revoking (s : State) (a : ArbId) : s.Untouched (s.revoking a) := by
  unfold State.revoking
  split
  · exact untouched_setReg s _ _
  · exact .refl s

theorem revoked_revoking (held : (s.arb a).inUse.isSome = true) : bit 29 ((s.revoking a).reg (arbStatOf a)) = true := by
  rw [State.revoking, if_pos held, State.reg_setReg, bit_setFld_self _ _ (by decide)]
  rfl

theorem arbCfg_ignored (outside : fld 30 24 v < 4 ∨ 64 < fld 30 24 v) : b.arbCfg a v = b := if_pos outside

/-- The bits of ARB_CFG that a write stores. -/
theorem arbCfgBits (v : Word) : v &&& ~~~(fieldMask 11 8) = v &&& 0xFFFFF0FF#32 := rfl

theorem arbCfg_kept (low : 4 ≤ fld 30 24 v) (high : fld 30 24 v ≤ 64) (on : bit 31 (b.reg (arbCfgOf a)) = true) :
    b.arbCfg a v = b.setReg (arbCfgOf a) (v &&& 0xFFFFF0FF#32) := by
  unfold State.arbCfg fbN
  rw [if_neg (not_or.2 ⟨Nat.not_lt.2 low, Nat.not_lt.2 high⟩)]
  dsimp only
  rw [fbEn, on]
  rfl

/-- The counting of grants begins anew (R181). -/
def State.freshFallback (s : State) (a : ArbId) : State :=
  match a with
  | .bank h _ => (List.range 16).foldl (fun s b => s.setBankArb h.val b { s.bankArbOf h.val b with fallback := 0 }) s
  | _ => s.setArb a { s.arb a with fallback := 0 }

theorem arbCfg_fresh (low : 4 ≤ fld 30 24 v) (high : fld 30 24 v ≤ 64) (off : bit 31 (b.reg (arbCfgOf a)) = false) :
    b.arbCfg a v = (b.setReg (arbCfgOf a) (v &&& 0xFFFFF0FF#32)).freshFallback a := by
  unfold State.arbCfg fbN
  rw [if_neg (not_or.2 ⟨Nat.not_lt.2 low, Nat.not_lt.2 high⟩)]
  dsimp only
  rw [fbEn, off]
  cases a <;> rfl

theorem exec_arbCfgWrite {m : Master} (may : s.Masters m.val (arbCfgOf a) b) :
    exec (.arbCfgWrite m a v) s = .next (b.arbCfg a v) := congrArg Host.Outcome.next (masterWrite_of may rfl)

end

end Sys2Proof.Machine
end

section
/-! The statement about the arbiters settled. -/

namespace Sys2Proof.Machine

/-- Settles O24: the next grant, the ends of uses, emergency use and ARB_CFG (R178–R185, R188). -/
theorem arbitersGrantAndAreRevoked : Obligations.ArbitersGrantAndAreRevoked := by
  refine ⟨⟨?_, ?_⟩, ?_, ?_⟩
  · intro s a noEngine
    refine ⟨exec_arbGrant noEngine, fun w free picked _ => ?_, finishUse_emergency, fun h b k r is used pair_ plain waits own open_ hearth here => ?_,
      fun k r is used port plain head => ?_⟩
    · refine ⟨_, exec_arbGrant_picks noEngine free picked, ?_⟩
      obtain ⟨inUse, last, -, -, idx, waited⟩ := afterGrant_arb (s := s) (i := a)
        (a := (s.arb a).granted w (fbEn (s.reg (arbCfgOf a)))) (n := w.waited) rfl
      have kept := untouched_afterGrant s a ((s.arb a).granted w (fbEn (s.reg (arbCfgOf a)))) w.waited
      refine ⟨inUse, last, idx.trans ?_, waited.trans ?_, kept.hmem, kept.pairs, kept.nvm⟩
      · simp [Arbiter.granted, Function.comp_def]
      · simp [Arbiter.granted, Function.comp_def]
    · subst is
      exact finishUse_read used pair_ plain waits own open_ hearth here
    · subst is
      exact finishUse_port used port plain head
  · intro s h
    refine ⟨fun open_ free => ⟨fun i granted => ?_, fun nobody => ?_⟩, exec_arbGrant_used, fun closed idle => ?_, fun closed running => ?_⟩
    · rw [exec_arbGrant_open open_ free, granted]
    · rw [exec_arbGrant_open open_ free, nobody]
    · rw [exec_arbGrant_closed closed, idle]
      rfl
    · rw [exec_arbGrant_closed closed, Option.isNone_eq_false_iff.2 running]
      rfl
  · intro s a r
    refine ⟨fun may plain => ?_, fun mayNot => ?_⟩
    · rw [exec_emergencyGrant, if_pos (mayInterrupt_iff.2 may), takeEmergency_plain plain]
      obtain ⟨inUse, -, emergency, revoked, idx, waited⟩ := afterGrant_arb (s := s.revoking a) (i := a) (a := s.interrupted a) (n := 0) rfl
      have kept := (untouched_revoking s a).trans (untouched_afterGrant _ a (s.interrupted a) 0)
      refine ⟨_, rfl, inUse, emergency, revoked, idx.trans ?_, waited.trans ?_, fun held => ?_, kept.hmem, kept.pairs, kept.nvm⟩
      · simp [State.interrupted, Function.comp_def]
      · simp [State.interrupted, Function.comp_def]
      · rw [revoked_afterGrant, revoked_revoking held]
    · rw [exec_emergencyGrant, if_neg fun may => mayNot (mayInterrupt_iff.1 may)]
  · intro s b m a v may
    refine ⟨fun outside => ?_, fun low high on => ?_, fun low high off => ⟨fun single => ?_, fun h k is => ?_⟩⟩
    · rw [exec_arbCfgWrite may, arbCfg_ignored outside]
    · rw [exec_arbCfgWrite may, arbCfg_kept low high on]
    · rw [exec_arbCfgWrite may, arbCfg_fresh low high off]
      rcases single with rfl | ⟨h, rfl⟩ <;> rfl
    · subst is
      rw [exec_arbCfgWrite may, arbCfg_fresh low high off]
      rfl

end Sys2Proof.Machine
end

section
/-! SUPPORT. The host links (R190–R202, R210, R217): doorbells, the taking of commands, admission, replies and link events. -/

namespace Sys2Proof.Machine

/-! ## Doorbells -/

section
variable {s : State} {l q log reason : Nat} {f : FieldAt} {v : Word}

theorem doorbell_stored (exists_ : s.queueExists l q = true) (fits : fld 11 0 v < 2 ^ log) :
    s.doorbell l q f log reason v = s.setF f (fld 11 0 v) := by
  unfold State.doorbell
  dsimp only
  rw [exists_, if_neg (Nat.not_le.2 fits)]
  rfl

theorem doorbell_error (exists_ : s.queueExists l q = true) (large : 2 ^ log ≤ fld 11 0 v) :
    s.doorbell l q f log reason v = (s.setF (Fld.HOST_QERR_VALID (qkey l q)) 1).setF (Fld.HOST_QERR_REASON (qkey l q)) reason := by
  unfold State.doorbell
  dsimp only
  rw [exists_, if_pos large]
  rfl

theorem doorbell_ignored (none_ : s.queueExists l q = false) : s.doorbell l q f log reason v = s := by
  unfold State.doorbell
  dsimp only
  rw [none_]
  rfl

end

/-! ## The taking of commands -/

section
variable {s : State} {l : Fin 2} {q : Fin 64} {h : List Word} {ps : List Byte} {adm : Admission}

/-- COMMAND_TAKE of a queue that may take an entry, in its turn. -/
theorem exec_commandTake (may : s.mayTake l.val q.val = true ∧ s.hasTurn l.val q.val = true ∧ s.available l.val q.val ≠ 0 ∧ h.length = 8) :
    exec (.commandTake l q h ps adm) s = .next (
      if 4064 < hdrLen h then (s.passTurn l.val q.val).oversized l q h 2
      else if 2 ^ (s.hostQueue l.val q.val).sqLog - 1 < 1 + ceilDiv (hdrLen h) 32 then (s.passTurn l.val q.val).oversized l q h 3
      else if s.available l.val q.val < 1 + ceilDiv (hdrLen h) 32 ∨ ps.length ≠ hdrLen h then s.passTurn l.val q.val
      else (s.passTurn l.val q.val).takeHost l q h ps adm) := by
  obtain ⟨takes, turn, some_, header⟩ := may
  refine congrArg Host.Outcome.next (if_neg ?_)
  simp [takes, turn, some_, header]

theorem exec_commandTake_not
    (mayNot : ¬(s.mayTake l.val q.val = true ∧ s.hasTurn l.val q.val = true ∧ s.available l.val q.val ≠ 0 ∧ h.length = 8)) :
    exec (.commandTake l q h ps adm) s = .next s := by
  refine congrArg Host.Outcome.next (if_pos ?_)
  by_contra open_
  simp only [Bool.or_eq_true, not_or, Bool.not_eq_true', Bool.not_eq_false, beq_iff_eq, bne_iff_ne, not_not] at open_
  obtain ⟨⟨⟨takes, some_⟩, header⟩, turn⟩ := open_
  exact mayNot ⟨takes, turn, some_, header⟩

theorem takeHost_refused {st sub : Nat} (fails : s.headerCheck h ps 4064 q.val (s.getF (Fld.HOST_QERR_NEXT_SEQ (qkey l.val q.val)))
      (.queue l q) (s.flag (Fld.HOST_QSTAT_PRIV (qkey l.val q.val)) || cmdTenant h == s.getF (Fld.HOST_QSTAT_TENANT (qkey l.val q.val)))
      (fun o => !o.admin || s.flag (Fld.HOST_QSTAT_PRIV (qkey l.val q.val))) = some (st, sub)) :
    s.takeHost l q h ps adm = ((s.consume l.val q.val (1 + ceilDiv (hdrLen h) 32) h).takeCommand (.queue l q) h).refuseCommand
      (.queue l q) (hdrTag h) st sub := by
  unfold State.takeHost
  dsimp only
  rw [fails]

theorem takeHost_posted (passes : s.headerCheck h ps 4064 q.val (s.getF (Fld.HOST_QERR_NEXT_SEQ (qkey l.val q.val)))
      (.queue l q) (s.flag (Fld.HOST_QSTAT_PRIV (qkey l.val q.val)) || cmdTenant h == s.getF (Fld.HOST_QSTAT_TENANT (qkey l.val q.val)))
      (fun o => !o.admin || s.flag (Fld.HOST_QSTAT_PRIV (qkey l.val q.val))) = none) :
    s.takeHost l q h ps adm = ((s.consume l.val q.val (1 + ceilDiv (hdrLen h) 32) h).takeCommand (.queue l q) h).postCommand
      l.val (.queue l q) h ps adm := by
  unfold State.takeHost
  dsimp only
  rw [passes]

end

/-! ## Replies -/

section
variable {s : State} {src : Stream} {tag : Nat} {t : Taken} {r : Reply}

theorem exec_replyWrite (first : s.taken.find? (fun t => t.src == src && t.tag == tag && t.reply.isSome) = some t)
    (staged : t.reply = some r) : exec (.replyWrite src tag) s = .next (
      if t.lost then (s.discardReply t).replyDone t else if s.replyWaits t then s else s.sendReply t r) := by
  change execReplyWrite _ _ _ = _
  unfold execReplyWrite
  rw [first]
  dsimp only
  rw [staged]

theorem exec_replyWrite_none (none_ : s.taken.all (fun t => !(t.src == src && t.tag == tag && t.reply.isSome)) = true) :
    exec (.replyWrite src tag) s = .next s := by
  have notFound : s.taken.find? (fun t => t.src == src && t.tag == tag && t.reply.isSome) = none := by
    rw [List.find?_eq_none]
    intro t ht found
    have refuted := List.all_eq_true.1 none_ t ht
    rw [found] at refuted
    exact Bool.false_ne_true refuted
  change execReplyWrite _ _ _ = _
  unfold execReplyWrite
  rw [notFound]

end

/-! ## The admin queue -/

section
variable {s : State} {l : Fin 2} {v : Word}

theorem aqCtlStore_on (on : bit 31 v = true) : s.aqCtlStore l v =
    let w := s.writeReg (Reg.HOST_AQ_CTL l.val) v
    if s.flag (Fld.HOST_AQ_CTL_EN l.val) then
      w.setHostQueue l.val 0 { w.hostQueue l.val 0 with vec := w.getF (Fld.HOST_AQ_CTL_VEC l.val) }
    else
      w.startQueue l.val 0
        { sqBase := (w.aqRing (Reg.HOST_AQ_SQ_LO l.val) (Reg.HOST_AQ_SQ_HI l.val)).1
          sqLog := (w.aqRing (Reg.HOST_AQ_SQ_LO l.val) (Reg.HOST_AQ_SQ_HI l.val)).2
          cqBase := (w.aqRing (Reg.HOST_AQ_CQ_LO l.val) (Reg.HOST_AQ_CQ_HI l.val)).1
          cqLog := (w.aqRing (Reg.HOST_AQ_CQ_LO l.val) (Reg.HOST_AQ_CQ_HI l.val)).2
          vec := w.getF (Fld.HOST_AQ_CTL_VEC l.val) } true 0 := if_pos on

theorem aqCtlStore_off (off : bit 31 v = false) : s.aqCtlStore l v =
    if s.flag (Fld.HOST_AQ_CTL_EN l.val) then ((s.writeReg (Reg.HOST_AQ_CTL l.val) v).abandonStream (.queue l 0)).endQueue l.val 0
    else s.writeReg (Reg.HOST_AQ_CTL l.val) v := if_neg (Bool.eq_false_iff.1 off)

theorem exec_aqEnable (on : bit 31 v = true) : exec (.aqEnable l v) s = .next (s.aqCtlStore l v) :=
  congrArg Host.Outcome.next (if_pos on)

theorem exec_aqDisable (off : bit 31 v = false) : exec (.aqDisable l v) s = .next (s.aqCtlStore l v) :=
  congrArg Host.Outcome.next (if_neg (Bool.eq_false_iff.1 off))

theorem exec_bar0Malformed_ecrc (wr : Bool) (checked : s.flag (Fld.HOST_LCTL_ECRC l.val) = true) :
    exec (.bar0Malformed l ⟨wr, false⟩) s = .next (s.incSat (Reg.HOST_ECRC_CNT l.val)) := congrArg Host.Outcome.next (if_pos checked)

theorem exec_hostLinkUp {g : Fin 4} {n : Fin 3} (speed : g.val ≠ 0) (width : n.val ≠ 0) : exec (.hostLinkUp l g n) s = .next
    (((s.setF (Fld.HOST_LSTAT_LINK_UP l.val) 1).setF (Fld.HOST_LSTAT_SPEED l.val) g.val).setF (Fld.HOST_LSTAT_WIDTH l.val) n.val) :=
  congrArg Host.Outcome.next (if_neg (not_or.2 ⟨speed, width⟩))

end

/-! ## Admission -/

theorem worstCase_plain {s : State} (c : Nat) (rate : s.getF Fld.BEAT_CPB_MIN_CYCLES ≠ 0) :
    s.worstCase c 0 = (c + s.getF Fld.BEAT_CPB_MIN_CYCLES - 1) / s.getF Fld.BEAT_CPB_MIN_CYCLES := by
  unfold State.worstCase
  dsimp only
  rw [if_neg rate]
  rfl

theorem admits_iff {s : State} (w tArr : Nat) {d : Nat} (timed : d ≠ 0) :
    s.admits w d tArr = true ↔ s.beatNow + 2 * w + s.getF Fld.BEAT_MARGIN_BEATS ≤ tArr + d := by
  simp [State.admits, timed]

end Sys2Proof.Machine
end

section
/-! The statements about the host links settled. -/

namespace Sys2Proof.Machine

/-- Settles O26: doorbells, COMMAND_TAKE by what the header brings, and the admission test (R43, R46, R195–R202). -/
theorem hostQueuesTakeAndAdmitCommands : Obligations.HostQueuesTakeAndAdmitCommands := by
  refine ⟨?_, ?_, ?_⟩
  · intro s l q v
    exact ⟨fun ex fits => congrArg Host.Outcome.next (doorbell_stored ex fits), fun ex large => congrArg Host.Outcome.next (doorbell_error ex large),
      fun ex fits => congrArg Host.Outcome.next (doorbell_stored ex fits), fun ex large => congrArg Host.Outcome.next (doorbell_error ex large),
      fun none_ => ⟨congrArg Host.Outcome.next (doorbell_ignored none_), congrArg Host.Outcome.next (doorbell_ignored none_)⟩⟩
  · intro s l q h ps adm
    refine ⟨fun may small fits there complete => ?_, fun may large => ?_, fun may small large => ?_, fun may small fits waits => ?_,
      exec_commandTake_not⟩
    · have takes : exec (.commandTake l q h ps adm) s = .next ((s.passTurn l.val q.val).takeHost l q h ps adm) := by
        rw [exec_commandTake may, if_neg (Nat.not_lt.2 small), if_neg (Nat.not_lt.2 fits),
          if_neg (not_or.2 ⟨Nat.not_lt.2 there, not_not_intro complete⟩)]
      exact ⟨fun st sub fails => takes.trans (congrArg Host.Outcome.next (takeHost_refused fails)),
        fun passes => takes.trans (congrArg Host.Outcome.next (takeHost_posted passes))⟩
    · rw [exec_commandTake may, if_pos large]
      rfl
    · rw [exec_commandTake may, if_neg (Nat.not_lt.2 small), if_pos large]
      rfl
    · rw [exec_commandTake may, if_neg (Nat.not_lt.2 small), if_neg (Nat.not_lt.2 fits), if_pos waits]
      rfl
  · exact fun s c w d tArr => ⟨worstCase_plain c, rfl, admits_iff w tArr⟩

/-- Settles O27: replies sent, waiting and discarded, the admin queue, and the events of a link (R190, R191, R196, R202, R208–R217). -/
theorem repliesAndLinkEvents : Obligations.RepliesAndLinkEvents := by
  refine ⟨fun s src tag t r first staged => ⟨fun kept free => ?_, fun kept waits => ?_, fun lost => ?_,
    fun g none_ _ => exec_replyWrite_none none_⟩, fun s l v => ⟨fun on was => ?_, fun on was => ?_, fun off was => ?_, fun off was => ?_,
    rfl, rfl, rfl, exec_bar0Malformed_ecrc, fun g n => exec_hostLinkUp⟩⟩
  · rw [exec_replyWrite first staged, kept, free]
    rfl
  · rw [exec_replyWrite first staged, kept, waits]
    rfl
  · rw [exec_replyWrite first staged, lost]
    rfl
  · exact (exec_aqEnable on).trans (congrArg Host.Outcome.next ((aqCtlStore_on on).trans (if_neg (Bool.eq_false_iff.1 was))))
  · exact (exec_aqEnable on).trans (congrArg Host.Outcome.next ((aqCtlStore_on on).trans (if_pos was)))
  · exact (exec_aqDisable off).trans (congrArg Host.Outcome.next ((aqCtlStore_off off).trans (if_pos was)))
  · exact (exec_aqDisable off).trans (congrArg Host.Outcome.next ((aqCtlStore_off off).trans (if_neg (Bool.eq_false_iff.1 was))))

end Sys2Proof.Machine
end

section
/-! SUPPORT. Bodies of host commands (R24 step 7, R519): what a body that answers, declines or waits leaves, and how the steps that bodies
share go on. -/

namespace Sys2Proof.Machine

/-! ## What a body comes to -/

section
variable {s t : State} {p op : Nat} {j : Job} {mine : Job → Bool} {named : Job → List Nat} {offs : List Nat} {f : Job → State → BodyResult}
  {data : List Byte} {out : List (Nat × List Byte)} {st sub : Nat}

/-- The body of a served command runs. -/
theorem runBody_runs (serves : s.Serves p op j) (own : mine j = true) : s.runBody p mine named f =
    s.runBody p (fun k => k.opcode == op) named f := by
  obtain ⟨armed, isIt, -, -, -⟩ := serves
  unfold State.runBody
  rw [armed]
  dsimp only
  simp only [own, isIt, beq_self_eq_true]

theorem runBody_done (serves : s.Serves p op j) (own : mine j = true) (gives : f j s = (.done data out, t)) :
    s.runBody p mine named f = s.answers t p (named j) data out j.buf := by
  rw [runBody_runs serves own, runBody_eq serves, gives]

theorem runBody_reply (serves : s.Serves p op j) (own : mine j = true) (gives : f j s = reply data t) :
    s.runBody p mine named f = s.answers t p (named j) data := (runBody_done serves own gives).trans (answers_nil _ _ _ _ _ _ _)

theorem runBody_fail (serves : s.Serves p op j) (own : mine j = true) (gives : f j s = (.fail st sub, t)) :
    s.runBody p mine named f = s.declines t p j (named j) st sub := by
  rw [runBody_runs serves own, runBody_eq serves, gives]

theorem runBody_wait (serves : s.Serves p op j) (own : mine j = true) (gives : f j s = (.wait, t)) : s.runBody p mine named f = t := by
  rw [runBody_runs serves own, runBody_eq serves, gives]

theorem own_of (serves : s.Serves p op j) : (j.opcode == op) = true := beq_iff_eq.2 serves.isIt

theorem body_reply (serves : s.Serves p op j) (gives : f j s = reply data t) : s.body p op f = s.answers t p [] data :=
  runBody_reply serves (own_of serves) gives
theorem body_done (serves : s.Serves p op j) (gives : f j s = (.done data out, t)) : s.body p op f = s.answers t p [] data out j.buf :=
  runBody_done serves (own_of serves) gives
theorem body_fail (serves : s.Serves p op j) (gives : f j s = (.fail st sub, t)) : s.body p op f = s.declines t p j [] st sub :=
  runBody_fail serves (own_of serves) gives
theorem body_wait (serves : s.Serves p op j) (gives : f j s = (.wait, t)) : s.body p op f = t :=
  runBody_wait serves (own_of serves) gives

theorem bodyOn_reply (serves : s.Serves p op j) (gives : f j s = reply data t) :
    s.bodyOn p op offs f = s.answers t p (offs.map (fun o => leAt j.params o 4)) data := runBody_reply serves (own_of serves) gives
theorem bodyOn_done (serves : s.Serves p op j) (gives : f j s = (.done data out, t)) :
    s.bodyOn p op offs f = s.answers t p (offs.map (fun o => leAt j.params o 4)) data out j.buf := runBody_done serves (own_of serves) gives
theorem bodyOn_fail (serves : s.Serves p op j) (gives : f j s = (.fail st sub, t)) :
    s.bodyOn p op offs f = s.declines t p j (offs.map (fun o => leAt j.params o 4)) st sub := runBody_fail serves (own_of serves) gives
theorem bodyOn_wait (serves : s.Serves p op j) (gives : f j s = (.wait, t)) : s.bodyOn p op offs f = t :=
  runBody_wait serves (own_of serves) gives

end

/-! ## How the shared steps go on -/

section
variable {s t u : State} {p : Nat} {j : Job}

theorem checked_none (k : Unit → BodyResult) : checked none s k = k () := rfl
theorem checked_some (e : Nat × Nat) (k : Unit → BodyResult) : checked (some e) s k = (.fail e.1 e.2, s) := rfl

theorem length_slice_all (bs : List Byte) : slice bs 0 bs.length = bs := by
  unfold slice
  simp

/-- The data of a host buffer moved (R204). -/
theorem withHostData_moves {len : Nat} {data : List Byte} (moved : s.Moves j len data t) {k : State → List Byte → BodyResult}
    (goes : (k t data).1 ≠ .wait) : s.withHostData j len (some data) k = k t data := by
  obtain ⟨l, link, up, length_, written⟩ := moved
  subst length_
  unfold State.withHostData
  rw [link]
  dsimp only
  rw [if_pos up, length_slice_all, written]
  dsimp only
  rw [if_pos rfl]
  split
  next x waits => exact absurd (congrArg Prod.fst waits) goes
  next => rfl

theorem withHostData_none (len : Nat) (k : State → List Byte → BodyResult) : s.withHostData j len none k = refuse St.faultHw s := by
  unfold State.withHostData
  cases j.link <;> rfl

/-- A record staged: the body goes on with its value and its digest (R291–R294). -/
theorem stage_of {rec digest : List Byte} {value : Nat} (staged : s.Stages p rec t value digest) (k : State → Nat → List Byte → BodyResult) :
    s.stage p rec k = k t value digest := by
  obtain ⟨j, u, armed, update, rfl, rfl, rfl⟩ := staged
  unfold State.stage
  rw [armed]
  dsimp only
  rw [update]

theorem stageEntry_of {i : Nat} {e : Entry} {data digest : List Byte} {value : Nat} (staged : s.Stages p (writeRecord i e) t value digest) :
    s.stageEntry p i e data = reply data t := stage_of staged _

/-- A key placed (R284, R290). -/
theorem placeKey_of {tenant i version limit : Nat} {blob data : List Byte} (placed : s.PlacesKey p tenant i version limit blob t) :
    s.placeKey p tenant i version limit blob data = reply data t := by
  obtain ⟨unit_, u, v, d, stored, staged⟩ := placed
  unfold State.placeKey
  rw [stored]
  exact stageEntry_of staged

theorem placePlain_of {tenant i : Nat} {hdr key nb kcv : List Byte} (wrapped : s.wrapKey hdr key = some nb)
    (check : s.keyKcv (hdrAlg hdr) key = (kcv, u)) (placed : u.PlacesKey p tenant i (hdrVersion hdr) (hdrLimit hdr) nb t) :
    s.placePlain p tenant i hdr key = reply kcv t := by
  unfold State.placePlain
  rw [wrapped]
  show (s.keyKcv (hdrAlg hdr) key).2.placeKey p tenant i (hdrVersion hdr) (hdrLimit hdr) nb (s.keyKcv (hdrAlg hdr) key).1 = _
  rw [check]
  exact placeKey_of placed

/-- An engine's job that ended with OK. -/
theorem withJob_ok {r : EngResult} {o : Option (EngResult × State)} (ran : o = some (r, t)) (ok : r.status = St.ok)
    (k : State → List Byte → BodyResult) : withJob s o k = k t r.out := by
  subst ran
  exact if_pos ok

end

/-- SESSION_CALL of a pair that may enter: what the applet replies is free (log 56). -/
theorem exec_sessionCall {s : State} {p : PairId} {j : Job} {x : Session} {pc w : Nat} (serves : s.Serves p.val 0x204 j)
    (session : s.sessions.find? (fun y => j.session == some y.handle) = some x) (entry : s.entryPoint x (j.arg 2 1) = some (pc, w))
    (ring : (s.pair p.val).ring ≠ 0) (level : (s.pair p.val).exl = false) : ∃ n, exec (.sessionCall p) s =
      .next (s.answers ((((s.freshBytes 2).2.freshBytes n).2).enterApplet p.val (s.imageHeader x) pc) p.val []
        ((s.freshBytes 2).2.freshBytes n).1) := by
  refine ⟨ofLe (s.freshBytes 2).1 % (match j.src with
    | .queue _ _ => 4065
    | _ => 969), congrArg Host.Outcome.next (body_reply serves ?_)⟩
  simp only [session, entry, ring, level, Bool.false_eq_true, or_self, if_false] <;> rfl

end Sys2Proof.Machine
end

section
/-! The statements about the commands of families 1 and 2 settled. -/

namespace Sys2Proof.Machine

/-- Settles O28: the bodies of family 1, by their parameters. -/
theorem administrationCommandsReply : Obligations.AdministrationCommandsReply := by
  intro s p j
  refine ⟨fun serves => congrArg Host.Outcome.next (body_reply serves rfl), fun serves => congrArg Host.Outcome.next (body_reply serves rfl),
    fun l q serves link form new => ?_, fun l serves link exists_ => ?_, fun serves outside => ?_,
    fun l serves link low high zero exists_ kept => ?_, fun l serves link none_ => ?_, fun u serves on zero unit_ => ?_, fun serves outside => ?_,
    fun serves zero fits => ?_, fun serves bad => ?_, fun serves key => ?_, fun serves wrong => ?_,
    fun serves => congrArg Host.Outcome.next (body_reply serves rfl)⟩
  · exact congrArg Host.Outcome.next (body_reply serves (by simp [form, link, new]))
  · refine congrArg Host.Outcome.next (body_fail serves ?_)
    cases form : queueOf j <;> simp [link, exists_, badParam]
  · have form : queueOf j = none := by
      refine if_neg fun ok => ?_
      obtain ⟨low, high, -⟩ := of_decide_eq_true ok
      omega
    exact congrArg Host.Outcome.next (body_fail serves (by simp [form, badParam]))
  · refine congrArg Host.Outcome.next (body_reply serves ?_)
    have given : ¬j.arg 0 1 = 0 := by omega
    simp [link, given, Nat.not_lt.2 high, zero, exists_, kept]
  · exact congrArg Host.Outcome.next (body_fail serves (by simp [link, none_, badParam]))
  · refine congrArg Host.Outcome.next (body_reply serves ?_)
    rcases unit_ with ⟨h, kind, index, rfl⟩ | ⟨h, kind, index, rfl⟩ | ⟨i, kind, index, rfl⟩
    · simp [kind, index, Nat.not_lt.2 on, zero, Nat.not_le.2 h.isLt, State.setEnable]
    · simp [kind, index, Nat.not_lt.2 on, zero, Nat.not_le.2 h.isLt, State.setEnable]
    · simp [kind, index, Nat.not_lt.2 on, zero, Nat.not_le.2 i.isLt, State.setEnable]
  · exact congrArg Host.Outcome.next (body_fail serves (if_pos (.inl outside)))
  · exact congrArg Host.Outcome.next (body_reply serves (if_neg (by simp [zero, fits])))
  · exact congrArg Host.Outcome.next (body_fail serves (if_pos (.inr bad)))
  · exact congrArg Host.Outcome.next (body_reply serves (if_neg (not_not_intro key)))
  · exact congrArg Host.Outcome.next (body_fail serves (if_pos wrong))

/-- Settles O29: the bodies of family 2, by their parameters and the sessions. -/
theorem imagesAndSessions : Obligations.ImagesAndSessions := by
  intro s p j
  refine ⟨fun x len data t serves buffer zero accepted inRange free blank moved => ?_, fun x len serves buffer zero accepted inRange busy data => ?_,
    fun x len serves buffer zero accepted inRange free blank => ?_, fun serves first some_ inRange free idle blank => ?_,
    fun i serves first some_ inRange free idle next => ?_, fun q h serves first zero inRange good pair_ handle => ?_,
    fun serves first zero inRange good full => ?_, fun h x serves opening session loaded => ?_, fun x serves session zero done => ?_,
    fun x serves session zero work => ?_, fun x pc w serves session entry ring level => ?_, fun x serves session head zero on loaded => ?_,
    fun x serves session zero known => ?_, fun none_ => ⟨fun serves => ?_, fun serves => ?_, fun serves => ?_⟩⟩
  · refine congrArg Host.Outcome.next (body_reply serves ?_)
    simp only [buffer, zero, accepted, Nat.not_lt.2 inRange, free, blank, ne_eq, not_true_eq_false, if_false, Bool.not_true, Bool.false_eq_true]
    exact withHostData_moves moved (by simp [reply])
  · refine congrArg Host.Outcome.next (body_fail serves ?_)
    simp [buffer, zero, accepted, Nat.not_lt.2 inRange, busy, refuse]
  · refine congrArg Host.Outcome.next (body_fail serves ?_)
    simp only [buffer, zero, accepted, Nat.not_lt.2 inRange, free, blank, ne_eq, not_true_eq_false, if_false, Bool.not_true, Bool.false_eq_true]
    exact withHostData_none _ _
  · have all : (List.range (j.arg 2 2)).find? (fun i => !s.nvmBlank ((j.arg 0 2 + i) * 0x10000) 0x10000) = none := by
      rw [List.find?_eq_none]
      intro i hi
      simp [blank i (List.mem_range.1 hi)]
    refine congrArg Host.Outcome.next (body_reply serves ?_)
    simp [first, some_, Nat.not_lt.2 inRange, free, idle, State.eraseNext, all]
  · refine congrArg Host.Outcome.next (body_wait serves ?_)
    simp [first, some_, Nat.not_lt.2 inRange, free, idle, State.eraseNext, next]
  · refine congrArg Host.Outcome.next (body_wait serves ?_)
    simp [first, zero, Nat.not_le.2 inRange, good, checked_none, pair_, handle]
  · refine congrArg Host.Outcome.next (body_fail serves ?_)
    simp [first, zero, Nat.not_le.2 inRange, good, checked_none, full, refuse]
  · refine congrArg Host.Outcome.next (body_reply serves ?_)
    simp [opening, State.openGoesOn, session, loaded]
  · exact congrArg Host.Outcome.next (body_reply serves (by simp [session, zero, done]))
  · exact congrArg Host.Outcome.next (body_wait serves (by simp [session, zero, work]))
  · obtain ⟨n, enters⟩ := exec_sessionCall serves session entry ring level
    exact ⟨((s.freshBytes 2).2.freshBytes n).1, ((s.freshBytes 2).2.freshBytes n).2, rfl, rfl, enters⟩
  · exact congrArg Host.Outcome.next (body_reply serves (by simp [session, Nat.not_lt.2 head, zero, on, loaded]))
  · exact congrArg Host.Outcome.next (body_reply serves (by simp [session, zero, known]))
  · exact congrArg Host.Outcome.next (body_fail serves (by simp [none_]))
  · exact congrArg Host.Outcome.next (body_fail serves (by simp [none_]))
  · exact congrArg Host.Outcome.next (body_fail serves (by simp [none_]))

end Sys2Proof.Machine
end

section
/-! SUPPORT. The bodies of families 3 and 4 (R276–R301, R464): checks of entries and keys, test jobs, and what is freed. -/

namespace Sys2Proof.Machine

section
variable {s t u v : State} {p i tn : Nat} {j : Job}

/-! ## Steps -/

theorem withOk_ok {α : Type} {r : Except (Nat × Nat) α} {a : α} (is : r = .ok a) (k : α → BodyResult) : withOk r s k = k a := by
  subst is
  rfl

theorem withOk_error {α : Type} {r : Except (Nat × Nat) α} {e : Nat × Nat} (is : r = .error e) (k : α → BodyResult) :
    withOk r s k = (.fail e.1 e.2, s) := by
  subst is
  rfl

theorem withBlob_some {o : Option (List Byte)} {b : List Byte} (is : o = some b) (k : List Byte → BodyResult) : withBlob o s k = k b := by
  subst is
  rfl

theorem checked_of_none {bad : Option (Nat × Nat)} (is : bad = none) (k : Unit → BodyResult) : checked bad s k = k () := by
  subst is
  rfl

theorem checked_of_some {bad : Option (Nat × Nat)} {e : Nat × Nat} (is : bad = some e) (k : Unit → BodyResult) :
    checked bad s k = (.fail e.1 e.2, s) := by
  subst is
  rfl

/-- An entry that the ledger holds and that no firmware reserves is freed where it is no origin. -/
theorem freeEntry_plain {x : Nat} {y : List Byte} (single : s.mirrorOf i = none)
    (staged : s.Stages p (writeRecord i (s.entry i).freed) t x y) : s.freeEntry p i = reply [] t := by
  unfold State.freeEntry
  rw [single]
  exact stage_of staged _

/-- A refused staging that waits for no lock ends its command (R293). -/
theorem stage_refused {rec : List Byte} (armed : s.armedJob p = some j) (refused : (s.stageRecord j rec).update = none)
    (k : State → Nat → List Byte → BodyResult) : s.stage p rec k =
      if (s.stageRecord j rec).status = St.busy ∧ s.lockedFor p (leAt rec 4 4) then (.wait, s)
      else (.fail (s.stageRecord j rec).status (s.stageRecord j rec).sub, s) := by
  unfold State.stage
  rw [armed]
  dsimp only
  rw [refused]

/-- The check value of a secret key is that of its public key, and draws nothing (R285). -/
theorem keyKcv_state {alg : Nat} {key pk kcv : List Byte} (public_ : s.publicOf alg key = some pk) (check : s.keyKcv alg key = (kcv, u)) :
    u = s := by
  have drawn : (s.keyKcv alg key).2 = s := by
    unfold State.keyKcv
    split
    · rfl
    · rw [public_]
  rw [check] at drawn
  exact drawn

/-! ## Entries that are no origins -/

theorem anyOrphan_plain (plain : (s.entry i).mir = false) : s.anyOrphan [i] = false := by
  simp [State.anyOrphan, State.mirrorState, plain]

/-- A reply that names one entry without a mirror carries no DEGRADED (R459). -/
theorem answers_notOrphan (plain : (s.entry i).mir = false) (t : State) (data : List Byte) :
    s.answers t p [i] data = s.answers t p [] data := by
  unfold State.answers
  rw [anyOrphan_plain plain]
  rfl

theorem declines_notOrphan {st sub : Nat} (plain : (s.entry i).mir = false) (t : State) (j : Job) :
    s.declines t p j [i] st sub = s.declines t p j [] st sub := by
  unfold State.declines
  rw [anyOrphan_plain plain]
  rfl

/-! ## The test of a signing key -/

/-- The message that a signing key tests with (log 96). -/
def testMessage (alg : Nat) : List Byte := if 0x210 ≤ alg ∧ alg ≤ 0x240 then leBytes (8 * (alg - 0x200)) 2 else zeros 32

/-- A key that signs the message, and whose public key verifies it, passes its test (R285). -/
theorem testJob_signs {blob pk x : List Byte} {op param op' param' : Nat} {ins : List (List Byte)} {r1 r2 : EngResult}
    (signs : bit 6 (hdrUsage blob) = true) (job : signJob (hdrAlg blob) (testMessage (hdrAlg blob)) = some (op, param, x))
    (signed : s.runPke p { op := op, param := param, iter := if op = 0x39 then 255 else 0, key := i, ins := [blob, x, [], []], out := 4640 }
      (signOp op) = some (r1, t)) (ok1 : r1.status = St.ok)
    (check : verifyJob (hdrAlg blob) pk (testMessage (hdrAlg blob)) r1.out = some (op', param', ins))
    (verified : t.runPke p { op := op', param := param', iter := if op' = 0x39 then 255 else 0, key := i, ins := ins, out := 512 }
      (verifyOp op') = some (r2, u)) (ok2 : r2.status = St.ok)
    (passes : r2.out = if op' = 0x02 then testMessage (hdrAlg blob) else validBytes true) (k : State → BodyResult) :
    s.testJob p i blob pk k = k u := by
  unfold State.testJob
  dsimp only
  rw [if_pos signs]
  show (match signJob (hdrAlg blob) (testMessage (hdrAlg blob)) with
    | none => k s
    | some (op, param, x) => _) = _
  rw [job]
  dsimp only
  rw [withJob_ok signed ok1]
  show (match verifyJob (hdrAlg blob) pk (testMessage (hdrAlg blob)) r1.out with
    | none => k t
    | some (op, param, ins) => _) = _
  rw [check]
  dsimp only
  rw [withJob_ok verified ok2, passes]
  have holds : (if op' = 0x02 then (if op' = 0x02 then testMessage (hdrAlg blob) else validBytes true) == testMessage (hdrAlg blob)
      else (if op' = 0x02 then testMessage (hdrAlg blob) else validBytes true) == validBytes true) = true := by
    split <;> exact beq_self_eq_true _
  exact if_pos holds

end

end Sys2Proof.Machine
end

section
/-! The statements about the commands of families 3 and 4 settled. -/

namespace Sys2Proof.Machine

/-- Settles O31: the bodies of family 4, by the entry that they name and what its staging gives. -/
theorem ledgerCommandsStageTheirRecords : Obligations.LedgerCommandsStageTheirRecords := by
  intro s p j
  refine ⟨fun serves usable owner mirror => ?_, fun serves usable owner => ?_, fun serves beyond => ?_, fun t v d serves zero good staged => ?_,
    fun serves zero good refused index => ?_, fun e serves zero bad => ?_, fun t v d k r u serves zero good staged key ran ok => ?_,
    fun t v d serves some_ usable fits staged => ?_, fun t v d serves none_ zero good staged => ?_,
    fun t v d k serves output zero notSealed notTampered open_ good staged armed pulses => ?_,
    fun e t v d serves low high zero unsealed established free staged => ?_, fun t v d serves good type_ single staged => ?_,
    fun m serves zero usable used type_ plain free away reachable alloc => ?_, fun serves zero usable used type_ plain free unreachable => ?_⟩
  · obtain ⟨low, high, unsealed, established⟩ := usable
    refine congrArg Host.Outcome.next (bodyOn_reply serves ?_)
    simp [Nat.not_lt.2 high, Nat.not_lt.2 low, unsealed, established, owner, mirror, checked_none]
  · obtain ⟨low, high, unsealed, established⟩ := usable
    refine congrArg Host.Outcome.next (bodyOn_fail serves ?_)
    simp [Nat.not_lt.2 high, Nat.not_lt.2 low, low, unsealed, established, owner, checked_some]
  · refine congrArg Host.Outcome.next (bodyOn_fail serves ?_)
    simp [beyond, checked_some]
  · refine congrArg Host.Outcome.next (bodyOn_reply serves ?_)
    rw [if_neg (not_not_intro zero), checked_of_none good]
    exact stage_of staged _
  · have staging := stage_refused serves.armed refused (fun s v _ => reply (leBytes 8 v) s)
    rw [index] at staging
    by_cases locked : (s.stageRecord j (stagingRecord 1 (j.arg 0 4) (j.arg 8 8) [])).status = St.busy ∧ s.lockedFor p.val (j.arg 0 4) = true
    · refine congrArg Host.Outcome.next ((bodyOn_wait serves ?_).trans (if_pos locked).symm)
      rw [if_neg (not_not_intro zero), checked_of_none good, staging, if_pos locked]
    · refine congrArg Host.Outcome.next ((bodyOn_fail serves ?_).trans (if_neg locked).symm)
      rw [if_neg (not_not_intro zero), checked_of_none good, staging, if_neg locked]
  · refine congrArg Host.Outcome.next (bodyOn_fail serves ?_)
    rw [if_neg (not_not_intro zero), checked_of_some bad]
  · refine congrArg Host.Outcome.next (bodyOn_reply serves ?_)
    rw [if_neg (not_not_intro zero), checked_of_none good, stage_of staged]
    dsimp only
    rw [key]
    exact withJob_ok ran ok _
  · obtain ⟨low, high, unsealed, established⟩ := usable
    refine congrArg Host.Outcome.next (bodyOn_reply serves ?_)
    dsimp only
    rw [if_neg some_, checked_of_none]
    · exact stageEntry_of staged
    · rcases fits with ⟨free, admits⟩ | ⟨used, owner, token, mirror⟩
      · simp [Nat.not_lt.2 high, Nat.not_lt.2 low, unsealed, established, free, admits]
      · simp [Nat.not_lt.2 high, Nat.not_lt.2 low, unsealed, established, used, owner, token, mirror]
  · refine congrArg Host.Outcome.next (bodyOn_reply serves ?_)
    dsimp only
    rw [if_neg (by omega), if_neg (by omega), if_neg (by omega), checked_of_none good, stage_of staged]
    exact if_pos none_
  · have given : j.arg 4 1 ≠ 0xFF := by omega
    refine congrArg Host.Outcome.next (bodyOn_reply serves ?_)
    dsimp only
    rw [if_neg (by omega), if_neg (by simp [notSealed, notTampered]), if_neg (by simp [open_]), checked_of_none good, stage_of staged]
    unfold State.redeemPulse
    rw [if_neg given, armed]
    dsimp only
    rw [pulses]
  · refine congrArg Host.Outcome.next (body_reply serves ?_)
    dsimp only
    rw [if_neg (by omega), unsealed, established, free]
    exact stageEntry_of staged
  · refine congrArg Host.Outcome.next (bodyOn_reply serves ?_)
    rw [checked_of_none good, if_neg type_]
    exact freeEntry_plain single staged
  · obtain ⟨low, high, unsealed, established⟩ := usable
    refine congrArg Host.Outcome.next ((bodyOn_reply serves ?_).trans (answers_notOrphan plain _ _))
    simp [zero, Nat.not_lt.2 high, Nat.not_lt.2 low, unsealed, established, used, type_, plain, free, away, reachable, alloc,
      State.stageHandover, State.stageAll, b2n]
  · obtain ⟨low, high, unsealed, established⟩ := usable
    refine congrArg Host.Outcome.next ((bodyOn_fail serves ?_).trans (declines_notOrphan plain _ _))
    simp [zero, Nat.not_lt.2 high, Nat.not_lt.2 low, unsealed, established, used, type_, plain, free, unreachable, badParam]

end Sys2Proof.Machine
end

section
/-! SUPPORT. What key generation asks of an ALG (R280). -/

namespace Sys2Proof.Machine

/-- The key pairs of ML-KEM-512 and X25519, Ed25519 that are generated by an engine: OP, PARAM and the length of the public key. -/
theorem keygenJob_of {s : State} {alg op param n : Nat} (is : alg = 0x302 ∧ (op, param, n) = (0x30, 2, 800) ∨
    alg = 0x142 ∧ (op, param, n) = (0x10, 0x42, 32)) : s.keygenJob alg = some (op, param, n) := by
  rcases is with ⟨rfl, job⟩ | ⟨rfl, job⟩
  · rw [job]
    rfl
  · rw [job]
    rfl

theorem pair_known {alg : Nat} (is : alg = 0x302 ∨ alg = 0x142) : algKnown alg = true ∧ (isPrivate alg = true ∧ ¬(0x210 ≤ alg ∧ alg ≤ 0x240)) := by
  rcases is with rfl | rfl <;> decide

end Sys2Proof.Machine
end

section
/-! The statement about the commands of family 3 settled. -/

namespace Sys2Proof.Machine

/-- Settles O30: the bodies of family 3, by the key that the entry holds or may hold. -/
theorem keyCommandsPlaceAndReportKeys : Obligations.KeyCommandsPlaceAndReportKeys := by
  intro s p j
  refine ⟨?imported, ?importBad, ?importWaits, ?derive, ?pair, ?secret, ?limit, ?stage, ?replacing, ?switch, ?switchPrivate, ?mismatch, ?info,
    ?destroy, ?public_, ?bad⟩
  case imported =>
    intro v d key t nb kcv u x serves place free blob hdr brought fits wrapped check placed
    refine congrArg Host.Outcome.next (bodyOn_reply serves ?_)
    rw [withOk_ok place, if_neg (Bool.eq_false_iff.1 free), withOk_ok brought, if_neg]
    · exact placePlain_of wrapped check placed
    · rintro ⟨device, other⟩
      obtain ⟨version, depth⟩ := fits device
      exact other.elim (· version) (· depth)
  case importBad =>
    intro e serves bad
    exact congrArg Host.Outcome.next (bodyOn_fail serves (withOk_error bad _))
  case importWaits =>
    rintro serves ⟨v, place⟩ locked
    refine congrArg Host.Outcome.next (bodyOn_wait serves ?_)
    rw [withOk_ok place, if_pos locked]
  case derive =>
    intro par v r u k kcv w x serves parent place free t ran ok unwrapped check placed
    refine congrArg Host.Outcome.next (bodyOn_reply serves ?_)
    rw [withOk_ok parent, withOk_ok place, if_neg (Bool.eq_false_iff.1 free), withJob_ok ran ok]
    dsimp only
    rw [unwrapped]
    dsimp only
    rw [check]
    exact placeKey_of placed
  case pair =>
    intro v r u x serves place limit free healthy op param n is ins ran ok placed
    obtain ⟨known, private_⟩ := pair_known (is.imp And.left And.left)
    refine congrArg Host.Outcome.next (bodyOn_reply serves ?_)
    rw [withOk_ok place]
    dsimp only
    rw [limit, known, if_neg (by decide), if_neg (Bool.eq_false_iff.1 free), healthy, if_neg (by decide), if_pos private_, keygenJob_of is]
    dsimp only
    rw [withJob_ok ran ok]
    exact placeKey_of placed
  case secret =>
    intro v nb kcv u x serves place limit free healthy alg hdr wrapped check placed
    refine congrArg Host.Outcome.next (bodyOn_reply serves ?_)
    rw [withOk_ok place, alg]
    dsimp only
    rw [limit, show algKnown 3 = true from rfl, if_neg (by decide), if_neg (Bool.eq_false_iff.1 free), healthy, if_neg (by decide),
      if_neg (by decide)]
    exact placePlain_of wrapped check placed
  case limit =>
    rintro serves ⟨v, place⟩ limit
    refine congrArg Host.Outcome.next (bodyOn_fail serves ?_)
    rw [withOk_ok place]
    dsimp only
    rw [limit]
    rfl
  case stage =>
    intro k b nb kcv u unit_ t x y z serves entry notPending free brought hdr wrapped check stored staged
    refine congrArg Host.Outcome.next (bodyOn_reply serves ?_)
    rw [withOk_ok entry, if_neg (Bool.eq_false_iff.1 notPending), if_neg (Bool.eq_false_iff.1 free), withOk_ok brought, withBlob_some wrapped,
      check]
    dsimp only
    rw [stored]
    exact stageEntry_of staged
  case replacing =>
    intro k serves entry pending
    refine congrArg Host.Outcome.next (bodyOn_fail serves ?_)
    rw [withOk_ok entry, if_pos pending]
    rfl
  case switch =>
    intro k key kcv u x y z serves entry pending blob unwrapped check same free notPrivate staged
    refine congrArg Host.Outcome.next (bodyOn_reply serves ?_)
    rw [withOk_ok entry]
    dsimp only
    rw [pending, if_neg (by decide), unwrapped]
    dsimp only
    rw [check]
    dsimp only
    rw [if_neg (not_not_intro same), if_neg (Bool.eq_false_iff.1 free), notPrivate]
    exact stageEntry_of staged
  case switchPrivate =>
    intro k key kcv pk op param x r1 op' param' ins r2 u t w y z v serves entry pending blob m unwrapped check same free private_ public_
      signs job signed ok1 verifies verified ok2 passes staged
    have drawn : u = s := keyKcv_state public_ check
    subst drawn
    refine congrArg Host.Outcome.next (bodyOn_reply serves ?_)
    rw [withOk_ok entry]
    dsimp only
    rw [pending, if_neg (by decide), unwrapped]
    dsimp only
    rw [check]
    dsimp only
    rw [if_neg (not_not_intro same), if_neg (Bool.eq_false_iff.1 free), private_, if_neg (by decide), public_]
    exact (testJob_signs signs job signed ok1 verifies verified ok2 passes _).trans (stageEntry_of staged)
  case mismatch =>
    intro k key kcv u serves entry pending unwrapped check differs
    refine congrArg Host.Outcome.next (bodyOn_fail serves ?_)
    rw [withOk_ok entry]
    dsimp only
    rw [pending, if_neg (by decide), unwrapped]
    dsimp only
    rw [check]
    exact if_pos differs
  case info =>
    intro k serves entry
    exact congrArg Host.Outcome.next (bodyOn_reply serves (withOk_ok entry _))
  case destroy =>
    intro k x y z serves entry single staged
    refine congrArg Host.Outcome.next (bodyOn_reply serves ?_)
    rw [withOk_ok entry]
    exact freeEntry_plain single staged
  case public_ =>
    intro b pk serves device key private_ public_
    refine congrArg Host.Outcome.next (bodyOn_reply serves ?_)
    dsimp only
    rw [if_neg device, withOk_ok key, private_, public_]
    rfl
  case bad =>
    intro e bad
    exact ⟨fun serves => congrArg Host.Outcome.next (bodyOn_fail serves (withOk_error bad _)),
      fun serves => congrArg Host.Outcome.next (bodyOn_fail serves (withOk_error bad _)),
      fun serves => congrArg Host.Outcome.next (bodyOn_fail serves (withOk_error bad _))⟩

end Sys2Proof.Machine
end

section
/-! The statement about the commands of family 5 settled. -/

namespace Sys2Proof.Machine

/-- Settles O32: the bodies of family 5, by the engine job that each runs. -/
theorem cryptoCommandsRunOneEngineJob : Obligations.CryptoCommandsRunOneEngineJob := by
  intro s p j
  refine ⟨?crypt, ?mac, ?pin, ?sign, ?verify, ?decap, ?random, ?unhealthy, ?outside, ?curve, ?bad⟩
  case crypt =>
    intro x n oa on k t m r u serves input output key cipher op aead len fits small room moved ins ran ok
    refine congrArg Host.Outcome.next (bodyOn_done serves ?_)
    dsimp only
    rw [input, output]
    dsimp only
    rw [withOk_ok key, cipher, if_neg (by decide), fits, if_neg (by decide), if_neg (Nat.not_lt.2 small), if_neg]
    · have cut : (if aead ∧ (j.arg 5 1 == 1) = true then n - j.arg 7 1 else n) = len := by simp only [beq_iff_eq, len]
      have tagged : (if aead ∧ (!(j.arg 5 1 == 1)) = true then r.out.drop len else []) = if aead ∧ j.arg 5 1 ≠ 1 then r.out.drop len else [] := by
        simp only [Bool.not_eq_true', beq_eq_false_iff_ne]
      refine (withHostData_moves moved ?_).trans ((withJob_ok ran ok _).trans ?_)
      · rw [withJob_ok ran ok]
        exact Answer.noConfusion
      · rw [cut, tagged]
    · simpa only [beq_iff_eq, Nat.not_lt] using room
  case mac =>
    intro x n k t m r u serves input mode verify zero tag padding key cipher small moved ran ok
    have set : ¬(j.arg 4 1 ≠ 0 ∨ 1 < j.arg 5 1 ∨ j.arg 7 1 ≠ 0 ∨ 16 < j.arg 6 1 ∨
        ((j.arg 5 1 == 1) = true ∧ (!((slice j.params 8 16).drop (j.arg 6 1)).all (· == 0)) = true)) := by
      rintro (bad | bad | bad | bad | ⟨on, bad⟩)
      · exact bad mode
      · exact absurd verify (Nat.not_le.2 bad)
      · exact bad zero
      · exact absurd tag (Nat.not_le.2 bad)
      · rw [padding (beq_iff_eq.1 on)] at bad
        exact Bool.false_ne_true bad
    have job : t.runSym p.val { op := 3, tagLen := j.arg 6 1, verify := j.arg 5 1 == 1, key := j.arg 0 4, out := 16, ins :=
        [k.1, [], m, if (j.arg 5 1 == 1) = true then (slice j.params 8 16).take (j.arg 6 1) else []] } execSymMac = some (r, u) := by
      simpa only [beq_iff_eq] using ran
    have answer : (if (j.arg 5 1 == 1) = true then r.out else zeroPad r.out 16) = if j.arg 5 1 = 1 then r.out else zeroPad r.out 16 := by
      simp only [beq_iff_eq]
    refine congrArg Host.Outcome.next (bodyOn_reply serves ?_)
    dsimp only
    rw [input]
    dsimp only
    rw [if_neg set, withOk_ok key, cipher, if_neg (by decide), if_neg (Nat.not_lt.2 small), ← answer]
    refine (withHostData_moves moved ?_).trans (withJob_ok job ok _)
    rw [withJob_ok job ok]
    exact Answer.noConfusion
  case pin =>
    intro x y r u serves first second ins ran ok
    refine congrArg Host.Outcome.next (bodyOn_reply serves ?_)
    rw [withOk_ok first, withOk_ok second]
    exact withJob_ok ran ok _
  case sign =>
    intro k op param m r u serves zero key alg job ran ok
    refine congrArg Host.Outcome.next (bodyOn_reply serves ?_)
    rw [if_neg (not_not_intro zero), withOk_ok key, if_pos alg, job]
    exact withJob_ok ran ok _
  case verify =>
    intro k pk op param ins r u serves room key alg signs public_ job digest rsa ran ok
    have given : ¬(hdrAlg k.1 ≠ j.arg 4 2 ∨ (signJob (j.arg 4 2) []).isNone = true) := by
      rw [Option.isNone_eq_false_iff.2 signs]
      simp [alg]
    have sized : ¬(op = 0x02 ∧ ((j.params.drop 8).drop (j.arg 6 2)).length ≠ 8 * param) := fun ⟨is, other⟩ => other (rsa is)
    refine congrArg Host.Outcome.next (bodyOn_reply serves ?_)
    dsimp only
    rw [if_neg (Nat.not_lt.2 room), withOk_ok key, if_neg given, public_]
    dsimp only
    rw [job]
    dsimp only
    rw [if_neg sized]
    exact withJob_ok ran ok _
  case decap =>
    intro k v r u z kcv w x serves key low high place free t ran ok unwrapped check placed
    refine congrArg Host.Outcome.next (bodyOn_reply serves ?_)
    rw [withOk_ok key]
    dsimp only
    rw [if_neg (not_not_intro ⟨low, high⟩), withOk_ok place, if_neg (Bool.eq_false_iff.1 free), withJob_ok ran ok]
    rw [unwrapped]
    dsimp only
    rw [check]
    exact placeKey_of placed
  case random =>
    intro serves low high healthy
    refine congrArg Host.Outcome.next (body_reply serves ?_)
    dsimp only
    rw [if_neg (by omega), healthy]
    rfl
  case unhealthy =>
    intro serves low high broken
    refine congrArg Host.Outcome.next (body_fail serves ?_)
    dsimp only
    rw [if_neg (by omega), broken]
    rfl
  case outside =>
    intro serves outside
    exact congrArg Host.Outcome.next (body_fail serves (if_pos outside))
  case curve =>
    intro r u serves slot zero c ran ok
    refine congrArg Host.Outcome.next (body_reply serves ?_)
    dsimp only
    rw [if_neg (by omega)]
    exact withJob_ok ran ok _
  case bad =>
    intro e bad
    exact ⟨fun serves => congrArg Host.Outcome.next (bodyOn_fail serves (withOk_error bad _)),
      fun serves => congrArg Host.Outcome.next (bodyOn_fail serves (withOk_error bad _))⟩

end Sys2Proof.Machine
end

section
/-! SUPPORT. The bodies of families 6 and 7 (R383, R418, R435, R455). -/

namespace Sys2Proof.Machine

section
variable {s t : State} {p : PairId} {j : Job} {n op : Nat}

/-- CART_CTL with its own OP is its row's. -/
theorem cartBody_own (opcode : j.opcode = 0x603) (is : j.arg 1 1 = op) :
    (j.opcode == 0x603 && (j.arg 1 1 == op || decide (3 < j.arg 1 1))) = true := by simp [opcode, is]

/-- CART_CTL on a slot that holds a cartridge (R383). -/
theorem cartBody_done (serves : s.Serves p.val 0x603 j) (slot : j.arg 0 1 ≤ 7) (zero : j.arg 2 2 = 0) (on : s.portOn (42 + j.arg 0 1) = true)
    (seated : s.slotState (j.arg 0 1) ≠ Slot.empty) (is : j.arg 1 1 = op) (known : op ≤ 3) : s.cartBody p.val op =
      s.answers (s.cartCtl (j.arg 0 1) op) p.val [] (leBytes 4 ((s.cartCtl (j.arg 0 1) op).slotState (j.arg 0 1))) := by
  refine runBody_reply serves (cartBody_own serves.isIt is) ?_
  dsimp only
  rw [if_neg (by omega), on, if_neg (by decide), if_neg seated]

theorem cartBody_disabled (serves : s.Serves p.val 0x603 j) (slot : j.arg 0 1 ≤ 7) (zero : j.arg 2 2 = 0)
    (off : s.portOn (42 + j.arg 0 1) = false) (is : j.arg 1 1 = op) (known : op ≤ 3) :
    s.cartBody p.val op = s.declines s p.val j [] St.portDisabled 0 := by
  refine runBody_fail serves (cartBody_own serves.isIt is) ?_
  dsimp only
  rw [if_neg (by omega), off]
  rfl

theorem cartBody_empty (serves : s.Serves p.val 0x603 j) (slot : j.arg 0 1 ≤ 7) (zero : j.arg 2 2 = 0)
    (on : s.portOn (42 + j.arg 0 1) = true) (empty : s.slotState (j.arg 0 1) = Slot.empty) (is : j.arg 1 1 = op) (known : op ≤ 3) :
    s.cartBody p.val op = s.declines s p.val j [] St.portAbsent 0 := by
  refine runBody_fail serves (cartBody_own serves.isIt is) ?_
  dsimp only
  rw [if_neg (by omega), on, if_neg (by decide), if_pos empty]
  rfl

/-- TAG_ACCESS with its own WRITE is its row's. -/
theorem tagBody_own {wr : Nat} (opcode : j.opcode = 0x605) (is : j.arg 1 1 = wr) :
    (j.opcode == 0x605 && (j.arg 1 1 == wr || decide (1 < j.arg 1 1))) = true := by simp [opcode, is]

/-- TAG_ACCESS of a tenant's front end (R417, R418). -/
theorem tagBody_reply {wr : Nat} {data : List Byte} {f : Job → Nat → Nat → State → BodyResult} (serves : s.Serves p.val 0x605 j)
    (unit_ : j.arg 0 1 ≤ 3) (block : j.arg 2 2 ≤ 1023) (tenant : j.tenant = s.getF (Fld.RF_CFG_TENANT (j.arg 0 1))) (is : j.arg 1 1 = wr)
    (known : wr ≤ 1) (gives : f j (j.arg 0 1) (j.arg 2 2) s = reply data t) : s.tagBody p.val wr f = s.answers t p.val [] data := by
  refine runBody_reply serves (tagBody_own serves.isIt is) ?_
  dsimp only
  rw [if_neg (by omega), if_neg (not_not_intro tenant), gives]

theorem tagBody_other {wr : Nat} {f : Job → Nat → Nat → State → BodyResult} (serves : s.Serves p.val 0x605 j) (unit_ : j.arg 0 1 ≤ 3)
    (block : j.arg 2 2 ≤ 1023) (other : j.tenant ≠ s.getF (Fld.RF_CFG_TENANT (j.arg 0 1))) (is : j.arg 1 1 = wr) (known : wr ≤ 1) :
    s.tagBody p.val wr f = s.declines s p.val j [] St.policy 4 := by
  refine runBody_fail serves (tagBody_own serves.isIt is) ?_
  dsimp only
  rw [if_neg (by omega), if_pos other]

/-- SC_APDU once its exchange has been submitted: what the record says (R435). -/
theorem scApdu_submitted (low : 54 ≤ j.arg 0 1) (high : j.arg 0 1 ≤ 55) (zero : j.arg 1 3 = 0)
    (submitted : j.effects.contains (.progress 1) = true) :
    (if j.arg 0 1 < 54 ∨ 55 < j.arg 0 1 ∨ j.arg 1 3 ≠ 0 then badParam s
      else if j.effects.contains (.progress 1) then s.apduResult p.val (j.arg 0 1 - 54)
      else if !s.portOn (j.arg 0 1) then refuse St.portDisabled s
      else if j.params.length = 4 then badParam s
      else s.submitApdu p.val (j.arg 0 1 - 54) (j.params.drop 4)) = s.apduResult p.val (j.arg 0 1 - 54) := by
  rw [if_neg (by omega), if_pos submitted]

/-- A body's reply, what is done with it, and the data put in its place. -/
theorem reply_onDone (data data' : List Byte) (t : State) (f : State → State) :
    ((reply data t).onDone f).withReply data' = reply data' (f t) := rfl

end

end Sys2Proof.Machine
end

section
/-! The statements about the commands of families 6 to 9 settled. -/

namespace Sys2Proof.Machine

/-- Settles O33: the bodies of families 6 and 7, by the port, slot or link that they name. -/
theorem portAndBasketCommandsReply : Obligations.PortAndBasketCommandsReply := by
  intro s p j
  refine ⟨?ctl, ?sealed, ?status, ?heads, ?cart, ?cartOff, ?cartEmpty, ?rf, ?tag, ?tagOther, ?apdu, ?apduOff, ?basket, ?member, ?forbidden, ?leave,
    ?rekey, ?rekeyOff⟩
  case ctl =>
    intro m serves is on zero open_
    have port : Fin.ofNat 128 (j.arg 0 1) = m := by rw [is]; exact Fin.ofNat_val_eq_self m
    have fits : j.arg 0 1 ≤ 127 := by have := m.isLt; omega
    refine congrArg Host.Outcome.next (body_reply serves ?_)
    dsimp only
    rw [if_neg (by omega), if_neg (by omega), if_neg, port]
    · rfl
    · rintro ⟨low, high, enable, tampered | scrapped⟩
      · exact (open_ low high enable).1 tampered
      · exact (open_ low high enable).2 scrapped
  case sealed =>
    intro serves low high enable zero state
    refine congrArg Host.Outcome.next (body_fail serves ?_)
    dsimp only
    rw [if_neg (by omega), if_neg (by omega), if_pos ⟨low, high, enable, state⟩]
    rfl
  case status =>
    intro m serves is zero
    have port : Fin.ofNat 128 (j.arg 0 1) = m := by rw [is]; exact Fin.ofNat_val_eq_self m
    have fits : j.arg 0 1 ≤ 127 := by have := m.isLt; omega
    refine congrArg Host.Outcome.next (body_reply serves ?_)
    dsimp only
    rw [if_neg (not_not_intro zero), if_neg (by omega), port]
  case heads => exact fun serves => congrArg Host.Outcome.next (body_reply serves rfl)
  case cart =>
    intro serves slot zero on seated
    exact ⟨fun is => congrArg Host.Outcome.next (cartBody_done serves slot zero on seated is (by decide)),
      fun is => congrArg Host.Outcome.next (cartBody_done serves slot zero on seated is (by decide)),
      fun is => congrArg Host.Outcome.next (cartBody_done serves slot zero on seated is (by decide)),
      fun is => congrArg Host.Outcome.next (cartBody_done serves slot zero on seated is (by decide))⟩
  case cartOff =>
    exact fun serves slot zero off is => congrArg Host.Outcome.next (cartBody_disabled serves slot zero off is (by decide))
  case cartEmpty =>
    exact fun serves slot zero on empty is => congrArg Host.Outcome.next (cartBody_empty serves slot zero on empty is (by decide))
  case rf =>
    intro serves unit_ mode zero
    refine congrArg Host.Outcome.next (body_reply serves ?_)
    dsimp only
    rw [if_neg (by omega)]
  case tag =>
    intro serves unit_ block tenant
    refine ⟨fun is => congrArg Host.Outcome.next (tagBody_reply serves unit_ block tenant is (by decide) rfl), fun is on => ?_⟩
    refine congrArg Host.Outcome.next (tagBody_reply serves unit_ block tenant is (by decide) ?_)
    dsimp only
    rw [on]
    rfl
  case tagOther =>
    intro serves unit_ block other
    exact ⟨fun is => congrArg Host.Outcome.next (tagBody_other serves unit_ block other is (by decide)),
      fun is => congrArg Host.Outcome.next (tagBody_other serves unit_ block other is (by decide))⟩
  case apdu =>
    intro serves low high zero submitted
    refine ⟨fun running => congrArg Host.Outcome.next (body_wait serves ?_), fun ended ok => congrArg Host.Outcome.next (body_reply serves ?_)⟩
    · refine (scApdu_submitted low high zero submitted).trans ?_
      unfold State.apduResult
      dsimp only
      rw [running]
      rfl
    · refine (scApdu_submitted low high zero submitted).trans ?_
      unfold State.apduResult
      dsimp only
      rw [ended, if_neg (by decide), if_pos ok]
  case apduOff =>
    intro serves low high zero open_ off
    refine congrArg Host.Outcome.next (body_fail serves ?_)
    dsimp only
    rw [if_neg (by omega), if_neg (Bool.eq_false_iff.1 open_), off]
    rfl
  case basket => exact fun serves => ⟨_, (s.freshBytes 2).2, rfl, rfl, rfl, congrArg Host.Outcome.next (body_reply serves rfl)⟩
  case member =>
    intro v key t nb kcv u x d serves form permitted i tn blob hdr place free brought alg usage wrapped check placed
    refine congrArg Host.Outcome.next (body_reply serves ?_)
    dsimp only
    rw [form, if_neg (by decide), permitted, if_neg (by decide)]
    refine (withOk_ok place _).trans ((if_neg (Bool.eq_false_iff.1 free)).trans ((withOk_ok brought _).trans ?_))
    refine (if_neg (not_not_intro alg)).trans ((if_neg (not_not_intro usage)).trans ?_)
    dsimp only
    exact congrArg (fun r : BodyResult => (r.onDone _).withReply _) (placePlain_of wrapped check placed)
  case forbidden =>
    intro serves form forbidden
    refine congrArg Host.Outcome.next (body_fail serves ?_)
    dsimp only
    rw [form, if_neg (by decide), forbidden]
    rfl
  case leave => exact fun serves => congrArg Host.Outcome.next (body_reply serves rfl)
  case rekey =>
    intro serves link zero on
    refine congrArg Host.Outcome.next (body_reply serves ?_)
    dsimp only
    rw [if_neg (by omega), on]
    rfl
  case rekeyOff =>
    intro serves link zero off
    refine congrArg Host.Outcome.next (body_fail serves ?_)
    dsimp only
    rw [if_neg (by omega), off]
    rfl

/-- Settles O34: the bodies of families 8 and 9. -/
theorem lifecycleAndManagementCommandsReply : Obligations.LifecycleAndManagementCommandsReply := by
  intro s p j
  refine ⟨?read, ?nonce, ?broken, ?transition, ?refused, ?cert, ?certBad, ?close, ?telemetry, ?events, ?list, ?ash, ?clear, ?busy, ?outside⟩
  case read => exact fun serves => congrArg Host.Outcome.next (body_reply serves rfl)
  case nonce =>
    intro serves healthy
    refine ⟨congrArg Host.Outcome.next (body_reply serves ?_), rfl⟩
    rw [healthy]
    rfl
  case broken =>
    intro serves broken
    refine congrArg Host.Outcome.next (body_fail serves ?_)
    rw [broken]
    rfl
  case transition =>
    intro r owner serves zero accepted
    refine congrArg Host.Outcome.next (body_reply serves ?_)
    unfold State.lcPresent
    rw [if_neg (not_not_intro zero)]
    dsimp only
    rw [accepted]
  case refused =>
    intro st sub reason serves zero refused
    refine congrArg Host.Outcome.next (body_fail serves ?_)
    unfold State.lcPresent
    rw [if_neg (not_not_intro zero)]
    dsimp only
    rw [refused]
  case cert =>
    intro serves good
    have taken : (s.certPresent j.params).2 = true := by unfold State.certPresent; rw [good]
    exact congrArg Host.Outcome.next (body_reply serves (if_pos taken))
  case certBad =>
    intro r serves bad
    have refused : s.certPresent j.params = (s.lastRef r, false) := by unfold State.certPresent; rw [bad]
    refine congrArg Host.Outcome.next (body_fail serves ?_)
    rw [refused]
    rfl
  case close => exact fun serves => congrArg Host.Outcome.next (body_reply serves rfl)
  case telemetry =>
    intro serves zero
    exact ⟨((s.freshBytes 2).2.freshBytes (ofLe (s.freshBytes 2).1 % (j.replyRoom + 1))).1,
      ((s.freshBytes 2).2.freshBytes (ofLe (s.freshBytes 2).1 % (j.replyRoom + 1))).2, rfl, rfl, rfl,
      congrArg Host.Outcome.next (body_reply serves (if_neg (not_not_intro zero)))⟩
  case events =>
    intro addr len serves buffer low high room n es next
    refine congrArg Host.Outcome.next (body_done serves ?_)
    dsimp only
    rw [buffer]
    refine (if_neg (by omega)).trans ?_
    cases last : es.getLast? with
    | none =>
      have is : next = n := by simp only [next, last]; rfl
      rw [is]
    | some e =>
      have is : next = (e.seq + 1) % 0x10000 := by simp only [next, last]; rfl
      rw [is]
  case list => exact fun serves => congrArg Host.Outcome.next (body_reply serves rfl)
  case ash =>
    intro addr len d serves buffer slot zero
    refine ⟨fun empty => congrArg Host.Outcome.next (body_reply serves ?_), fun valid room opens => congrArg Host.Outcome.next (body_done serves ?_)⟩
    · dsimp only
      rw [buffer]
      dsimp only
      rw [if_neg (by omega), empty]
      rfl
    · dsimp only
      rw [buffer]
      dsimp only
      rw [if_neg (by omega), valid, if_neg (by decide), if_neg (Nat.not_lt.2 room), opens]
      rfl
  case clear =>
    intro serves slot zero idle
    refine congrArg Host.Outcome.next (body_reply serves ?_)
    dsimp only
    rw [if_neg (by omega), idle]
    rfl
  case busy =>
    intro serves slot zero busy
    refine congrArg Host.Outcome.next (body_fail serves ?_)
    dsimp only
    rw [if_neg (by omega), busy]
    rfl
  case outside =>
    intro serves outside
    exact congrArg Host.Outcome.next (body_fail serves (if_pos (.inl outside)))

end Sys2Proof.Machine
end

section
/-! SUPPORT. What a running job of an engine gives (R223, R235, R245). -/

namespace Sys2Proof.Machine

section
variable {s t : State}

/-- A running public-key operation whose result fails its check (R235). -/
theorem comp_fault {h op : Nat} {run : EngRun} (runs : s.PkeRuns h op run) {f : EngRun → State → Option (EngResult × State)} (fails : f run s = none) :
    (Host.Outcome.next (s.pkeCompute h op f) : Host.Outcome State Fault Refusal) = .next (s.pkeFault h run) := by
  obtain ⟨isIt, open_, notTesting, opIs⟩ := runs
  simp [State.pkeCompute, isIt, open_, notTesting, opIs, fails]

/-- A descriptor whose checks are behind it. -/
theorem symBegin_begun {i : Nat} {run : EngRun} (isIt : (s.symOf i).run = some run) (begun : run.begun = true) : s.symBegin i = s := by
  rw [State.symBegin, isIt]
  exact if_pos begun

/-- A modulus of 64m bits, odd and above 2^(64m − 64) (R223). -/
theorem modulusOk_iff {m n : Nat} : modulusOk m n = true ↔ n % 2 = 1 ∧ 2 ^ (64 * m - 64) < n := by simp [modulusOk]

/-- The running job `run` of symmetric engine i computes `op` (R245). -/
theorem symCompute_of {i op : Nat} {run : EngRun} {f : EngRun → State → EngResult × State} {r : EngResult}
    (runs : (s.symOf i).run = some run ∧ run.begun = true ∧ run.result = none ∧ descOp run.words = op) (gives : f run s = (r, t)) :
    (Host.Outcome.next (s.symCompute i op f) : Host.Outcome State Fault Refusal) = .next (t.setSymRun i { run with result := some r }) := by
  obtain ⟨isIt, begun, open_, opIs⟩ := runs
  simp [State.symCompute, symBegin_begun isIt begun, isIt, open_, opIs, gives]

end

end Sys2Proof.Machine
end

section
/-! The statements about the operations of the engines settled. -/

namespace Sys2Proof.Machine

/-- Settles O36: each operation's check of its operands, and what it gives past it. -/
theorem publicKeyOperationsCompute : Obligations.PublicKeyOperationsCompute := by
  intro s h run m n x e runs all range
  refine ⟨?modexp, ?modexpBad, ?pub, ?pubBad, ?priv, ?privFault, ?verify, ?verifyBad, ?agree, ?point, ?decap, ?dsa, ?bound, ?install, ?installBad,
    ?clear, ?ntt, ?nttBad⟩
  case modexp =>
    intro is odd large low high
    have fine : ¬(!modulusOk m n || x == 0 || decide (n ≤ x)) = true := by
      rw [modulusOk_iff.2 ⟨odd, large⟩]
      simp [Nat.ne_of_gt low, high]
    exact comp_of is (congrArg some ((if_neg fine).trans (congrArg (fun y => (engOk (leBytes (8 * m) y), s)) (powMod_eq x e n))))
  case modexpBad =>
    intro is bad
    have outside : (!modulusOk m n || x == 0 || decide (n ≤ x)) = true := by
      simp only [Bool.or_eq_true, Bool.not_eq_true', ← Bool.not_eq_true, modulusOk_iff, beq_iff_eq, decide_eq_true_eq]
      omega
    exact comp_of is (congrArg some (if_pos outside))
  case pub =>
    intro is odd large low high exp three below
    have fine : ¬(!modulusOk m n || x == 0 || decide (n ≤ x) || e % 2 == 0 || decide (e < 3) || decide (n ≤ e)) = true := by
      rw [modulusOk_iff.2 ⟨odd, large⟩]
      simp [Nat.ne_of_gt low, high, exp, three, below]
    exact comp_of is (congrArg some ((if_neg fine).trans (congrArg (fun y => (engOk (leBytes (8 * m) y), s)) (powMod_eq x e n))))
  case pubBad =>
    intro is bad
    have outside : (!modulusOk m n || x == 0 || decide (n ≤ x) || e % 2 == 0 || decide (e < 3) || decide (n ≤ e)) = true := by
      simp only [Bool.or_eq_true, beq_iff_eq, decide_eq_true_eq]
      omega
    exact comp_of is (congrArg some (if_pos outside))
  case priv =>
    rintro k rfl is one below ok checks
    refine comp_of is ((if_neg ?_).trans (if_pos ((powMod_eq _ _ _).trans checks)))
    simp only [not_or, not_not, not_le]
    exact ⟨by omega, by omega, below, ok⟩
  case privFault =>
    rintro k rfl is one below ok fails
    refine comp_fault is ((if_neg ?_).trans (if_neg fun eq => fails ((powMod_eq _ _ _).symm.trans eq)))
    simp only [not_or, not_not, not_le]
    exact ⟨by omega, by omega, below, ok⟩
  case verify =>
    intro c is curve r g on rlow rhigh glow ghigh
    refine comp_of is ?_
    rw [curve]
    refine congrArg some (if_neg ?_)
    have fine : (false || r == 0 || decide (c.n ≤ r) || g == 0 || decide (c.n ≤ g)) = false := by
      simp [Nat.ne_of_gt rlow, rhigh, Nat.ne_of_gt glow, ghigh]
    rw [on]
    exact Bool.eq_false_iff.1 fine
  case verifyBad =>
    intro c is curve off
    refine comp_of is ?_
    rw [curve]
    refine congrArg some (if_pos ?_)
    rw [off]
    rfl
  case agree =>
    intro is curve (param : pkParam run.words = 0x40) raw
    generalize shared : x25519 run.key (run.inp 0) = z
    split
    case isTrue zero =>
      refine comp_of is ?_
      rw [curve]
      dsimp only
      rw [if_pos param, shared]
      exact if_pos zero
    case isFalse some_ =>
      refine comp_of is ?_
      rw [curve]
      dsimp only
      rw [if_pos param, shared, if_neg some_, State.secretOut, raw]
      rfl
  case point =>
    intro c is curve xlow ylow
    refine comp_of is ?_
    rw [curve]
    exact congrArg some (if_neg (by omega))
  case decap =>
    intro is raw
    refine comp_of is ?_
    rw [State.secretOut, raw]
    rfl
  case dsa =>
    intro b is fits verdict
    refine comp_of is ?_
    rw [fits, verdict]
    rfl
  case bound => exact fun is => ⟨_, _, comp_of is rfl⟩
  case install =>
    intro is mac long
    refine comp_of is (congrArg some (if_pos ?_))
    rw [List.length_take, Nat.min_eq_left (Nat.sub_le _ _)]
    exact mac
  case installBad =>
    intro is mac long
    refine comp_of is (congrArg some (if_neg ?_))
    rw [List.length_take, Nat.min_eq_left (Nat.sub_le _ _)]
    exact mac
  case clear => exact fun is => comp_of is rfl
  case ntt =>
    intro is param small
    have low : (if m ≤ 2 then 2 else 4 : Nat) = 2 := if_pos (by omega)
    have q : (if m ≤ 2 then 3329 else 8380417 : Nat) = 3329 := if_pos (by omega)
    refine comp_of is ?_
    dsimp only
    rw [low, q, if_pos param, if_neg]
    simpa [coeffs] using small
  case nttBad =>
    intro is param large
    have low : (if m ≤ 2 then 2 else 4 : Nat) = 2 := if_pos (by omega)
    have q : (if m ≤ 2 then 3329 else 8380417 : Nat) = 3329 := if_pos (by omega)
    refine comp_of is ?_
    dsimp only
    rw [low, q, if_pos]
    · rfl
    · simpa [coeffs] using large

/-- Settles O38: each operation's mode and verdict, and what it gives. -/
theorem symmetricOperationsCompute : Obligations.SymmetricOperationsCompute := by
  intro s i run ws m aux iv aad runs holds gives
  refine ⟨?ecb, ?cbc, ?ctr, ?gcm, ?gcmBad, ?tdeaEcb, ?tdeaCbc, ⟨?mac, ?macVerify⟩, ?pin, ?pinBad, ?pinNoRng, ?kcv, ?derive, ?copy⟩
  case ecb =>
    intro is (mode : syMode run.words = _) (dir : syDecrypt run.words = _)
    refine symCompute_of is ?_
    dsimp only
    rw [mode, dir]
    rfl
  case cbc =>
    intro is (mode : syMode run.words = _) (dir : syDecrypt run.words = _)
    refine symCompute_of is ?_
    dsimp only
    rw [mode, dir]
    rfl
  case ctr =>
    intro is (mode : syMode run.words = _)
    refine symCompute_of is ?_
    dsimp only
    rw [mode]
    rfl
  case gcm =>
    intro is (mode : syMode run.words = _) (dir : syDecrypt run.words = _) c
    refine symCompute_of is ?_
    dsimp only
    rw [mode, dir]
    rfl
  case gcmBad =>
    intro is (mode : syMode run.words = _) (dir : syDecrypt run.words = _) c differs
    refine symCompute_of is ?_
    dsimp only
    rw [mode, dir]
    exact congrArg (·, s) (if_neg differs)
  case tdeaEcb =>
    intro is (mode : syMode run.words = _) (dir : syDecrypt run.words = _)
    refine symCompute_of is ?_
    dsimp only
    rw [mode, dir]
    rfl
  case tdeaCbc =>
    intro is (mode : syMode run.words = _) (dir : syDecrypt run.words = _)
    refine symCompute_of is ?_
    dsimp only
    rw [mode, dir]
    rfl
  case mac =>
    intro is (verify : syVerify run.words = _)
    refine symCompute_of is ?_
    dsimp only
    rw [verify]
    rfl
  case macVerify =>
    intro is (verify : syVerify run.words = _)
    refine symCompute_of is ?_
    dsimp only
    rw [verify, if_pos rfl, validBytes, b2n]
    simp only [beq_iff_eq]
    rfl
  case pin =>
    intro pin is format out
    refine symCompute_of is ?_
    dsimp only
    rw [format]
    dsimp only
    rw [if_neg (fun h => h.1 out), if_pos out, out]
  case pinBad =>
    intro is format
    refine symCompute_of is ?_
    dsimp only
    rw [format]
  case pinNoRng =>
    intro pin is format out broken
    refine symCompute_of is ?_
    dsimp only
    rw [format]
    exact if_pos ⟨out, Bool.eq_false_iff.1 broken⟩
  case kcv => exact fun is => symCompute_of is rfl
  case derive =>
    intro b is wrapped
    refine symCompute_of is ?_
    dsimp only
    rw [wrapped]
    rfl
  case copy =>
    intro is g d r hs hd
    exact ⟨fun mac => symCompute_of is (if_pos mac), fun mac => symCompute_of is (if_neg mac)⟩

end Sys2Proof.Machine
end

section
/-! SUPPORT. The random number generator: its sources, its queue and its known-answer test (R264–R270). -/

namespace Sys2Proof.Machine

section
variable (s : State)

/-! ## Sources -/

/-- R266 works on HEALTHY, FAIL and the queue alone. -/
theorem rngUpdate_keeps : (∀ o ≠ Reg.RNG_STAT, s.rngUpdate.reg o = s.reg o) ∧
    (∀ k < 30, bit k (s.rngUpdate.reg Reg.RNG_STAT) = bit k (s.reg Reg.RNG_STAT)) ∧ s.rngUpdate.hmem = s.hmem := by
  unfold State.rngUpdate
  split
  · refine ⟨fun o ne => State.reg_setReg_ne s _ ne, fun k low => ?_, rfl⟩
    rw [State.setF, State.reg_setReg, bit_setFld_ne _ _ (by omega) (.inl (by show k < 31; omega))]
  · split
    · refine ⟨fun o ne => (State.reg_setReg_ne _ _ ne).trans (State.reg_setReg_ne _ _ ne), fun k low => ?_, rfl⟩
      show bit k (((s.setF Fld.RNG_STAT_HEALTHY 0).setF Fld.RNG_STAT_FAIL 1).reg Reg.RNG_STAT) = _
      rw [State.setF, State.reg_setReg, bit_setFld_ne _ _ (by omega) (.inl low), State.setF, State.reg_setReg,
        bit_setFld_ne _ _ (by omega) (.inl (by show k < 31; omega))]
    · exact ⟨fun _ _ => rfl, fun _ _ => rfl, rfl⟩

/-- A source marked failed (R265): its mark stands, whatever the log and R266 make of it. -/
theorem marked_failed (i : Nat) (low : i < 4) :
    let t := ((s.setF ⟨Reg.RNG_STAT, 16 + i, 16 + i⟩ 1).logEvent Src.engine 2 i 0 0 0).rngUpdate
    bit (16 + i) (t.reg Reg.RNG_STAT) = true ∧
      (∀ o, o ≠ Reg.RNG_STAT → o ≠ Reg.SYS_LOG_STAT → o ≠ Reg.SYS_LOG_OVF → o ≠ Reg.PG_UCTL 125 → t.reg o = s.reg o) ∧ t.hmem = s.hmem := by
  intro t
  have logs := logs_logEvent (s.setF ⟨Reg.RNG_STAT, 16 + i, 16 + i⟩ 1) Src.engine 2 i 0 0 0
  obtain ⟨others, mark, hmem⟩ := rngUpdate_keeps ((s.setF ⟨Reg.RNG_STAT, 16 + i, 16 + i⟩ 1).logEvent Src.engine 2 i 0 0 0)
  refine ⟨?_, fun o stat logStat ovf uctl => ?_, ?_⟩
  · rw [mark _ (by omega), logs.reg _ (by decide) (by decide) (by decide), State.setF, State.reg_setReg, bit_setFld_self _ _ (by omega)]
    rfl
  · rw [others o stat, logs.reg o logStat ovf uctl]
    exact State.reg_setReg_ne s _ stat
  · exact hmem.trans (logs.untouched.hmem.trans (State.setF_hmem _ _ _))

/-- A register whose field saturates. -/
theorem getF_incF {f : FieldAt} (high : f.hi < 32) : (s.incF f).getF f = min (2 ^ (f.hi + 1 - f.lo) - 1) (s.getF f + 1) := by
  rw [State.incF, getF_setF_self _ _ high]
  exact Nat.mod_eq_of_lt (Nat.lt_of_le_of_lt (Nat.min_le_left _ _) (Nat.sub_lt (Nat.two_pow_pos _) Nat.one_pos))

/-- RNG_SOURCE_FAIL (R265): the mark and the counter `f` of the test. -/
theorem failSource_marks (i : Nat) (low : i < 4) (test : HealthTest) (f : FieldAt) (high : f.hi < 32)
    (is : s.failSource i test = (((s.incF f).setF ⟨Reg.RNG_STAT, 16 + i, 16 + i⟩ 1).logEvent Src.engine 2 i 0 0 0).rngUpdate)
    (off : f.off = Reg.RNG_SHC i) :
    bit (16 + i) ((s.failSource i test).reg Reg.RNG_STAT) = true ∧
      (s.failSource i test).getF f = min (2 ^ (f.hi + 1 - f.lo) - 1) (s.getF f + 1) ∧
      (s.failSource i test).reg Reg.RNG_RESTART = s.reg Reg.RNG_RESTART ∧ (s.failSource i test).hmem = s.hmem := by
  rw [is]
  obtain ⟨mark, others, hmem⟩ := marked_failed (s.incF f) i low
  have apart : f.off ≠ Reg.RNG_STAT ∧ f.off ≠ Reg.SYS_LOG_STAT ∧ f.off ≠ Reg.SYS_LOG_OVF ∧ f.off ≠ Reg.PG_UCTL 125 ∧ Reg.RNG_RESTART ≠ f.off := by
    rw [off]
    simp only [Reg.RNG_SHC, Reg.RNG_STAT, Reg.SYS_LOG_STAT, Reg.SYS_LOG_OVF, Reg.PG_UCTL, Reg.RNG_RESTART]
    omega
  obtain ⟨stat, logStat, ovf, uctl, restart⟩ := apart
  refine ⟨mark, ?_, ?_, hmem⟩
  · rw [State.getF, others _ stat logStat ovf uctl, ← State.getF, getF_incF s high]
  · rw [others _ (by decide) (by decide) (by decide) (by decide)]
    exact State.reg_setReg_ne s _ restart

/-- RNG_STARTUP_DONE of a test that fails (R265). -/
theorem failStartup_marks (i : Nat) (low : i < 4) :
    bit (16 + i) ((s.failStartup i).reg Reg.RNG_STAT) = true ∧ (s.failStartup i).reg Reg.RNG_RESTART = s.reg Reg.RNG_RESTART := by
  unfold State.failStartup
  dsimp only
  split
  · obtain ⟨mark, -, restart, -⟩ := failSource_marks (s.freshBytes 1).2 i low .repetition (Fld.RNG_SHC_RCT_FAILS i) (show 31 < 32 by decide) rfl rfl
    exact ⟨mark, restart⟩
  · obtain ⟨mark, -, restart, -⟩ := failSource_marks (s.freshBytes 1).2 i low .proportion (Fld.RNG_SHC_APT_FAILS i) (show 15 < 32 by decide) rfl rfl
    exact ⟨mark, restart⟩

/-! ## The queue -/

/-- What is taken off the queue is no longer in it. -/
theorem takeRuns_level (n : Nat) (rs : List DrbgRun) : ((takeRuns n rs).2.map (·.count)).sum = (rs.map (·.count)).sum - n := by
  induction rs generalizing n with
  | nil => simp [takeRuns]
  | cons r rs ih =>
    unfold takeRuns
    split
    · simp_all
    · split
      · simp only [List.map_cons, List.sum_cons]
        omega
      · simp only [ih, List.map_cons, List.sum_cons]
        omega

theorem produce_level (u : RngUnit) (n : Nat) : (u.produce n).level = u.level + n := by
  unfold RngUnit.produce RngUnit.level
  dsimp only
  split <;> simp

theorem produce_made (u : RngUnit) (n : Nat) : (u.produce n).made = if u.made + n < 65536 then u.made + n else 65536 := by
  unfold RngUnit.produce
  dsimp only
  split <;> rfl

theorem conditioned_keeps : s.conditioned.2.rng = s.rng ∧ s.conditioned.2.regs = s.regs := by
  unfold State.conditioned
  split <;> exact ⟨rfl, rfl⟩

/-- A reseed begins a request with the queue as it was (R267). -/
theorem reseed_keeps : s.reseed.rng.level = s.rng.level ∧ s.reseed.rng.made = 0 ∧ s.reseed.regs = (s.incSat Reg.RNG_RESEEDS).regs := by
  obtain ⟨rng, regs⟩ := conditioned_keeps s
  refine ⟨?_, rfl, ?_⟩
  · rw [← rng]
    rfl
  · exact congrArg (fun r : Table Word => r.set resetReg Reg.RNG_RESEEDS (if r.get resetReg Reg.RNG_RESEEDS = 0xFFFFFFFF#32 then
      r.get resetReg Reg.RNG_RESEEDS else r.get resetReg Reg.RNG_RESEEDS + 1)) regs

/-! ## Known-answer tests -/

/-- The words of a list written to as many registers. -/
theorem reg_writeWords (o : Nat → Nat) (v : Nat → Word) (inj : ∀ i j, o i = o j → i = j) (n w : Nat) (low : w < n) :
    ((List.range n).foldl (fun s k => s.setReg (o k) (v k)) s).reg (o w) = v w := by
  induction n with
  | zero => omega
  | succ n ih =>
    rw [List.range_succ, List.foldl_append]
    by_cases last : w = n
    · subst last
      exact State.reg_setReg _ _ _
    · exact (State.reg_setReg_ne _ _ fun eq => last (inj _ _ eq)).trans (ih (by omega))

end

end Sys2Proof.Machine
end

section
/-! The statement about randomised operations and the random number generator settled. -/

namespace Sys2Proof.Machine

/-- Settles O37: each operation draws where the generator is healthy; the generator keeps its marks, counters and level. -/
theorem randomizedOperationsAndRng : Obligations.RandomizedOperationsAndRng := by
  refine ⟨?engine, ?data, ?restart, ?kat, ?fail, ?startup, ?reseed, ?katDone⟩
  case engine =>
    intro s h run m runs noRng drawn
    refine ⟨?broken, ?ecKey, ?ecSign, ?edSign, ?kemKey, ?kem, ?kemBad, ?dsaKey, ?dsaSign, ?vet⟩
    case broken =>
      intro broken
      have none_ : (!s.rngHealthy) = true := by rw [broken]; rfl
      exact ⟨fun is => comp_of is (if_pos none_), fun is => comp_of is (if_pos none_), fun is => comp_of is (if_pos none_),
        fun is => comp_of is (if_pos none_)⟩
    case ecKey =>
      intro c b is healthy curve d key (slot : pkParam run.words < 32) wrapped
      have lens : (ecLens (pkParam run.words) run.curve).getD (0, 0, 0) = (c.len, 2 * c.len, 2 * c.nLen) := by
        rw [curve, ecLens, if_neg (by omega), if_neg (by omega), if_neg (by omega), if_neg (by omega)]
        rfl
      have public_ (k : List Byte) : ecPublic (pkParam run.words) run.curve k = c.pubBytes (ofLe k) := by
        rw [curve, ecPublic, if_neg (by omega), if_neg (by omega), if_neg (by omega), if_neg (by omega)]
      refine comp_of is ?_
      dsimp only
      rw [healthy, if_neg (by decide), lens, public_, curve]
      dsimp only
      rw [wrapped]
      rfl
    case ecSign =>
      intro c is curve low high healthy r g ok
      have inRange : ¬(ofLe run.key = 0 ∨ c.n ≤ ofLe run.key) := by omega
      refine ⟨fun verifies => comp_of is ?_, fun fails => comp_fault is ?_⟩
      · rw [curve]
        dsimp only
        rw [if_neg inRange, healthy, if_neg (by decide)]
        exact if_pos verifies
      · rw [curve]
        dsimp only
        rw [if_neg inRange, healthy, if_neg (by decide)]
        exact if_neg fails
    case edSign =>
      intro is curve (param : pkParam run.words = 0x42) sg ok
      refine ⟨fun verifies => comp_of is ?_, fun fails => comp_fault is ?_⟩
      · rw [curve]
        dsimp only
        rw [param]
        exact if_pos verifies
      · rw [curve]
        dsimp only
        rw [param]
        exact if_neg fails
    case kemKey =>
      intro b is healthy (param : pkParam run.words = 3) wrapped
      refine comp_of is ?_
      dsimp only
      rw [healthy, if_neg (by decide), wrapped, param]
      rfl
    case kem =>
      intro is valid healthy (param : pkParam run.words = 3) raw d r
      have good : mlkemKeyOk (pkParam run.words) (run.inp 0) = true := valid
      refine comp_of is ?_
      dsimp only
      rw [good, if_neg (by decide), healthy, if_neg (by decide), State.secretOut, raw, param]
      rfl
    case kemBad =>
      intro is bad
      exact comp_of is (if_pos (by show (!mlkemKeyOk m (run.inp 0)) = true; rw [bad]; rfl))
    case dsaKey =>
      intro b is healthy (param : pkParam run.words = 3) wrapped
      refine comp_of is ?_
      dsimp only
      rw [healthy, if_neg (by decide), wrapped, param]
      rfl
    case dsaSign =>
      intro is fits det (param : pkParam run.words = 3)
      have lens : (dsaLens 3).getD (0, 0) = (1952, 3309) := rfl
      generalize signs : mldsaSign 3 run.key (run.inp 0) (zeros 32) = r
      refine ⟨fun within verifies => comp_of is ?_, fun within fails => comp_fault is ?_, fun beyond => comp_of is ?_⟩
      · dsimp only
        rw [fits, if_neg (by decide), det, if_neg (by simp), if_pos rfl, param, lens]
        dsimp only
        rw [signs, if_neg (Nat.not_lt.2 within), if_pos verifies]
      · dsimp only
        rw [fits, if_neg (by decide), det, if_neg (by simp), if_pos rfl, param, lens]
        dsimp only
        rw [signs, if_neg (Nat.not_lt.2 within), if_neg fails]
      · dsimp only
        rw [fits, if_neg (by decide), det, if_neg (by simp), if_pos rfl, param, lens]
        dsimp only
        rw [signs, if_pos beyond]
    case vet =>
      intro is healthy c d verdict
      refine ⟨fun passes => comp_of is ?_, fun code fails => comp_of is ?_⟩
      · dsimp only
        rw [healthy, if_neg (by decide), show c.vet _ _ = none from passes]
      · dsimp only
        rw [healthy, if_neg (by decide), show c.vet _ _ = some code from fails]
  case data =>
    intro s b p reaches short
    refine ⟨fun is => congrArg Host.Outcome.next (pairAccess_fails reaches ?_ rfl), fun no => ?_⟩
    · unfold State.rngLoad
      rw [if_pos]
      · rfl
      · simpa [short] using is
    · have long : ¬(!b.rngHealthy || decide (b.rng.level < b.getF Fld.RNG_RESERVE_BYTES + 4)) = true := by simpa [short] using no
      refine ⟨congrArg Host.Outcome.next (pairAccess_ok reaches (congrArg Prod.fst (if_neg long))), takeRuns_level 4 _⟩
  case restart => exact fun s b m v reaches => congrArg Host.Outcome.next (masterWrite_of reaches rfl)
  case kat =>
    intro s b m v reaches
    refine ⟨fun start target => congrArg Host.Outcome.next (masterWrite_of reaches ?_),
      fun start target => congrArg Host.Outcome.next (masterWrite_of reaches ?_)⟩
    · rw [State.katStore, if_neg target, start]
      rfl
    · rw [State.katStore, if_pos target, start]
      rfl
  case fail =>
    intro s i open_
    have runs (test : HealthTest) : exec (.rngSourceFail i test) s = .next (s.failSource i test) :=
      congrArg Host.Outcome.next (if_neg (Bool.eq_false_iff.1 open_))
    obtain ⟨rct, rcts, -, rctMem⟩ := failSource_marks s i i.isLt .repetition (Fld.RNG_SHC_RCT_FAILS i) (show 31 < 32 by decide) rfl rfl
    obtain ⟨apt, apts, -, aptMem⟩ := failSource_marks s i i.isLt .proportion (Fld.RNG_SHC_APT_FAILS i) (show 15 < 32 by decide) rfl rfl
    exact ⟨⟨_, runs .repetition, rct, rcts, rctMem⟩, ⟨_, runs .proportion, apt, apts, aptMem⟩⟩
  case startup =>
    intro s i pass
    have cleared : bit i.val ((s.setF ⟨Reg.RNG_RESTART, i.val, i.val⟩ 0).reg Reg.RNG_RESTART) = false := by
      rw [State.setF, State.reg_setReg, bit_setFld_self _ _ (by omega)]
      rfl
    refine ⟨fun idle => congrArg Host.Outcome.next (if_pos (by rw [idle]; rfl)), fun runs => ?_, fun runs => ?_⟩
    · obtain ⟨others, marks, -⟩ := rngUpdate_keeps ((s.setF ⟨Reg.RNG_RESTART, i.val, i.val⟩ 0).setF ⟨Reg.RNG_STAT, 16 + i.val, 16 + i.val⟩ 0)
      refine ⟨_, congrArg Host.Outcome.next ((if_neg (by rw [runs]; decide)).trans (if_pos rfl)), ?_, ?_⟩
      · rw [others _ (by decide), State.setF, State.reg_setReg_ne _ _ (show Reg.RNG_RESTART ≠ Reg.RNG_STAT by decide)]
        exact cleared
      · rw [marks _ (by omega), State.setF, State.reg_setReg, bit_setFld_self _ _ (by omega)]
        rfl
    · obtain ⟨mark, restart⟩ := failStartup_marks (s.setF ⟨Reg.RNG_RESTART, i.val, i.val⟩ 0) i.val i.isLt
      exact ⟨_, congrArg Host.Outcome.next ((if_neg (by rw [runs]; decide)).trans (if_neg (by decide))), by rw [restart]; exact cleared, mark⟩
  case reseed =>
    intro s
    refine ⟨fun broken => congrArg Host.Outcome.next (if_pos (.inr (by rw [broken]; rfl))), fun healthy room made => ?_, fun healthy room made => ?_⟩
    · have fills : ¬(4096 - s.rng.level = 0 ∨ (!s.rngHealthy) = true) := by
        rw [healthy]
        simp
        omega
      refine ⟨_, congrArg Host.Outcome.next ((if_neg fills).trans (congrArg (fun t : State => ({ t with
        rng := t.rng.produce (min (4096 - s.rng.level) (65536 - t.rng.made)) } : State)) (if_neg (by omega)))), ?_, ?_, rfl⟩
      · exact (produce_level _ _).trans (by omega)
      · refine (produce_made _ _).trans ?_
        split <;> omega
    · have fills : ¬(4096 - s.rng.level = 0 ∨ (!s.rngHealthy) = true) := by
        rw [healthy]
        simp
        omega
      obtain ⟨level, none_, regs⟩ := reseed_keeps s
      refine ⟨_, congrArg Host.Outcome.next ((if_neg fills).trans (congrArg (fun t : State => ({ t with
        rng := t.rng.produce (min (4096 - s.rng.level) (65536 - t.rng.made)) } : State)) (if_pos made))), ?_, ?_, ?_⟩
      · exact (produce_level _ _).trans (by omega)
      · refine (produce_made _ _).trans ?_
        split <;> omega
      · exact regs
  case katDone =>
    intro s
    refine ⟨fun idle => congrArg Host.Outcome.next (if_pos (by rw [idle]; rfl)), fun busy => ?_⟩
    refine ⟨_, congrArg Host.Outcome.next (if_neg (by rw [busy]; decide)), ?_, ?_⟩
    · refine (flag_setF_apart _ _ (by decide) (by decide)).trans ?_
      exact flag_setF_b2n _ false rfl (by decide)
    · intro w low
      have apart : Reg.RNG_KAT_OUT w ≠ Reg.RNG_KAT_CTL := by simp only [Reg.RNG_KAT_OUT, Reg.RNG_KAT_CTL]; omega
      refine (State.reg_setReg_ne _ _ apart).trans ((State.reg_setReg_ne _ _ apart).trans ((State.reg_setReg_ne _ _ apart).trans ?_))
      exact reg_writeWords s Reg.RNG_KAT_OUT _ (fun i j eq => by simp only [Reg.RNG_KAT_OUT] at eq; omega) 16 w low

end Sys2Proof.Machine
end

section
/-! SUPPORT. The life of an engine's job: its submission, its completion, its faults (R218, R235, R238, R241, R257, R261). -/

namespace Sys2Proof.Machine

section
variable {s t : State}

/-! ## The parts -/

theorem pkeOf_setPke (s : State) (h : Nat) (e : PkeEngine) : (s.setPke h e).pkeOf h = e := Table.get_set_self _ _ _ _
theorem symOf_setSym (s : State) (i : Nat) (e : SymEngine) : (s.setSym i e).symOf i = e := Table.get_set_self _ _ _ _
theorem pkeArbOf_setPkeArb (s : State) (h : Nat) (a : Arbiter) : (s.setPkeArb h a).pkeArbOf h = a := Table.get_set_self _ _ _ _

/-- A descriptor that names no doorbell. -/
theorem descBell_quiet {ws : List Word} (quiet : bit 0 (ws.getD 1 0) = false) (s : State) (r : EngReq) : s.descBell r ws = s := by
  rw [State.descBell, quiet]
  rfl

theorem updArmed_keeps (s : State) (p : Nat) (f : Job → Job) : ({ s.updArmed p f with jobs := s.jobs } : State) = s := by
  unfold State.updArmed
  split <;> rfl

/-- A reservation returned is the job's affair alone (R226). -/
theorem returnUses_keeps (s : State) (run : EngRun) : ({ s.returnUses run with jobs := s.jobs } : State) = s := updArmed_keeps _ _ _

/-- An engine takes grants by three flags (R219). -/
theorem pkeClosed_congr {h : Nat} (enable : t.flag (Fld.PKE_UCTL_ENABLE h) = s.flag (Fld.PKE_UCTL_ENABLE h))
    (hearth : t.flag (Fld.HRT_UCTL_ENABLE h) = s.flag (Fld.HRT_UCTL_ENABLE h))
    (failed : t.flag (Fld.PKE_STAT_FAILED h) = s.flag (Fld.PKE_STAT_FAILED h)) : t.pkeClosed h = s.pkeClosed h := by
  rw [State.pkeClosed, State.hearthEnabled, enable, hearth, failed]
  rfl

theorem symClosed_congr {i : Nat} (enable : t.flag (Fld.SYM_UCTL_ENABLE (i / 4) (i % 4)) = s.flag (Fld.SYM_UCTL_ENABLE (i / 4) (i % 4)))
    (hearth : t.flag (Fld.HRT_UCTL_ENABLE (i / 4)) = s.flag (Fld.HRT_UCTL_ENABLE (i / 4)))
    (failed : t.flag (Fld.SYM_STAT_FAILED (i / 4) (i % 4)) = s.flag (Fld.SYM_STAT_FAILED (i / 4) (i % 4))) : t.symClosed i = s.symClosed i := by
  rw [State.symClosed, State.hearthEnabled, enable, hearth, failed]
  rfl

/-! ## Submission -/

theorem submission_busy (s : State) (p h : Nat) (v : Word) : s.submission p h v true = none := if_pos (.inr (.inl rfl))
theorem submission_unaligned {v : Word} (odd : v.toNat % 64 ≠ 0) (p h : Nat) (busy : Bool) : s.submission p h v busy = none :=
  if_pos (.inr (.inr odd))
theorem submission_foreign {p h : Nat} (other : hearthOf p ≠ h) (plain : s.isSupervisor p = false) (v : Word) (busy : Bool) :
    s.submission p h v busy = none :=
  if_pos (.inl ⟨other, Bool.eq_false_iff.1 plain⟩)

/-- Pair p has a request at public-key engine h, waiting or started (R218). -/
def State.pkeHas (s : State) (p h : Nat) : Prop :=
  (s.pkeOf h).reqs.any (fun r => r.pair == p) = true ∨ ∃ r, (s.pkeOf h).run = some r ∧ r.req.pair = p

theorem pkeStore_refused {p h : Nat} {v : Word} (refused : ∀ busy, s.submission p h v busy = none) :
    s.pkeStore p h v = .fail s ⟨Cause.busError, wd (0x40000000 + Reg.PKE_SUBMIT h)⟩ := by
  unfold State.pkeStore
  dsimp only
  rw [refused]
  rfl

theorem pkeStore_has {p h : Nat} (has : s.pkeHas p h) (v : Word) :
    s.pkeStore p h v = .fail s ⟨Cause.busError, wd (0x40000000 + Reg.PKE_SUBMIT h)⟩ := by
  unfold State.pkeStore
  dsimp only
  obtain waits | ⟨r, runs, mine⟩ := has
  · rw [waits, Bool.true_or, submission_busy]
    rfl
  · rw [runs]
    dsimp only
    rw [mine, beq_self_eq_true, Bool.or_true, submission_busy]
    rfl

/-- What a store to PKE.SUBMIT does with the request that it makes (R219). -/
theorem pkeStore_taken {p h : Nat} {v : Word} {r : EngReq} (free : ¬s.pkeHas p h) (taken : s.submission p h v false = some r) :
    s.pkeStore p h v = if s.pkeClosed h then .ok (s.endPkeRequest h r St.portDisabled 0x40)
      else .ok ((s.setPke h { s.pkeOf h with reqs := (s.pkeOf h).reqs ++ [r] }).setPkeArb h
        { s.pkeArbOf h with waiting := (s.pkeArbOf h).waiting ++ [⟨r.idx, b2n r.sup, 0, false, none⟩] }) := by
  have idle : (s.pkeOf h).reqs.any (fun q => q.pair == p) = false := Bool.eq_false_iff.2 fun waits => free (.inl waits)
  unfold State.pkeStore
  dsimp only
  rw [idle, Bool.false_or]
  cases runs : (s.pkeOf h).run with
  | none =>
    dsimp only
    rw [taken]
    rfl
  | some q =>
    have other : (q.req.pair == p) = false := beq_eq_false_iff_ne.2 fun mine => free (.inr ⟨q, runs, mine⟩)
    dsimp only
    rw [other, taken]
    rfl

/-- The pair p, which is no supervisor, can submit nothing more to symmetric engine i (R240). -/
def State.symHas (s : State) (p i : Nat) : Prop :=
  (s.symOf i).queue.any (fun r => r.pair == p) = true ∨ 8 ≤ (s.symOf i).queue.length ∨
    ∃ r, (s.symOf i).run = some r ∧ r.req.pair = p ∧ descOp r.words ≠ 7

theorem symStore_has {p i : Nat} (plain : s.isSupervisor p = false) (has : s.symHas p i) (v : Word) :
    s.symStore p i v = .fail s ⟨Cause.busError, wd (0x40000000 + Reg.SYM_SUBMIT (i / 4) (i % 4))⟩ := by
  unfold State.symStore
  dsimp only
  rw [plain, Bool.false_and, if_neg Bool.false_ne_true]
  obtain waits | full | ⟨r, runs, mine, op⟩ := has
  · rw [waits, Bool.true_or, Bool.true_or, submission_busy]
    rfl
  · rw [decide_eq_true full, Bool.or_true, Bool.true_or, submission_busy]
    rfl
  · rw [runs]
    dsimp only
    rw [mine, beq_self_eq_true, Bool.true_and, bne_iff_ne.2 op, Bool.or_true, submission_busy]
    rfl

/-- What a store to SYM.SUBMIT does with the request that it makes (R241, R243). -/
theorem symStore_taken {p i : Nat} {v : Word} {r : EngReq} (plain : s.isSupervisor p = false) (free : ¬s.symHas p i)
    (taken : s.submission p (i / 4) v false = some r) :
    s.symStore p i v = if s.symClosed i then .ok (s.endSymRequest r St.portDisabled 0x40)
      else .ok (((s.setSym i { s.symOf i with queue := (s.symOf i).queue ++ [r] }).symStat i).symStart i) := by
  have idle : (s.symOf i).queue.any (fun q => q.pair == p) = false := Bool.eq_false_iff.2 fun waits => free (.inl waits)
  have room : decide (8 ≤ (s.symOf i).queue.length) = false := decide_eq_false fun full => free (.inr (.inl full))
  unfold State.symStore
  dsimp only
  rw [plain, Bool.false_and, if_neg Bool.false_ne_true, idle, room, Bool.false_or, Bool.false_or]
  cases runs : (s.symOf i).run with
  | none =>
    dsimp only
    rw [taken]
    rfl
  | some q =>
    have other : (q.req.pair == p && descOp q.words != 7) = false := by
      refine Bool.eq_false_iff.2 fun mine => free (.inr (.inr ⟨q, runs, ?_⟩))
      simpa using mine
    dsimp only
    rw [other, taken]
    rfl

/-! ## The symmetric engine's queue -/

theorem symOf_symStat (s : State) (i k : Nat) : (s.symStat i).symOf k = s.symOf k := rfl

/-- A running job keeps the queue waiting (R241). -/
theorem symStart_running {i : Nat} {run : EngRun} (runs : (s.symOf i).run = some run) (begun : run.begun = true) : s.symStart i = s := by
  have busy : s.symNext i = s := by
    unfold State.symNext
    dsimp only
    rw [runs]
    rfl
  rw [State.symStart, busy, symBegin_begun runs begun]

/-- An engine with nothing to start (R241). -/
theorem symStart_idle {i : Nat} (none_ : (s.symOf i).run = none) (empty : (s.symOf i).queue = []) (copy : (s.symOf i).copy = none) :
    s.symStart i = s := by
  have idle : s.symNext i = s := by
    unfold State.symNext
    dsimp only
    rw [copy, empty]
    split <;> rfl
  rw [State.symStart, idle, State.symBegin, none_]

/-! ## Completion -/

/-- Public-key engine h once the result record of `run` is written (R238): LAST, JOBS and BUSY follow it, and the engine and its
arbiter are free. -/
def State.pkeRecorded (s : State) (h : HearthId) (run : EngRun) (r : EngResult) : State :=
  let s := s.setHbytes (run.req.desc + 56) (wordBytes (wd (r.status * 2 ^ 16 + r.code * 2 ^ 8 + 1)) ++ wordBytes (wd (r.iter * 2 ^ 24 + r.out.length)))
  let s := s.setReg (Reg.PKE_LAST h.val) (wd (r.status * 2 ^ 16 + r.code * 2 ^ 8 + run.req.idx))
  let s := (s.incWrap (Reg.PKE_JOBS h.val) 1).setF (Fld.PKE_STAT_BUSY h.val) 0
  (s.setPke h.val { s.pkeOf h.val with run := none }).endUse (.pke h)

theorem untouched_endUse_pke (s : State) (h : HearthId) : s.Untouched (s.endUse (.pke h)) := ⟨rfl, rfl, rfl⟩
theorem untouched_setPke (s : State) (h : Nat) (e : PkeEngine) : s.Untouched (s.setPke h e) := ⟨rfl, rfl, rfl⟩
theorem pkeOf_endUse_pke (s : State) (h : HearthId) (k : Nat) : (s.endUse (.pke h)).pkeOf k = s.pkeOf k := rfl

theorem pkeRecorded_run (s : State) (h : HearthId) (run : EngRun) (r : EngResult) : ((s.pkeRecorded h run r).pkeOf h.val).run = none := by
  unfold State.pkeRecorded
  dsimp only
  rw [pkeOf_endUse_pke, pkeOf_setPke]

theorem pkeRecorded_free (s : State) (h : HearthId) (run : EngRun) (r : EngResult) : ((s.pkeRecorded h run r).pkeArbOf h.val).inUse = none := by
  unfold State.pkeRecorded State.endUse
  dsimp only
  exact congrArg Arbiter.inUse (pkeArbOf_setPkeArb _ _ _)

theorem regs_setPke (s : State) (h : Nat) (e : PkeEngine) : (s.setPke h e).regs = s.regs := rfl
theorem regs_endUse_pke (s : State) (h : HearthId) : (s.endUse (.pke h)).regs = s.regs := rfl

theorem pkeRecorded_regs (s : State) (h : HearthId) (run : EngRun) (r : EngResult) : (s.pkeRecorded h run r).regs =
    ((((s.setHbytes (run.req.desc + 56) (wordBytes (wd (r.status * 2 ^ 16 + r.code * 2 ^ 8 + 1)) ++
      wordBytes (wd (r.iter * 2 ^ 24 + r.out.length)))).setReg (Reg.PKE_LAST h.val)
        (wd (r.status * 2 ^ 16 + r.code * 2 ^ 8 + run.req.idx))).incWrap (Reg.PKE_JOBS h.val) 1).setF (Fld.PKE_STAT_BUSY h.val) 0).regs :=
  (regs_endUse_pke _ h).trans (regs_setPke _ _ _)

theorem pkeRecorded_idle (s : State) (h : HearthId) (run : EngRun) (r : EngResult) : (s.pkeRecorded h run r).getF (Fld.PKE_STAT_BUSY h.val) = 0 := by
  rw [getF_congr (pkeRecorded_regs s h run r), getF_setF_self _ 0 (show 31 < 32 by decide), Nat.zero_mod]

theorem pkeRecorded_last (s : State) (h : HearthId) (run : EngRun) (r : EngResult) :
    (s.pkeRecorded h run r).reg (Reg.PKE_LAST h.val) = wd (r.status * 2 ^ 16 + r.code * 2 ^ 8 + run.req.idx) := by
  have stat : Reg.PKE_LAST h.val ≠ Reg.PKE_STAT h.val := by simp only [Reg.PKE_LAST, Reg.PKE_STAT]; omega
  have jobs : Reg.PKE_LAST h.val ≠ Reg.PKE_JOBS h.val := by simp only [Reg.PKE_LAST, Reg.PKE_JOBS]; omega
  rw [reg_congr (pkeRecorded_regs s h run r), State.setF, State.reg_setReg_ne _ _ stat, State.incWrap, State.reg_setReg_ne _ _ jobs, State.reg_setReg]

theorem pkeRecorded_flag (s : State) (h : HearthId) (run : EngRun) (r : EngResult) {f : FieldAt} (high : f.hi < 31)
    (last : f.off ≠ Reg.PKE_LAST h.val) (jobs : f.off ≠ Reg.PKE_JOBS h.val) : (s.pkeRecorded h run r).flag f = s.flag f := by
  rw [flag_congr (pkeRecorded_regs s h run r), flag_setF_apart _ 0 (by omega) (.inl high), State.flag, State.incWrap, getF_setReg_ne _ _ jobs,
    getF_setReg_ne _ _ last, getF_congr (State.setHbytes_regs _ _ _), State.flag]

theorem pkeRecorded_closed (s : State) (h : HearthId) (run : EngRun) (r : EngResult) :
    (s.pkeRecorded h run r).pkeClosed h.val = s.pkeClosed h.val := by
  refine pkeClosed_congr (pkeRecorded_flag s h run r (show 0 < 31 by decide) ?_ ?_) (pkeRecorded_flag s h run r (show 0 < 31 by decide) ?_ ?_)
    (pkeRecorded_flag s h run r (show 29 < 31 by decide) ?_ ?_) <;>
    · simp only [Reg.PKE_LAST, Reg.PKE_STAT, Reg.PKE_JOBS, Reg.HRT_UCTL, Reg.PKE_UCTL]
      omega

theorem pkeRecorded_mem (s : State) (h : HearthId) (run : EngRun) (r : EngResult) : (s.pkeRecorded h run r).hmem =
    (s.setHbytes (run.req.desc + 56) (wordBytes (wd (r.status * 2 ^ 16 + r.code * 2 ^ 8 + 1)) ++
      wordBytes (wd (r.iter * 2 ^ 24 + r.out.length)))).hmem ∧ (s.pkeRecorded h run r).pairs = s.pairs := by
  unfold State.pkeRecorded
  dsimp only
  rw [(untouched_endUse_pke _ h).hmem, (untouched_setPke _ _ _).hmem, (untouched_endUse_pke _ h).pairs, (untouched_setPke _ _ _).pairs,
    (untouched_setF _ _ _).hmem, (untouched_setF _ _ _).pairs, State.incWrap, (untouched_setReg _ _ _).hmem, (untouched_setReg _ _ _).hmem,
    (untouched_setReg _ _ _).pairs, (untouched_setReg _ _ _).pairs]
  exact ⟨rfl, State.setHbytes_pairs _ _ _⟩

/-- A doorbell is its pair's affair alone. -/
theorem descBell_keeps (s : State) (r : EngReq) (ws : List Word) :
    (s.descBell r ws).regs = s.regs ∧ (s.descBell r ws).sym = s.sym ∧ (s.descBell r ws).hmem = s.hmem := by
  unfold State.descBell
  dsimp only
  split <;> exact ⟨rfl, rfl, rfl⟩

/-- STAT.QLEN and STAT.COPY follow the queue, and nothing else (R241). -/
theorem symStat_flag (s : State) (i : Nat) {f : FieldAt} (high : f.hi < 32) (apart : f.hi < 8 ∨ 27 < f.lo) : (s.symStat i).flag f = s.flag f := by
  unfold State.symStat
  dsimp only
  rw [flag_setF_apart _ _ high (by show f.hi < 27 ∨ 27 < f.lo; omega), flag_setF_apart _ _ high (by show f.hi < 8 ∨ 11 < f.lo; omega)]

theorem symStat_untouched (s : State) (i : Nat) : s.Untouched (s.symStat i) := (untouched_setF _ _ _).trans (untouched_setF _ _ _)
theorem setSym_untouched (s : State) (i : Nat) (e : SymEngine) : s.Untouched (s.setSym i e) := ⟨rfl, rfl, rfl⟩
theorem setSym_regs (s : State) (i : Nat) (e : SymEngine) : (s.setSym i e).regs = s.regs := rfl

/-- Symmetric engine i once the result record of `run` is written (R261). -/
def State.symRecorded (s : State) (i : Nat) (run : EngRun) (r : EngResult) : State :=
  let s := s.setHbytes (run.req.desc + 56) (wordBytes (wd (r.status * 2 ^ 16 + r.code * 2 ^ 8 + 1)) ++ wordBytes (wd r.out.length))
  let s := s.setSym i { s.symOf i with run := none }
  (s.setF (Fld.SYM_STAT_BUSY (i / 4) (i % 4)) 0).symStat i

/-- A job that ends without output (R261). -/
theorem symEnd_refused {r : EngResult} (refused : r.status ≠ St.ok) (s : State) (i : Nat) (run : EngRun) : s.symEnd i run r =
    ((if r.status = St.faultHw ∨ r.status = St.portDisabled then s.returnUses run else s).symRecorded i run r).descBell run.req run.words := by
  unfold State.symEnd
  dsimp only
  rw [if_neg refused]
  rfl

theorem symRecorded_symOf (s : State) (i : Nat) (run : EngRun) (r : EngResult) : (s.symRecorded i run r).symOf i = { s.symOf i with run := none } := by
  unfold State.symRecorded
  dsimp only
  rw [symOf_symStat]
  exact symOf_setSym _ _ _

theorem symRecorded_flag (s : State) (i : Nat) (run : EngRun) (r : EngResult) {f : FieldAt} (high : f.hi < 31) (apart : f.hi < 8 ∨ 27 < f.lo) :
    (s.symRecorded i run r).flag f = s.flag f := by
  unfold State.symRecorded
  dsimp only
  rw [symStat_flag _ _ (by omega) apart, flag_setF_apart _ _ (by omega) (.inl high), flag_congr (setSym_regs _ _ _), flag_congr (State.setHbytes_regs _ _ _)]

theorem symRecorded_closed (s : State) (i : Nat) (run : EngRun) (r : EngResult) : (s.symRecorded i run r).symClosed i = s.symClosed i :=
  symClosed_congr (symRecorded_flag s i run r (show 0 < 31 by decide) (.inl (show 0 < 8 by decide)))
    (symRecorded_flag s i run r (show 0 < 31 by decide) (.inl (show 0 < 8 by decide)))
    (symRecorded_flag s i run r (show 29 < 31 by decide) (.inr (show 27 < 29 by decide)))

theorem symRecorded_idle (s : State) (i : Nat) (run : EngRun) (r : EngResult) :
    (s.symRecorded i run r).getF (Fld.SYM_STAT_BUSY (i / 4) (i % 4)) = 0 := by
  unfold State.symRecorded State.symStat
  dsimp only
  rw [getF_setF_apart _ _ (show 31 < 32 by decide) (.inr (show 27 < 31 by decide)),
    getF_setF_apart _ _ (show 31 < 32 by decide) (.inr (show 11 < 31 by decide)), getF_setF_self _ _ (show 31 < 32 by decide), Nat.zero_mod]

theorem symRecorded_mem (s : State) (i : Nat) (run : EngRun) (r : EngResult) : (s.symRecorded i run r).hmem =
    (s.setHbytes (run.req.desc + 56) (wordBytes (wd (r.status * 2 ^ 16 + r.code * 2 ^ 8 + 1)) ++ wordBytes (wd r.out.length))).hmem ∧
      (s.symRecorded i run r).pairs = s.pairs := by
  unfold State.symRecorded
  dsimp only
  rw [(symStat_untouched _ _).hmem, (symStat_untouched _ _).pairs, (untouched_setF _ _ _).hmem, (untouched_setF _ _ _).pairs,
    (setSym_untouched _ _ _).hmem, (setSym_untouched _ _ _).pairs]
  exact ⟨rfl, State.setHbytes_pairs _ _ _⟩

/-- A closed engine's queue is empty, and its flags stand (R243). -/
theorem flushSym_keeps (s : State) (i : Nat) : ((s.flushSym i).symOf i).queue = [] ∧
    ∀ f : FieldAt, f.hi < 32 → 27 < f.lo → (s.flushSym i).flag f = s.flag f := by
  unfold State.flushSym
  dsimp only
  generalize (s.symOf i).copy.toList ++ (s.symOf i).queue = rs
  have keeps (u : State) : (rs.foldl (fun s r => s.endSymRequest r St.portDisabled 0x40) u).regs = u.regs ∧
      (rs.foldl (fun s r => s.endSymRequest r St.portDisabled 0x40) u).sym = u.sym := by
    refine List.foldlRecOn (motive := fun t : State => t.regs = u.regs ∧ t.sym = u.sym) rs _ ⟨rfl, rfl⟩ fun t same r _ => ?_
    obtain ⟨regs, sym, -⟩ := descBell_keeps (t.setHbytes (r.desc + 56) (wordBytes (wd (St.portDisabled * 2 ^ 16 + 0x40 * 2 ^ 8 + 1)) ++ zeros 4)) r
      (t.descWords r)
    exact ⟨regs.trans same.1, sym.trans same.2⟩
  obtain ⟨regs, sym⟩ := keeps ((s.setSym i { s.symOf i with queue := [], copy := none }).symStat i)
  refine ⟨?_, fun f high low => ?_⟩
  · rw [State.symOf, sym]
    exact congrArg SymEngine.queue ((symOf_symStat _ _ _).trans (symOf_setSym _ _ _))
  · rw [flag_congr regs, symStat_flag _ _ high (.inr low), flag_congr (setSym_regs _ _ _)]

/-- A job that has its result, and names no doorbell, is completed (R238): `u` is the state with what its success leaves. -/
theorem exec_pkeJobComplete {u : State} {h : HearthId} {run : EngRun} {r : EngResult} (isIt : (s.pkeOf h.val).run = some run)
    (result : run.result = some r) (quiet : bit 0 (run.words.getD 1 0) = false)
    (stored : (if r.status = St.ok then (s.pkSlotEffect h.val run).engWrite (704 + h.val) (engRange run.words 4).1 r.out else s) = u)
    (open_ : u.pkeClosed h.val = false) :
    ∃ v : State, ({ v with jobs := u.jobs } : State) = u ∧ exec (.pkeJobComplete h) s = .next (v.pkeRecorded h run r) := by
  have returned : ∃ v : State, (if r.status = St.faultHw ∨ r.status = St.portDisabled ∨ r.status = St.busy then u.returnUses run else u) = v ∧
      ({ v with jobs := u.jobs } : State) = u := by
    refine ⟨_, rfl, ?_⟩
    split
    · exact returnUses_keeps u run
    · rfl
  obtain ⟨v, is, same⟩ := returned
  have regs : v.regs = u.regs := (congrArg State.regs same :)
  refine ⟨v, same, ?_⟩
  change execPkeJobComplete h s = _
  unfold execPkeJobComplete
  rw [isIt]
  dsimp only
  rw [result]
  dsimp only
  rw [stored, is, descBell_quiet quiet]
  have closed : (v.pkeRecorded h run r).pkeClosed h.val = false := by
    rw [pkeRecorded_closed, ← open_]
    exact pkeClosed_congr (flag_congr regs _) (flag_congr regs _) (flag_congr regs _)
  exact congrArg Host.Outcome.next (if_neg (Bool.eq_false_iff.1 closed))

/-- What a completed job leaves of the engine, its registers and the memory (R238). -/
theorem pkeJobComplete_leaves {u : State} {h : HearthId} {run : EngRun} {r : EngResult} (isIt : (s.pkeOf h.val).run = some run)
    (result : run.result = some r) (quiet : bit 0 (run.words.getD 1 0) = false)
    (stored : (if r.status = St.ok then (s.pkSlotEffect h.val run).engWrite (704 + h.val) (engRange run.words 4).1 r.out else s) = u)
    (open_ : u.pkeClosed h.val = false) :
    ∃ t, exec (.pkeJobComplete h) s = .next t ∧
      ((t.pkeOf h.val).run = none ∧ t.getF (Fld.PKE_STAT_BUSY h.val) = 0 ∧ (t.pkeArbOf h.val).inUse = none ∧
        t.reg (Reg.PKE_LAST h.val) = wd (r.status * 2 ^ 16 + r.code * 2 ^ 8 + run.req.idx)) ∧
      t.hmem = (u.setHbytes (run.req.desc + 56) (wordBytes (wd (r.status * 2 ^ 16 + r.code * 2 ^ 8 + 1)) ++
        wordBytes (wd (r.iter * 2 ^ 24 + r.out.length)))).hmem ∧ t.pairs = u.pairs := by
  obtain ⟨v, same, runs⟩ := exec_pkeJobComplete isIt result quiet stored open_
  have hmem : v.hmem = u.hmem := (congrArg State.hmem same :)
  have pairs : v.pairs = u.pairs := (congrArg State.pairs same :)
  obtain ⟨mem, kept⟩ := pkeRecorded_mem v h run r
  exact ⟨_, runs, ⟨pkeRecorded_run _ _ _ _, pkeRecorded_idle _ _ _ _, pkeRecorded_free _ _ _ _, pkeRecorded_last _ _ _ _⟩,
    mem.trans (congrArg (fun m : Table Byte => m.setBytes zeroByte _ _) hmem), kept.trans pairs⟩

theorem pkeOf_setF (s : State) (f : FieldAt) (n h : Nat) : (s.setF f n).pkeOf h = s.pkeOf h := rfl
theorem symOf_setF (s : State) (f : FieldAt) (n i : Nat) : (s.setF f n).symOf i = s.symOf i := rfl

theorem State.Logs.pkeOf (logs : s.Logs t) (h : Nat) : t.pkeOf h = s.pkeOf h := (congrArg (fun x : State => x.pkeOf h) logs.rest :)

/-- The flags of STAT are none of the event log's. -/
theorem logs_getF {f : FieldAt} (logs : s.Logs t) (high : 0x100000 ≤ f.off) (low : f.off < 0x200000) : t.getF f = s.getF f := by
  have above (o : Nat) (small : o < 0x100000) : f.off ≠ o := Nat.ne_of_gt (Nat.lt_of_lt_of_le small high)
  rw [State.getF, logs.reg _ (above _ (by decide)) (above _ (by decide)) (Nat.ne_of_lt (Nat.lt_of_lt_of_le low (by decide))), State.getF]

theorem logs_flag {f : FieldAt} (logs : s.Logs t) (high : 0x100000 ≤ f.off) (low : f.off < 0x200000) : t.flag f = s.flag f := by
  rw [State.flag, logs_getF logs high low, State.flag]

end

end Sys2Proof.Machine
end

section
/-! The statement about the life of an engine's job settled. -/

namespace Sys2Proof.Machine

/-- Settles O35: the decision at a submission, the record at a completion, and the flags of a fault and of its self-test. -/
theorem engineJobsWaitRunAndEnd : Obligations.EngineJobsWaitRunAndEnd := by
  refine ⟨⟨?pkeSubmit, ?symSubmit⟩, ?pke, ?sym, ?selftest⟩
  case pkeSubmit =>
    intro s b p h v reaches e has busErr
    refine ⟨fun has => ?_, fun odd => ?_, fun other plain => ?_, fun r free taken closed => ?_, fun r free taken open_ => ?_⟩
    · exact congrArg Host.Outcome.next (pairAccess_fail reaches (pkeStore_has has v))
    · exact congrArg Host.Outcome.next (pairAccess_fail reaches (pkeStore_refused (submission_unaligned odd _ _)))
    · exact congrArg Host.Outcome.next (pairAccess_fail reaches (pkeStore_refused (submission_foreign other plain v)))
    · exact congrArg Host.Outcome.next (pairAccess_ok reaches ((pkeStore_taken free taken).trans (if_pos closed)))
    · refine ⟨_, congrArg Host.Outcome.next (pairAccess_ok reaches ((pkeStore_taken free taken).trans (if_neg (Bool.eq_false_iff.1 open_)))),
        ?_, ?_, rfl, rfl⟩
      · exact congrArg PkeEngine.reqs (pkeOf_setPke _ _ _)
      · exact congrArg Arbiter.waiting (pkeArbOf_setPkeArb _ _ _)
  case symSubmit =>
    intro s b p i v reaches plain e
    refine ⟨fun has => ?_, fun r empty idle taken closed => ?_, fun r run empty runs begun other taken open_ => ?_⟩
    · exact congrArg Host.Outcome.next (pairAccess_fail reaches (symStore_has plain has v))
    · have free : ¬b.symHas p.val i.val := by
        rintro (waits | full | ⟨q, running, -⟩)
        · simp [show (b.symOf i.val).queue = [] from empty] at waits
        · simp [show (b.symOf i.val).queue = [] from empty] at full
        · exact Option.some_ne_none q (running.symm.trans idle)
      exact congrArg Host.Outcome.next (pairAccess_ok reaches ((symStore_taken plain free taken).trans (if_pos closed)))
    · have free : ¬b.symHas p.val i.val := by
        rintro (waits | full | ⟨q, running, mine, -⟩)
        · simp [show (b.symOf i.val).queue = [] from empty] at waits
        · simp [show (b.symOf i.val).queue = [] from empty] at full
        · exact other (Option.some.inj (running.symm.trans runs) ▸ mine)
      have queued : ((b.setSym i.val { e with queue := e.queue ++ [r] }).symStat i.val).symOf i.val = { e with queue := [r] } := by
        rw [symOf_symStat, symOf_setSym, empty]
        rfl
      have waits := symStart_running (i := i.val) (congrArg SymEngine.run queued |>.trans runs) begun
      refine ⟨_, congrArg Host.Outcome.next (pairAccess_ok reaches (((symStore_taken plain free taken).trans
        (if_neg (Bool.eq_false_iff.1 open_))).trans (congrArg Resp.ok waits))), queued, ?_, ?_⟩
      · exact (symStat_untouched _ _).hmem
      · exact (symStat_untouched _ _).pairs
  case pke =>
    intro s h run isIt record ended
    have set_ (t : State) (f : FieldAt) (low : f.hi = f.lo) (high : f.hi < 32) : (t.setF f 1).getF f = 1 := by
      rw [getF_setF_self _ _ high, low, Nat.add_sub_cancel_left]
      rfl
    refine ⟨?refused, ?ok, ?none_, ?again, ?first, ?second, ?test⟩
    case refused =>
      intro r result open_ bad quiet
      exact pkeJobComplete_leaves isIt result quiet (if_neg bad) open_
    case ok =>
      intro r u result ok quiet is open_
      exact pkeJobComplete_leaves isIt result quiet ((if_pos ok).trans is.symm) open_
    case none_ =>
      intro none_
      change execPkeJobComplete h s = _
      unfold execPkeJobComplete
      rw [isIt]
      dsimp only
      rw [none_]
    case again =>
      intro testing
      change execPkeParityFault h s = _
      unfold execPkeParityFault
      rw [isIt]
      exact congrArg Host.Outcome.next (if_pos testing)
    case first =>
      intro testing retried
      refine ⟨s.pkeFault h.val run, ?_, ?_⟩
      · change execPkeParityFault h s = _
        unfold execPkeParityFault
        rw [isIt]
        exact congrArg Host.Outcome.next (if_neg (Bool.eq_false_iff.1 testing))
      · rw [State.pkeFault, if_neg (Bool.eq_false_iff.1 retried)]
        exact ⟨congrArg PkeEngine.run ((pkeOf_setF _ _ _ _).trans (pkeOf_setPke _ _ _)), set_ _ _ rfl (show 30 < 32 by decide)⟩
    case second =>
      intro testing retried
      refine ⟨s.pkeFault h.val run, ?_, ?_⟩
      · change execPkeParityFault h s = _
        unfold execPkeParityFault
        rw [isIt]
        exact congrArg Host.Outcome.next (if_neg (Bool.eq_false_iff.1 testing))
      · rw [State.pkeFault, if_pos retried]
        exact ⟨congrArg PkeEngine.run ((pkeOf_setF _ _ _ _).trans (pkeOf_setPke _ _ _)), set_ _ _ rfl (show 29 < 32 by decide)⟩
    case test =>
      intro testing u
      have runs (pass : Bool) {t : State} (is : (if pass then
          ((u.returnUses run).setF (Fld.PKE_STAT_RETRIED h.val) 1).pkeTake h.val run.req (u.descWords run.req) true
        else
          let v := u.setPkeRun h.val { run.wiped with testing := false, result := some (engRefused St.faultHw 0x31) }
          let v := (v.setF (Fld.PKE_STAT_FAILED h.val) 1).setF (Fld.PKE_PFAULTS_FAILS h.val) (min 65535 (v.getF (Fld.PKE_PFAULTS_FAILS h.val) + 1))
          v.logEvent Src.engine 1 (704 + h.val) 0 0 0) = t) : exec (.pkeSelftestDone h pass) s = .next t := by
        change execPkeSelftestDone h pass s = _
        unfold execPkeSelftestDone
        rw [isIt]
        dsimp only
        rw [if_neg (by rw [testing]; decide)]
        exact congrArg Host.Outcome.next is
      refine ⟨runs true (if_pos rfl), _, runs false (if_neg Bool.false_ne_true), ?_, ?_⟩
      · refine (congrArg PkeEngine.run ((logs_logEvent _ _ _ _ _ _ _).pkeOf h.val)).trans ?_
        rw [pkeOf_setF, pkeOf_setF]
        exact congrArg PkeEngine.run (pkeOf_setPke _ _ _)
      · have failed (v : State) : (((v.setF (Fld.PKE_STAT_FAILED h.val) 1).setF (Fld.PKE_PFAULTS_FAILS h.val)
            (min 65535 (v.getF (Fld.PKE_PFAULTS_FAILS h.val) + 1))).getF (Fld.PKE_STAT_FAILED h.val)) = 1 := by
          rw [getF_setF_ne _ _ (by simp only [Reg.PKE_STAT, Reg.PKE_PFAULTS]; omega)]
          exact set_ _ _ rfl (show 29 < 32 by decide)
        exact (logs_getF (logs_logEvent _ _ _ _ _ _ _) (by show 0x100000 ≤ 0x100810 + 0x1000 * h.val; omega)
          (by have := h.isLt; show 0x100810 + 0x1000 * h.val < 0x200000; omega)).trans (failed _)
  case sym =>
    intro s i run isIt begun h k
    have still := symBegin_begun isIt begun
    refine ⟨?refused, ?next, ?none_, ?fault⟩
    case refused =>
      intro r result open_ empty copy bad code quiet
      have runs : exec (.symJobComplete i) s = .next (let t := if r.code = 0x33 then (s.symEnd i.val run r).copyLost run else s.symEnd i.val run r
          if t.symClosed i.val = true then t.flushSym i.val else t.symStart i.val) := by
        change execSymJobComplete i s = _
        unfold execSymJobComplete
        dsimp only
        rw [still, isIt]
        dsimp only
        rw [result]
      generalize is : (if r.status = St.faultHw ∨ r.status = St.portDisabled then s.returnUses run else s) = v at *
      have same : ({ v with jobs := s.jobs } : State) = s := by
        rw [← is]
        split
        · exact returnUses_keeps s run
        · rfl
      have regs : v.regs = s.regs := (congrArg State.regs same :)
      have engine : v.symOf i.val = s.symOf i.val := (congrArg (fun x : State => x.symOf i.val) same :)
      have ends : s.symEnd i.val run r = v.symRecorded i.val run r := by rw [symEnd_refused bad, descBell_quiet quiet, is]
      have closed : (v.symRecorded i.val run r).symClosed i.val = false := by
        rw [symRecorded_closed, ← open_]
        exact symClosed_congr (flag_congr regs _) (flag_congr regs _) (flag_congr regs _)
      have idle := symRecorded_symOf v i.val run r
      rw [engine] at idle
      have start : (v.symRecorded i.val run r).symStart i.val = v.symRecorded i.val run r :=
        symStart_idle (by rw [idle]) (by rw [idle]; exact empty) (by rw [idle]; exact copy)
      dsimp only at runs
      rw [if_neg code, ends, closed, if_neg Bool.false_ne_true, start] at runs
      obtain ⟨mem, kept⟩ := symRecorded_mem v i.val run r
      exact ⟨_, runs, by rw [idle], symRecorded_idle _ _ _ _, kept.trans (congrArg State.pairs same :),
        mem.trans (congrArg (fun m : Table Byte => m.setBytes zeroByte _ _) (congrArg State.hmem same :))⟩
    case next =>
      intro r result t
      change execSymJobComplete i s = _
      unfold execSymJobComplete
      dsimp only
      rw [still, isIt]
      dsimp only
      rw [result]
    case none_ =>
      intro none_
      change execSymJobComplete i s = _
      unfold execSymJobComplete
      dsimp only
      rw [still, isIt]
      dsimp only
      rw [none_]
    case fault =>
      have runs : ∃ m : State, exec (.symParityFault i) s = .next (((m.symEnd i.val run (engRefused St.faultHw 0x31)).setF (Fld.HRT_SFAULTS_FAULTS h)
          (min 65535 ((m.symEnd i.val run (engRefused St.faultHw 0x31)).getF (Fld.HRT_SFAULTS_FAULTS h) + 1))).setF (Fld.SYM_STAT_FAULTED h k) 1
            |>.setF (Fld.SYM_STAT_SELFTEST h k) 1) := by
        refine ⟨(s.freshBytes 4).2.engWrite (640 + i.val) (engRange run.words 4).1 (zeros (ofLe (s.freshBytes 4).1 % (run.outLen + 1))), ?_⟩
        change execSymParityFault i s = _
        unfold execSymParityFault
        dsimp only
        rw [still, isIt]
      obtain ⟨m, runs⟩ := runs
      refine ⟨_, runs, ?_, ?_, ?_⟩
      · rw [symOf_setF, symOf_setF, symOf_setF, symEnd_refused (by decide), State.symOf, (descBell_keeps _ _ _).2.1]
        exact congrArg SymEngine.run (symRecorded_symOf _ _ _ _)
      · exact flag_setF_self _ 1 rfl (show 30 < 32 by decide)
      · rw [flag_setF_apart _ 1 (show 28 < 32 by decide) (.inl (show 28 < 30 by decide))]
        exact flag_setF_self _ 1 rfl (show 28 < 32 by decide)
  case selftest =>
    intro s i testing
    have runs (pass : Bool) {t : State} (is : (if pass then (s.setF (Fld.SYM_STAT_SELFTEST (i.val / 4) (i.val % 4)) 0).symStart i.val
        else
          let v := s.setF (Fld.SYM_STAT_SELFTEST (i.val / 4) (i.val % 4)) 0
          let v := v.setF (Fld.HRT_SFAULTS_FAILS (i.val / 4)) (min 65535 (v.getF (Fld.HRT_SFAULTS_FAILS (i.val / 4)) + 1))
          let v := (v.setF (Fld.SYM_STAT_FAILED (i.val / 4) (i.val % 4)) 1).logEvent Src.engine 1 (640 + i.val) 0 0 0
          v.flushSym i.val) = t) : exec (.symSelftestDone i pass) s = .next t := by
      change execSymSelftestDone i pass s = _
      unfold execSymSelftestDone
      dsimp only
      rw [if_neg (by rw [testing]; decide)]
      exact congrArg Host.Outcome.next is
    refine ⟨⟨_, runs false (if_neg Bool.false_ne_true), ?_, ?_⟩,
      fun none_ empty copy => runs true ((if_pos rfl).trans (symStart_idle none_ empty copy))⟩
    · refine ((flushSym_keeps _ _).2 _ (show 29 < 32 by decide) (show 27 < 29 by decide)).trans ?_
      refine (logs_flag (logs_logEvent _ _ _ _ _ _ _) (by show 0x100000 ≤ 0x100A48 + 0x1000 * (i.val / 4) + 0x40 * (i.val % 4); omega)
        (by have := i.isLt; show 0x100A48 + 0x1000 * (i.val / 4) + 0x40 * (i.val % 4) < 0x200000; omega)).trans ?_
      exact flag_setF_self _ 1 rfl (show 29 < 32 by decide)
    · exact (flushSym_keeps _ _).1

end Sys2Proof.Machine
end

section
/-! SUPPORT. Registers that each master has its own copy of, and the reads that fill them (R299, R492, R515). -/

namespace Sys2Proof.Machine

/-- `t` is `s` but for the masters' own copies of registers (R515). -/
def State.OwnCopies (s t : State) : Prop := ({ t with mregs := s.mregs } : State) = s

section
variable (s : State) (m : Nat)

theorem mreg_setMreg (o : Nat) (v : Word) : (s.setMreg m o v).mreg m o = v := Table.get_set_self _ _ _ _

theorem mreg_setMreg_ne {o o' : Nat} (v : Word) (ne : o ≠ o') : (s.setMreg m o' v).mreg m o = s.mreg m o :=
  Table.get_set_ne _ _ _ fun same => ne (by simp only [mkey] at same; omega)

theorem State.OwnCopies.trans {s t u : State} (a : s.OwnCopies t) (b : t.OwnCopies u) : s.OwnCopies u := by
  unfold State.OwnCopies at *
  cases s; cases t; cases u
  simp_all

theorem State.OwnCopies.hmem {s t : State} (h : s.OwnCopies t) : t.hmem = s.hmem := (congrArg State.hmem (id h : ({ t with mregs := s.mregs } : State) = s) :)
theorem State.OwnCopies.regs {s t : State} (h : s.OwnCopies t) : t.regs = s.regs := (congrArg State.regs (id h : ({ t with mregs := s.mregs } : State) = s) :)
theorem State.OwnCopies.pairs {s t : State} (h : s.OwnCopies t) : t.pairs = s.pairs := (congrArg State.pairs (id h : ({ t with mregs := s.mregs } : State) = s) :)
theorem State.OwnCopies.ledger {s t : State} (h : s.OwnCopies t) : t.ledger = s.ledger := (congrArg State.ledger (id h : ({ t with mregs := s.mregs } : State) = s) :)
theorem State.OwnCopies.log {s t : State} (h : s.OwnCopies t) : t.log = s.log := (congrArg State.log (id h : ({ t with mregs := s.mregs } : State) = s) :)

theorem own_setMreg (o : Nat) (v : Word) : s.OwnCopies (s.setMreg m o v) := rfl

/-- Words stored in a master's own copies change those copies alone. -/
theorem own_writeMregs (o : Nat → Nat) (v : Nat → Word) (l : List Nat) : s.OwnCopies (l.foldl (fun t w => t.setMreg m (o w) (v w)) s) :=
  List.foldlRecOn l (motive := fun t => s.OwnCopies t) _ rfl fun t same _ _ => same.trans (own_setMreg t m _ _)

theorem mreg_writeMregs_ne (o : Nat → Nat) (v : Nat → Word) (o' : Nat) (apart : ∀ w, o' ≠ o w) (l : List Nat) :
    (l.foldl (fun t w => t.setMreg m (o w) (v w)) s).mreg m o' = s.mreg m o' := by
  induction l generalizing s with
  | nil => rfl
  | cons w l ih => exact (ih _).trans (mreg_setMreg_ne s m _ (apart w))

theorem mreg_writeMregs (o : Nat → Nat) (v : Nat → Word) (inj : ∀ i j, o i = o j → i = j) (n w : Nat) (low : w < n) :
    ((List.range n).foldl (fun t k => t.setMreg m (o k) (v k)) s).mreg m (o w) = v w := by
  induction n with
  | zero => omega
  | succ n ih =>
    rw [List.range_succ, List.foldl_append]
    by_cases last : w = n
    · subst last
      exact mreg_setMreg _ _ _ _
    · exact (mreg_setMreg_ne _ _ _ fun same => last (inj _ _ same)).trans (ih (by omega))

/-! ## RIDX -/

/-- RIDX is denied to master m (R299, R302). -/
def State.ridxDenied (i : Nat) : Bool :=
  s.isSealed || !s.ledger.established || (m < 512 && !s.isSupervisor m && (s.entry i).owner != s.pairTenant m && decide (1 < i))

theorem ridxRead_eq (v : Word) (mac : List Byte) : s.ridxRead m v mac = (List.range 8).foldl (fun t w => t.setMreg m (Reg.LEDG_RDATA w)
      (if s.ridxDenied m (fld 16 0 v) then 0 else wd (leAt (s.imageOf (fld 16 0 v) mac) (4 * w) 4)))
    ((s.setMreg m Reg.LEDG_RIDX (wd (fld 16 0 v))).setMreg m Reg.LEDG_RSTAT
      (if s.ridxDenied m (fld 16 0 v) then 0xC0000000#32 else 0x80000000#32)) := rfl

/-- What a read through RIDX leaves in the reader's own copies (R299). -/
theorem ridxRead_leaves (v : Word) (mac : List Byte) : let t := s.ridxRead m v mac
    s.OwnCopies t ∧ t.mreg m Reg.LEDG_RIDX = wd (fld 16 0 v) ∧
      t.mreg m Reg.LEDG_RSTAT = (if s.ridxDenied m (fld 16 0 v) then 0xC0000000#32 else 0x80000000#32) ∧
      ∀ w < 8, t.mreg m (Reg.LEDG_RDATA w) =
        if s.ridxDenied m (fld 16 0 v) then 0 else wd (leAt (s.imageOf (fld 16 0 v) mac) (4 * w) 4) := by
  intro t
  have ridx : ∀ w, Reg.LEDG_RIDX ≠ Reg.LEDG_RDATA w := fun w => by simp only [Reg.LEDG_RIDX, Reg.LEDG_RDATA]; omega
  have rstat : ∀ w, Reg.LEDG_RSTAT ≠ Reg.LEDG_RDATA w := fun w => by simp only [Reg.LEDG_RSTAT, Reg.LEDG_RDATA]; omega
  rw [show t = _ from ridxRead_eq s m v mac]
  refine ⟨?_, ?_, ?_, fun w low => ?_⟩
  · exact ((own_setMreg s m _ _).trans (own_setMreg _ m _ _)).trans (own_writeMregs _ m Reg.LEDG_RDATA _ _)
  · refine (mreg_writeMregs_ne _ m Reg.LEDG_RDATA _ _ ridx _).trans ((mreg_setMreg_ne _ m _ (by decide)).trans (mreg_setMreg _ _ _ _))
  · exact (mreg_writeMregs_ne _ m Reg.LEDG_RDATA _ _ rstat _).trans (mreg_setMreg _ _ _ _)
  · exact mreg_writeMregs _ m Reg.LEDG_RDATA
      (fun w => if s.ridxDenied m (fld 16 0 v) then 0 else wd (leAt (s.imageOf (fld 16 0 v) mac) (4 * w) 4)) (fun i j same => by simp only [Reg.LEDG_RDATA] at same; omega) 8 w low

/-! ## LOG_IDX -/

theorem ofLe_zeros (n : Nat) : ofLe (zeros n) = 0 := by
  induction n with
  | zero => rfl
  | succ n ih =>
    rw [zeros, List.replicate_succ, ofLe, ← zeros, ih]
    rfl

/-- Zeros read as 0. -/
theorem leAt_zeros (k o n : Nat) : leAt (zeros k) o n = 0 := by
  rw [leAt, slice, zeros, List.drop_replicate, List.take_replicate, List.length_replicate, List.replicate_append_replicate]
  exact ofLe_zeros _

theorem logIdxStore_eq (v : Word) : s.logIdxStore m v = (List.range 8).foldl (fun t w => t.setMreg m (Reg.SYS_LOG_DATA w)
      (wd (leAt (((s.log.find? (fun e => e.seq == fld 15 0 v)).map (·.bytes)).getD (zeros 32)) (4 * w) 4)))
    (s.setMreg m Reg.SYS_LOG_IDX (wd (fld 15 0 v))) := rfl

/-- What a write of LOG_IDX leaves in the reader's own copies (R492). -/
theorem logIdxStore_leaves (v : Word) : let t := s.logIdxStore m v
    s.OwnCopies t ∧ t.mreg m Reg.SYS_LOG_IDX = wd (fld 15 0 v) ∧ ∀ w < 8, t.mreg m (Reg.SYS_LOG_DATA w) =
      wd (leAt (((s.log.find? (fun e => e.seq == fld 15 0 v)).map (·.bytes)).getD (zeros 32)) (4 * w) 4) := by
  intro t
  have idx : ∀ w, Reg.SYS_LOG_IDX ≠ Reg.SYS_LOG_DATA w := fun w => by simp only [Reg.SYS_LOG_IDX, Reg.SYS_LOG_DATA]; omega
  rw [show t = _ from logIdxStore_eq s m v]
  refine ⟨?_, ?_, fun w low => ?_⟩
  · exact (own_setMreg s m _ _).trans (own_writeMregs _ m Reg.SYS_LOG_DATA _ _)
  · exact (mreg_writeMregs_ne _ m Reg.SYS_LOG_DATA _ _ idx _).trans (mreg_setMreg _ _ _ _)
  · exact mreg_writeMregs _ m Reg.SYS_LOG_DATA
      (fun w => wd (leAt (((s.log.find? (fun e => e.seq == fld 15 0 v)).map (·.bytes)).getD (zeros 32)) (4 * w) 4)) (fun i j same => by simp only [Reg.SYS_LOG_DATA] at same; omega) 8 w low

end

/-! ## The directory -/

section
variable (s : State)

theorem entry_setEntry (i : Nat) (e : Entry) (lsn : Nat) : (s.setEntry i e lsn).entry i = e := by
  unfold State.setEntry
  dsimp only
  split <;> exact congrArg DirEntry.entry (Table.get_set_self _ _ _ _)

theorem entry_setEntry_ne {i k : Nat} (ne : k ≠ i) (e : Entry) (lsn : Nat) : (s.setEntry i e lsn).entry k = s.entry k := by
  unfold State.setEntry
  dsimp only
  split <;> exact congrArg DirEntry.entry (Table.get_set_ne _ _ _ ne)

/-- An image set in the directory changes nothing but the directory and its write-backs. -/
theorem setEntry_keeps (i : Nat) (e : Entry) (lsn : Nat) :
    ({ s.setEntry i e lsn with scrub := s.scrub, ledger := { (s.setEntry i e lsn).ledger with dir := s.ledger.dir } } : State) = s := by
  unfold State.setEntry
  dsimp only
  split <;> rfl

/-- The images of a committed group in the directory (R296 step 5). -/
theorem commitImages_leaves (ims : List (Nat × Entry)) (lsn : Nat) : let t := ims.foldl (fun s im => s.setEntry im.1 im.2 lsn) s
    (∀ i, (∀ im ∈ ims, im.1 ≠ i) → t.entry i = s.entry i) ∧ ((ims.map (·.1)).Nodup → ∀ im ∈ ims, t.entry im.1 = im.2) ∧
      t.regs = s.regs ∧ t.hmem = s.hmem ∧ t.pairs = s.pairs ∧ t.ledger.closing = s.ledger.closing := by
  induction ims generalizing s with
  | nil => exact ⟨fun _ _ => rfl, fun _ _ member => absurd member (List.not_mem_nil), rfl, rfl, rfl, rfl⟩
  | cons im ims ih =>
    obtain ⟨others, set_, regs, hmem, pairs, closing⟩ := ih (s.setEntry im.1 im.2 lsn)
    have same := setEntry_keeps s im.1 im.2 lsn
    refine ⟨fun i apart => ?_, fun distinct x member => ?_, regs.trans (congrArg State.regs same :), hmem.trans (congrArg State.hmem same :),
      pairs.trans (congrArg State.pairs same :), closing.trans (congrArg (fun x : State => x.ledger.closing) same :)⟩
    · exact (others i fun x member => apart x (List.mem_cons_of_mem _ member)).trans
        (entry_setEntry_ne s (Ne.symm (apart im List.mem_cons_self)) _ _)
    · rw [List.map_cons, List.nodup_cons] at distinct
      obtain ⟨fresh, distinct⟩ := distinct
      rcases List.mem_cons.1 member with rfl | later
      · exact (others _ fun y there same => fresh (List.mem_map.2 ⟨y, there, same⟩)).trans (entry_setEntry s _ _ _)
      · exact set_ distinct x later

/-! ## Groups -/

theorem touchHead_keeps : s.touchHead.ledger = s.ledger ∧ s.Untouched s.touchHead := by
  unfold State.touchHead
  split
  · refine ⟨?_, untouched_touchBank _ _⟩
    unfold State.touchBank
    split <;> rfl
  · exact ⟨rfl, .refl s⟩

theorem program_dir (l : Ledger) (g : Group) : (l.program g).dir = l.dir := by
  unfold Ledger.program
  split <;> rfl

theorem openImages_closed {l : Ledger} (none_ : l.closing = none) :
    l.openImages = (setIndices l.openGroup).map (fun i => (i, applySets l.openGroup i (l.dir.get dirReset i).entry)) := by
  have next (i : Nat) : l.nextEntry i = (l.dir.get dirReset i).entry := by
    unfold Ledger.nextEntry
    rw [none_]
    rfl
  unfold Ledger.openImages
  simp only [next]

/-- A directory word that reads uncorrectable (R299): the entry is named, and the ledger and memory stand. -/
theorem scrubWord_directory (i : Nat) : let t := s.scrubWord 16 (32 * i) .uncorrectable
    t.flag Fld.LEDG_STAT_DIRERR = true ∧ t.reg Reg.LEDG_DERR_IDX = wd i ∧ t.ledger = s.ledger ∧ t.hmem = s.hmem := by
  intro t
  have first := logs_logEvent (s.setF ⟨memErrReg 16, 31, 16⟩ (min 65535 (fld 31 16 (s.reg (memErrReg 16)) + 1))) Src.memory 1 16 (wd (32 * i)) 0 0
  generalize is : (s.setF ⟨memErrReg 16, 31, 16⟩ (min 65535 (fld 31 16 (s.reg (memErrReg 16)) + 1))).logEvent Src.memory 1 16 (wd (32 * i)) 0 0 = u
    at first
  have last := logs_logEvent ((u.setReg Reg.LEDG_DERR_IDX (wd (32 * i / 32))).setF Fld.LEDG_STAT_DIRERR 1) Src.memory 3 16 (wd (32 * i / 32)) 0 0
  have ends : t = ((u.setReg Reg.LEDG_DERR_IDX (wd (32 * i / 32))).setF Fld.LEDG_STAT_DIRERR 1).logEvent Src.memory 3 16 (wd (32 * i / 32)) 0 0 := by
    rw [← is]
    show s.scrubWord 16 (32 * i) .uncorrectable = _
    unfold State.scrubWord
    dsimp only
    rw [if_neg (fun h => h.1 rfl)]
    exact if_pos rfl
  rw [ends]
  refine ⟨?_, ?_, ?_, ?_⟩
  · rw [State.flag, State.getF, last.reg _ (by decide) (by decide) (by decide)]
    exact flag_setF_self (u.setReg Reg.LEDG_DERR_IDX (wd (32 * i / 32))) 1 rfl (show 29 < 32 by decide)
  · rw [last.reg _ (by decide) (by decide) (by decide), State.setF, State.reg_setReg_ne _ _ (by decide), State.reg_setReg,
      Nat.mul_div_cancel_left i (by decide)]
  · exact (congrArg State.ledger last.rest :).trans (congrArg State.ledger first.rest :)
  · exact last.untouched.hmem.trans first.untouched.hmem

/-! ## Stagings -/

/-- The store to STG<15> by a pair with an armed job (R291). -/
theorem stgStore_taken {p : Nat} {j : Job} (armed : s.armedJob p = some j) (own : j.src ≠ .load) (room : j.updates.length < 16) (v : Word) :
    let c := s.setMreg p (Reg.LEDG_STG 15) v
    let r := c.stageRecord j (c.stgRecord p)
    s.stgStore p 15 v = .ok (((c.clearStg p).updArmed p (fun k => { k with updates := j.updates ++ r.update.toList })).stgResult p r) := by
  intro c r
  have open_ : ¬((j.src == Stream.load) = true ∨ 15 = 15 ∧ 16 ≤ j.updates.length) := by
    rintro (load | ⟨-, full⟩)
    · exact own (beq_iff_eq.1 load)
    · omega
  unfold State.stgStore
  rw [armed]
  dsimp only
  rw [if_neg open_, if_neg (not_not_intro rfl)]
  have updates : (match r.update with
    | some u => j.updates ++ [u]
    | none => j.updates) = j.updates ++ r.update.toList := by
    cases r.update
    · exact (List.append_nil _).symm
    · rfl
  exact congrArg (fun us => Resp.ok (((c.clearStg p).updArmed p (fun k => { k with updates := us })).stgResult p r)) updates

theorem stgStore_unarmed {p : Nat} (none_ : s.armedJob p = none) (w : Nat) (v : Word) :
    s.stgStore p w v = .fail s ⟨Cause.busError, wd (0x40000000 + Reg.LEDG_STG w)⟩ := by
  unfold State.stgStore
  rw [none_]
  rfl

/-- A record completed by its own command's store. -/
theorem stagingOf_own {p op : Nat} {v : Word} (is : fld 7 0 (s.mreg p (Reg.LEDG_STG 0)) = op) :
    s.stagingOf p op v = s.pairAccess p (Reg.LEDG_STG 15) .store (fun s => s.stgStore p 15 v) := if_neg (not_not_intro is)

end

end Sys2Proof.Machine
end

section
/-! The statements about the ledger's groups and about the event log settled. -/

namespace Sys2Proof.Machine

/-- Settles O40: the entry spelled, the reader's copies, and the line sent. -/
theorem logEntriesAreWrittenReadAndSent : Obligations.LogEntriesAreWrittenReadAndSent := by
  refine ⟨?write, ?index, ?send⟩
  case write =>
    intro s b p v reaches
    refine ⟨fun sup => congrArg Host.Outcome.next (pairAccess_ok reaches ?_), fun plain => congrArg Host.Outcome.next (pairAccess_fail reaches ?_)⟩
    · rw [State.logWordStore, sup]
      rfl
    · rw [State.logWordStore, plain]
      rfl
  case index =>
    intro s b m k v reaches
    have runs : exec (.logIdxWrite m v) s = .next (b.logIdxStore k v) := by
      rcases reaches with ⟨host, rfl, rfl⟩ | ⟨reaches, rfl⟩
      · exact congrArg Host.Outcome.next (if_pos host)
      · by_cases host : m.val = 512 ∨ m.val = 513
        · rcases reaches with ⟨pair, -⟩ | ⟨is, -⟩ <;> omega
        · exact congrArg Host.Outcome.next ((if_neg host).trans (masterWrite_of reaches rfl))
    obtain ⟨same, idx, data⟩ := logIdxStore_leaves b k v
    have log : (b.logIdxStore k v).log = b.log := same.log
    have regs : (b.logIdxStore k v).regs = b.regs := same.regs
    refine ⟨_, runs, idx, log, regs, fun e found w low => ?_, fun none_ w low => ?_⟩
    · rw [data w low, found]
      rfl
    · rw [data w low, none_]
      exact congrArg wd (leAt_zeros _ _ _)
  case send =>
    intro s
    refine ⟨fun none_ => ?_, fun e sending => ?_⟩
    · change execMgtEntrySent s = _
      unfold execMgtEntrySent
      rw [none_]
    · change execMgtEntrySent s = _
      unfold execMgtEntrySent
      rw [sending]

/-- Settles O39: a record taken, a group closed and committed, and an image read. -/
theorem ledgerGroupsCommitStagedSets : Obligations.LedgerGroupsCommitStagedSets := by
  refine ⟨⟨?taken, ?unarmed, ?counter, ?token, ?sealed⟩, ?close, ?commit, ?noCommit, ?noClose, ?ridx⟩
  case taken =>
    intro s b p v j reaches armed own room c r us t op
    have does := pairAccess_ok (f := fun s => s.stgStore p.val 15 v) reaches (stgStore_taken b armed own room v)
    exact ⟨fun is => congrArg Host.Outcome.next ((stagingOf_own s is).trans does), fun is => congrArg Host.Outcome.next ((stagingOf_own s is).trans does),
      fun is => congrArg Host.Outcome.next ((stagingOf_own s is).trans does), fun is => congrArg Host.Outcome.next ((stagingOf_own s is).trans does)⟩
  case unarmed =>
    intro s b p v reaches none_ is
    exact congrArg Host.Outcome.next ((stagingOf_own s is).trans (pairAccess_fail reaches (stgStore_unarmed b none_ 15 v)))
  case counter =>
    intro s i n v nv d body att
    refine ⟨fun some_ fits => ?_, fun bad => ?_⟩
    · rw [State.stageCounter, body]
      dsimp only
      rw [att, if_neg (not_not_intro rfl), if_neg (by omega)]
      rfl
    · rw [State.stageCounter, body]
      dsimp only
      rw [att, if_neg (not_not_intro rfl), if_pos bad]
  case token =>
    intro s i r d x body
    refine ⟨fun proof some_ => ?_, fun proof none_ => ?_, fun wrong => ?_⟩
    · rw [State.stageToken, body]
      dsimp only
      rw [if_neg (not_not_intro proof), if_neg (by omega)]
    · rw [State.stageToken, body]
      dsimp only
      rw [if_neg (not_not_intro proof), if_pos none_]
    · rw [State.stageToken, body]
      exact if_pos wrong
  case sealed => exact fun s j rec sealed_ => if_pos sealed_
  case close =>
    intro s none_ sets open_ ts unmirrored fits
    obtain ⟨ledger, pairs, hmem, nvm⟩ := touchHead_keeps s
    have images : s.ledger.openImages = (setIndices ts).map (fun i => (i, applySets ts i (s.entry i))) := openImages_closed none_
    have idle : ¬(s.ledger.closing.isSome || s.ledger.openSets.isEmpty || s.isSealed) = true := by simp [none_, open_, sets]
    have closes : s.closeGroup = { s.touchHead with ledger := { (s.ledger.program ⟨s.ledger.nextLsn, s.ledger.openImages, false⟩) with
        closing := some ⟨s.ledger.nextLsn, s.ledger.openImages, false⟩, closingSets := ts, openSets := s.ledger.openSets.drop ts.length
        nextLsn := s.ledger.nextLsn + 1, unacked := [], expired := [], resent := [] } } := by
      unfold State.closeGroup
      dsimp only
      rw [fits, if_neg (by simp), if_neg (by decide), ledger, show s.ledger.mirrored s.ledger.openGroup = [] from unmirrored]
      rfl
    refine ⟨s.closeGroup, congrArg Host.Outcome.next ((if_neg idle).trans ?_), ?_⟩
    · rw [closes]
      rfl
    · rw [closes, images]
      exact ⟨rfl, rfl, rfl, rfl, program_dir _ _, pairs, hmem, nvm⟩
  case commit =>
    intro s g closing unacked open_ distinct
    have runs : exec .commitRecordDone s = .next (s.commitGroup g) := by
      change execCommitRecordDone s = _
      unfold execCommitRecordDone
      rw [closing]
      exact congrArg Host.Outcome.next (if_pos (by simp [unacked, open_]))
    generalize final : s.ledger.finalGroup g = f at *
    have ends : ∃ l : Ledger, s.commitGroup g = s.ledger.closingSets.foldl
        (fun c u => c.finishSet s.ledger.expired u) (((State.commitImages ({ s with ledger := l } : State).touchHead { f with committed := true }).setLsn
          f.lsn).incWrap Reg.LEDG_COMMITS (s.ledger.closingSets.flatMap (·.updates)).length) ∧ l.dir = s.ledger.dir ∧ l.closing = none := by
      unfold State.commitGroup
      dsimp only
      rw [final]
      exact ⟨_, rfl, rfl, rfl⟩
    obtain ⟨l, ends, dir, none_⟩ := ends
    obtain ⟨ledger, pairs, hmem, -⟩ := touchHead_keeps ({ s with ledger := l } : State)
    obtain ⟨others, set_, -, mem, kept, shut⟩ := commitImages_leaves (({ s with ledger := l } : State).touchHead) f.images f.lsn
    have before (i : Nat) : (({ s with ledger := l } : State).touchHead).entry i = s.entry i := by
      rw [State.entry, State.dirEntry, ledger]
      exact congrArg (fun d : Table DirEntry => (d.get dirReset i).entry) dir
    refine ⟨_, runs.trans (congrArg Host.Outcome.next ends), set_ distinct, ?_, fun i apart => (others i apart).trans (before i), ?_, ?_, ?_⟩
    · exact shut.trans ((congrArg Ledger.closing ledger).trans none_)
    · rw [State.incWrap, State.reg_setReg_ne _ _ (by decide), State.setLsn, State.reg_setReg_ne _ _ (by decide), State.reg_setReg]
    · exact mem.trans hmem
    · exact kept.trans pairs

  case noCommit =>
    intro s reason
    change execCommitRecordDone s = _
    unfold execCommitRecordDone
    refine congrArg Host.Outcome.next ?_
    split
    · rename_i g closing
      refine if_neg ?_
      rcases reason with sealed_ | none_ | waits
      · simp [sealed_]
      · exact absurd (closing.symm.trans none_) (Option.some_ne_none g)
      · simp [waits]
    · rfl
  case noClose =>
    intro s reason
    refine congrArg Host.Outcome.next (if_pos ?_)
    rcases reason with sealed_ | closing | empty
    · simp [sealed_]
    · simp [closing]
    · simp [empty]
  case ridx =>
    intro s b m k v reaches i own
    have pair : k < 512 := by
      rcases reaches with ⟨low, rfl, -⟩ | ⟨-, rfl, -⟩
      · exact low
      · decide
    have runs (chk : WordCheck) : exec (.ridxWrite m ⟨v, chk⟩) s = .next (b.ridxStore k v chk) := by
      rcases reaches with ⟨low, rfl, reaches⟩ | ⟨is, rfl, rfl⟩
      · exact congrArg Host.Outcome.next ((if_pos low).trans (pairAccess_ok reaches rfl))
      · exact congrArg Host.Outcome.next ((if_neg (by omega)).trans (if_pos is))
    refine ⟨⟨_, runs .clean, ?_⟩, ⟨_, runs .uncorrectable, ?_⟩⟩
    · have store : b.ridxStore k v .clean = b.ridxRead k v (b.entryMac i) := by
        rw [State.ridxStore, scrubWord_clean (.inl rfl)]
      rw [store]
      obtain ⟨same, ridx, rstat, data⟩ := ridxRead_leaves b k v (b.entryMac i)
      refine ⟨ridx, same.hmem, same.pairs, same.ledger, same.regs,
        fun denied => ?_, fun open_ established right => ?_⟩
      · have no : b.ridxDenied k (fld 16 0 v) = true := by
          rcases denied with sealed_ | none_ | foreign
          · simp [State.ridxDenied, sealed_]
          · simp [State.ridxDenied, none_]
          · simp only [own, not_or] at foreign
            obtain ⟨plain, high, other⟩ := foreign
            simp [State.ridxDenied, plain, show 1 < fld 16 0 v by omega, show (b.entry (fld 16 0 v)).owner ≠ b.pairTenant k from other, pair]
        rw [no] at rstat
        refine ⟨rstat, fun w low => ?_⟩
        rw [data w low, no]
        rfl
      · have yes : b.ridxDenied k (fld 16 0 v) = false := by
          rcases right with sup | low | mine
          · simp [State.ridxDenied, open_, established, sup]
          · simp [State.ridxDenied, open_, established, show ¬1 < fld 16 0 v by omega]
          · simp [State.ridxDenied, open_, established, show (b.entry (fld 16 0 v)).owner = b.pairTenant k from mine]
        rw [yes] at rstat
        refine ⟨rstat, fun w low => ?_⟩
        rw [data w low, yes]
        rfl
    · obtain ⟨err, idx, ledger, hmem⟩ := scrubWord_directory b i
      obtain ⟨same, ridx, -, -⟩ := ridxRead_leaves (b.scrubWord 16 (32 * i) .uncorrectable) k v (b.entryMac i)
      have regs : (b.ridxStore k v .uncorrectable).regs = (b.scrubWord 16 (32 * i) .uncorrectable).regs := same.regs
      exact ⟨(flag_congr regs _).trans err, (reg_congr regs _).trans idx, ridx, same.ledger.trans ledger,
        same.hmem.trans hmem⟩

end Sys2Proof.Machine
end

section
/-! SUPPORT. The routines of gate 1 (R310–R318). -/

namespace Sys2Proof.Machine

section
variable {s : State}

/-- The function asked for at its gate runs (R59). -/
theorem gateService_own {p n f last : Nat} (asks : s.Asks p n f) (body : State → State) : s.gateService p n f last body = body s := by
  obtain ⟨stands, is⟩ := asks
  rw [State.gateService, stands, if_neg (by decide), if_pos is]

theorem not_true {b : Bool} (no : b = false) : (!b) = true := by rw [no]; rfl
theorem not_not_true {b : Bool} (yes : b = true) : ¬(!b) = true := by rw [yes]; decide

/-- What NVM_PROGRAM checks of its arguments (R311, checks 2 to 5). -/
theorem programFits {o src len : Nat} : (o % 32 = 0 ∧ src % 4 = 0 ∧ 32 ≤ len ∧ len ≤ 256 ∧ len % 32 = 0 ∧ o % 256 + len ≤ 256) ↔
    ¬(o % 32 ≠ 0 ∨ src % 4 ≠ 0 ∨ len < 32 ∨ 256 < len ∨ len % 32 ≠ 0 ∨ 256 < o % 256 + len) := by omega

/-- A word whose top bit reads 0 has nothing under the top bit's mask. -/
theorem and_top {w : Word} (open_ : bit 31 w = false) : w &&& 0x80000000#32 = 0#32 := by
  refine BitVec.eq_of_getLsbD_eq fun i low => ?_
  rw [BitVec.getLsbD_and, BitVec.getLsbD_zero]
  by_cases top : i = 31
  · rw [top, show w.getLsbD 31 = false from open_, Bool.false_and]
  · have mask : (0x80000000#32).getLsbD i = false := by
      interval_cases i <;> first | rfl | exact absurd rfl top
    rw [mask, Bool.and_false]

/-- The bits of CTRL that NVM_CONFIG writes while LOCK reads 0 (R310). -/
theorem configWord (n : Nat) (low : n < 8) (b : Bool) : fld 0 0 (wd (n + 2 ^ 31 * b2n b)) = n % 2 ∧ bit 31 (wd (n + 2 ^ 31 * b2n b)) = b := by
  refine ⟨?_, ?_⟩
  · rw [fld, BitVec.ushiftRight_zero, wd, BitVec.toNat_ofNat]
    cases b <;> simp only [b2n] <;> omega
  · rw [bit, wd, BitVec.getLsbD_ofNat, Nat.testBit_eq_decide_div_mod_eq]
    cases b
    · rw [show (n + 2 ^ 31 * b2n false) / 2 ^ 31 = 0 by rw [show b2n false = 0 from rfl]; omega]
      rfl
    · rw [show (n + 2 ^ 31 * b2n true) / 2 ^ 31 = 1 by rw [show b2n true = 1 from rfl]; omega]
      rfl

end

end Sys2Proof.Machine
end

section
/-! The statement about the NVM controller's routines settled. -/

namespace Sys2Proof.Machine

/-- Settles O41: each routine's checks in the order of R311, and what it does past them. -/
theorem nvmRoutinesCheckAndAct : Obligations.NvmRoutinesCheckAndAct := by
  intro s p q a no
  refine ⟨?program, ?erase, ?suspend, ?resume, ?config, ?ack⟩
  case program =>
    intro chk rb asks o src len fits bufferOk flawed
    have runs {body : State → State} {t : State} (is : body s = t) :
        (Host.Outcome.next (s.gateService q 1 1 6 body) : Host.Outcome State Fault Refusal) = .next t :=
      congrArg Host.Outcome.next ((gateService_own asks body).trans is)
    have passes (f : fits) := programFits.1 f
    have own : ((spaceOf src == .loc || (spaceOf src == .hearth && !inCheckpoint src && !inCheckpoint (src + len - 1))) &&
        spaceOf (src + len - 1) == spaceOf src) = true ∧ mpuPermits (s.pair q).mpuF 1 src len .load = true ↔ bufferOk := by
      simp only [bufferOk, Bool.and_eq_true, Bool.or_eq_true, beq_iff_eq, Bool.not_eq_true', and_assoc]
    have refuses : ¬bufferOk → (!((spaceOf src == .loc || (spaceOf src == .hearth && !inCheckpoint src && !inCheckpoint (src + len - 1))) &&
        spaceOf (src + len - 1) == spaceOf src) || !mpuPermits (s.pair q).mpuF 1 src len .load) = true := fun bad => by
      rw [Bool.or_eq_true, Bool.not_eq_true', Bool.not_eq_true', ← Bool.not_eq_true, ← Bool.not_eq_true, ← not_and_or]
      exact fun both => bad (own.1 both)
    have ready (f : fits) (small : o + len ≤ 0x8000000) (inside : routineRange o = true) (ok : bufferOk) (rest : State) :
        (if o % 32 ≠ 0 ∨ src % 4 ≠ 0 ∨ len < 32 ∨ 256 < len ∨ len % 32 ≠ 0 ∨ 256 < o % 256 + len then s.nvmRefuse q St.param 0x02
          else if 0x8000000 < o + len then s.nvmRefuse q St.range 0x03
          else if !routineRange o then s.nvmRefuse q St.policy 0x04
          else if !((spaceOf src == .loc || (spaceOf src == .hearth && !inCheckpoint src && !inCheckpoint (src + len - 1))) &&
            spaceOf (src + len - 1) == spaceOf src) || !mpuPermits (s.pair q).mpuF 1 src len .load then s.nvmRefuse q St.param 0x05
          else rest) = rest := by
      obtain ⟨mine, permits⟩ := own.2 ok
      rw [if_neg (passes f), if_neg (Nat.not_lt.2 small), inside, mine, permits]
      rfl
    refine ⟨fun bad => runs (if_pos (not_not.1 fun h => bad (programFits.2 h))), fun f large => ?_, fun f small outside => ?_, fun f small inside bad => ?_,
      fun f small inside ok executes => ?_, fun f small inside ok rests free spent => ?_, fun f small inside ok rests busy => ?_,
      fun f small inside ok rests free blank fault => ?_, fun f small inside ok rests free blank checks sound => ?_⟩
    · exact runs ((if_neg (passes f)).trans (if_pos large))
    · exact runs ((if_neg (passes f)).trans ((if_neg (Nat.not_lt.2 small)).trans (if_pos (not_true outside))))
    · refine runs ((if_neg (passes f)).trans ((if_neg (Nat.not_lt.2 small)).trans ((if_neg (not_not_true inside)).trans (if_pos ?_))))
      exact refuses bad
    · exact runs ((ready f small inside ok _).trans (if_pos executes))
    · exact runs ((ready f small inside ok _).trans ((if_neg (Bool.eq_false_iff.1 rests)).trans ((if_neg (Bool.eq_false_iff.1 free)).trans
        (if_pos (not_true spent)))))
    · exact runs ((ready f small inside ok _).trans ((if_neg (Bool.eq_false_iff.1 rests)).trans (if_pos busy)))
    · exact runs ((ready f small inside ok _).trans ((if_neg (Bool.eq_false_iff.1 rests)).trans ((if_neg (Bool.eq_false_iff.1 free)).trans
        ((if_neg (not_not_true blank)).trans (if_pos fault)))))
    · exact runs ((ready f small inside ok _).trans ((if_neg (Bool.eq_false_iff.1 rests)).trans ((if_neg (Bool.eq_false_iff.1 free)).trans
        ((if_neg (not_not_true blank)).trans ((if_neg (not_or.2 ⟨checks, sound⟩)).trans (if_pos rfl))))))
  case erase =>
    intro asks
    refine ⟨fun large => ?_, fun small inside executes => ?_, fun small inside rests active => ?_, fun small inside rests idle free => ?_⟩
    · exact congrArg Host.Outcome.next ((gateService_own asks _).trans (if_pos large))
    · exact congrArg Host.Outcome.next ((gateService_own asks _).trans ((if_neg (Nat.not_le.2 small)).trans ((if_neg (not_not_true inside)).trans
        (if_pos executes))))
    · exact congrArg Host.Outcome.next ((gateService_own asks _).trans ((if_neg (Nat.not_le.2 small)).trans ((if_neg (not_not_true inside)).trans
        ((if_neg (Bool.eq_false_iff.1 rests)).trans (if_pos active)))))
    · exact congrArg Host.Outcome.next ((gateService_own asks _).trans ((if_neg (Nat.not_le.2 small)).trans ((if_neg (not_not_true inside)).trans
        ((if_neg (Bool.eq_false_iff.1 rests)).trans ((if_neg (Bool.eq_false_iff.1 idle)).trans (if_neg (Bool.eq_false_iff.1 free)))))))
  case suspend =>
    intro asks
    refine ⟨fun large => ?_, fun small idle => ?_, fun small active => ?_⟩
    · exact congrArg Host.Outcome.next ((gateService_own asks _).trans (if_pos large))
    · exact congrArg Host.Outcome.next ((gateService_own asks _).trans ((if_neg (Nat.not_le.2 small)).trans (if_pos (not_true idle))))
    · exact congrArg Host.Outcome.next ((gateService_own asks _).trans ((if_neg (Nat.not_le.2 small)).trans (if_neg (not_not_true active))))
  case resume =>
    intro asks
    refine ⟨fun small free => ?_, fun small active held => ?_⟩
    · refine congrArg Host.Outcome.next ((gateService_own asks _).trans ((if_neg (Nat.not_le.2 small)).trans (if_pos (not_true ?_))))
      exact (congrArg (s.eraseActive (a 4) && ·) free).trans (Bool.and_false _)
    · refine congrArg Host.Outcome.next ((gateService_own asks _).trans ((if_neg (Nat.not_le.2 small)).trans (if_neg (not_not_true ?_))))
      exact Bool.and_eq_true_iff.2 ⟨active, held⟩
  case config =>
    intro asks
    refine ⟨fun bad => ?_, fun good locked change => ?_, fun good open_ => ?_⟩
    · exact congrArg Host.Outcome.next ((gateService_own asks _).trans (if_pos bad))
    · exact congrArg Host.Outcome.next ((gateService_own asks _).trans ((if_neg (not_not_intro good)).trans (if_pos ⟨locked, change⟩)))
    · have top : bit 31 (s.reg Reg.NVMC_CTRL) = false := by
        have is := open_
        rw [State.flag, State.getF, fld_bit] at is
        cases lock : bit 31 (s.reg Reg.NVMC_CTRL)
        · rfl
        · rw [lock] at is
          exact absurd is (by decide)
      obtain ⟨do0, lock⟩ := configWord (fld 2 0 (wd (a 4))) (Nat.mod_lt _ (by decide)) (bit 3 (wd (a 4)))
      have word : (s.reg Reg.NVMC_CTRL &&& 0x80000000#32) ||| wd (fld 2 0 (wd (a 4)) + 2 ^ 31 * b2n (bit 3 (wd (a 4)) && !s.flag Fld.NVMC_CTRL_LOCK)) =
          wd (fld 2 0 (wd (a 4)) + 2 ^ 31 * b2n (bit 3 (wd (a 4)))) := by
        rw [and_top top, open_, Bool.not_false, Bool.and_true, BitVec.zero_or]
      have low : fld 2 0 (wd (a 4)) % 2 = fld 0 0 (wd (a 4)) := by
        simp only [fld]
        omega
      have written : (s.setReg Reg.NVMC_CTRL (wd (fld 2 0 (wd (a 4)) + 2 ^ 31 * b2n (bit 3 (wd (a 4)))))).getF Fld.NVMC_CTRL_DO0 = fld 0 0 (wd (a 4)) := by
        rw [State.getF, State.reg_setReg, do0, low]
      refine ⟨(s.setReg Reg.NVMC_CTRL (wd (fld 2 0 (wd (a 4)) + 2 ^ 31 * b2n (bit 3 (wd (a 4)))))).syncDo0, ?_, ?_, ?_, ?_, rfl, rfl, rfl⟩
      · refine congrArg Host.Outcome.next ((gateService_own asks _).trans ((if_neg (not_not_intro good)).trans
          ((if_neg fun h => Bool.eq_false_iff.1 open_ h.1).trans ?_)))
        dsimp only
        rw [← word]
      · rw [State.syncDo0, getF_setF_ne _ _ (by decide), written]
      · rw [State.syncDo0, flag_setF_ne _ _ (by decide), State.flag, State.getF, State.reg_setReg, fld_bit, lock]
        cases bit 3 (wd (a 4)) <;> rfl
      · rw [State.syncDo0, getF_setF_self _ _ (show 26 < 32 by decide), written, ← low]
        exact Nat.mod_mod _ _
  case ack =>
    intro asks
    refine ⟨fun bad => ?_, fun is => ?_, fun is => ?_, fun is => ?_⟩
    · exact congrArg Host.Outcome.next ((gateService_own asks _).trans (if_pos bad))
    all_goals
      refine congrArg Host.Outcome.next ((gateService_own asks _).trans ?_)
      dsimp only
      rw [show wd (s.gateArg p.val 4) = _ from is]
      rfl

end Sys2Proof.Machine
end

section
/-! SUPPORT. Erases, the patrol and the refresh of the NVM array (R313–R329). -/

namespace Sys2Proof.Machine

/-! ## Bytes of the array -/

/-- The byte of the NVM array at offset k. -/
def State.cell (s : State) (k : Nat) : Byte := s.nvm.get nvmByte k

theorem length_bytes (d : Nat → Byte) (t : Table Byte) (a n : Nat) : (t.bytes d a n).length = n := by
  induction n generalizing a with
  | zero => rfl
  | succ n ih => rw [Table.bytes, List.length_cons, ih]

theorem getElem_bytes (d : Nat → Byte) (t : Table Byte) (a n k : Nat) (low : k < (t.bytes d a n).length) : (t.bytes d a n)[k] = t.get d (a + k) := by
  induction n generalizing a k with
  | zero => exact absurd low (Nat.not_lt_zero k)
  | succ n ih =>
    cases k with
    | zero => rfl
    | succ k => exact (ih (a + 1) k (Nat.lt_of_succ_lt_succ low)).trans (congrArg (t.get d) (by omega))

theorem bytes_congr {d : Nat → Byte} {t u : Table Byte} {a b n : Nat} (same : ∀ k < n, t.get d (a + k) = u.get d (b + k)) :
    t.bytes d a n = u.bytes d b n := by
  refine List.ext_getElem (by rw [length_bytes, length_bytes]) fun k low high => ?_
  rw [getElem_bytes, getElem_bytes, same k (by rwa [length_bytes] at low)]

section
variable {s t u : State}

theorem nbytes_of_cells {a b n : Nat} (same : ∀ k < n, t.cell (a + k) = s.cell (b + k)) : t.nbytes a n = s.nbytes b n := bytes_congr same

theorem cell_nvmProgram_ne (s : State) {o : Nat} {bs : List Byte} {k : Nat} (apart : k < o ∨ o + bs.length ≤ k) : (s.nvmProgram o bs).cell k = s.cell k :=
  Table.get_setBytes_ne _ _ _ _ _ apart

/-- Bytes of the array copied to another place of it. -/
theorem cell_nvmProgram_copy (s u : State) (o b n : Nat) {bs : List Byte} (is : u.nbytes b n = bs) {k : Nat} (low : k < n) :
    (s.nvmProgram o bs).cell (o + k) = u.cell (b + k) := by
  subst is
  have short : k < (u.nvm.bytes nvmByte b n).length := by rwa [length_bytes]
  exact (Table.get_setBytes_mem _ _ _ _ k short).trans (getElem_bytes _ _ _ _ _ short)

theorem cell_nvmErase_ne (s : State) {o m k : Nat} (apart : k < o ∨ o + m ≤ k) : (s.nvmErase o m).cell k = s.cell k := by
  refine (Table.get_drop nvmByte (fun k => decide (o ≤ k ∧ k < o + m)) s.nvm k).trans (if_neg ?_)
  simp only [decide_eq_true_eq]
  omega

/-! ## Steps that leave the array -/

/-- `t` is `s` in the NVM array, in hearth memory, and in the refresh in progress and those that wait. -/
structure State.ArrayKept (s t : State) : Prop where
  nvm : t.nvm = s.nvm
  hmem : t.hmem = s.hmem
  refresh : t.refresh = s.refresh
  queue : t.refreshQueue = s.refreshQueue

theorem State.ArrayKept.refl (s : State) : s.ArrayKept s := ⟨rfl, rfl, rfl, rfl⟩
theorem State.ArrayKept.trans (a : s.ArrayKept t) (b : t.ArrayKept u) : s.ArrayKept u :=
  ⟨b.nvm.trans a.nvm, b.hmem.trans a.hmem, b.refresh.trans a.refresh, b.queue.trans a.queue⟩
theorem State.ArrayKept.cell (h : s.ArrayKept t) (k : Nat) : t.cell k = s.cell k := by rw [State.cell, h.nvm, State.cell]

theorem cell_setRefresh (s : State) (r : Option NvmRefresh) (k : Nat) : ({ s with refresh := r } : State).cell k = s.cell k := rfl

theorem kept_setReg (s : State) (o : Nat) (v : Word) : s.ArrayKept (s.setReg o v) := ⟨rfl, rfl, rfl, rfl⟩
theorem kept_setF (s : State) (f : FieldAt) (n : Nat) : s.ArrayKept (s.setF f n) := ⟨rfl, rfl, rfl, rfl⟩
theorem kept_bankRest (s : State) (b : Nat) : s.ArrayKept (s.bankRest b) := by
  unfold State.bankRest
  split
  · exact kept_setF _ _ _
  · exact .refl s
theorem kept_dropLines (s : State) (g : Nat) : s.ArrayKept (s.dropLines g) := ⟨rfl, rfl, rfl, rfl⟩
theorem kept_beginErase (s : State) (g : Nat) : s.ArrayKept (s.beginErase g) := (kept_setReg s _ _).trans (kept_dropLines _ g)
theorem kept_logEvent (s : State) (src code unit : Nat) (a b : Word) (n : Nat) : s.ArrayKept (s.logEvent src code unit a b n) := by
  have logs := logs_logEvent s src code unit a b n
  exact ⟨logs.untouched.nvm, logs.untouched.hmem, (congrArg State.refresh logs.rest :), (congrArg State.refreshQueue logs.rest :)⟩

/-- The banks at rest, and the erase of a sector begun. -/
theorem kept_nextErase (s : State) (b g : Nat) : s.ArrayKept (((s.bankRest b).bankRest 1).beginErase g) :=
  ((kept_bankRest s _).trans (kept_bankRest _ _)).trans (kept_beginErase _ _)

/-! ## The refresh -/

theorem length_slice (bs : List Byte) (o n : Nat) : (slice bs o n).length = n := by
  simp only [slice, List.length_append, List.length_take, List.length_drop, List.length_replicate]
  omega

/-- `t` follows `s` in a refresh of sector g that has come to the phase after: hearth memory is as it was, and the bytes of `t` from `a` on
are those of `s` from `b` on. -/
structure State.Carries (s t : State) (a b : Nat) (r : Option NvmRefresh) : Prop where
  cells : ∀ k < 0x10000, t.cell (a + k) = s.cell (b + k)
  hmem : t.hmem = s.hmem
  refresh : t.refresh = r
  queue : t.refreshQueue = s.refreshQueue

theorem State.Carries.trans {a b c : Nat} {q r : Option NvmRefresh} (first : s.Carries t b c q) (second : t.Carries u a b r) : s.Carries u a c r :=
  ⟨fun k low => (second.cells k low).trans (first.cells k low), second.hmem.trans first.hmem, second.refresh, second.queue.trans first.queue⟩

/-- The spare holds the sector, and its erase begins (R329, steps 1 to 3). -/
theorem refreshCopied_carries (s : State) (g : Nat) : s.Carries (s.refreshCopied g) 0x3FF0000 (g * 0x10000) (some ⟨g, .erase⟩) := by
  unfold State.refreshCopied
  obtain ⟨bs, content⟩ : ∃ bs, s.nbytes (g * 0x10000) 0x10000 = bs := ⟨_, rfl⟩
  rw [content]
  generalize copied : (s.nvmErase 0x3FF0000 0x10000).nvmProgram 0x3FF0000 bs = t
  have cells : ∀ k < 0x10000, t.cell (0x3FF0000 + k) = s.cell (g * 0x10000 + k) := fun k low =>
    copied ▸ cell_nvmProgram_copy (s.nvmErase 0x3FF0000 0x10000) s _ _ _ content low
  have mem : t.hmem = s.hmem := copied ▸ rfl
  have waits : t.refreshQueue = s.refreshQueue := copied ▸ rfl
  dsimp only
  generalize record : slice _ 0 32 = rec_
  have short : rec_.length = 32 := record ▸ length_slice _ _ _
  generalize recorded : t.nvmProgram 0x3FE0000 rec_ = u
  have spare (k : Nat) : u.cell (0x3FF0000 + k) = t.cell (0x3FF0000 + k) := recorded ▸ cell_nvmProgram_ne t (.inr (by omega))
  have mem' : u.hmem = t.hmem := recorded ▸ rfl
  have waits' : u.refreshQueue = t.refreshQueue := recorded ▸ rfl
  have kept := kept_nextErase { u with refresh := some ⟨g, .erase⟩ } (g / 512) g
  exact ⟨fun k low => (kept.cell _).trans ((cell_setRefresh u _ _).trans ((spare k).trans (cells k low))), kept.hmem.trans (mem'.trans mem), kept.refresh,
    kept.queue.trans (waits'.trans waits)⟩

/-- The sector is programmed from the spare, and the erase of the journal begins (R329, steps 4 and 5). -/
theorem refreshProgrammed_carries (s : State) (g : Nat) : s.Carries (s.refreshProgrammed g) (g * 0x10000) 0x3FF0000 (some ⟨g, .journal⟩) := by
  unfold State.refreshProgrammed
  obtain ⟨bs, content⟩ : ∃ bs, s.nbytes 0x3FF0000 0x10000 = bs := ⟨_, rfl⟩
  rw [content]
  generalize programmed : s.nvmProgram (g * 0x10000) bs = t
  have cells : ∀ k < 0x10000, t.cell (g * 0x10000 + k) = s.cell (0x3FF0000 + k) := fun k low =>
    programmed ▸ cell_nvmProgram_copy s s _ _ _ content low
  have mem : t.hmem = s.hmem := programmed ▸ rfl
  have waits : t.refreshQueue = s.refreshQueue := programmed ▸ rfl
  dsimp only
  have dropped := kept_dropLines t g
  generalize t.dropLines g = u at dropped ⊢
  have kept := kept_nextErase { u with refresh := some ⟨g, .journal⟩ } (g / 512) 1022
  exact ⟨fun k low => (kept.cell _).trans ((cell_setRefresh u _ _).trans ((dropped.cell _).trans (cells k low))),
    kept.hmem.trans (dropped.hmem.trans mem), kept.refresh, kept.queue.trans (dropped.queue.trans waits)⟩

/-- An erased sector of the refresh: what lies outside it stands (R313). -/
theorem sectorErased_carries (s : State) {g a : Nat} (apart : a + 0x10000 ≤ g * 0x10000 ∨ g * 0x10000 + 0x10000 ≤ a) :
    s.Carries (s.sectorErased g) a a s.refresh := by
  have kept : (s.nvmErase (g * 0x10000) 0x10000).ArrayKept (s.sectorErased g) := (kept_setF _ _ _).trans (kept_setReg _ _ _)
  exact ⟨fun k low => (kept.cell _).trans (cell_nvmErase_ne s (by omega)), kept.hmem, kept.refresh, kept.queue⟩

/-- The steps of the refresh that follow its erases (R329). -/
theorem refreshErased_program {g : Nat} (is : s.refresh = some ⟨g, .erase⟩) (a : Nat) : s.Carries (s.refreshErased g) a a (some ⟨g, .program⟩) := by
  unfold State.refreshErased
  rw [is]
  dsimp only
  rw [if_pos rfl]
  have kept := kept_setF { s with refresh := some ⟨g, .program⟩ } (Fld.NVMC_BANKST_STATE (g / 512)) 5
  exact ⟨fun k _ => (kept.cell _).trans (cell_setRefresh s _ _), kept.hmem, kept.refresh, kept.queue⟩

theorem refreshErased_spare {g : Nat} (is : s.refresh = some ⟨g, .journal⟩) (a : Nat) : s.Carries (s.refreshErased 1022) a a (some ⟨g, .spare⟩) := by
  unfold State.refreshErased
  rw [is]
  dsimp only
  rw [if_pos rfl]
  have kept := kept_beginErase { s with refresh := some ⟨g, .spare⟩ } 1023
  exact ⟨fun k _ => (kept.cell _).trans (cell_setRefresh s _ _), kept.hmem, kept.refresh, kept.queue⟩

theorem refreshErased_over {g : Nat} (is : s.refresh = some ⟨g, .spare⟩) (a : Nat) : s.Carries (s.refreshErased 1023) a a none := by
  unfold State.refreshErased
  rw [is]
  dsimp only
  rw [if_pos rfl]
  have kept : ({ s with refresh := none } : State).ArrayKept (s.refreshOver g) :=
    ((kept_setF _ _ _).trans (kept_setF _ _ _)).trans ((kept_setF _ _ _).trans (kept_logEvent _ _ _ _ _ _ _))
  exact ⟨fun k _ => (kept.cell _).trans (cell_setRefresh s _ _), kept.hmem, kept.refresh, kept.queue⟩

/-- The refresh of sector g has come to the spare's erase: what is left of it. -/
theorem spare_ends {g : Nat} (low : g < 1022) (is : s.refresh = some ⟨g, .spare⟩) :
    s.Carries ((s.sectorErased 1023).refreshErased 1023) (g * 0x10000) (g * 0x10000) none := by
  have erased := sectorErased_carries s (g := 1023) (a := g * 0x10000) (.inl (by omega))
  exact erased.trans (refreshErased_over (erased.refresh.trans is) _)

theorem journal_ends {g : Nat} (low : g < 1022) (is : s.refresh = some ⟨g, .journal⟩) :
    s.Carries ((((s.sectorErased 1022).refreshErased 1022).sectorErased 1023).refreshErased 1023) (g * 0x10000) (g * 0x10000) none := by
  have erased := sectorErased_carries s (g := 1022) (a := g * 0x10000) (.inl (by omega))
  have next := refreshErased_spare (erased.refresh.trans is) (g * 0x10000)
  exact (erased.trans next).trans (spare_ends low next.refresh)

theorem program_ends (s : State) {g : Nat} (low : g < 1022) :
    s.Carries (((((s.refreshProgrammed g).sectorErased 1022).refreshErased 1022).sectorErased 1023).refreshErased 1023) (g * 0x10000) 0x3FF0000 none := by
  have programmed := refreshProgrammed_carries s g
  exact programmed.trans (journal_ends low programmed.refresh)

theorem erase_ends {g : Nat} (low : g < 1022) (is : s.refresh = some ⟨g, .erase⟩) :
    s.Carries ((((((s.sectorErased g).refreshErased g).refreshProgrammed g).sectorErased 1022).refreshErased 1022).sectorErased 1023 |>.refreshErased 1023)
      (g * 0x10000) 0x3FF0000 none := by
  have erased := sectorErased_carries s (g := g) (a := 0x3FF0000) (.inr (by omega))
  have next := refreshErased_program (erased.refresh.trans is) 0x3FF0000
  exact (erased.trans next).trans (program_ends _ low)

/-- A refresh that runs to its end leaves its sector's content as it was (R329). -/
theorem endRefresh_carries (r : NvmRefresh) (low : r.sector < 1022) (is : s.refresh = some r) : s.Carries s.endRefresh (r.sector * 0x10000)
    (if r.phase = .erase ∨ r.phase = .program then 0x3FF0000 else r.sector * 0x10000) none := by
  obtain ⟨g, phase⟩ := r
  unfold State.endRefresh
  rw [is]
  cases phase with
  | copy =>
    have copied := refreshCopied_carries s g
    exact copied.trans (erase_ends low copied.refresh)
  | erase => exact erase_ends low is
  | program => exact program_ends s low
  | journal => exact journal_ends low is
  | spare => exact spare_ends low is

end

end Sys2Proof.Machine
end

section
/-! SUPPORT. What the end of an erase leaves beside the array (R313, R323). -/

namespace Sys2Proof.Machine

section
variable {s : State}

theorem startRefresh_empty (empty : s.refreshQueue = []) : s.startRefresh = s := by
  unfold State.startRefresh
  rw [empty]
  cases s.refresh <;> rfl

theorem retireWeak_none (none_ : ∀ x ∈ s.ledger.sectors, x.weak = false) (n : Nat) : State.retireWeak n s = s := by
  cases n with
  | zero => rfl
  | succ n =>
    have no : s.ledger.sectors.any (fun t => t.weak && !t.retired) = false := by
      rw [List.any_eq_false]
      intro x member
      simp [none_ x member]
    rw [State.retireWeak, no]
    rfl

/-- `t` is `s` but for the registers of banks 2 and 3. -/
structure State.PoolBanks (s t : State) : Prop where
  reg : ∀ o, o ≠ Reg.NVMC_BANKST 2 → o ≠ Reg.NVMC_BANKST 3 → t.reg o = s.reg o
  rest : ({ t with regs := s.regs } : State) = s

theorem State.PoolBanks.refl (s : State) : s.PoolBanks s := ⟨fun _ _ _ => rfl, rfl⟩
theorem State.PoolBanks.trans {t u : State} (a : s.PoolBanks t) (b : t.PoolBanks u) : s.PoolBanks u := by
  refine ⟨fun o two three => (b.reg o two three).trans (a.reg o two three), ?_⟩
  have first := a.rest
  have second := b.rest
  cases s; cases t; cases u
  simp_all

theorem poolBanks_setF (s : State) {f : FieldAt} (n : Nat) (bank : f.off = Reg.NVMC_BANKST 2 ∨ f.off = Reg.NVMC_BANKST 3) : s.PoolBanks (s.setF f n) :=
  ⟨fun _ two three => State.reg_setReg_ne _ _ (bank.elim (fun is => is ▸ two) fun is => is ▸ three), rfl⟩

/-- An erase of the log's rotation takes a bank of its own (R317). -/
theorem poolErase_banks (s : State) : s.PoolBanks s.poolErase := by
  refine List.foldlRecOn (motive := fun t : State => s.PoolBanks t) (List.range 2) _ (.refl s) fun t same k member => ?_
  have bank (f : FieldAt) (is : f.off = Reg.NVMC_BANKST (2 + k)) : f.off = Reg.NVMC_BANKST 2 ∨ f.off = Reg.NVMC_BANKST 3 := by
    have low := List.mem_range.1 member
    rcases (show k = 0 ∨ k = 1 by omega) with rfl | rfl
    · exact .inl is
    · exact .inr is
  dsimp only
  split
  · exact same
  · split
    · exact same.trans ((poolBanks_setF _ _ (bank _ rfl)).trans (poolBanks_setF _ _ (bank _ rfl)))
    · exact same

theorem poolErase_none (none_ : ∀ x ∈ s.ledger.sectors, x.retired = false) : s.poolErase = s := by
  refine List.foldlRecOn (motive := fun t : State => t = s) (List.range 2) _ rfl fun t same k _ => ?_
  subst same
  have no : t.ledger.sectors.find? (fun x => x.retired && x.p % 2 == k) = none := by
    rw [List.find?_eq_none]
    intro x member
    simp [none_ x member]
  dsimp only
  rw [no]
  split <;> rfl

/-- `t` is `s` but for the array itself: its bytes, its spent units and its flaws. -/
structure State.Aside (s t : State) : Prop where
  regs : t.regs = s.regs
  ledger : t.ledger = s.ledger
  refresh : t.refresh = s.refresh
  queue : t.refreshQueue = s.refreshQueue
  hmem : t.hmem = s.hmem
  pairs : t.pairs = s.pairs

theorem State.Aside.trans {t u : State} (a : s.Aside t) (b : t.Aside u) : s.Aside u :=
  ⟨b.regs.trans a.regs, b.ledger.trans a.ledger, b.refresh.trans a.refresh, b.queue.trans a.queue, b.hmem.trans a.hmem, b.pairs.trans a.pairs⟩
theorem aside_nvmErase (s : State) (o n : Nat) : s.Aside (s.nvmErase o n) := ⟨rfl, rfl, rfl, rfl, rfl, rfl⟩
theorem aside_nvmProgram (s : State) (o : Nat) (bs : List Byte) : s.Aside (s.nvmProgram o bs) := ⟨rfl, rfl, rfl, rfl, rfl, rfl⟩
theorem aside_freshBytes (s : State) (n : Nat) : s.Aside (s.freshBytes n).2 := ⟨rfl, rfl, rfl, rfl, rfl, rfl⟩

/-- The sector's content undefined after a failed verify (R313). -/
theorem aside_undefined (s : State) (o n : Nat) : s.Aside ((s.freshBytes n).2.nvmProgram o (s.freshBytes n).1) :=
  (aside_freshBytes s n).trans (aside_nvmProgram _ _ _)

theorem nvmErase_congr {t : State} (nvm : t.nvm = s.nvm) (spent : t.nvmSpent = s.nvmSpent) (o n : Nat) :
    (t.nvmErase o n).nvm = (s.nvmErase o n).nvm ∧ (t.nvmErase o n).nvmSpent = (s.nvmErase o n).nvmSpent :=
  ⟨congrArg (fun m : Table Byte => m.drop (fun k => decide (o ≤ k ∧ k < o + n))) nvm,
    congrArg (fun m : Table Bool => m.drop (fun k => decide (o / 32 ≤ k ∧ k < (o + n) / 32))) spent⟩

theorem refreshErased_none (none_ : s.refresh = none) (g : Nat) : s.refreshErased g = s := by
  unfold State.refreshErased
  rw [none_]

theorem eraseAgain_none (none_ : s.refresh = none) (g : Nat) : s.eraseAgain g = s := by
  unfold State.eraseAgain
  rw [none_]

/-- An erase that ends brings no other where nothing waits for one (R317, R323). -/
theorem erase_brings_none (kept : ∀ x ∈ s.ledger.sectors, x.retired = false) (strong : ∀ x ∈ s.ledger.sectors, x.weak = false)
    (empty : s.refreshQueue = []) : (State.retireWeak 1024 s.poolErase).startRefresh = s := by
  rw [poolErase_none kept, retireWeak_none strong, startRefresh_empty empty]

theorem poolErased_ok (s : State) (q : Nat) :
    s.poolErased q true = { s with ledger := { s.ledger with sectors := s.ledger.sectors.filter (fun x => x.p != q) } } := by
  unfold State.poolErased
  exact if_pos rfl

/-- A running erase of bank b that ends, with what it leaves of OPSTAT and the bank's state (R313). -/
theorem exec_eraseComplete {b : Fin 4} (erases : s.getF (Fld.NVMC_BANKST_STATE b.val) = 2) (verify : Bool) :
    exec (.eraseComplete b verify) s = .next (
      let g := s.eraseSector b.val
      let u := (s.setF (Fld.NVMC_BANKST_STATE b.val) 0).setReg Reg.NVMC_OPSTAT (wd (2 ^ 31 + g * 2 ^ 16 + (if verify then St.ok else St.faultHw)))
      let u := if verify then u else (u.incF Fld.NVMC_ERASES_FAILS).logEvent Src.nvm 1 g 0 0 0
      let u := if 2 ≤ b.val then u.poolErased (2 * (g % 512) + b.val % 2) verify
        else
          let u := u.nvmErase (g * 0x10000) 0x10000
          if verify then u.refreshErased g
          else
            let r := u.freshBytes 0x10000
            (r.2.nvmProgram (g * 0x10000) r.1).eraseAgain g
      (State.retireWeak 1024 u.poolErase).startRefresh) := congrArg Host.Outcome.next (if_neg (not_not_intro erases))

/-- What an ended erase leaves before anything follows it: OPSTAT and the bank (R313). -/
theorem erase_opstat (s : State) (b : Fin 4) (v : Word) : let u := (s.setF (Fld.NVMC_BANKST_STATE b.val) 0).setReg Reg.NVMC_OPSTAT v
    u.reg Reg.NVMC_OPSTAT = v ∧ u.getF (Fld.NVMC_BANKST_STATE b.val) = 0 := by
  refine ⟨State.reg_setReg _ _ _, ?_⟩
  rw [getF_setReg_ne _ _ (by simp only [Reg.NVMC_BANKST, Reg.NVMC_OPSTAT]; omega), getF_setF_self _ _ (show 31 < 32 by decide)]
  rfl

/-- What the start of a refresh leaves of the banks and of REFRESH.SECTOR, whatever the patrol goes on to. -/
theorem started_leaves (s : State) (g : Nat) (low : g < 1024) (n : Nat) :
    let t := ((((s.bankState (g / 512) 5).bankState 1 5).setF Fld.NVMC_REFRESH_ACTIVE 1).setF Fld.NVMC_REFRESH_SECTOR g).setF Fld.NVMC_PATROL_SECTOR n
    t.refresh = s.refresh ∧ t.refreshQueue = s.refreshQueue ∧ t.getF Fld.NVMC_REFRESH_SECTOR = g ∧ t.getF (Fld.NVMC_BANKST_STATE (g / 512)) = 5 ∧
      t.getF (Fld.NVMC_BANKST_STATE 1) = 5 := by
  have bank (k : Nat) (small : k ≤ 1) (u : State) : (((u.setF Fld.NVMC_REFRESH_ACTIVE 1).setF Fld.NVMC_REFRESH_SECTOR g).setF Fld.NVMC_PATROL_SECTOR n).getF
      (Fld.NVMC_BANKST_STATE k) = u.getF (Fld.NVMC_BANKST_STATE k) := by
    rw [getF_setF_ne _ _ (by simp only [Reg.NVMC_BANKST, Reg.NVMC_PATROL]; omega), getF_setF_ne _ _ (by simp only [Reg.NVMC_BANKST, Reg.NVMC_REFRESH]; omega),
      getF_setF_ne _ _ (by simp only [Reg.NVMC_BANKST, Reg.NVMC_REFRESH]; omega)]
  refine ⟨rfl, rfl, ?_, ?_, ?_⟩
  · rw [getF_setF_ne _ _ (by decide), getF_setF_self _ _ (show 26 < 32 by decide)]
    exact Nat.mod_eq_of_lt (Nat.lt_trans low (by decide))
  · rw [bank _ (by omega)]
    by_cases first : g / 512 = 1
    · rw [first, State.bankState, getF_setF_self _ _ (show 31 < 32 by decide)]
      rfl
    · rw [State.bankState, getF_setF_ne _ _ (by simp only [Reg.NVMC_BANKST]; omega), State.bankState, getF_setF_self _ _ (show 31 < 32 by decide)]
      rfl
  · rw [bank _ (by decide), State.bankState, getF_setF_self _ _ (show 31 < 32 by decide)]
    rfl

theorem erase_rest (s : State) (f : FieldAt) (o n : Nat) (v : Word) : let u := (s.setF f n).setReg o v
    u.ledger = s.ledger ∧ u.refresh = s.refresh ∧ u.refreshQueue = s.refreshQueue ∧ u.hmem = s.hmem ∧ u.pairs = s.pairs ∧ u.nvm = s.nvm ∧
      u.nvmSpent = s.nvmSpent := ⟨rfl, rfl, rfl, rfl, rfl, rfl, rfl⟩

/-- The refresh of a weak sector starts at once where its banks are free (R328, R329). -/
theorem startRefresh_starts {g : Nat} (none_ : s.refresh = none) (queue : s.refreshQueue = [g]) (mine : s.bankFree (g / 512) = true)
    (spare : s.bankFree 1 = true) : s.startRefresh = (((({ s with refresh := some ⟨g, .copy⟩, refreshQueue := [] } : State).bankState (g / 512) 5).bankState
      1 5).setF Fld.NVMC_REFRESH_ACTIVE 1).setF Fld.NVMC_REFRESH_SECTOR g := by
  unfold State.startRefresh
  rw [none_, queue]
  dsimp only
  rw [mine, spare]
  rfl

end

end Sys2Proof.Machine
end

section
/-! The statement about erases, patrol and refresh settled. -/

namespace Sys2Proof.Machine

/-- Settles O42: the end of an erase by its bank, the patrol by the sector due, and the refresh by its phase. -/
theorem erasesPatrolAndRefresh : Obligations.ErasesPatrolAndRefresh := by
  refine ⟨?idle, ?erase, ?resume, ?patrol, ?refresh⟩
  case idle => exact fun s b ok idle => congrArg Host.Outcome.next (if_pos idle)
  case erase =>
    intro s b erases none_ empty strong g
    refine ⟨fun low kept => ⟨?_, ?_⟩, fun high => ?_⟩
    · obtain ⟨opstat, state⟩ := erase_opstat s b (wd (2 ^ 31 + g * 2 ^ 16 + St.ok))
      obtain ⟨ledger, refresh, queue, hmem, pairs, nvm, spent⟩ :=
        erase_rest s (Fld.NVMC_BANKST_STATE b.val) Reg.NVMC_OPSTAT 0 (wd (2 ^ 31 + g * 2 ^ 16 + St.ok))
      generalize is : (s.setF (Fld.NVMC_BANKST_STATE b.val) 0).setReg Reg.NVMC_OPSTAT (wd (2 ^ 31 + g * 2 ^ 16 + St.ok)) = u at *
      have aside := aside_nvmErase u (g * 0x10000) 0x10000
      have runs : exec (.eraseComplete b true) s = .next (u.nvmErase (g * 0x10000) 0x10000) := by
        rw [exec_eraseComplete erases]
        dsimp only
        rw [if_pos rfl, if_pos rfl, if_neg (Nat.not_le.2 low), if_pos rfl, show _ = u from is,
          refreshErased_none (aside.refresh.trans (refresh.trans none_))]
        exact congrArg Host.Outcome.next (erase_brings_none (by rwa [aside.ledger, ledger]) (by rwa [aside.ledger, ledger])
          (aside.queue.trans (queue.trans empty)))
      refine ⟨_, runs, (reg_congr aside.regs _).trans opstat, (getF_congr aside.regs _).trans state, ?_, ?_, aside.hmem.trans hmem, aside.pairs.trans pairs⟩
      · exact (nvmErase_congr nvm spent _ _).1
      · exact (nvmErase_congr nvm spent _ _).2
    · obtain ⟨opstat, -⟩ := erase_opstat s b (wd (2 ^ 31 + g * 2 ^ 16 + St.faultHw))
      obtain ⟨ledger, refresh, queue, hmem, pairs, -, -⟩ :=
        erase_rest s (Fld.NVMC_BANKST_STATE b.val) Reg.NVMC_OPSTAT 0 (wd (2 ^ 31 + g * 2 ^ 16 + St.faultHw))
      have fails : ((s.setF (Fld.NVMC_BANKST_STATE b.val) 0).setReg Reg.NVMC_OPSTAT (wd (2 ^ 31 + g * 2 ^ 16 + St.faultHw))).getF Fld.NVMC_ERASES_FAILS =
          s.getF Fld.NVMC_ERASES_FAILS := by
        rw [getF_setReg_ne _ _ (by decide), getF_setF_ne _ _ (by simp only [Reg.NVMC_BANKST, Reg.NVMC_ERASES]; omega)]
      generalize is : (s.setF (Fld.NVMC_BANKST_STATE b.val) 0).setReg Reg.NVMC_OPSTAT (wd (2 ^ 31 + g * 2 ^ 16 + St.faultHw)) = u at *
      have logs := logs_logEvent (u.incF Fld.NVMC_ERASES_FAILS) Src.nvm 1 g 0 0 0
      generalize logged : (u.incF Fld.NVMC_ERASES_FAILS).logEvent Src.nvm 1 g 0 0 0 = w at *
      have aside := (aside_nvmErase w (g * 0x10000) 0x10000).trans (aside_undefined _ (g * 0x10000) 0x10000)
      have ledger' : w.ledger = s.ledger := (congrArg State.ledger logs.rest :).trans ledger
      have refresh' : w.refresh = s.refresh := (congrArg State.refresh logs.rest :).trans refresh
      have queue' : w.refreshQueue = s.refreshQueue := (congrArg State.refreshQueue logs.rest :).trans queue
      have runs : exec (.eraseComplete b false) s = .next (((w.nvmErase (g * 0x10000) 0x10000).freshBytes 0x10000).2.nvmProgram (g * 0x10000)
          ((w.nvmErase (g * 0x10000) 0x10000).freshBytes 0x10000).1) := by
        rw [exec_eraseComplete erases]
        dsimp only
        rw [if_neg Bool.false_ne_true, if_neg Bool.false_ne_true, if_neg (Nat.not_le.2 low), if_neg Bool.false_ne_true, show _ = u from is, logged,
          eraseAgain_none (aside.refresh.trans (refresh'.trans none_))]
        exact congrArg Host.Outcome.next (erase_brings_none (by rwa [aside.ledger, ledger']) (by rwa [aside.ledger, ledger'])
          (aside.queue.trans (queue'.trans empty)))
      refine ⟨_, runs, ?_, ?_, aside.hmem.trans (logs.untouched.hmem.trans hmem), aside.pairs.trans (logs.untouched.pairs.trans pairs)⟩
      · rw [reg_congr aside.regs, logs.reg _ (by decide) (by decide) (by decide), State.incF, State.setF, State.reg_setReg_ne _ _ (by decide), opstat]
      · rw [getF_congr aside.regs, State.getF, logs.reg _ (by decide) (by decide) (by decide), ← fails]
        exact getF_incF u (f := Fld.NVMC_ERASES_FAILS) (by decide)
    · obtain ⟨opstat, -⟩ := erase_opstat s b (wd (2 ^ 31 + g * 2 ^ 16 + St.ok))
      obtain ⟨ledger, refresh, queue, hmem, pairs, nvm, -⟩ :=
        erase_rest s (Fld.NVMC_BANKST_STATE b.val) Reg.NVMC_OPSTAT 0 (wd (2 ^ 31 + g * 2 ^ 16 + St.ok))
      generalize is : (s.setF (Fld.NVMC_BANKST_STATE b.val) 0).setReg Reg.NVMC_OPSTAT (wd (2 ^ 31 + g * 2 ^ 16 + St.ok)) = u at *
      have erased : u.poolErased (2 * (g % 512) + b.val % 2) true =
          { u with ledger := { u.ledger with sectors := u.ledger.sectors.filter (fun x => x.p != 2 * (g % 512) + b.val % 2) } } := poolErased_ok u _
      generalize gone : u.poolErased (2 * (g % 512) + b.val % 2) true = w at *
      have banks := poolErase_banks w
      have ledger' : w.poolErase.ledger.sectors = s.ledger.sectors.filter (fun x => x.p != 2 * (g % 512) + b.val % 2) := by
        rw [show w.poolErase.ledger = w.ledger from (congrArg State.ledger banks.rest :), erased, ← ledger]
      have queue' : w.poolErase.refreshQueue = [] := by
        rw [show w.poolErase.refreshQueue = w.refreshQueue from (congrArg State.refreshQueue banks.rest :), erased]
        exact queue.trans empty
      have runs : exec (.eraseComplete b true) s = .next w.poolErase := by
        rw [exec_eraseComplete erases]
        dsimp only
        rw [if_pos rfl, if_pos rfl, if_pos high, show _ = u from is, gone, retireWeak_none, startRefresh_empty queue']
        rw [ledger']
        exact fun x member => strong x (List.mem_of_mem_filter member)
      refine ⟨_, runs, ?_, ledger', ?_, ?_⟩
      · rw [banks.reg _ (by decide) (by decide), erased]
        exact opstat
      · rw [show w.poolErase.nvm = w.nvm from (congrArg State.nvm banks.rest :), erased]
        exact nvm
      · rw [show w.poolErase.hmem = w.hmem from (congrArg State.hmem banks.rest :), erased]
        exact hmem
  case resume =>
    intro s b
    refine ⟨fun stays => congrArg Host.Outcome.next (if_pos (stays.imp id id)), fun suspended free empty => congrArg Host.Outcome.next ((if_neg ?_).trans ?_)⟩
    · rintro (no | held)
      · exact no suspended
      · exact Bool.eq_false_iff.1 free held
    · exact startRefresh_empty empty
  case patrol =>
    intro s g
    refine ⟨fun early => congrArg Host.Outcome.next (if_pos early), fun due within more => congrArg Host.Outcome.next ((if_neg (Nat.not_lt.2 due)).trans ?_),
      fun due within low none_ empty mine spare => ?_⟩
    · dsimp only
      rw [if_neg (Nat.not_le.2 within)]
      exact if_pos more
    · have early : ¬s.beatNow < s.patrolStart + g * 421875 := Nat.not_lt.2 due
      have free (bank : Nat) (is : s.getF (Fld.NVMC_BANKST_STATE bank) = 0) : s.bankFree bank = true := by
        rw [State.bankFree, is]
        rfl
      have fresh : ¬(s.refreshQueue.contains g || (s.refresh.map (fun r => r.sector == g)).getD false || decide (1022 ≤ g)) = true := by
        simp [empty, none_, low]
      have more : g + 1 < 2048 := by omega
      have below : ¬1024 ≤ g := by omega
      have starts : ({ s with refreshQueue := s.refreshQueue ++ [g] } : State).startRefresh = _ :=
        startRefresh_starts none_ (by rw [empty]; rfl) (free _ mine) (free _ spare)
      have runs : exec (.patrolSector true) s = .next (({ s with refreshQueue := s.refreshQueue ++ [g] } : State).startRefresh.setF
          Fld.NVMC_PATROL_SECTOR (g + 1)) := by
        refine congrArg Host.Outcome.next ((if_neg early).trans ?_)
        dsimp only
        rw [if_neg (Nat.not_le.2 within)]
        refine (if_pos more).trans (congrArg (fun u : State => u.setF Fld.NVMC_PATROL_SECTOR (g + 1)) ?_)
        exact (if_neg (by decide)).trans ((if_neg below).trans (if_neg fresh))
      rw [starts] at runs
      obtain ⟨refresh, queue, sector, first, second⟩ := started_leaves { s with refresh := some ⟨g, .copy⟩, refreshQueue := [] } g (by omega) (g + 1)
      exact ⟨_, runs, refresh, queue, sector, first, second⟩
  case refresh =>
    intro s
    refine ⟨fun none_ => ?_, fun r is may => ?_, fun r is may low empty => ?_⟩
    · change execRefreshDone s = _
      unfold execRefreshDone
      rw [none_]
    · change execRefreshDone s = _
      unfold execRefreshDone
      rw [is]
      dsimp only
      rw [may]
      rfl
    · have ended := endRefresh_carries r low is
      refine ⟨s.endRefresh, ?_, ended.refresh, ended.hmem, ?_⟩
      · change execRefreshDone s = _
        unfold execRefreshDone
        rw [is]
        dsimp only
        rw [may, if_pos rfl, startRefresh_empty (ended.queue.trans empty)]
      · exact nbytes_of_cells ended.cells

end Sys2Proof.Machine
end

section
/-! SUPPORT. The services of gates 0 and 2 that concern the life cycle and the dumps (R353, R482). -/

namespace Sys2Proof.Machine

section
variable {s : State}

/-- A pair that does not stand at the gate's entry has no service performed. -/
theorem gateService_away {p n f last : Nat} (away : s.atGate p n = false) (body : State → State) : s.gateService p n f last body = s :=
  if_pos (not_true away)

/-- A function number above the gate's last is refused (R353). -/
theorem gateService_unknown {p n f last : Nat} (stands : s.atGate p n = true) (large : last < s.gateArg p 3) (known : f ≤ last) (body : State → State) :
    s.gateService p n f last body = s.gateReturn p [St.param, 1] :=
  (if_neg (not_not_true stands)).trans ((if_neg (by omega)).trans (if_pos (.inr large)))

theorem lcPresent_error {target st sub why : Nat} {b : List Byte} (is : s.lcCheck target b = .error (st, sub, why)) :
    s.lcPresent target b = (.error (st, sub), ({ s with dport := { s.dport with nonce := none } } : State).lastRef why) := by
  rw [State.lcPresent, is]

theorem lcPresent_ok {target : Nat} {b : List Byte} {x : Nat × Option (List Byte)} (is : s.lcCheck target b = .ok x) :
    s.lcPresent target b = (.ok x, { s with dport := { s.dport with nonce := none } }) := by
  rw [State.lcPresent, is]

theorem certPresent_refused {b : List Byte} {why : Nat} (is : s.certReason b = some why) : s.certPresent b = (s.lastRef why, false) := by
  unfold State.certPresent
  split
  · next r refused => rw [Option.some.inj (refused.symm.trans is)]
  · next accepted => exact absurd (accepted.symm.trans is) (by simp)

theorem certPresent_accepted {b : List Byte} (is : s.certReason b = none) : (s.certPresent b).2 = true := by
  unfold State.certPresent
  split
  · next r refused => exact absurd (refused.symm.trans is) (by simp)
  · rfl

end

end Sys2Proof.Machine
end

section
/-! The statement about the gate services of life cycle and ash settled. -/

namespace Sys2Proof.Machine

/-- Settles O43: each service's checks in order, and what it does past them. -/
theorem gateServicesOfLifecycleAndAsh : Obligations.GateServicesOfLifecycleAndAsh := by
  intro s p q a buf ret
  refine ⟨?away, ?unknown, ?nonce, ?transition, ?cert, ?close, ?write, ?badSlot, ?erase, ?dump⟩
  case away =>
    exact fun away => ⟨congrArg Host.Outcome.next (gateService_away away _), congrArg Host.Outcome.next (gateService_away away _)⟩
  case unknown =>
    exact fun stands large => congrArg Host.Outcome.next (gateService_unknown stands large (by decide) _)
  case nonce =>
    intro asks
    have runs {t : State} (is : _ = t) : exec (.gate2Nonce p) s = .next t := congrArg Host.Outcome.next ((gateService_own asks _).trans is)
    have fits (room : 32 ≤ a 5) (own : buf (a 4) 32 .store) : ¬((decide (s.gateArg q 5 < 32) || !s.gateBuffer q (s.gateArg q 4) 32 .store) = true) := by
      rw [decide_eq_false (Nat.not_lt.2 room), show s.gateBuffer q (s.gateArg q 4) 32 .store = true from own]
      decide
    refine ⟨fun bad => runs (if_pos ?_), fun room own ill => runs ((if_neg (fits room own)).trans (if_pos (not_true ill))), fun room own well =>
      runs ((if_neg (fits room own)).trans (if_neg (not_not_true well)))⟩
    rw [Bool.or_eq_true, decide_eq_true_iff]
    exact bad.imp_right fun no => not_true (Bool.eq_false_iff.2 no)
  case transition =>
    intro asks own b c
    refine ⟨fun st sub why refused => ?_, fun r owner passes => ?_⟩
    · refine congrArg Host.Outcome.next ((gateService_own asks _).trans ((if_neg (not_not_true own)).trans ?_))
      dsimp only
      rw [lcPresent_error refused]
    · refine congrArg Host.Outcome.next ((gateService_own asks _).trans ((if_neg (not_not_true own)).trans ?_))
      dsimp only
      rw [lcPresent_ok passes]
  case cert =>
    intro asks own b
    refine ⟨fun accepted => ?_, fun why refused => ?_⟩
    · refine congrArg Host.Outcome.next ((gateService_own asks _).trans ((if_neg (not_not_true own)).trans ?_))
      dsimp only
      rw [certPresent_accepted accepted, if_pos rfl]
    · refine congrArg Host.Outcome.next ((gateService_own asks _).trans ((if_neg (not_not_true own)).trans ?_))
      dsimp only
      rw [certPresent_refused refused]
      rfl
  case close =>
    exact fun asks => congrArg Host.Outcome.next (gateService_own asks _)
  case write =>
    intro cv key asks slot own root dumpKey blank idle
    have named : a 4 ≠ 0xFF := by omega
    have good : ¬((3 < a 4 ∧ a 4 ≠ 0xFF) ∨ (!s.gateBuffer q (a 6) 0xF000 .load) = true) := not_or.2 ⟨by omega, not_not_true own⟩
    refine congrArg Host.Outcome.next ((gateService_own asks _).trans ((if_neg good).trans ?_))
    dsimp only
    rw [root, dumpKey]
    dsimp only
    rw [if_neg named, idle, Bool.false_and, if_neg Bool.false_ne_true, blank, if_pos rfl]
  case badSlot =>
    exact fun asks large named => congrArg Host.Outcome.next ((gateService_own asks _).trans (if_pos (.inl ⟨large, named⟩)))
  case erase =>
    refine fun asks => ⟨fun slot idle => ?_, fun slot busy => ?_, fun large => ?_⟩
    · exact congrArg Host.Outcome.next ((gateService_own asks _).trans ((if_neg (Nat.not_lt.2 slot)).trans (if_neg (Bool.eq_false_iff.1 idle))))
    · exact congrArg Host.Outcome.next ((gateService_own asks _).trans ((if_neg (Nat.not_lt.2 slot)).trans (if_pos busy)))
    · exact congrArg Host.Outcome.next ((gateService_own asks _).trans (if_pos large))
  case dump =>
    intro asks slot own r
    exact congrArg Host.Outcome.next ((gateService_own asks _).trans (if_neg (not_or.2 ⟨Nat.not_lt.2 slot, not_not_true own⟩)))

end Sys2Proof.Machine
end

section
/-! SUPPORT. Device-level resets (R471–R474, R516): what they leave. -/

namespace Sys2Proof.Machine

section
variable {s : State}

/-- The entries of a table whose keys satisfy `p`, and what each key then reads as. -/
theorem get_filter {α : Type} (d : Nat → α) (p : Nat → Bool) (t : Table α) (k : Nat) :
    Table.get d (t.filter (fun e => p e.1)) k = if p k then t.get d k else d k := by
  have is : t.filter (fun e => p e.1) = t.drop (fun k => !p k) := by
    rw [Table.drop]
    congr 1
    funext e
    exact (Bool.not_not _).symm
  rw [is, Table.get_drop]
  cases p k <;> rfl

/-- What cutting an erase leaves of the state. -/
def State.CutKept (s t : State) : Prop := t.regs = s.regs ∧ t.log = s.log ∧ t.ledger = s.ledger ∧ t.pending = s.pending

theorem cutKept_refl : s.CutKept s := ⟨rfl, rfl, rfl, rfl⟩

theorem State.CutKept.trans {t u : State} (first : s.CutKept t) (second : t.CutKept u) : s.CutKept u := by
  obtain ⟨regs, log, ledger, pending⟩ := first
  obtain ⟨regs', log', ledger', pending'⟩ := second
  exact ⟨regs'.trans regs, log'.trans log, ledger'.trans ledger, pending'.trans pending⟩

/-- The cut of an erase of bank b, whose sector has `n` bytes (R314). -/
def State.cutErase (n : Nat) (s : State) (b : Nat) : State :=
  if s.eraseActive b then
    let r := s.freshBytes n
    let t := r.2.setNbytes (s.eraseSector b * n) r.1
    { t with nvmSpent := t.nvmSpent.drop (fun k => k / 2048 == s.eraseSector b) }
  else s

theorem cutErase_keeps (n b : Nat) : s.CutKept (s.cutErase n b) := by
  unfold State.cutErase
  split
  · exact ⟨rfl, rfl, rfl, rfl⟩
  · exact cutKept_refl

theorem foldl_cutErase_keeps (n : Nat) (bs : List Nat) : s.CutKept (bs.foldl (State.cutErase n) s) := by
  induction bs generalizing s with
  | nil => exact cutKept_refl
  | cons b bs ih => exact (cutErase_keeps n b).trans ih

theorem cutErases_keeps : s.CutKept s.cutErases := by
  have is : s.cutErases = (List.range 2).foldl (State.cutErase 65536) s := by
    unfold State.cutErases
    congr 1
  rw [is]
  exact foldl_cutErase_keeps _ _

/-- What a device-level reset with causes `c` makes of the state (R471–R473, R516). -/
structure State.IsReset (s : State) (c : Word) (t : State) : Prop where
  pairs : t.pairs = []
  hmem : t.hmem = []
  jobs : t.jobs = []
  porHeld : t.porHeld = false
  log : t.log = s.log
  ledger : t.ledger = s.ledger.cut
  pending : t.pending = s.pending
  cause : t.reg Reg.SYS_RSTCAUSE = if s.inReset = true then s.reg Reg.SYS_RSTCAUSE ||| c else c
  reset : ∀ o, inBackupDomain o = false → inPowerDomain o = false → o ≠ Reg.TAMP_STAT → o ≠ Reg.LCS_STAT → o ≠ Reg.SYS_RSTCAUSE → t.reg o = resetReg o

theorem isReset_incSat {t : State} {c : Word} (h : s.IsReset c t) : s.IsReset c (t.incSat Reg.SYS_RSTHIST) := by
  have other {o : Nat} (ne : o ≠ Reg.SYS_RSTHIST) : (t.incSat Reg.SYS_RSTHIST).reg o = t.reg o := State.reg_setReg_ne _ _ ne
  refine ⟨h.pairs, h.hmem, h.jobs, h.porHeld, h.log, h.ledger, h.pending, (other (by decide)).trans h.cause, fun o noBackup noPower noTamp noLc noCause => ?_⟩
  refine (other fun same => ?_).trans (h.reset o noBackup noPower noTamp noLc noCause)
  rw [same] at noPower
  exact absurd noPower (by decide)

/-- A cleared state with the backup and power-on domains' registers, and the three registers that a reset sets. -/
theorem isReset_of_cleared {u v : State} {c tamp lc cause : Word} (kept : s.CutKept u)
    (causes : cause = if s.inReset = true then s.reg Reg.SYS_RSTCAUSE ||| c else c)
    (regs : v.regs = u.regs.filter (fun e => inBackupDomain e.1 || inPowerDomain e.1))
    (blank : v.pairs = [] ∧ v.hmem = [] ∧ v.jobs = [] ∧ v.porHeld = false) (log : v.log = u.log) (ledger : v.ledger = u.ledger.cut)
    (pending : v.pending = u.pending) :
    s.IsReset c (((v.setReg Reg.TAMP_STAT tamp).setReg Reg.LCS_STAT lc).setReg Reg.SYS_RSTCAUSE cause) := by
  obtain ⟨-, sameLog, sameLedger, samePending⟩ := kept
  obtain ⟨pairs, hmem, jobs, held⟩ := blank
  refine ⟨pairs, hmem, jobs, held, log.trans sameLog, ledger.trans (congrArg Ledger.cut sameLedger), pending.trans samePending, (State.reg_setReg _ _ _).trans causes,
    fun o noBackup noPower noTamp noLc noCause => ?_⟩
  rw [State.reg_setReg_ne _ _ noCause, State.reg_setReg_ne _ _ noLc, State.reg_setReg_ne _ _ noTamp, State.reg, regs]
  refine (get_filter resetReg (fun o => inBackupDomain o || inPowerDomain o) u.regs o).trans (if_neg ?_)
  rw [noBackup, noPower]
  decide

theorem deviceReset_isReset (c : Word) : s.IsReset c (s.deviceReset c) := by
  obtain ⟨u, is, kept⟩ : ∃ u, s.cutErases = u ∧ s.CutKept u := ⟨_, rfl, cutErases_keeps⟩
  have regs : u.regs = s.regs := kept.left
  have phase : u.inReset = s.inReset := by rw [State.inReset, getF_congr regs]; rfl
  unfold State.deviceReset
  rw [is]
  dsimp only
  rw [phase, reg_congr regs Reg.SYS_RSTCAUSE]
  split
  · next begun =>
    refine isReset_of_cleared kept (if_pos begun).symm ?_ ⟨?_, ?_, ?_, ?_⟩ ?_ ?_ ?_
    all_goals rfl
  · next idle =>
    refine isReset_incSat (isReset_of_cleared kept (if_neg idle).symm ?_ ⟨?_, ?_, ?_, ?_⟩ ?_ ?_ ?_)
    all_goals rfl

/-- A power-on reset clears the event log too (R472). -/
theorem powerOnReset_leaves : ∃ t, s.powerOnReset = t ∧ t.pairs = [] ∧ t.hmem = [] ∧ t.jobs = [] ∧ t.porHeld = false ∧ t.log = [] ∧
    t.ledger = s.ledger.cut ∧ t.pending = s.pending := by
  have is := deviceReset_isReset (s := s) 1
  exact ⟨_, rfl, is.pairs, is.hmem, is.jobs, is.porHeld, rfl, is.ledger, is.pending⟩

/-- Fields of registers set one after the other leave all but the registers. -/
theorem foldl_setF_rest {ι : Type} (f : ι → FieldAt) (v : ι → Nat) (ks : List ι) :
    ∃ regs, ks.foldl (fun s k => s.setF (f k) (v k)) s = { s with regs := regs } := by
  induction ks generalizing s with
  | nil => exact ⟨s.regs, rfl⟩
  | cons k ks ih => exact ih (s := s.setF (f k) (v k))

/-- The changeover to main power changes registers and the tamper unit alone. -/
theorem changeover_rest (b : Bool) : ∃ regs unit, s.changeover b = { s with regs := regs, tamper := unit } := by
  unfold State.changeover State.discardWindows
  split
  · exact ⟨s.regs, s.tamper, rfl⟩
  · obtain ⟨regs, is⟩ := foldl_setF_rest (s := s) Fld.TAMP_MSTAT_INWIN (fun _ => 0) (List.range 101)
    rw [is]
    cases b
    · exact ⟨_, _, rfl⟩
    · exact ⟨_, _, rfl⟩

end

end Sys2Proof.Machine
end

section
/-! The statement about resets and gate 0 settled. -/

namespace Sys2Proof.Machine

/-- Settles O44: what a reset leaves, where the boot stops, and the routines of gate 0. -/
theorem resetsAndGateZero : Obligations.ResetsAndGateZero := by
  refine ⟨fun s => ?power, fun s ns => ⟨?short, ?held, ?pin⟩, fun s => ?fall, fun s mv stands => ?core, fun s mv stands => ?io18, fun s mv stands => ?io33,
    fun s env => ?boot, fun s p => ?gate⟩
  case power =>
    obtain ⟨u, is, pairs, hmem, jobs, held, log, ledger, pending⟩ := powerOnReset_leaves (s := s)
    obtain ⟨regs, unit, change⟩ := changeover_rest (s := u) false
    exact ⟨_, congrArg Host.Outcome.next ((congrArg (State.changeover · false) is).trans change), log, pairs, hmem, jobs, held, ledger, pending⟩
  case short => exact fun short => congrArg Host.Outcome.next (if_pos short)
  case held => exact fun long held => congrArg Host.Outcome.next ((if_neg (Nat.not_lt.2 long)).trans (if_pos held))
  case pin =>
    intro long free
    have is := deviceReset_isReset (s := s) 2#32
    exact ⟨s.deviceReset 2#32, congrArg Host.Outcome.next ((if_neg (Nat.not_lt.2 long)).trans (if_neg (Bool.eq_false_iff.1 free))), is.cause, is.pairs, is.hmem, is.log,
      is.ledger, is.reset⟩
  case fall =>
    obtain ⟨u, is⟩ : ∃ u, s.supplyEvent 52 = u := ⟨_, rfl⟩
    obtain ⟨t, wiped, pairs, hmem, -, -, log, -, -⟩ := powerOnReset_leaves (s := u)
    refine ⟨u.holdReset, congrArg Host.Outcome.next ?_, ?_⟩
    · dsimp only
      rw [if_pos (by decide), if_pos (by decide), is]
    · rw [State.holdReset, wiped]
      exact ⟨rfl, (reg_congr rfl _).trans (State.reg_setReg t Reg.SYS_RSTCAUSE 1), pairs, hmem, log⟩
  case core =>
    refine congrArg Host.Outcome.next ?_
    dsimp only
    rw [if_neg (Nat.not_lt.2 stands), if_neg (by omega)]
  case io18 => exact congrArg Host.Outcome.next (if_neg (Nat.not_lt.2 stands))
  case io33 =>
    refine congrArg Host.Outcome.next ?_
    dsimp only
    rw [if_neg (Nat.not_lt.2 stands), if_neg (by omega), if_neg (by omega)]
  case boot =>
    refine ⟨fun idle => congrArg Host.Outcome.next (if_pos ?_), fun free stage begins => ?_⟩
    · rw [Bool.or_eq_true, Bool.or_eq_true, bne_iff_ne]
      exact .inl idle
    · have runs : ¬((s.porHeld || s.getF Fld.SYS_BOOT_STAGE != 0 || !s.booting) = true) := by
        rw [free, stage, begins]
        decide
      refine ⟨fun rom => ?_, fun rom fails => ?_, fun rom puf helper => ?_⟩
      · exact congrArg Host.Outcome.next ((if_neg runs).trans (if_pos (not_true rom)))
      · refine congrArg Host.Outcome.next ((if_neg runs).trans ((if_neg (not_not_true rom)).trans (if_pos ?_)))
        rw [Bool.or_eq_true]
        refine fails.elim (fun puf => .inr (not_true puf)) fun ⟨first, second⟩ => .inl ?_
        rw [first, second]
        rfl
      · refine congrArg Host.Outcome.next ((if_neg runs).trans ((if_neg (not_not_true rom)).trans (if_neg ?_)))
        rw [puf, show (env.helper0Ok || env.helper1Ok) = true from Bool.or_eq_true_iff.2 helper]
        decide
  case gate =>
    refine ⟨fun asks ready => ?_, fun asks ready => ?_, fun asks key begun => ?_, fun asks key => ?_, fun asks low => ?_, fun asks high => ?_⟩
    · exact congrArg Host.Outcome.next ((gateService_own asks _).trans (if_pos ready))
    · exact congrArg Host.Outcome.next ((gateService_own asks _).trans (if_neg (Bool.eq_false_iff.1 ready)))
    · have is := deviceReset_isReset (s := s) 0x44#32
      refine ⟨s.deviceReset 0x44#32, congrArg Host.Outcome.next ((gateService_own asks _).trans (if_pos key)), ?_, is.pairs⟩
      exact is.cause.trans (if_neg (Bool.eq_false_iff.1 begun))
    · exact congrArg Host.Outcome.next ((gateService_own asks _).trans (if_neg key))
    · exact congrArg Host.Outcome.next ((gateService_own asks _).trans (if_pos low))
    · exact congrArg Host.Outcome.next ((gateService_own asks _).trans (if_neg (Nat.not_lt.2 high)))

end Sys2Proof.Machine
end

section
/-! SUPPORT. The TAP's instructions and the debug port's accesses (R346–R352). -/

namespace Sys2Proof.Machine

section
variable {s : State}

/-- The debug port with an instruction selected, its data register, and the certificate words kept. -/
def State.selected (s : State) (op : Nat) (dr : List Word) (cert : List Word) : State :=
  { s with dport := { s.dport with instr := op, dr := dr, cert := cert } }

/-- An instruction without a data register that the manual gives. -/
theorem tapSelect_plain {op : Nat} (permits : s.tapPermits op = true) (plain : s.tapData op = []) (other : op ≠ 0x10) :
    s.tapSelect op = s.selected op [] [] := by
  unfold State.tapSelect
  rw [permits, if_pos rfl]
  dsimp only
  rw [plain, if_neg other]
  rfl

/-- An instruction whose data register shifts words out. -/
theorem tapSelect_data {op : Nat} {w : Word} (permits : s.tapPermits op = true) (data : s.tapData op = [w]) (other : op ≠ 0x10) :
    s.tapSelect op = (s.selected op [w] []).emit (.frame 124 op (wordsBytes [w])) := by
  unfold State.tapSelect
  rw [permits, if_pos rfl]
  dsimp only
  rw [data, if_neg other]
  rfl

/-- BYPASS stands in for an instruction that the state does not permit (R346). -/
theorem tapSelect_refused {op : Nat} (refuses : s.tapPermits op = false) : s.tapSelect op = s.selected 0xFF [] [] := by
  unfold State.tapSelect
  rw [refuses, if_neg Bool.false_ne_true]
  rfl

theorem tapSelect_auth (permits : s.tapPermits 0x10 = true) : s.tapSelect 0x10 = s.selected 0x10 [] s.dport.cert := by
  unfold State.tapSelect
  rw [permits, if_pos rfl]
  rfl

/-- A DBG_ACCESS that the state permits performs its request. -/
theorem debugAccess_permitted (permits : s.tapPermits 0x11 = true) (f : State → State) : s.debugAccess f = f (s.selected 0x11 [] []) := by
  rw [State.debugAccess, tapSelect_plain permits rfl (by decide)]
  exact if_pos rfl

theorem debugAccess_refused (refuses : s.tapPermits 0x11 = false) (f : State → State) : s.debugAccess f = s.selected 0xFF [] [] := by
  rw [State.debugAccess, tapSelect_refused refuses]
  exact if_neg (show ¬(0xFF : Nat) = 0x11 by decide)

/-- General register i stands at ADDR 4 i of SPACE 1 (R351). -/
theorem pairRegAt_general (i : Fin 32) : pairRegAt (wd (4 * i.val)).toNat = some (.general i.val) := by
  have low := i.isLt
  rw [wd, BitVec.toNat_ofNat, Nat.mod_eq_of_lt (by omega), pairRegAt, if_neg (by omega), if_pos (by omega), Nat.mul_div_cancel_left _ (by decide)]

/-- An event leaves its entry in the log (R483). -/
theorem log_logEvent_ne_nil (s : State) (src code unit : Nat) (a b : Word) (n : Nat) : (s.logEvent src code unit a b n).log ≠ [] := by
  obtain ⟨e, full, lost, is⟩ := logRaw_eq s s.beatNow (b2n s.trusted) src code unit a b n
  rw [State.logEvent, is]
  have drains (t : State) : t.undrain125.log = t.log := by
    unfold State.undrain125
    dsimp only
    split <;> rfl
  have offers (t : State) : (t.offered e).log = t.log := by
    unfold State.offered
    dsimp only
    split
    · split
      · dsimp only
        split
        · rfl
        · exact drains t
      · rfl
    · rfl
  have enters : (s.entered e full lost).log = (if full then s.log.drop 1 else s.log) ++ [e] := by
    cases lost <;> rfl
  rw [offers, enters]
  exact List.append_ne_nil_of_right_ne_nil _ (List.cons_ne_nil _ _)

/-- What a refused debug access leaves (R350). -/
theorem debugRefuse_leaves (s : State) (a : Word) : (s.debugRefuse a).dport.err = true ∧ (s.debugRefuse a).dport.data = 0 ∧ (s.debugRefuse a).log ≠ [] := by
  unfold State.debugRefuse State.debugResult
  exact ⟨rfl, rfl, log_logEvent_ne_nil _ _ _ _ _ _ _⟩

theorem haltWrite_refused {p : Nat} {a v : Word} (no : s.haltPermits p = false) : s.haltWrite p a v = s.debugRefuse a :=
  if_neg (Bool.eq_false_iff.1 no)

theorem haltWrite_granted {p : Nat} {a v : Word} (yes : s.haltPermits p = true) : s.haltWrite p a v = s.haltControl p v := if_pos yes

theorem unhalt_halted {p : Nat} {step : Bool} (halted : (s.pair p).halted = true) : s.unhalt p step =
    (s.updPair p (fun x => { x with halted := false, stepping := step })).setReg (Reg.LCS_HALTED (p / 32))
      (s.reg (Reg.LCS_HALTED (p / 32)) &&& ~~~(wd (2 ^ (p % 32)))) := if_neg (not_not_true halted)

end

end Sys2Proof.Machine
end

section
/-! The statement about the debug port settled. -/

namespace Sys2Proof.Machine

/-- Settles O45: the selection of an instruction, then the request of a DBG_ACCESS by its space and rights. -/
theorem debugPortAccesses : Obligations.DebugPortAccesses := by
  refine ⟨fun s => ?tap, fun s w => ?auth, fun s p a v permits => ?access, fun s p sp a v refuses => ?refused, fun s p => ?taken, fun s p => ?untaken, fun s => ?expire⟩
  case tap =>
    intro selects
    have plain {op : Nat} (data : s.tapData op = []) (other : op ≠ 0x10) (yes : s.tapPermits op = true) :
        (Host.Outcome.next (s.tapSelect op) : Host.Outcome State Fault Refusal) = .next (selects op []) :=
      congrArg Host.Outcome.next (tapSelect_plain yes data other)
    have bypass {op : Nat} (no : s.tapPermits op = false) :
        (Host.Outcome.next (s.tapSelect op) : Host.Outcome State Fault Refusal) = .next (selects 0xFF []) :=
      congrArg Host.Outcome.next (tapSelect_refused no)
    exact ⟨rfl, congrArg Host.Outcome.next (tapSelect_data rfl rfl (by decide)), plain rfl (by decide) rfl, plain rfl (by decide), bypass, plain rfl (by decide), bypass,
      plain rfl (by decide), bypass, plain rfl (by decide), bypass, fun yes => congrArg Host.Outcome.next (tapSelect_data yes rfl (by decide)), bypass⟩
  case auth =>
    refine ⟨fun no => congrArg Host.Outcome.next ?_, fun yes => congrArg Host.Outcome.next ?_, fun yes => congrArg Host.Outcome.next ?_⟩
    · rw [tapSelect_refused no]
      exact if_pos (show (0xFF : Nat) ≠ 0x10 by decide)
    · rw [tapSelect_auth yes]
      exact (if_neg (not_not_intro rfl)).trans (if_neg Bool.false_ne_true)
    · rw [tapSelect_auth yes]
      exact (if_neg (not_not_intro rfl)).trans (if_pos rfl)
  case access =>
    intro b q x
    have runs (f : State → State) {t : State} (is : f b = t) : (Host.Outcome.next (s.debugAccess f) : Host.Outcome State Fault Refusal) = .next t :=
      congrArg Host.Outcome.next ((debugAccess_permitted permits f).trans is)
    refine ⟨fun yes => runs _ (if_pos yes), fun no => runs _ (if_neg (Bool.eq_false_iff.1 no)), fun yes => runs _ (if_pos yes),
      fun no => runs _ (if_neg (Bool.eq_false_iff.1 no)), fun i is halted => runs _ ?readGeneral, fun i is halted granted => runs _ ?writeGeneral,
      fun is halted => ⟨runs _ ?readPc, fun granted => runs _ ?writePc⟩, ⟨runs _ rfl, runs _ rfl⟩, fun running => ⟨runs _ ?readRunning, runs _ ?writeRunning⟩,
      fun yes running => runs _ ?haltRunning, fun yes halted => runs _ ?haltHalted, fun yes halted => ?free,
      fun no => ⟨runs _ (haltWrite_refused no), runs _ (haltWrite_refused no), runs _ (haltWrite_refused no)⟩, ⟨_, rfl, debugRefuse_leaves b a⟩⟩
    case readGeneral =>
      dsimp only
      rw [is, pairRegAt_general]
      exact if_pos halted
    case writeGeneral =>
      rw [is, pairRegAt_general]
      exact if_pos (Bool.and_eq_true_iff.2 ⟨halted, granted⟩)
    case readPc =>
      dsimp only
      rw [is, show pairRegAt (0x400#32).toNat = some .pc from rfl]
      exact if_pos halted
    case writePc =>
      rw [is, show pairRegAt (0x400#32).toNat = some .pc from rfl]
      exact if_pos (Bool.and_eq_true_iff.2 ⟨halted, granted⟩)
    case readRunning =>
      dsimp only
      cases pairRegAt a.toNat
      · rfl
      · exact if_neg (Bool.eq_false_iff.1 running)
    case writeRunning =>
      cases pairRegAt a.toNat
      · rfl
      · exact if_neg (fun both => Bool.eq_false_iff.1 running (Bool.and_eq_true_iff.1 both).1)
    case haltRunning =>
      refine (haltWrite_granted yes).trans ?_
      exact congrArg (State.debugResult · 0 false) (if_neg (Bool.eq_false_iff.1 running))
    case haltHalted =>
      refine (haltWrite_granted yes).trans ?_
      exact congrArg (State.debugResult · 0 false) (if_pos halted)
    case free =>
      intro w free
      refine ⟨runs _ ((haltWrite_granted yes).trans ?_), runs _ ((haltWrite_granted yes).trans ?_)⟩
      · exact congrArg (fun t : State => (t.updPair q (fun y => { y with haltReq := false })).debugResult 0 false) (unhalt_halted halted)
      · exact congrArg (State.debugResult · 0 false) (unhalt_halted halted)
  case refused =>
    intro b
    have stays (f : State → State) : (Host.Outcome.next (s.debugAccess f) : Host.Outcome State Fault Refusal) = .next b :=
      congrArg Host.Outcome.next (debugAccess_refused refuses f)
    exact ⟨stays _, stays _, stays _, stays _, stays _⟩
  case taken =>
    intro stands due none
    refine congrArg Host.Outcome.next (if_pos ?_)
    rw [stands, due, none]
    rfl
  case untaken =>
    intro no
    refine congrArg Host.Outcome.next (if_neg fun all => ?_)
    rw [Bool.and_eq_true, Bool.and_eq_true] at all
    obtain ⟨⟨stands, due⟩, -⟩ := all
    exact no.elim (Bool.eq_false_iff.1 · stands) (Bool.eq_false_iff.1 · due)
  case expire =>
    refine ⟨fun debug closed left => congrArg Host.Outcome.next (if_pos ?_), fun left => congrArg Host.Outcome.next (if_neg fun all => ?_)⟩
    · rw [debug, closed, left]
      decide
    · exact left (beq_iff_eq.1 (Bool.and_eq_true_iff.1 all).2)

end Sys2Proof.Machine
end

section
/-! SUPPORT. Alarms and their responses (R361–R371): what they leave of TAMP.STAT, LEDG.STAT and hearth memory. -/

namespace Sys2Proof.Machine

/-- Registers that no step of a response writes but by the fields of TAMP.STAT and LEDG.STAT that it names. -/
def QuietReg (o : Nat) : Prop := (0x2080 ≤ o ∧ o < 0x3008) ∨ (0x5000 ≤ o ∧ o < 0x100000)

theorem quiet_stat : QuietReg Reg.TAMP_STAT := .inl (by decide)
theorem quiet_ledger : QuietReg Reg.LEDG_STAT := .inr (by decide)

/-- State t keeps the quiet registers and hearth memory of s. -/
structure State.AlarmKept (s t : State) : Prop where
  reg : ∀ o, QuietReg o → t.reg o = s.reg o
  hmem : t.hmem = s.hmem

section
variable {s t u : State}

theorem State.AlarmKept.refl (s : State) : s.AlarmKept s := ⟨fun _ _ => rfl, rfl⟩

theorem State.AlarmKept.trans (a : s.AlarmKept t) (b : t.AlarmKept u) : s.AlarmKept u :=
  ⟨fun o quiet => (b.reg o quiet).trans (a.reg o quiet), b.hmem.trans a.hmem⟩

theorem State.AlarmKept.getF (h : s.AlarmKept t) {f : FieldAt} (quiet : QuietReg f.off) : t.getF f = s.getF f := by
  rw [State.getF, h.reg _ quiet, State.getF]

theorem State.AlarmKept.flag (h : s.AlarmKept t) {f : FieldAt} (quiet : QuietReg f.off) : t.flag f = s.flag f := by
  rw [State.flag, h.getF quiet, State.flag]

theorem alarmKept_rest (regs : t.regs = s.regs) (hmem : t.hmem = s.hmem) : s.AlarmKept t := ⟨fun o _ => reg_congr regs o, hmem⟩

theorem alarmKept_setReg {o : Nat} (loud : ¬QuietReg o) (v : Word) : s.AlarmKept (s.setReg o v) :=
  ⟨fun _ quiet => State.reg_setReg_ne _ _ fun same => loud (same ▸ quiet), rfl⟩

theorem alarmKept_setF {f : FieldAt} (loud : ¬QuietReg f.off) (n : Nat) : s.AlarmKept (s.setF f n) := alarmKept_setReg loud _

theorem alarmKept_foldl {α : Type} (f : State → α → State) (l : List α) (h : ∀ (s : State), ∀ a ∈ l, s.AlarmKept (f s a)) (s : State) :
    s.AlarmKept (l.foldl f s) := List.foldlRecOn l f (.refl s) fun t ht a mem => ht.trans (h t a mem)

theorem State.Logs.alarmKept (h : s.Logs t) : s.AlarmKept t := by
  refine ⟨fun o quiet => h.reg o ?_ ?_ ?_, h.untouched.hmem⟩ <;>
    · rintro rfl
      revert quiet
      unfold QuietReg
      decide

theorem loud_high {o : Nat} (high : 0x100000 ≤ o) : ¬QuietReg o := by unfold QuietReg; omega

theorem loud_tamper {o : Nat} (low : 0x3008 ≤ o) (high : o < 0x5000) : ¬QuietReg o := by unfold QuietReg; omega

theorem loud_lcs {o : Nat} (high : o < 0x2080) : ¬QuietReg o := by unfold QuietReg; omega

end

variable (s : State)

theorem alarmKept_emit (o : Output) : s.AlarmKept (s.emit o) := ⟨fun _ _ => rfl, rfl⟩
theorem alarmKept_setRf (f : Nat) (x : RfUnit) : s.AlarmKept (s.setRf f x) := ⟨fun _ _ => rfl, rfl⟩
theorem alarmKept_setAct (n : Nat) (x : ActOutput) : s.AlarmKept (s.setAct n x) := ⟨fun _ _ => rfl, rfl⟩
theorem alarmKept_dport (x : DebugUnit) : s.AlarmKept { s with dport := x } := ⟨fun _ _ => rfl, rfl⟩
theorem alarmKept_tags (x : Table Nat) : s.AlarmKept { s with tags := x } := ⟨fun _ _ => rfl, rfl⟩
theorem alarmKept_tamper (x : TamperUnit) : s.AlarmKept { s with tamper := x } := ⟨fun _ _ => rfl, rfl⟩
theorem alarmKept_resumed (x : Table Pair) (d : DebugUnit) : s.AlarmKept { s with pairs := x, dport := d } := ⟨fun _ _ => rfl, rfl⟩

theorem alarmKept_endRights : s.AlarmKept s.endRights := by
  unfold State.endRights
  dsimp only
  refine State.AlarmKept.trans ?_ (alarmKept_resumed _ _ _)
  refine State.AlarmKept.trans ?_ (alarmKept_foldl (fun s w => s.setReg (Reg.LCS_HALTED w) 0) (List.range 16) (fun s w mem => ?_) _)
  · refine State.AlarmKept.trans ?_ (alarmKept_setF (f := Fld.LCS_STAT_HALTRIGHT) (loud_lcs (by decide)) 0)
    refine State.AlarmKept.trans ?_ (alarmKept_setF (f := Fld.LCS_STAT_DEBUG) (loud_lcs (by decide)) 0)
    refine State.AlarmKept.trans ?_ (alarmKept_setReg (loud_lcs (o := Reg.LCS_DBG_LEFT) (by decide)) 0)
    refine State.AlarmKept.trans ?_ (alarmKept_setReg (loud_lcs (o := Reg.LCS_DBG_SERIAL) (by decide)) 0)
    exact alarmKept_setReg (loud_lcs (o := Reg.LCS_DBG_RIGHTS) (by decide)) 0
  · have low := List.mem_range.1 mem
    exact alarmKept_setReg (loud_lcs (by show 0x2040 + 0x4 * w < 0x2080; omega)) 0

theorem alarmKept_fieldOff (f : Nat) : s.AlarmKept (s.fieldOff f) :=
  (alarmKept_setF (f := Fld.RF_STAT_FON f) (loud_high (by show 0x100000 ≤ 0x304004 + 0x100 * f; omega)) 0).trans (alarmKept_setRf _ _ _)

theorem alarmKept_quarantine : (s.setF Fld.TAMP_STAT_QUAR 1).AlarmKept s.quarantine := by
  unfold State.quarantine
  dsimp only
  refine State.AlarmKept.trans (alarmKept_endRights _) (State.AlarmKept.trans ?_ (alarmKept_dport _ _))
  refine alarmKept_foldl _ (List.range 4) (fun s f _ => ?_) _
  split
  · exact .refl s
  · exact alarmKept_fieldOff s f

theorem alarmKept_cutPulses : s.AlarmKept s.cutPulses := by
  refine alarmKept_foldl _ _ (fun s n _ => ?_) s
  have high : 0x100000 ≤ Reg.ACT_STAT n := by show 0x100000 ≤ 0x306008 + 0x20 * n; omega
  have fields (t : State) (a : ActOutput) : t.AlarmKept (((t.setF (Fld.ACT_STAT_ACTIVE n) 0).setF (Fld.ACT_STAT_Q n) 0).setAct n a) :=
    ((alarmKept_setF (f := Fld.ACT_STAT_ACTIVE n) (loud_high high) 0).trans (alarmKept_setF (f := Fld.ACT_STAT_Q n) (loud_high high) 0)).trans
      (alarmKept_setAct _ _ _)
  dsimp only
  refine State.AlarmKept.trans ?_ (fields _ _)
  split
  · exact (logs_logEvent _ _ _ _ _ _ _).alarmKept.trans (alarmKept_emit _ _)
  · exact .refl s

theorem alarmKept_backupLog (m cls : Nat) (bat clr : Bool) : s.AlarmKept (s.backupLog m cls bat clr) := by
  have slot : s.getF Fld.TAMP_BKLOG_PTR_NEXT < 64 := Nat.mod_lt _ (by decide)
  unfold State.backupLog
  dsimp only
  generalize s.getF Fld.TAMP_BKLOG_PTR_NEXT = i at slot
  have over_ : s.AlarmKept (if 64 ≤ s.tamper.bkCount then s.setF Fld.TAMP_BKLOG_PTR_OVF (min 65535 (s.getF Fld.TAMP_BKLOG_PTR_OVF + 1)) else s) := by
    split
    · exact alarmKept_setF (loud_tamper (by decide) (by decide)) _
    · exact .refl s
  revert over_
  generalize (if 64 ≤ s.tamper.bkCount then s.setF Fld.TAMP_BKLOG_PTR_OVF (min 65535 (s.getF Fld.TAMP_BKLOG_PTR_OVF + 1)) else s) = t
  intro over_
  have first := over_.trans (alarmKept_setReg (loud_tamper (o := Reg.TAMP_BKLOG_W0 i) (by show 0x3008 ≤ 0x3100 + 0x8 * i; omega)
    (by show 0x3100 + 0x8 * i < 0x5000; omega)) (t.reg Reg.TAMP_BKTICK))
  have second := first.trans (alarmKept_setReg (loud_tamper (o := Reg.TAMP_BKLOG_W1 i) (by show 0x3008 ≤ 0x3104 + 0x8 * i; omega)
    (by show 0x3104 + 0x8 * i < 0x5000; omega)) (wd (2 ^ 16 * (b2n bat + 2 * b2n clr) + 2 ^ 8 * cls + m)))
  have third := second.trans (alarmKept_setF (f := Fld.TAMP_BKLOG_PTR_NEXT) (loud_tamper (by decide) (by decide)) ((i + 1) % 64))
  exact third.trans (alarmKept_rest rfl rfl)

theorem alarmKept_zeroTags : s.AlarmKept s.zeroTags := by
  unfold State.zeroTags
  dsimp only
  refine (alarmKept_tags s []).trans (alarmKept_foldl _ _ (fun s f _ => ?_) _)
  exact ((alarmKept_setReg (loud_high (o := Reg.RF_TPWD f) (by show 0x100000 ≤ 0x304044 + 0x100 * f; omega)) 0).trans
    (alarmKept_setF (f := Fld.RF_TKEYIDX_LOADED f) (loud_high (by show 0x100000 ≤ 0x30405C + 0x100 * f; omega)) 0)).trans (alarmKept_setRf _ _ _)

theorem symStat_rest (i : Nat) : ∃ regs, s.symStat i = { s with regs := regs } := ⟨_, rfl⟩

/-- The engines wiped: only registers change beside the engines. -/
theorem wipeEngines_leaves : ∃ pke regs, s.wipeEngines = { s with pke := pke, pkeArb := [], sym := [], regs := regs } := by
  unfold State.wipeEngines
  dsimp only
  generalize s.pke.map _ = pke
  have engines (u : State) (l : List Nat) : ∃ regs, l.foldl (fun s h => (s.setF (Fld.PKE_STAT_BUSY h) 0).setF (Fld.PKE_STAT_SELFTEST h) 0) u = { u with regs := regs } := by
    induction l generalizing u with
    | nil => exact ⟨u.regs, rfl⟩
    | cons h l ih => exact ih _
  have syms (u : State) (l : List Nat) : ∃ regs, l.foldl (fun s i => (s.setF (Fld.SYM_STAT_BUSY (i / 4) (i % 4)) 0).symStat i) u = { u with regs := regs } := by
    induction l generalizing u with
    | nil => exact ⟨u.regs, rfl⟩
    | cons i l ih => exact ih _
  obtain ⟨regs, is⟩ := engines { s with pke := pke, pkeArb := [], sym := [] } (List.range 16)
  rw [is]
  obtain ⟨regs', is'⟩ := syms { s with pke := pke, pkeArb := [], sym := [], regs := regs } (List.range 64)
  rw [is']
  exact ⟨_, _, rfl⟩

theorem alarmKept_wipeEngines : s.AlarmKept s.wipeEngines := by
  have pke (h : Nat) : 0x100000 ≤ Reg.PKE_STAT h := by show 0x100000 ≤ 0x100810 + 0x1000 * h; omega
  have sym (i : Nat) : 0x100000 ≤ Reg.SYM_STAT (i / 4) (i % 4) := by show 0x100000 ≤ 0x100A48 + 0x1000 * (i / 4) + 0x40 * (i % 4); omega
  unfold State.wipeEngines
  dsimp only
  refine State.AlarmKept.trans (t := { s with pke := s.pke.map (fun e => (e.1, { e.2 with reqs := [], run := none })), pkeArb := [], sym := [] }) (alarmKept_rest rfl rfl) ?_
  refine State.AlarmKept.trans (alarmKept_foldl _ (List.range 16) (fun s h _ => ?_) _) (alarmKept_foldl _ (List.range 64) (fun s i _ => ?_) _)
  · exact (alarmKept_setF (f := Fld.PKE_STAT_BUSY h) (loud_high (pke h)) 0).trans (alarmKept_setF (f := Fld.PKE_STAT_SELFTEST h) (loud_high (pke h)) 0)
  · exact ((alarmKept_setF (f := Fld.SYM_STAT_BUSY (i / 4) (i % 4)) (loud_high (sym i)) 0).trans
      (alarmKept_setF (f := Fld.SYM_STAT_QLEN (i / 4) (i % 4)) (loud_high (sym i)) _)).trans
      (alarmKept_setF (f := Fld.SYM_STAT_COPY (i / 4) (i % 4)) (loud_high (sym i)) _)

theorem alarmKept_dropReleases : s.AlarmKept s.dropReleases := ⟨fun _ _ => rfl, rfl⟩

/-- An entry of the backup log changes registers and the tamper unit alone (R372). -/
theorem backupLog_leaves (m cls : Nat) (bat clr : Bool) : ∃ regs unit, s.backupLog m cls bat clr = { s with regs := regs, tamper := unit } := by
  unfold State.backupLog
  dsimp only
  split <;> exact ⟨_, _, rfl⟩

/-- The tag stores zeroed: beside them only registers and the front ends change. -/
theorem zeroTags_leaves : ∃ regs rf, s.zeroTags = { s with tags := [], regs := regs, rf := rf } := by
  have ends (u : State) (l : List Nat) : ∃ regs rf, l.foldl (fun s f =>
      let s := (s.setReg (Reg.RF_TPWD f) 0).setF (Fld.RF_TKEYIDX_LOADED f) 0
      s.setRf f { s.rfOf f with key := [] }) u = { u with regs := regs, rf := rf } := by
    induction l generalizing u with
    | nil => exact ⟨u.regs, u.rf, rfl⟩
    | cons f l ih => exact ih _
  obtain ⟨regs, rf, is⟩ := ends { s with tags := [] } (List.range 4)
  exact ⟨regs, rf, is⟩

/-- A field of TAMP.STAT apart from those that a quarantine sets. -/
theorem getF_quarantine {f : FieldAt} (stat : f.off = Reg.TAMP_STAT) (low : f.hi < 31) : s.quarantine.getF f = s.getF f := by
  rw [(alarmKept_quarantine s).getF (stat ▸ quiet_stat), getF_setF_apart _ _ (by omega) (.inl low)]

/-- The ledger and the jobs, which no step of a response changes once their sets are discarded. -/
def State.SetsKept (s t : State) : Prop := t.ledger = s.ledger ∧ t.jobs = s.jobs

theorem backupLog_kept (m cls : Nat) (bat clr : Bool) : s.SetsKept (s.backupLog m cls bat clr) ∧ (s.backupLog m cls bat clr).keys = s.keys := by
  obtain ⟨regs, unit, is⟩ := backupLog_leaves s m cls bat clr
  rw [is]
  exact ⟨⟨rfl, rfl⟩, rfl⟩

theorem zeroTags_kept : s.SetsKept s.zeroTags ∧ s.zeroTags.tags = [] := by
  obtain ⟨regs, rf, is⟩ := zeroTags_leaves s
  rw [is]
  exact ⟨⟨rfl, rfl⟩, rfl⟩

theorem wipeEngines_kept : s.SetsKept s.wipeEngines ∧ s.wipeEngines.tags = s.tags ∧ s.wipeEngines.keys = s.keys ∧ s.wipeEngines.sym = [] ∧
    s.wipeEngines.pkeArb = [] := by
  obtain ⟨pke, regs, is⟩ := wipeEngines_leaves s
  rw [is]
  exact ⟨⟨rfl, rfl⟩, rfl, rfl, rfl, rfl⟩

/-- What zeroisation leaves (R368). -/
theorem zeroise_leaves (m : Nat) (well : s.flag Fld.TAMP_STAT_TAMPERED = false) : ∃ t, s.zeroise m 3 = t ∧ t.getF Fld.LEDG_STAT_SEALED = 1 ∧
    t.getF Fld.TAMP_STAT_ZEROISED = 1 ∧ t.keys.root = none ∧ t.keys.backupKey = [] ∧ t.keys.bootKeys = [] ∧ (∀ j ∈ t.jobs, j.updates = []) ∧
    t.ledger.openSets = [] ∧ t.sym = [] ∧ t.pkeArb = [] ∧ t.tags = [] ∧ t.tamper.resetPending = true := by
  have steps := (alarmKept_cutPulses (s.quarantine.setF Fld.LEDG_STAT_SEALED 1)).trans (alarmKept_dropReleases _)
  obtain ⟨a, cut⟩ : ∃ a, (s.quarantine.setF Fld.LEDG_STAT_SEALED 1).cutPulses.dropReleases = a := ⟨_, rfl⟩
  rw [cut] at steps
  have closed : a.getF Fld.LEDG_STAT_SEALED = 1 := (steps.getF quiet_ledger).trans (getF_setF_self _ _ (show 30 < 32 by decide))
  have intact : a.flag Fld.TAMP_STAT_TAMPERED = false := by
    rw [steps.flag quiet_stat, flag_setF_ne _ _ (by decide), State.flag, getF_quarantine s rfl (show 30 < 31 by decide)]
    exact well
  unfold State.zeroise
  rw [cut]
  dsimp only
  obtain ⟨l, open_, ledger⟩ : ∃ l : Ledger, l.openSets = [] ∧
      { a.ledger.finishClosing with openSets := [], closing := none, closingSets := [], unacked := [], expired := [], resent := [] } = l := ⟨_, rfl, rfl⟩
  have empty : ∀ j ∈ a.jobs.map (fun (j : Job) => { j with updates := [], cut := j.cut || !j.updates.isEmpty }), j.updates = [] := by
    intro j mem
    obtain ⟨_, -, rfl⟩ := List.mem_map.1 mem
    rfl
  rw [ledger]
  revert empty
  generalize a.jobs.map (fun (j : Job) => { j with updates := [], cut := j.cut || !j.updates.isEmpty }) = jobs
  intro empty
  have first : a.AlarmKept { a with ledger := l, jobs := jobs } := ⟨fun _ _ => rfl, rfl⟩
  have logged := first.trans (alarmKept_backupLog _ m 3 false true)
  have same := backupLog_kept { a with ledger := l, jobs := jobs } m 3 false true
  revert logged same
  generalize State.backupLog { a with ledger := l, jobs := jobs } m 3 false true = b
  rintro logged ⟨⟨bLedger, bJobs⟩, -⟩
  have zeroed := alarmKept_zeroTags (b.setF Fld.TAMP_STAT_ZEROISED 1)
  have same := zeroTags_kept (b.setF Fld.TAMP_STAT_ZEROISED 1)
  revert zeroed same
  generalize (b.setF Fld.TAMP_STAT_ZEROISED 1).zeroTags = c
  rintro zeroed ⟨⟨cLedger, cJobs⟩, noTags⟩
  have forgets : c.AlarmKept { c with keys := { c.keys with root := none, backupKey := [], bootKeys := [] } } := ⟨fun _ _ => rfl, rfl⟩
  have wiped := (zeroed.trans forgets).trans (alarmKept_wipeEngines _)
  have same := wipeEngines_kept { c with keys := { c.keys with root := none, backupKey := [], bootKeys := [] } }
  revert wiped same
  generalize State.wipeEngines { c with keys := { c.keys with root := none, backupKey := [], bootKeys := [] } } = d
  rintro wiped ⟨⟨dLedger, dJobs⟩, dTags, dKeys, sym, arb⟩
  have standing : d.flag Fld.TAMP_STAT_TAMPERED = false := by
    rw [wiped.flag quiet_stat, flag_setF_apart _ _ (show 30 < 32 by decide) (.inr (show 28 < 30 by decide)), logged.flag quiet_stat]
    exact intact
  rw [if_neg (show ¬(3 : Nat) = 4 by decide), if_neg (Bool.eq_false_iff.1 standing)]
  refine ⟨_, rfl, ?_, ?_, congrArg KeyUnit.root dKeys, congrArg KeyUnit.backupKey dKeys, congrArg KeyUnit.bootKeys dKeys, ?_, ?_, sym, arb, dTags.trans noTags, rfl⟩
  · refine ((alarmKept_tamper d _).getF quiet_ledger).trans ((wiped.getF quiet_ledger).trans ?_)
    rw [getF_setF_ne _ _ (by decide), logged.getF quiet_ledger]
    exact closed
  · refine ((alarmKept_tamper d _).getF quiet_stat).trans ((wiped.getF quiet_stat).trans ?_)
    rw [getF_setF_self _ _ (show 28 < 32 by decide)]
    exact Nat.mod_eq_of_lt (by decide)
  · have same : d.jobs = jobs := (dJobs.trans cJobs).trans bJobs
    exact fun j mem => empty j (same ▸ mem)
  · exact (congrArg Ledger.openSets ((dLedger.trans cLedger).trans bLedger)).trans open_

theorem loud_mstat {m : Nat} (small : m < 101) : ¬QuietReg (Reg.TAMP_MSTAT m) :=
  loud_tamper (by show 0x3008 ≤ 0x3800 + 0x4 * m; omega) (by show 0x3800 + 0x4 * m < 0x5000; omega)

theorem alarmKept_setWindow {m : Nat} (small : m < 101) (w : List Nat) : s.AlarmKept (s.setWindow m w) :=
  State.AlarmKept.trans (t := { s with tamper := { s.tamper with windows := s.tamper.windows.set (fun _ => []) m w } }) ⟨fun _ _ => rfl, rfl⟩
    (alarmKept_setF (loud_mstat small) _)

/-- An alarm of class 2 or 3 with none in force responds (R363, R364). -/
theorem alarm_responds {m c : Nat} (small : m < 101) (cls : s.getF (Fld.TAMP_MCFG_CLASS m) = c) (calm : s.getF Fld.TAMP_STAT_CLASS = 0) (low : 2 ≤ c) :
    ∃ u, s.alarm m = u.respond m c ∧ s.AlarmKept u := by
  have counted : s.AlarmKept (s.incF (Fld.TAMP_MSTAT_ALARMS m)) := alarmKept_setF (loud_mstat small) _
  unfold State.alarm
  dsimp only
  rw [cls, calm, if_pos (show 0 < c by omega), if_neg (show ¬(c = 4 ∧ c = 0) by omega), if_neg (show ¬(3 ≤ c ∧ c = 0) by omega), if_neg (show c ≠ 0 by omega)]
  have logged := counted.trans (logs_logEvent _ Src.tamper 2 m (wd c) (wd c) 0).alarmKept
  revert logged
  generalize (s.incF (Fld.TAMP_MSTAT_ALARMS m)).logEvent Src.tamper 2 m (wd c) (wd c) 0 = t
  intro logged
  split
  · exact ⟨_, rfl, logged.trans (alarmKept_setReg (loud_tamper (by decide) (by decide)) _)⟩
  · exact ⟨t, rfl, logged⟩

/-- An event that completes the N of its monitor is an alarm (R361). -/
theorem monitorEvent_alarms {m : Nat} (n : s.getF (Fld.TAMP_MCFG_N m) ≤ 1) (small : m < 101) : ∃ u, s.monitorEvent m = u.alarm m ∧ s.AlarmKept u ∧
    u.getF (Fld.TAMP_MCFG_CLASS m) = s.getF (Fld.TAMP_MCFG_CLASS m) := by
  have apart : Reg.TAMP_MCFG m ≠ Reg.TAMP_MSTAT m := by show 0x3400 + 0x4 * m ≠ 0x3800 + 0x4 * m; omega
  unfold State.monitorEvent
  dsimp only
  rw [if_pos ?_]
  · exact ⟨_, rfl, State.AlarmKept.trans (alarmKept_setF (loud_mstat small) _) (alarmKept_setWindow _ small _),
      (getF_setF_ne _ _ apart).trans ((getF_congr rfl _).trans (getF_setF_ne _ _ apart))⟩
  · rw [State.incF, getF_setF_ne _ _ apart]
    exact n.trans (Nat.le_add_left _ _)

theorem respond_quarantine (m : Nat) : s.respond m 2 = ((s.setF Fld.TAMP_STAT_CLASS 2).setF Fld.TAMP_STAT_FIRST m).quarantine := by
  unfold State.respond
  dsimp only
  rw [if_pos rfl]

theorem respond_zeroise (m : Nat) : s.respond m 3 = ((s.setF Fld.TAMP_STAT_CLASS 3).setF Fld.TAMP_STAT_FIRST m).zeroise m 3 := by
  unfold State.respond
  dsimp only
  rw [if_neg (show ¬(3 : Nat) = 2 by decide), if_pos (Nat.le_refl 3)]

/-- An event of a class 2 monitor whose N is 1, with no response in force (R364, R365). -/
theorem monitorEvent_quarantines {m : Nat} (small : m < 101) (n : s.getF (Fld.TAMP_MCFG_N m) ≤ 1) (cls : s.getF (Fld.TAMP_MCFG_CLASS m) = 2)
    (calm : s.getF Fld.TAMP_STAT_CLASS = 0) : ∃ u, s.monitorEvent m = ((u.setF Fld.TAMP_STAT_CLASS 2).setF Fld.TAMP_STAT_FIRST m).quarantine ∧ s.AlarmKept u := by
  obtain ⟨a, event, counted, cfg⟩ := monitorEvent_alarms s n small
  obtain ⟨u, alarm, kept⟩ := alarm_responds a small (cfg.trans cls) ((counted.getF quiet_stat).trans calm) (Nat.le_refl 2)
  exact ⟨u, (event.trans alarm).trans (respond_quarantine u m), counted.trans kept⟩

/-- An event of a class 3 monitor whose N is 1, with no response in force (R364, R368). -/
theorem monitorEvent_zeroises {m : Nat} (small : m < 101) (n : s.getF (Fld.TAMP_MCFG_N m) ≤ 1) (cls : s.getF (Fld.TAMP_MCFG_CLASS m) = 3)
    (calm : s.getF Fld.TAMP_STAT_CLASS = 0) : ∃ u, s.monitorEvent m = ((u.setF Fld.TAMP_STAT_CLASS 3).setF Fld.TAMP_STAT_FIRST m).zeroise m 3 ∧ s.AlarmKept u := by
  obtain ⟨a, event, counted, cfg⟩ := monitorEvent_alarms s n small
  obtain ⟨u, alarm, kept⟩ := alarm_responds a small (cfg.trans cls) ((counted.getF quiet_stat).trans calm) (by decide)
  exact ⟨u, (event.trans alarm).trans (respond_zeroise u m), counted.trans kept⟩

end Sys2Proof.Machine
end


section
/-! The statement about monitors, alarms and the backup domain settled. -/

namespace Sys2Proof.Machine

section
variable {s : State}

/-- An event of a monitor that has events on main power (R361). -/
theorem exec_monitorEvent {m : Fin 101} (high : 52 ≤ m.val) (not56 : m.val ≠ 56) (main : s.onMain = true) (free : s.stimulated m.val = false) :
    exec (.monitorEvent m) s = .next (s.monitorEvent m.val) := by
  refine congrArg Host.Outcome.next (if_neg ?_)
  rw [main, free, decide_eq_false (Nat.not_lt.2 high), beq_eq_false_iff_ne.2 not56]
  decide

/-- A step of the generator of a wale that drives a constant, or of a case switch, changes nothing (R357). -/
theorem stepLfsr_constant {n : Nat} (constant : 48 ≤ n ∨ s.getF (Fld.WALE_WCFG_MODE n) ≠ 2) : s.stepLfsr n = s :=
  if_neg fun both => constant.elim (fun high => Nat.not_lt.2 high both.1) (fun mode => mode both.2)

/-- The backup key is gone once an alarm on battery of class 2 or above responds (R371). -/
theorem batteryAlarm_clears {m : Nat} (cls : 2 ≤ s.getF (Fld.TAMP_MCFG_CLASS m)) :
    (s.batteryAlarm m).keys.backupKey = [] ∧ (s.batteryAlarm m).getF Fld.TAMP_STAT_ZEROISED = 1 ∧ (s.batteryAlarm m).hmem = s.hmem := by
  unfold State.batteryAlarm
  dsimp only
  rw [if_neg (Nat.not_lt.2 cls)]
  generalize s.getF (Fld.TAMP_MCFG_CLASS m) = c
  have zeroised : (({ s with keys := { s.keys with backupKey := [] } } : State).setF Fld.TAMP_STAT_ZEROISED 1).getF Fld.TAMP_STAT_ZEROISED = 1 := by
    rw [getF_setF_self _ _ (show 28 < 32 by decide)]
    exact Nat.mod_eq_of_lt (by decide)
  have gone : (({ s with keys := { s.keys with backupKey := [] } } : State).setF Fld.TAMP_STAT_ZEROISED 1).keys.backupKey = [] := rfl
  have memory : (({ s with keys := { s.keys with backupKey := [] } } : State).setF Fld.TAMP_STAT_ZEROISED 1).hmem = s.hmem := rfl
  revert zeroised gone memory
  generalize ({ s with keys := { s.keys with backupKey := [] } } : State).setF Fld.TAMP_STAT_ZEROISED 1 = a
  intro zeroised gone memory
  have latched : (if c = 4 then a.setF Fld.TAMP_STAT_LATCH 1 else a).getF Fld.TAMP_STAT_ZEROISED = 1 ∧
      (if c = 4 then a.setF Fld.TAMP_STAT_LATCH 1 else a).keys = a.keys ∧ (if c = 4 then a.setF Fld.TAMP_STAT_LATCH 1 else a).hmem = a.hmem := by
    split
    · exact ⟨(getF_setF_apart _ _ (show 28 < 32 by decide) (.inl (show 28 < 29 by decide))).trans zeroised, rfl, rfl⟩
    · exact ⟨zeroised, rfl, rfl⟩
  revert latched
  generalize (if c = 4 then a.setF Fld.TAMP_STAT_LATCH 1 else a) = b
  rintro ⟨stat, keys, hmem⟩
  have kept := alarmKept_backupLog b m c true true
  obtain ⟨-, sameKeys⟩ := backupLog_kept b m c true true
  exact ⟨(congrArg KeyUnit.backupKey (sameKeys.trans keys)).trans gone, (kept.getF quiet_stat).trans stat, (kept.hmem.trans hmem).trans memory⟩

/-- The registers above the backup log stand when an entry is written. -/
theorem reg_backupLog (s : State) (m cls : Nat) (bat clr : Bool) {o : Nat} (high : 0x3300 ≤ o) : (s.backupLog m cls bat clr).reg o = s.reg o := by
  have slot : s.getF Fld.TAMP_BKLOG_PTR_NEXT < 64 := Nat.mod_lt _ (by decide)
  have ptr : o ≠ Reg.TAMP_BKLOG_PTR := by
    show o ≠ 0x301C
    omega
  unfold State.backupLog
  dsimp only
  generalize s.getF Fld.TAMP_BKLOG_PTR_NEXT = i at slot
  have w0 : o ≠ Reg.TAMP_BKLOG_W0 i := by
    show o ≠ 0x3100 + 0x8 * i
    omega
  have w1 : o ≠ Reg.TAMP_BKLOG_W1 i := by
    show o ≠ 0x3104 + 0x8 * i
    omega
  refine (reg_congr rfl o).trans ((State.reg_setReg_ne _ _ ptr).trans ((State.reg_setReg_ne _ _ w1).trans ((State.reg_setReg_ne _ _ w0).trans ?_)))
  split
  · exact State.reg_setReg_ne _ _ ptr
  · rfl

theorem quarantined_setF {f : FieldAt} (other : f.off ≠ Reg.TAMP_STAT) (n : Nat) : (s.setF f n).quarantined = s.quarantined := by
  rw [State.quarantined, flag_setF_ne _ _ other.symm, getF_setF_ne _ _ other.symm, State.quarantined]

/-- START with MON 5 begins the test of monitor 5 (R362). -/
theorem bistStore_starts (idle : s.flag Fld.TAMP_BIST_BUSY = false) (main : s.onMain = true) (free : s.quarantined = false)
    (well : s.flag Fld.TAMP_STAT_TAMPERED = false) : ∃ t, s.bistStore 0x105#32 = t ∧ t.tamper.bistMon = some 5 ∧ t.getF Fld.TAMP_BIST_BUSY = 1 ∧ t.hmem = s.hmem := by
  have mon : (s.setF Fld.TAMP_BIST_MON 5).getF Fld.TAMP_BIST_MON = 5 := (getF_setF_self _ _ (show 6 < 32 by decide)).trans (Nat.mod_eq_of_lt (by decide))
  have starts : (bit 8 (0x105#32 : Word) && !(s.setF Fld.TAMP_BIST_MON 5).flag Fld.TAMP_BIST_BUSY && (s.setF Fld.TAMP_BIST_MON 5).onMain &&
      !(s.setF Fld.TAMP_BIST_MON 5).quarantined && !(s.setF Fld.TAMP_BIST_MON 5).flag Fld.TAMP_STAT_TAMPERED) = true := by
    rw [flag_setF_apart _ _ (show 31 < 32 by decide) (.inr (show 6 < 31 by decide)), idle, show (s.setF Fld.TAMP_BIST_MON 5).onMain = true from main,
      quarantined_setF (by decide), free, flag_setF_ne _ _ (by decide), well]
    decide
  unfold State.bistStore
  rw [show fld 6 0 (0x105#32 : Word) = 5 from rfl, show bit 29 (0x105#32 : Word) = false from rfl, if_pos (show 5 ≤ 100 by decide)]
  dsimp only
  rw [if_neg Bool.false_ne_true, if_pos starts, mon]
  refine ⟨_, rfl, rfl, ?_, rfl⟩
  exact (getF_congr rfl _).trans ((getF_setF_self _ _ (show 31 < 32 by decide)).trans (Nat.mod_eq_of_lt (by decide)))

/-- The mode that a write of WCFG takes while it is not locked (R357, R360). -/
theorem wcfgMode {old mode : Nat} (open_ : s.flag Fld.TAMP_CTRL_LOCK = false) (known : mode ≠ 3) :
    (if s.flag Fld.TAMP_CTRL_LOCK = true ∨ mode = 3 then old else mode) = mode := if_neg (by rw [open_]; simp [known])

/-- A seed loaded: 31 bits that are not all zero (R357). -/
theorem seeded_leaves (u : State) (n k : Nat) :
    ((u.setLfsr n (k % (2 ^ 31 - 1) + 1)).setF (Fld.WALE_WCFG_RESEED n) 0).flag (Fld.WALE_WCFG_RESEED n) = false ∧
    1 ≤ ((u.setLfsr n (k % (2 ^ 31 - 1) + 1)).setF (Fld.WALE_WCFG_RESEED n) 0).lfsrOf n ∧
    ((u.setLfsr n (k % (2 ^ 31 - 1) + 1)).setF (Fld.WALE_WCFG_RESEED n) 0).lfsrOf n < 2 ^ 31 := by
  have bound := Nat.mod_lt k (show 0 < 2 ^ 31 - 1 by decide)
  generalize k % (2 ^ 31 - 1) = v at bound
  have loaded : ((u.setLfsr n (v + 1)).setF (Fld.WALE_WCFG_RESEED n) 0).lfsrOf n = v + 1 :=
    Table.get_set_self (fun _ => 0) u.tamper.lfsr n (v + 1)
  rw [loaded]
  exact ⟨flag_setF_b2n _ false rfl (show 0 < 32 by decide), by omega, by omega⟩

/-- The fields of TAMP.BIST after a test (R362). -/
theorem bistResult_flags (ok : Bool) :
    (((s.setF Fld.TAMP_BIST_BUSY 0).setF Fld.TAMP_BIST_PASS (b2n ok)).setF Fld.TAMP_BIST_DONE 1).flag Fld.TAMP_BIST_BUSY = false ∧
    (((s.setF Fld.TAMP_BIST_BUSY 0).setF Fld.TAMP_BIST_PASS (b2n ok)).setF Fld.TAMP_BIST_DONE 1).flag Fld.TAMP_BIST_PASS = ok ∧
    (((s.setF Fld.TAMP_BIST_BUSY 0).setF Fld.TAMP_BIST_PASS (b2n ok)).setF Fld.TAMP_BIST_DONE 1).flag Fld.TAMP_BIST_DONE = true := by
  refine ⟨?_, ?_, flag_setF_b2n _ true rfl (show 29 < 32 by decide)⟩
  · rw [flag_setF_apart _ _ (show 31 < 32 by decide) (.inr (show 29 < 31 by decide)), flag_setF_apart _ _ (show 31 < 32 by decide) (.inr (show 30 < 31 by decide))]
    exact flag_setF_b2n _ false rfl (show 31 < 32 by decide)
  · rw [flag_setF_apart _ _ (show 30 < 32 by decide) (.inr (show 29 < 30 by decide))]
    exact flag_setF_b2n _ ok rfl (show 30 < 32 by decide)

/-- The changeover discards the windows and the runs (R361). -/
theorem changeover_discards {bat : Bool} (other : s.tamper.onBattery ≠ bat) : ∃ t, s.changeover bat = t ∧ t.tamper.onBattery = bat ∧ t.tamper.windows = [] ∧
    t.tamper.runs = [] ∧ t.keys = s.keys := by
  unfold State.changeover State.discardWindows
  rw [if_neg other]
  obtain ⟨regs, is⟩ := foldl_setF_rest (s := s) Fld.TAMP_MSTAT_INWIN (fun _ => 0) (List.range 101)
  rw [is]
  cases bat
  · exact ⟨_, rfl, rfl, rfl, rfl, rfl⟩
  · exact ⟨_, rfl, rfl, rfl, rfl, rfl⟩

end

/-- Settles O46: the events of a monitor by its configuration, and the registers of the tamper controller. -/
theorem monitorsAlarmsAndBackup : Obligations.MonitorsAlarmsAndBackup := by
  refine ⟨⟨fun s m high not56 main free => ⟨?quarantine, ?zeroise, ?counts⟩, fun s m quiet => ?quiet, fun s n level => ⟨?away, ?wale, ?case_⟩,
    fun s m level => ⟨?main, ?low, ?fails⟩, fun s => ⟨?noReset, ?reset⟩⟩,
    fun s b m v => ⟨?ignored, ?config, ?badLift, ?lift, ?bist, ?mode, ?seed⟩, fun s ok => ⟨?noTest, ?tested⟩, fun s n => ⟨?unseeded, ?seeded⟩,
    fun s bat => ⟨?same, ?change⟩, fun s => ⟨rfl, ?standing, ?lost, ?batLow, ?again, ?ends, ?offMain⟩⟩
  case quarantine =>
    intro n cls calm
    obtain ⟨u, is, kept⟩ := monitorEvent_quarantines s m.isLt n cls calm
    refine ⟨_, (exec_monitorEvent high not56 main free).trans (congrArg Host.Outcome.next is), ?_, ?_, ?_, rfl, (alarmKept_quarantine _).hmem.trans kept.hmem⟩
    · rw [(alarmKept_quarantine _).getF quiet_stat, getF_setF_self _ _ (show 31 < 32 by decide)]
      exact Nat.mod_eq_of_lt (by decide)
    · rw [getF_quarantine _ rfl (show 18 < 31 by decide), getF_setF_apart _ _ (show 18 < 32 by decide) (.inr (show 6 < 16 by decide)),
        getF_setF_self _ _ (show 18 < 32 by decide)]
      exact Nat.mod_eq_of_lt (by decide)
    · rw [getF_quarantine _ rfl (show 6 < 31 by decide), getF_setF_self _ _ (show 6 < 32 by decide)]
      exact Nat.mod_eq_of_lt (Nat.lt_of_lt_of_le m.isLt (by decide))
  case zeroise =>
    intro n cls calm well
    obtain ⟨u, is, kept⟩ := monitorEvent_zeroises s m.isLt n cls calm
    have intact : ((u.setF Fld.TAMP_STAT_CLASS 3).setF Fld.TAMP_STAT_FIRST m.val).flag Fld.TAMP_STAT_TAMPERED = false := by
      rw [flag_setF_apart _ _ (show 30 < 32 by decide) (.inr (show 6 < 30 by decide)), flag_setF_apart _ _ (show 30 < 32 by decide) (.inr (show 18 < 30 by decide)),
        kept.flag quiet_stat]
      exact well
    obtain ⟨t, zeroises, leaves⟩ := zeroise_leaves _ m.val intact
    exact ⟨t, (exec_monitorEvent high not56 main free).trans (congrArg Host.Outcome.next (is.trans zeroises)), leaves⟩
  case counts =>
    intro window many
    refine (exec_monitorEvent high not56 main free).trans (congrArg Host.Outcome.next ?_)
    have apart : Reg.TAMP_MCFG m.val ≠ Reg.TAMP_MSTAT m.val := by
      have small := m.isLt
      show 0x3400 + 0x4 * m.val ≠ 0x3800 + 0x4 * m.val
      omega
    have n : (s.incF (Fld.TAMP_MSTAT_EVENTS m.val)).getF (Fld.TAMP_MCFG_N m.val) = s.getF (Fld.TAMP_MCFG_N m.val) := getF_setF_ne _ _ apart
    have empty : (s.incF (Fld.TAMP_MSTAT_EVENTS m.val)).windowOf m.val = [] := window
    unfold State.monitorEvent
    dsimp only
    rw [empty, n]
    exact if_neg (Nat.not_le.2 many)
  case quiet =>
    refine congrArg Host.Outcome.next (if_pos ?_)
    simp only [Bool.or_eq_true, decide_eq_true_eq, beq_iff_eq, Bool.not_eq_true']
    tauto
  case away =>
    refine fun away => congrArg Host.Outcome.next (if_pos ?_)
    rw [Bool.or_eq_true]
    exact away.imp not_true not_true
  case wale =>
    intro main armed wale free mode
    have runs : ¬((!s.onMain || !s.armed n.val) = true) := by
      rw [main, armed]
      decide
    have event : s.sampleEvent n.val true = false := by
      rw [State.sampleEvent, if_pos wale, State.drivenBit, mode]
      rfl
    have apart : Reg.WALE_WCFG n.val ≠ Reg.WALE_WSTAT n.val := by show 0x307000 + 0x4 * n.val ≠ 0x307100 + 0x4 * n.val; omega
    refine congrArg Host.Outcome.next ((if_neg runs).trans ?_)
    dsimp only
    rw [event, if_pos wale, if_neg (show ¬(s.setF (Fld.WALE_WSTAT_LAST n.val) (b2n true)).stimulated n.val = true from Bool.eq_false_iff.1 free),
      if_neg Bool.false_ne_true, Bool.false_and, if_neg Bool.false_ne_true, stepLfsr_constant]
    · rfl
    · refine .inr ?_
      rw [getF_setF_ne _ _ apart, getF_setF_ne _ _ apart, mode]
      decide
  case case_ =>
    intro main armed high same
    have runs : ¬((!s.onMain || !s.armed n.val) = true) := by
      rw [main, armed]
      decide
    have event : s.sampleEvent n.val level = false := by
      rw [State.sampleEvent, if_neg (Nat.not_lt.2 high), same]
      exact bne_self_eq_false _
    refine congrArg Host.Outcome.next ((if_neg runs).trans ?_)
    dsimp only
    rw [event, if_neg (Nat.not_lt.2 high), Bool.false_and, if_neg Bool.false_ne_true, stepLfsr_constant (.inl high)]
    rfl
  case main =>
    refine fun main => congrArg Host.Outcome.next (if_pos ?_)
    rw [main]
    rfl
  case low =>
    intro bat is
    have runs : ¬((!s.tamper.onBattery || !runsOnBattery m.val || (decide (m.val < 52) && !s.armed m.val)) = true) := by
      rw [bat, is]
      exact Bool.false_ne_true
    refine congrArg Host.Outcome.next ((if_neg runs).trans ?_)
    dsimp only
    rw [is, if_neg (show ¬57 < 52 by decide), if_pos (show (!false) = true from rfl), stepLfsr_constant (.inl (by decide))]
  case fails =>
    intro bat is cls
    have runs : ¬((!s.tamper.onBattery || !runsOnBattery m.val || (decide (m.val < 52) && !s.armed m.val)) = true) := by
      rw [bat, is]
      exact Bool.false_ne_true
    obtain ⟨t, logged⟩ : ∃ t, s.backupLog 57 (s.getF (Fld.TAMP_MCFG_CLASS 57)) true false = t := ⟨_, rfl⟩
    have kept := logged ▸ alarmKept_backupLog s 57 (s.getF (Fld.TAMP_MCFG_CLASS 57)) true false
    have same : t.getF (Fld.TAMP_MCFG_CLASS 57) = s.getF (Fld.TAMP_MCFG_CLASS 57) := by
      rw [← logged, State.getF, reg_backupLog _ _ _ _ _ (show 0x3300 ≤ 0x3400 + 0x4 * 57 by decide), State.getF]
    obtain ⟨key, zeroised, memory⟩ := batteryAlarm_clears (s := t.setRun 57 0) (m := 57) (by rw [getF_congr (t := t.setRun 57 0) (s := t) rfl, same]; exact cls)
    refine ⟨(t.setRun 57 0).batteryAlarm 57, congrArg Host.Outcome.next ((if_neg runs).trans ?_), key, zeroised, memory.trans kept.hmem⟩
    dsimp only
    rw [is, if_neg (show ¬57 < 52 by decide), if_neg (show ¬(!true) = true by decide), stepLfsr_constant (.inl (by decide)), logged, if_pos (.inl rfl)]
  case noReset => exact fun no => congrArg Host.Outcome.next (if_neg (Bool.eq_false_iff.1 no))
  case reset =>
    intro due begun
    have is := deviceReset_isReset (s := s) 0x10#32
    exact ⟨s.deviceReset 0x10#32, congrArg Host.Outcome.next (if_pos due), is.cause.trans (if_neg (Bool.eq_false_iff.1 begun)), is.pairs, is.hmem⟩
  case ignored =>
    intro k owns bad
    refine congrArg Host.Outcome.next (masterWrite_of owns (congrArg Resp.ok ?_))
    exact if_pos bad
  case config =>
    intro k owns open_ n w low high
    refine congrArg Host.Outcome.next (masterWrite_of owns (congrArg Resp.ok (if_neg ?_)))
    rw [open_]
    simp only [Bool.false_eq_true, false_or]
    omega
  case badLift =>
    intro owns other
    exact congrArg Host.Outcome.next (masterWrite_of owns (congrArg Resp.ok (if_neg fun all => other all.1)))
  case lift =>
    intro owns is cls well
    exact congrArg Host.Outcome.next (masterWrite_of owns (congrArg Resp.ok (if_pos ⟨is, cls, Bool.eq_false_iff.1 well⟩)))
  case bist =>
    intro owns is idle main free well
    obtain ⟨t, store, leaves⟩ := bistStore_starts idle main free well
    exact ⟨t, congrArg Host.Outcome.next (masterWrite_of owns (congrArg Resp.ok (is ▸ store))), leaves⟩
  case mode =>
    intro n owns is open_
    refine congrArg Host.Outcome.next (masterWrite_of owns (congrArg Resp.ok ?_))
    rw [is, State.wcfgStore, wcfgMode open_ (show fld 31 30 (0x40000000#32 : Word) ≠ 3 by decide)]
    exact if_neg (show ¬((false || (1 == 2 && _)) = true) by rw [show ((1 : Nat) == 2) = false from rfl, Bool.false_and]; decide)
  case seed =>
    intro n owns is open_
    refine congrArg Host.Outcome.next (masterWrite_of owns (congrArg Resp.ok ?_))
    rw [is, State.wcfgStore, wcfgMode open_ (show fld 31 30 (0x80000001#32 : Word) ≠ 3 by decide)]
    exact if_pos (show (true || _) = true from Bool.true_or _)
  case noTest => exact fun no => congrArg Host.Outcome.next (if_pos (not_true no))
  case tested =>
    intro busy
    obtain ⟨idle, pass, done⟩ := bistResult_flags (s := s) ok
    obtain ⟨u, is⟩ : ∃ u, ((s.setF Fld.TAMP_BIST_BUSY 0).setF Fld.TAMP_BIST_PASS (b2n ok)).setF Fld.TAMP_BIST_DONE 1 = u := ⟨_, rfl⟩
    rw [is] at idle pass done
    refine ⟨{ u with tamper := { u.tamper with bistMon := none } }, congrArg Host.Outcome.next ((if_neg (not_not_true busy)).trans ?_), rfl,
      (flag_congr rfl _).trans idle, (flag_congr rfl _).trans pass, (flag_congr rfl _).trans done⟩
    dsimp only
    rw [is]
  case unseeded =>
    refine fun no => congrArg Host.Outcome.next (if_pos ?_)
    rw [Bool.or_eq_true, Bool.or_eq_true, or_assoc]
    exact no.imp not_true (Or.imp not_true not_true)
  case seeded =>
    intro main healthy asked
    have runs : ¬((!s.onMain || !s.rngHealthy || !s.flag (Fld.WALE_WCFG_RESEED n.val)) = true) := by
      rw [main, asked, show s.rngHealthy = true from healthy]
      decide
    obtain ⟨bytes, u, drawn⟩ : ∃ bytes u, s.drawHw 4 = (bytes, u) := ⟨_, _, rfl⟩
    obtain ⟨ends, low, high⟩ := seeded_leaves u n.val (ofLe bytes)
    refine ⟨_, congrArg Host.Outcome.next ((if_neg runs).trans ?_), ends, low, high⟩
    dsimp only
    rw [drawn]
  case same => exact fun same => congrArg Host.Outcome.next (if_pos same)
  case change =>
    intro other
    obtain ⟨t, is, leaves⟩ := changeover_discards other
    exact ⟨t, congrArg Host.Outcome.next is, leaves⟩
  case standing => exact fun main => congrArg Host.Outcome.next (if_pos main)
  case lost =>
    refine fun dark => ⟨_, congrArg Host.Outcome.next (if_neg (Bool.eq_false_iff.1 dark)), rfl, rfl, rfl, fun o backup => ?_⟩
    have other : o ≠ Reg.TAMP_STAT := by
      rintro rfl
      exact absurd backup (by decide)
    refine (reg_congr rfl o).trans ((State.reg_setReg_ne _ _ other).trans ((get_filter resetReg (fun o => !inBackupDomain o) s.regs o).trans (if_neg ?_)))
    rw [backup]
    decide
  case batLow =>
    refine fun main high => congrArg Host.Outcome.next (if_neg ?_)
    rw [main, high]
    decide
  case again =>
    refine fun main low => congrArg Host.Outcome.next (if_pos ?_)
    rw [low, Bool.or_true]
  case ends => exact fun main => congrArg Host.Outcome.next (if_pos main)
  case offMain =>
    refine fun dark => ⟨congrArg Host.Outcome.next (if_neg (Bool.eq_false_iff.1 dark)), congrArg Host.Outcome.next (if_pos ?_)⟩
    rw [dark]
    rfl

end Sys2Proof.Machine
end

section
/-! SUPPORT. The cartridge slots (R377–R394): what their steps leave of a slot, and the gate 3 services. -/

namespace Sys2Proof.Machine

section
variable {s t : State} {k : Nat}

theorem slotOf_setSlot (s : State) (k : Nat) (x : CrtSlot) : (s.setSlot k x).slotOf k = x := Table.get_set_self (fun _ => ({} : CrtSlot)) s.crt k x

theorem slotOf_updSlot (s : State) (k : Nat) (f : CrtSlot → CrtSlot) : (s.updSlot k f).slotOf k = f (s.slotOf k) := slotOf_setSlot _ _ _

theorem slotOf_congr (same : t.crt = s.crt) (k : Nat) : t.slotOf k = s.slotOf k := by rw [State.slotOf, same, State.slotOf]

/-- The state of a slot as it is set. -/
theorem slotState_setSlotState (s : State) (k : Nat) {n : Nat} (small : n < 16) : (s.setSlotState k n).slotState k = n := by
  rw [State.slotState, State.setSlotState, getF_setF_self _ _ (show 31 < 32 by decide)]
  exact Nat.mod_eq_of_lt small

/-- A mount begins in IDENT and waits for the condition response (R380). -/
theorem startMount_leaves (s : State) (k : Nat) : (s.startMount k).slotState k = Slot.ident ∧ ((s.startMount k).slotOf k).phase = .mount 3 ∧
    (s.startMount k).hmem = s.hmem := by
  unfold State.startMount
  dsimp only
  generalize setFld 25 25 0 (setFld 23 16 0 (setFld 15 13 0 (s.reg (Reg.CRT_STAT k)))) = w
  refine ⟨?_, congrArg CrtSlot.phase ((slotOf_congr rfl k).trans (slotOf_setSlot (s.setReg (Reg.CRT_STAT k) (setFld 31 28 Slot.ident w)) k
    { phase := .mount 3, reads := ((s.setReg (Reg.CRT_STAT k) (setFld 31 28 Slot.ident w)).slotOf k).reads,
      writes := ((s.setReg (Reg.CRT_STAT k) (setFld 31 28 Slot.ident w)).slotOf k).writes })), rfl⟩
  refine (getF_congr (s := s.setReg (Reg.CRT_STAT k) (setFld 31 28 Slot.ident w)) rfl _).trans ?_
  rw [State.getF, State.reg_setReg, fld_setFld_self _ _ (show 31 < 32 by decide)]
  exact Nat.mod_eq_of_lt (show 1 < 2 ^ 4 by decide)

theorem syncJstat_rest (s : State) (k : Nat) : ∃ regs, s.syncJstat k = { s with regs := regs } := by
  unfold State.syncJstat
  split <;> exact ⟨_, rfl⟩

/-- JSTAT follows the journal and no other register changes. -/
theorem reg_syncJstat {o : Nat} (other : o ≠ Reg.CRT_JSTAT k) : (s.syncJstat k).reg o = s.reg o := by
  unfold State.syncJstat
  split
  · exact (State.reg_setReg_ne _ _ other).trans (State.reg_setReg_ne _ _ other)
  · exact State.reg_setReg_ne _ _ other

/-- A slot with nothing to do rests. -/
theorem cartNext_rests (reads : (s.slotOf k).reads = []) (writes : (s.slotOf k).writes = []) (awake : (s.slotOf k).sleepTo = none) : s.cartNext k = s := by
  unfold State.cartNext
  dsimp only
  rw [reads, writes, awake]
  split
  · rfl
  · split
    · rfl
    · split <;> rfl

theorem crt_useNvm (s : State) (idx b n : Nat) : (s.useNvm idx b n).crt = s.crt := by
  have first : (s.touchBank b).crt = s.crt := by
    unfold State.touchBank
    split <;> rfl
  have uses := uses_foldl (fun t (_ : Nat) => t.use .nvm idx) (fun t _ => uses_use t _ _) (List.range n) (s.touchBank b)
  have same := congrArg State.crt uses.rest
  exact Eq.trans same first

theorem syncJstat_none (none_ : s.openRecords k = []) : s.syncJstat k = s.setF (Fld.CRT_JSTAT_OPEN k) 0 := by
  rw [State.syncJstat, none_]

/-- An answer to a mount step (R380, R381). -/
theorem exec_cartResponse_mount {n : Fin 8} {st : Nat} (phase : (s.slotOf n.val).phase = .mount st) (r : CartAnswer) :
    exec (.cartResponse n r) s = .next (s.mountAnswer n.val st r) := by
  refine congrArg Host.Outcome.next ?_
  rw [phase]

/-- The limit of read data or of a busy phase ends the operation, and a missing answer repeats its command (R382). -/
theorem exec_cartTimeout_running {n : Fin 8} (phase : (s.slotOf n.val).phase = .busy ∨ (s.slotOf n.val).phase = .writing ∨ (s.slotOf n.val).phase = .reading)
    (data : Bool) : exec (.cartTimeout ⟨n, data⟩) s = .next (if data then s.cartFault n.val else s.cartRetry n.val) := by
  refine congrArg Host.Outcome.next ?_
  obtain phase | phase | phase := phase
  · rw [phase]
  · rw [phase]
  · rw [phase]

/-- Block 0 of the card read at the end of a mount (R381). -/
theorem mountAnswer_block (s : State) (k : Nat) (data : List Byte) (sectors : Nat) : s.mountAnswer k 7 (.block data sectors true) =
    (((s.updSlot k (fun x => { x with header := if cartHeaderOk data sectors = true then data else [], sectors := sectors, phase := .idle, tried := false })).setF
      (Fld.CRT_STAT_HDRVALID k) (b2n (cartHeaderOk data sectors))).setSlotState k Slot.held).syncJstat k := rfl

/-- A valid header makes the slot HELD (R381, R384). -/
theorem mountAnswer_header {data : List Byte} {sectors : Nat} (valid : cartHeaderOk data sectors = true) :
    (s.mountAnswer k 7 (.block data sectors true)).slotState k = Slot.held ∧
    (s.mountAnswer k 7 (.block data sectors true)).flag (Fld.CRT_STAT_HDRVALID k) = true ∧
    ((s.mountAnswer k 7 (.block data sectors true)).slotOf k).header = data ∧ ((s.mountAnswer k 7 (.block data sectors true)).slotOf k).phase = .idle ∧
    (s.mountAnswer k 7 (.block data sectors true)).hmem = s.hmem := by
  have other : Reg.CRT_STAT k ≠ Reg.CRT_JSTAT k := by
    show 0x303004 + 0x80 * k ≠ 0x303014 + 0x80 * k
    omega
  rw [mountAnswer_block, valid, if_pos rfl]
  obtain ⟨u, is⟩ : ∃ u, s.updSlot k (fun x => { x with header := data, sectors := sectors, phase := .idle, tried := false }) = u := ⟨_, rfl⟩
  have slot : u.slotOf k = { s.slotOf k with header := data, sectors := sectors, phase := .idle, tried := false } := by rw [← is, slotOf_updSlot]
  have memory : u.hmem = s.hmem := by rw [← is]; rfl
  rw [is]
  have stat {f : FieldAt} (here : f.off = Reg.CRT_STAT k) : (((u.setF (Fld.CRT_STAT_HDRVALID k) (b2n true)).setSlotState k Slot.held).syncJstat k).getF f =
      ((u.setF (Fld.CRT_STAT_HDRVALID k) (b2n true)).setSlotState k Slot.held).getF f := by
    rw [State.getF, reg_syncJstat (here ▸ other), State.getF]
  obtain ⟨regs, jstat⟩ := syncJstat_rest ((u.setF (Fld.CRT_STAT_HDRVALID k) (b2n true)).setSlotState k Slot.held) k
  have kept : (((u.setF (Fld.CRT_STAT_HDRVALID k) (b2n true)).setSlotState k Slot.held).syncJstat k).slotOf k = u.slotOf k := by
    rw [jstat]
    rfl
  refine ⟨(stat rfl).trans (slotState_setSlotState _ k (by decide)), ?_, ?_, ?_, ?_⟩
  · rw [State.flag, stat rfl, ← State.flag, State.setSlotState, flag_setF_apart _ _ (show 25 < 32 by decide) (.inl (show 25 < 28 by decide))]
    exact flag_setF_b2n _ true rfl (show 25 < 32 by decide)
  · rw [kept, slot]
  · rw [kept, slot]
  · rw [jstat]
    exact memory

/-- The last operation of a slot, a write, ends OK (R388). -/
theorem finishWrite_last {op : CrtOp} (writes : (s.slotOf k).writes = [op]) (reads : (s.slotOf k).reads = []) (awake : (s.slotOf k).sleepTo = none) :
    s.finishWrite k St.ok 0 = (s.updSlot k (fun x => { x with writes := [], phase := .idle, tried := false })).setReg (Reg.CRT_WRES k) 0 := by
  unfold State.finishWrite State.endCartWrite
  rw [writes]
  dsimp only
  rw [if_pos rfl]
  have slot := slotOf_updSlot s k (fun x => { x with writes := [], phase := .idle, tried := false })
  exact cartNext_rests ((congrArg CrtSlot.reads slot).trans reads) (congrArg CrtSlot.writes slot) ((congrArg CrtSlot.sleepTo slot).trans awake)

/-- A slot emptied (R393). -/
theorem emptied_leaves (u : State) (k : Nat) (w : Word) (det : List Nat) :
    ({ (u.setSlot k {}).setReg (Reg.CRT_STAT k) (setFld 31 28 Slot.empty w) with cartDet := det } : State).slotState k = Slot.empty ∧
    (({ (u.setSlot k {}).setReg (Reg.CRT_STAT k) (setFld 31 28 Slot.empty w) with cartDet := det } : State).slotOf k).reads = [] ∧
    (({ (u.setSlot k {}).setReg (Reg.CRT_STAT k) (setFld 31 28 Slot.empty w) with cartDet := det } : State).slotOf k).writes = [] := by
  have slot := slotOf_setSlot u k {}
  refine ⟨?_, congrArg CrtSlot.reads slot, congrArg CrtSlot.writes slot⟩
  refine (getF_congr (s := (u.setSlot k {}).setReg (Reg.CRT_STAT k) (setFld 31 28 Slot.empty w)) rfl _).trans ?_
  rw [State.getF, State.reg_setReg, fld_setFld_self _ _ (show 31 < 32 by decide)]
  exact Nat.zero_mod _

/-- A gate 3 service for a slot that exists. -/
theorem gate3_own {p f : Nat} (asks : s.Asks p 3 f) (slot : s.gateArg p 4 < 8) (body : State → Nat → State) : s.gate3 p f body = body s (s.gateArg p 4) :=
  (gateService_own asks _).trans (if_neg (Nat.not_le.2 slot))

theorem gate3_noSlot {p f : Nat} (asks : s.Asks p 3 f) (beyond : 8 ≤ s.gateArg p 4) (body : State → Nat → State) :
    s.gate3 p f body = s.gateReturn p [St.param] :=
  (gateService_own asks _).trans (if_pos beyond)

/-- The slot of a journalled write whose pre-images JOPEN has recorded (R389, R390). -/
def State.recorded (s : State) (k : Nat) (op : CrtOp) : State :=
  let seq := s.nextSeq k
  let o := jrnOff k seq
  let s := (List.range op.count).foldl (fun s i => s.cartCmd k 17 (op.abs + i) []) s
  let r := s.freshBytes (512 * op.count)
  let hdr := leBytes 2 0x4A52 ++ leBytes 2 seq ++ leBytes 1 op.count ++ leBytes 1 k ++ zeros 2 ++ leBytes 4 op.abs ++
    wordBytes (crc32c r.1) ++ s.slotCid k
  let s := ((r.2.useNvm 17 1 1).nvmProgram o hdr).nvmProgram (o + 32) r.1
  let s := s.nvmProgram (o + 32 + 512 * op.count) (s.jrnMac o ++ zeros 24)
  let s := (s.setF (Fld.CRT_JARM_SEQ k) seq).syncJstat k
  s.updSlot k (fun x => { x with writes := { op with asked := true, record := some seq } :: x.writes.drop 1 })

theorem crt_syncJstat (s : State) (k : Nat) : (s.syncJstat k).crt = s.crt := by
  obtain ⟨regs, is⟩ := syncJstat_rest s k
  rw [is]

theorem slotOf_setF (s : State) (f : FieldAt) (n k : Nat) : (s.setF f n).slotOf k = s.slotOf k := rfl
theorem slotOf_nvmProgram (s : State) (o : Nat) (bs : List Byte) (k : Nat) : (s.nvmProgram o bs).slotOf k = s.slotOf k := rfl

theorem recorded_writes (op : CrtOp) : ((s.recorded k op).slotOf k).writes = { op with asked := true, record := some (s.nextSeq k) } :: (s.slotOf k).writes.drop 1 := by
  have asked : ((List.range op.count).foldl (fun s i => s.cartCmd k 17 (op.abs + i) []) s).crt = s.crt :=
    List.foldlRecOn _ _ (motive := fun t : State => t.crt = s.crt) rfl fun _ same _ _ => same
  unfold State.recorded
  dsimp only
  revert asked
  generalize (List.range op.count).foldl (fun s i => s.cartCmd k 17 (op.abs + i) []) s = u
  intro asked
  obtain ⟨bytes, v, drawn⟩ : ∃ bytes v, u.freshBytes (512 * op.count) = (bytes, v) := ⟨_, _, rfl⟩
  have crt : v.crt = s.crt := (congrArg (fun r : List Byte × State => r.2.crt) drawn).symm.trans asked
  have used : (v.useNvm 17 1 1).crt = s.crt := (crt_useNvm v 17 1 1).trans crt
  rw [drawn, slotOf_updSlot]
  dsimp only
  revert used
  generalize v.useNvm 17 1 1 = w
  intro used
  rw [slotOf_congr (crt_syncJstat _ _), slotOf_setF, slotOf_nvmProgram, slotOf_nvmProgram, slotOf_nvmProgram, slotOf_congr used]

/-- The journal's records are of the NVM array and the keys. -/
theorem openRecords_setF (s : State) (f : FieldAt) (n k : Nat) : (s.setF f n).openRecords k = s.openRecords k := rfl

end

end Sys2Proof.Machine
end

section
/-! The statement about the cartridge slots settled. -/

namespace Sys2Proof.Machine

/-- Settles O47: what the slot waits for decides what an answer, an expiry or a removal does; submissions, stagings and gate 3 by their checks. -/
theorem cartridgeSlotsMountReadWriteAndJournal : Obligations.CartridgeSlotsMountReadWriteAndJournal := by
  refine ⟨fun s k => ⟨?stays, ?seated⟩, fun s k phase => ?condition, fun s k data sectors phase valid => ?header, fun s k phase => ?idle,
    fun s k phase => ?expired, fun s k op rest phase writes more => ?next, fun s k op phase writes reads awake last => ?last, fun s k => ⟨?absent, ?removed⟩,
    fun s b p k v r reaches submits => ?submit, fun s b p k v r j reaches submits armed work => ?stage, fun s p => ?gate⟩
  case stays =>
    refine fun stays => congrArg Host.Outcome.next (if_pos ?_)
    rw [Bool.or_eq_true, Bool.or_eq_true, or_assoc, bne_iff_ne]
    exact stays.imp not_true (Or.imp_right not_true)
  case seated =>
    intro on empty main
    have runs : ¬((!s.portOn (42 + k.val) || s.slotState k.val != Slot.empty || !s.onMain) = true) := by
      rw [on, empty, main]
      decide
    obtain ⟨ident, waits, memory⟩ := startMount_leaves ({ ((s.freshBytes 1).2.setF (Fld.CRT_STAT_CD k.val) 1).setF (Fld.CRT_STAT_WP k.val)
      (b2n (((s.freshBytes 1).1.getD 0 0).getLsbD 0)) with cartDet := if s.cartDet.contains k.val then s.cartDet else s.cartDet ++ [k.val] }) k.val
    exact ⟨_, congrArg Host.Outcome.next (if_neg runs), ident, waits, memory⟩
  case condition =>
    intro n
    have answers (r : CartAnswer) : exec (.cartResponse k r) s = .next (s.mountAnswer k.val 3 r) := exec_cartResponse_mount phase r
    refine ⟨answers _, answers _, answers _, answers _, fun data => congrArg Host.Outcome.next ?_⟩
    dsimp only
    rw [phase]
    rfl
  case header => exact ⟨_, exec_cartResponse_mount phase _, mountAnswer_header valid⟩
  case idle =>
    refine ⟨fun data => congrArg Host.Outcome.next ?_, fun r => congrArg Host.Outcome.next ?_⟩
    · dsimp only
      rw [phase]
    · rw [phase]
  case expired =>
    refine ⟨exec_cartTimeout_running phase true, fun fresh => (exec_cartTimeout_running phase false).trans (congrArg Host.Outcome.next ?_)⟩
    exact if_pos (not_true fresh)
  case next =>
    obtain ⟨u, is⟩ : ∃ u, s.updSlot k.val (fun x => { x with writes := { op with finished := op.finished + 1, tried := false } :: rest }) = u := ⟨_, rfl⟩
    have slot : u.slotOf k.val = { s.slotOf k.val with writes := { op with finished := op.finished + 1, tried := false } :: rest } := by
      rw [← is, slotOf_updSlot]
    have memory : u.hmem = s.hmem := by rw [← is]; rfl
    refine ⟨u.sendBlock k.val { op with finished := op.finished + 1, tried := false }, congrArg Host.Outcome.next ?_, ?_, ?_, memory⟩
    · rw [phase, writes]
      dsimp only
      rw [if_pos more, is]
    · exact congrArg CrtSlot.phase (slotOf_updSlot _ _ _)
    · refine (congrArg CrtSlot.writes (slotOf_updSlot _ _ _)).trans ?_
      exact congrArg CrtSlot.writes slot
  case last =>
    obtain ⟨u, is⟩ : ∃ u, s.updSlot k.val (fun x => { x with writes := [{ op with finished := op.finished + 1, tried := false }] }) = u := ⟨_, rfl⟩
    have slot : u.slotOf k.val = { s.slotOf k.val with writes := [{ op with finished := op.finished + 1, tried := false }] } := by
      rw [← is, slotOf_updSlot]
    have memory : u.hmem = s.hmem := by rw [← is]; rfl
    obtain ⟨v, done⟩ : ∃ v, (if op.journalled = true then u.setF (Fld.CRT_JSTAT_JDONE k.val) 1 else u) = v := ⟨_, rfl⟩
    have same : v.crt = u.crt ∧ v.hmem = u.hmem ∧ (op.journalled = true → v.flag (Fld.CRT_JSTAT_JDONE k.val) = true) := by
      rw [← done]
      split
      · exact ⟨rfl, rfl, fun _ => flag_setF_b2n _ true rfl (show 30 < 32 by decide)⟩
      · next plain => exact ⟨rfl, rfl, fun journalled => absurd journalled plain⟩
    obtain ⟨crt, sameMemory, jdone⟩ := same
    have vSlot := (slotOf_congr crt k.val).trans slot
    have ends := finishWrite_last (s := v) (congrArg CrtSlot.writes vSlot) ((congrArg CrtSlot.reads vSlot).trans reads) ((congrArg CrtSlot.sleepTo vSlot).trans awake)
    have other : Reg.CRT_JSTAT k.val ≠ Reg.CRT_WRES k.val := by
      show 0x303014 + 0x80 * k.val ≠ 0x303018 + 0x80 * k.val
      omega
    have rested := slotOf_updSlot v k.val (fun x => { x with writes := [], phase := .idle, tried := false })
    refine ⟨_, congrArg Host.Outcome.next (Eq.trans ?_ ends), congrArg CrtSlot.phase rested, congrArg CrtSlot.writes rested,
      State.reg_setReg _ _ _, fun journalled => ?_, sameMemory.trans memory⟩
    · rw [phase, writes]
      dsimp only
      rw [if_neg (Nat.not_lt.2 last), is, done]
    · rw [State.flag, getF_setReg_ne _ _ other]
      exact jdone journalled
  case absent =>
    refine fun absent => congrArg Host.Outcome.next (if_pos ?_)
    rw [Bool.or_eq_true, beq_iff_eq]
    exact absent.imp_left not_true
  case removed =>
    intro on seated
    have runs : ¬((!s.portOn (42 + k.val) || s.slotState k.val == Slot.empty) = true) := by
      rw [on, beq_eq_false_iff_ne.2 seated]
      decide
    obtain ⟨u, is⟩ : ∃ u, (s.endCartOps k.val St.portAbsent 0x41 true).dropStaged k.val = u := ⟨_, rfl⟩
    obtain ⟨gone, reads, writes⟩ := emptied_leaves u k.val (setFld 26 25 0 (setFld 15 13 0 ((u.setSlot k.val {}).reg (Reg.CRT_STAT k.val))))
      (if u.cartDet.contains k.val then u.cartDet else u.cartDet ++ [k.val])
    refine ⟨_, congrArg Host.Outcome.next ((if_neg runs).trans ?_), gone, reads, writes⟩
    dsimp only
    rw [is]
    rfl
  case submit =>
    intro ws op usable
    have runs {u : State} (is : b.crtSubmit p.val k.val v = .ok u) : exec (.crtSubmit p k v) s = .next u :=
      congrArg Host.Outcome.next (pairAccess_ok reaches is)
    have admits (yes : usable) : ¬(b.slotState k.val ≠ Slot.ready ∧ b.slotState k.val ≠ Slot.sleep) := fun both => yes.elim both.1 both.2
    refine ⟨fun off => runs ?_, fun on no => runs ?_, fun e on yes refused => runs ?_, fun a j on yes passes => runs ?_⟩
    all_goals
      unfold State.crtSubmit
      rw [submits]
      dsimp only
    · exact if_pos (not_true off)
    · exact (if_neg (not_not_true on)).trans (if_pos (not_or.1 no))
    · rw [if_neg (not_not_true on), if_neg (admits yes), refused]
    · rw [if_neg (not_not_true on), if_neg (admits yes), passes]
  case stage =>
    intro ws n room queue
    have runs {u : State} (is : b.crtStage p.val k.val v = .ok u) : exec (.crtStage p k v) s = .next u :=
      congrArg Host.Outcome.next (pairAccess_ok reaches is)
    have takes : ¬((j.src == Stream.load || !j.frameRoom (512 * n) || decide (4 ≤ (b.slotOf k.val).writes.length + (b.stagedFor (42 + k.val)).length)) = true) := by
      rw [beq_eq_false_iff_ne.2 work, room, decide_eq_false (Nat.not_le.2 queue)]
      decide
    refine ⟨fun off => runs ?_, ?_⟩
    · unfold State.crtStage
      rw [submits, armed]
      exact (if_neg takes).trans (if_pos (not_true off))
    · intro usable
      have admits (yes : usable) : ¬(b.slotState k.val ≠ Slot.ready ∧ b.slotState k.val ≠ Slot.sleep) := fun both => yes.elim both.1 both.2
      refine ⟨fun on no => runs ?_, fun e on yes refused => runs ?_, fun a jr on yes passes => ?_⟩
      · unfold State.crtStage
        rw [submits, armed]
        exact (if_neg takes).trans ((if_neg (not_not_true on)).trans (if_pos (not_or.1 no)))
      · unfold State.crtStage
        rw [submits, armed]
        refine (if_neg takes).trans ((if_neg (not_not_true on)).trans ((if_neg (admits yes)).trans ?_))
        rw [refused]
      · intro m
        refine ⟨fun t data moved => runs ?_, fun t e moved => runs ?_⟩
        all_goals
          unfold State.crtStage
          rw [submits, armed]
          refine (if_neg takes).trans ((if_neg (not_not_true on)).trans ((if_neg (admits yes)).trans ?_))
          rw [passes]
          dsimp only
        · rw [show State.portRead 32 b (42 + k.val) (ws.getD 2 0).toNat (512 * n) = (t, .ok data) from moved]
        · rw [show State.portRead 32 b (42 + k.val) (ws.getD 2 0).toNat (512 * n) = (t, .error e) from moved]
  case gate =>
    intro k
    have service {f : Nat} (asks : s.Asks p.val 3 f) (slot : k < 8) (body : State → Nat → State) {u : State} (is : body s k = u) :
        (Host.Outcome.next (s.gate3 p.val f body) : Host.Outcome State Fault Refusal) = .next u :=
      congrArg Host.Outcome.next ((gate3_own asks slot body).trans is)
    refine ⟨fun asks beyond => congrArg Host.Outcome.next (gate3_noSlot asks beyond _), fun asks slot writes => service asks slot _ ?noWrite,
      fun op rest m asks slot writes journalled phase ready key blank => ⟨?opens, service asks slot _ ?unread⟩,
      fun asks slot undone => service asks slot _ (if_pos ?_), fun asks slot => ?closes, fun asks slot empty => service asks slot _ (if_pos empty),
      fun asks slot held none_ => ?checked, fun asks slot none_ => service asks slot _ ?nothing, fun r rest asks slot records => ?discards⟩
    case noWrite =>
      dsimp only
      rw [writes]
    case opens =>
      have reach : ¬((!op.journalled || (s.slotOf k).phase != .idle) = true) := by
        rw [journalled, phase]
        decide
      refine ⟨s.recorded k op, service asks slot _ ?_, ?_⟩
      · dsimp only
        rw [writes]
        dsimp only
        rw [if_neg reach, if_neg (not_not_intro ready), if_neg (by rw [key]; exact Option.some_ne_none m), if_neg (not_not_true blank),
          if_neg (show ¬(!true) = true by decide)]
        rfl
      · rw [recorded_writes, writes]
        rfl
    case unread =>
      dsimp only
      rw [writes]
      dsimp only
      rw [journalled, phase, if_neg (by decide), if_neg (not_not_intro ready), if_neg (by rw [key]; exact Option.some_ne_none m), if_neg (not_not_true blank),
        if_pos (show (!false) = true from rfl)]
    · rw [undone]
      rfl
    case closes =>
      intro q done open_ t
      have good : ¬((!s.flag (Fld.CRT_JSTAT_JDONE k) || !s.jrnOpen k (q % 16)) = true) := by
        rw [done, open_]
        decide
      refine ⟨fun odd => service asks slot _ ((if_neg good).trans ?_), fun even => service asks slot _ ((if_neg good).trans ?_)⟩
      · dsimp only
        rw [if_neg odd]
      · dsimp only
        rw [if_pos even]
    case checked =>
      have synced := syncJstat_none none_
      refine ⟨((s.setF (Fld.CRT_JSTAT_OPEN k) 0).setF (Fld.CRT_JSTAT_FOREIGN k) 0).setSlotState k Slot.ready, service asks slot _ ?_,
        slotState_setSlotState _ k (by decide), rfl⟩
      dsimp only
      rw [if_neg (by rw [held]; decide), if_neg (not_not_intro held), none_, List.any_nil, if_neg Bool.false_ne_true, List.filter_nil, List.foldl_nil, synced,
        openRecords_setF, none_, List.isEmpty_nil, if_pos rfl]
    case nothing =>
      dsimp only
      rw [none_]
    case discards =>
      intro t was foreign more
      refine service asks slot _ ?_
      dsimp only
      rw [records]
      dsimp only
      rw [if_neg fun both => more (List.isEmpty_iff.1 (Bool.and_eq_true_iff.1 both).1)]

end Sys2Proof.Machine
end

section
/-! SUPPORT. Draws of random bytes (R263–R268) and the contactless front ends (R397–R406). -/

namespace Sys2Proof.Machine

/-- State t is s but for what a draw changes: the expander, the fresh bytes used, and RNG.RESEEDS. -/
structure State.Draws (s t : State) : Prop where
  rest : ({ t with regs := s.regs, rng := s.rng, free := s.free } : State) = s
  reg : ∀ o, o ≠ Reg.RNG_RESEEDS → t.reg o = s.reg o

section
variable {s t u : State}

theorem State.Draws.refl (s : State) : s.Draws s := ⟨rfl, fun _ _ => rfl⟩

theorem State.Draws.trans (a : s.Draws t) (b : t.Draws u) : s.Draws u := by
  refine ⟨?_, fun o other => (b.reg o other).trans (a.reg o other)⟩
  have first := a.rest
  have second := b.rest
  cases s; cases t; cases u
  simp_all

theorem State.Draws.rf (h : s.Draws t) : t.rf = s.rf := by
  have field := congrArg State.rf h.rest
  exact field
theorem State.Draws.tags (h : s.Draws t) : t.tags = s.tags := by
  have field := congrArg State.tags h.rest
  exact field
theorem State.Draws.pairs (h : s.Draws t) : t.pairs = s.pairs := by
  have field := congrArg State.pairs h.rest
  exact field
theorem State.Draws.hmem (h : s.Draws t) : t.hmem = s.hmem := by
  have field := congrArg State.hmem h.rest
  exact field
theorem State.Draws.getF (h : s.Draws t) {f : FieldAt} (other : f.off ≠ Reg.RNG_RESEEDS) : t.getF f = s.getF f := by
  rw [State.getF, h.reg _ other, State.getF]

theorem draws_freshBytes (s : State) (n : Nat) : s.Draws (s.freshBytes n).2 := ⟨rfl, fun _ _ => rfl⟩

theorem draws_conditioned (s : State) : s.Draws s.conditioned.2 := by
  unfold State.conditioned
  split
  · exact draws_freshBytes s 64
  · exact draws_freshBytes s 128

theorem draws_reseed (s : State) : s.Draws s.reseed := by
  refine (draws_conditioned s).trans ?_
  unfold State.reseed
  dsimp only
  generalize s.conditioned.2 = u
  generalize drbgUpdate (u.rng.key, u.rng.v) (drbgDf s.conditioned.1) = kv
  exact ⟨rfl, fun _ other => State.reg_setReg_ne _ _ other⟩

theorem draws_rngFill (s : State) : s.Draws s.rngFill := by
  unfold State.rngFill
  dsimp only
  split
  · exact .refl s
  · have seeded : s.Draws (if 65536 ≤ s.rng.made then s.reseed else s) := by
      split
      · exact draws_reseed s
      · exact .refl s
    exact seeded.trans ⟨rfl, fun _ _ => rfl⟩

theorem draws_drawFuel (fuel n : Nat) (s : State) : s.Draws (s.drawFuel fuel n).2 := by
  induction fuel generalizing n s with
  | zero => exact draws_freshBytes s n
  | succ fuel ih =>
    have taken (k : Nat) : s.Draws (s.takeRandom k).2 := ⟨rfl, fun _ _ => rfl⟩
    unfold State.drawFuel
    dsimp only
    split
    · exact taken _
    · exact ((taken _).trans (draws_rngFill _)).trans (ih _ _)

/-- A draw changes nothing but the expander and what counts its reseeds (R268). -/
theorem draws_drawHw (s : State) (n : Nat) : s.Draws (s.drawHw n).2 := draws_drawFuel _ _ s

/-! ## Front ends -/

theorem rfOf_setRf (s : State) (f : Nat) (x : RfUnit) : (s.setRf f x).rfOf f = x := Table.get_set_self (fun _ => ({} : RfUnit)) s.rf f x

theorem rfOf_updRf (s : State) (f : Nat) (g : RfUnit → RfUnit) : (s.updRf f g).rfOf f = g (s.rfOf f) := rfOf_setRf _ _ _

theorem rfOf_congr (same : t.rf = s.rf) (f : Nat) : t.rfOf f = s.rfOf f := by rw [State.rfOf, same, State.rfOf]

theorem rfOf_setF (s : State) (g : FieldAt) (v f : Nat) : (s.setF g v).rfOf f = s.rfOf f := rfl

/-- The record of an exchange is of hearth memory and of its pair's doorbells. -/
theorem endExch_rest (s : State) (x : PortExch) (st code : Nat) (w : Word) : (s.endExch x st code w).rf = s.rf ∧ (s.endExch x st code w).tags = s.tags := by
  unfold State.endExch State.portResult
  dsimp only
  split <;> exact ⟨rfl, rfl⟩

theorem endExchs_rest (l : List PortExch) (s : State) :
    (l.foldl (fun s x => s.endExch x St.portDisabled 0x40 0) s).rf = s.rf ∧ (l.foldl (fun s x => s.endExch x St.portDisabled 0x40 0) s).tags = s.tags := by
  refine List.foldlRecOn l _ (motive := fun t : State => t.rf = s.rf ∧ t.tags = s.tags) ⟨rfl, rfl⟩ fun t same x _ => ?_
  obtain ⟨rf, tags⟩ := same
  obtain ⟨rf', tags'⟩ := endExch_rest t x St.portDisabled 0x40 0
  exact ⟨rf'.trans rf, tags'.trans tags⟩

theorem getF_lt (s : State) (f : FieldAt) : s.getF f < 2 ^ (f.hi + 1 - f.lo) := Nat.mod_lt _ (Nat.two_pow_pos _)

theorem flushRf_fresh {f : Nat} (fresh : (s.rfOf f).result = none) : s.flushRf f =
    (((s.rfOf f).queue.foldl (fun s x => s.endExch x St.portDisabled 0x40 0) (s.setRf f { s.rfOf f with queue := [] })).fieldOff f).syncXq f := by
  unfold State.flushRf
  dsimp only
  rw [fresh]
  rfl

theorem updRf_setF_rest (s : State) (f : Nat) (g : RfUnit → RfUnit) (x : FieldAt) (n : Nat) :
    ((s.updRf f g).setF x n).tags = s.tags ∧ ((s.updRf f g).setF x n).pairs = s.pairs := ⟨rfl, rfl⟩

theorem tagOff_rest (s : State) (f : Nat) : (s.tagOff f).tags = s.tags ∧ (s.tagOff f).pairs = s.pairs := updRf_setF_rest s f _ _ 0

/-- The queue of a front end without a started exchange ends (R397). -/
theorem flushRf_leaves {f : Nat} (fresh : (s.rfOf f).result = none) : ((s.flushRf f).rfOf f).queue = [] ∧ (s.flushRf f).tags = s.tags ∧
    ((s.rfOf f).queue = [] → (s.flushRf f).pairs = s.pairs) := by
  rw [flushRf_fresh fresh]
  obtain ⟨rf, tags⟩ := endExchs_rest (s.rfOf f).queue (s.setRf f { s.rfOf f with queue := [] })
  have slot := (rfOf_congr rf f).trans (rfOf_setRf s f { s.rfOf f with queue := [] })
  have idle : (s.rfOf f).queue = [] → ((s.rfOf f).queue.foldl (fun s x => s.endExch x St.portDisabled 0x40 0) (s.setRf f { s.rfOf f with queue := [] })).pairs = s.pairs := by
    intro empty
    rw [empty]
    rfl
  have facts := And.intro slot (And.intro tags idle)
  revert facts
  generalize (s.rfOf f).queue.foldl (fun s x => s.endExch x St.portDisabled 0x40 0) (s.setRf f { s.rfOf f with queue := [] }) = t
  rintro ⟨slot, tags, idle⟩
  refine ⟨?_, tags, idle⟩
  rw [State.syncXq, rfOf_setF, State.fieldOff, rfOf_setRf]
  exact congrArg RfUnit.queue slot

/-- What entering IDLE leaves of the front end (R407, R408). -/
theorem enterIdle_leaves (s : State) (f : Nat) : (s.enterIdle f).rfModeOf f = s.rfModeOf f ∧ ((s.enterIdle f).rfOf f).queue = (s.rfOf f).queue ∧
    ((s.enterIdle f).rfOf f).active = (s.rfOf f).active ∧ (s.enterIdle f).tags = s.tags ∧ (s.enterIdle f).pairs = s.pairs := by
  have ends {u : State} (draws : s.Draws u) (g : RfUnit → RfUnit) (keeps : ∀ x, (g x).queue = x.queue ∧ (g x).active = x.active) :
      ((u.updRf f g).setTstate f 1).rfModeOf f = s.rfModeOf f ∧ (((u.updRf f g).setTstate f 1).rfOf f).queue = (s.rfOf f).queue ∧
      (((u.updRf f g).setTstate f 1).rfOf f).active = (s.rfOf f).active ∧ ((u.updRf f g).setTstate f 1).tags = s.tags ∧
      ((u.updRf f g).setTstate f 1).pairs = s.pairs := by
    obtain ⟨queue, active⟩ := keeps (u.rfOf f)
    have slot : ((u.updRf f g).setTstate f 1).rfOf f = g (u.rfOf f) := rfOf_updRf u f g
    have before := rfOf_congr draws.rf f
    have other : Reg.RF_STAT f ≠ Reg.RNG_RESEEDS := by
      show 0x304004 + 0x100 * f ≠ 0x4014
      omega
    refine ⟨?_, ?_, ?_, draws.tags, draws.pairs⟩
    · rw [State.rfModeOf, State.setTstate, getF_setF_apart _ _ (show 17 < 32 by decide) (.inl (show 17 < 24 by decide))]
      exact (getF_congr rfl _).trans (draws.getF other)
    · rw [slot, queue, before]
    · rw [slot, active, before]
  unfold State.enterIdle
  dsimp only
  split
  · exact ⟨rfl, rfl, rfl, rfl, rfl⟩
  · split
    · exact ends (.refl s) _ fun _ => ⟨rfl, rfl⟩
    · exact ends (draws_drawHw s 3) _ fun _ => ⟨rfl, rfl⟩

/-- A mode taken while no exchange is started (R397). -/
theorem rfModeStep_takes {f : Nat} (differs : s.getF (Fld.RF_CFG_MODE f) ≠ s.rfModeOf f) (fresh : (s.rfOf f).result = none) :
    (s.rfModeStep f).rfModeOf f = s.getF (Fld.RF_CFG_MODE f) ∧ ((s.rfModeStep f).rfOf f).queue = [] ∧ ((s.rfModeStep f).rfOf f).active = none ∧
    (s.rfModeStep f).tags = s.tags ∧ ((s.rfOf f).queue = [] → (s.rfModeStep f).pairs = s.pairs) := by
  have small : s.getF (Fld.RF_CFG_MODE f) < 2 ^ 2 := getF_lt s (Fld.RF_CFG_MODE f)
  obtain ⟨queue, tags, pairs⟩ := flushRf_leaves fresh
  unfold State.rfModeStep
  dsimp only
  rw [if_neg differs, fresh, if_neg (show ¬(none : Option (Nat × Nat × Word)).isSome = true from Bool.false_ne_true)]
  revert queue tags pairs
  generalize s.flushRf f = t
  generalize s.getF (Fld.RF_CFG_MODE f) = want at small
  intro queue tags pairs
  have base : (((t.tagOff f).updRf f (fun u => { u with active := none })).setF (Fld.RF_STAT_ACTIVE f) want).rfModeOf f = want ∧
      ((((t.tagOff f).updRf f (fun u => { u with active := none })).setF (Fld.RF_STAT_ACTIVE f) want).rfOf f).queue = [] ∧
      ((((t.tagOff f).updRf f (fun u => { u with active := none })).setF (Fld.RF_STAT_ACTIVE f) want).rfOf f).active = none := by
    have off : ((t.tagOff f).rfOf f).queue = [] := by
      rw [State.tagOff, State.setTstate, rfOf_setF, rfOf_updRf]
      exact queue
    rw [State.rfModeOf, getF_setF_self _ _ (show 17 < 32 by decide), rfOf_setF, rfOf_updRf]
    exact ⟨Nat.mod_eq_of_lt small, off, rfl⟩
  have rest : (((t.tagOff f).updRf f (fun u => { u with active := none })).setF (Fld.RF_STAT_ACTIVE f) want).tags = t.tags ∧
      (((t.tagOff f).updRf f (fun u => { u with active := none })).setF (Fld.RF_STAT_ACTIVE f) want).pairs = t.pairs := by
    obtain ⟨tags', pairs'⟩ := updRf_setF_rest (t.tagOff f) f (fun u => { u with active := none }) (Fld.RF_STAT_ACTIVE f) want
    obtain ⟨tags'', pairs''⟩ := tagOff_rest t f
    exact ⟨tags'.trans tags'', pairs'.trans pairs''⟩
  revert base rest
  generalize ((t.tagOff f).updRf f (fun u => { u with active := none })).setF (Fld.RF_STAT_ACTIVE f) want = u
  rintro ⟨mode, empty, inactive⟩ ⟨sameTags, samePairs⟩
  split
  · obtain ⟨mode', queue', active', tags', pairs'⟩ := enterIdle_leaves u f
    exact ⟨mode'.trans mode, queue'.trans empty, active'.trans inactive, (tags'.trans sameTags).trans tags, fun idle => (pairs'.trans samePairs).trans (pairs idle)⟩
  · exact ⟨mode, empty, inactive, sameTags.trans tags, fun idle => samePairs.trans (pairs idle)⟩

/-- An answer within RXCAP that passes the port guard (R402). -/
theorem rfReceive_fits {f : Nat} {x : PortExch} {data : List Byte} {w7 : Nat → Word} (fits : data.length ≤ rfCap x.words)
    (moved : State.portWrite 32 s (50 + f) (x.words.getD 3 0).toNat data = (t, true)) : s.rfReceive f x data w7 = t.rfResult f St.ok 0 (w7 data.length) := by
  unfold State.rfReceive
  dsimp only
  rw [List.take_of_length_le fits, moved]
  exact if_neg (Nat.not_lt.2 fits)

theorem rfSend_sent {f : Nat} {x : PortExch} {bs : List Byte} (sent : State.portRead 32 s (50 + f) (x.words.getD 2 0).toNat (rfTx x.words) = (t, .ok bs))
    (body : State → List Byte → State) : s.rfSend f x body = body t bs := by
  rw [State.rfSend, sent]

theorem rfSend_refused {f : Nat} {x : PortExch} {e : Nat × Nat}
    (refused : State.portRead 32 s (50 + f) (x.words.getD 2 0).toNat (rfTx x.words) = (t, .error e)) (body : State → List Byte → State) :
    s.rfSend f x body = t.rfResult f e.1 e.2 0 := by
  rw [State.rfSend, refused]

/-- Word 7 of an answer without any mark is its length. -/
theorem rfWord7_plain (n : Nat) : rfWord7 0 false false false false 0 n = wd n := by
  unfold rfWord7 b2n
  simp

theorem length_invEntry (c : RfCard) : (invEntry c).length = 16 := by
  unfold invEntry
  simp [length_leBytes, length_slice, zeros]

end

end Sys2Proof.Machine
end

section
/-! The statement about reader exchanges settled. -/

namespace Sys2Proof.Machine

section
variable {s : State}

/-- One Type A card in the field of an INVENTORY of Type A (R406). -/
theorem inventory_one {f : Fin 4} {x : PortExch} {c : RfCard} {u : State} (runs : s.RfRuns f.val 3 x) (typeA : rfTypeB x.words = false) (card : c.typeB = false)
    (room : 16 ≤ rfCap x.words) (puts : State.portWrite 32 ((s.setF (Fld.RF_STAT_FON f.val) 1).emit (.frame (50 + f.val) 3 [0x52#8])) (50 + f.val)
      (x.words.getD 3 0).toNat (invEntry c) = (u, true)) : exec (.inventory f [c]) s = .next (u.rfResult f.val St.ok 0 16#32) := by
  refine congrArg Host.Outcome.next ((rfRun_of runs _).trans ?_)
  dsimp only
  have same : ([c].filter (fun c => c.typeB == rfTypeB x.words)) = [c] := by
    rw [typeA]
    simp [card]
  rw [same, typeA]
  have alone : firstCollision [c] = 0 := by
    have none_ : (List.range 120).find? (fun i => ([] : List RfCard).any (fun d => (transBits d.uid)[i]? != (transBits c.uid)[i]?)) = none :=
      List.find?_eq_none.2 fun _ _ => Bool.false_ne_true
    rw [firstCollision, none_]
  have found : ([c].foldr insertCard []) = [c] := rfl
  have fits : ([c].take (rfCap x.words / 16)).flatMap invEntry = invEntry c := by
    rw [List.take_of_length_le (by show 1 ≤ rfCap x.words / 16; omega), List.flatMap_cons, List.flatMap_nil, List.append_nil]
  have all : decide (rfCap x.words / 16 < [c].length) = false := decide_eq_false (by show ¬rfCap x.words / 16 < 1; omega)
  simp only [Bool.false_eq_true, if_false]
  rw [found, alone, fits, all, rfReceive_fits (by rw [length_invEntry]; exact room) puts, length_invEntry]
  exact congrArg (u.rfResult f.val St.ok 0) (rfWord7_plain 16)

/-- An exchange that has run ends with its result (R405). -/
theorem exec_rfExchangeDone_ran {f : Fin 4} {x : PortExch} {rest : List PortExch} {st code : Nat} {w : Word} (queue : (s.rfOf f.val).queue = x :: rest)
    (starts : s.portStarts (50 + f.val) = true) (ran : (s.rfOf f.val).result = some (st, code, w)) : exec (.rfExchangeDone f) s =
      .next (((if (s.rfOf f.val).silent = true then s.updRf f.val (fun u => { u with queue := rest, result := none, cut := false, silent := false })
        else if (s.rfOf f.val).cut = true then
          (s.updRf f.val (fun u => { u with queue := rest, result := none, cut := false, silent := false })).endExch x St.portDisabled 0x44 (wd (fld 15 0 w))
        else (s.updRf f.val (fun u => { u with queue := rest, result := none, cut := false, silent := false })).endExch x st code w).syncXq f.val).rfModeStep f.val) := by
  refine congrArg Host.Outcome.next ?_
  rw [queue]
  dsimp only
  rw [ran]
  dsimp only
  rw [starts, Bool.not_true, Bool.or_false, if_pos rfl]
  rfl

/-- An exchange that has not run ends where its descriptor is refused (R405). -/
theorem exec_rfExchangeDone_fresh {f : Fin 4} {x : PortExch} {rest : List PortExch} (queue : (s.rfOf f.val).queue = x :: rest)
    (starts : s.portStarts (50 + f.val) = true) (fresh : (s.rfOf f.val).result = none) (reader : s.rfModeOf f.val = 1) (whole : (s.rfOf f.val).cut = false)
    (heard : (s.rfOf f.val).silent = false) :
    (∀ st code, s.rfCheck f.val x = some (st, code) → exec (.rfExchangeDone f) s =
      .next ((((s.updRf f.val (fun u => { u with queue := rest, result := none, cut := false, silent := false })).endExch x st code 0).syncXq f.val).rfModeStep f.val)) ∧
    (s.rfCheck f.val x = none → exec (.rfExchangeDone f) s = .next s) := by
  refine ⟨fun st code refused => congrArg Host.Outcome.next ?_, fun passes => congrArg Host.Outcome.next ?_⟩
  · rw [queue]
    dsimp only
    rw [fresh, starts, reader, refused, heard, whole]
    rfl
  · rw [queue]
    dsimp only
    rw [fresh, starts, reader, passes]
    rfl

end

/-- Settles O48: the mode of a front end, submissions, the external field, and the reader's exchanges by their OP. -/
theorem frontEndsRunReaderExchanges : Obligations.FrontEndsRunReaderExchanges := by
  refine ⟨⟨fun s b m f v owns => ?mode, fun s b p f v r reaches => ?submit, fun s f => ?field⟩, fun s f x => ?exchanges⟩
  case mode =>
    intro w want
    have runs {u : State} (is : w.rfModeStep f.val = u) : exec (.rfModeWrite m f v) s = .next u :=
      congrArg Host.Outcome.next (masterWrite_of owns (congrArg Resp.ok is))
    refine ⟨fun same => runs (if_pos same), fun differs started => runs ?_, fun differs fresh => ⟨_, runs rfl, rfModeStep_takes differs fresh⟩⟩
    exact (if_neg differs).trans (if_pos (Option.isSome_iff_ne_none.2 started))
  case submit =>
    intro n q submits x usable
    have fails (no : b.ownsTenant p.val (b.getF (Fld.RF_CFG_TENANT n)) = false) : b.rfSubmit p.val n v = busAt b (Reg.RF_SUBMIT n) := by
      unfold State.rfSubmit
      dsimp only
      rw [submits]
      exact if_pos (not_true no)
    refine ⟨fun no => congrArg Host.Outcome.next (pairAccess_fail reaches (fails no)), fun owns yes => congrArg Host.Outcome.next (pairAccess_ok reaches ?_),
      fun owns no => congrArg Host.Outcome.next (pairAccess_ok reaches ?_)⟩
    all_goals
      unfold State.rfSubmit
      dsimp only
      rw [submits]
      refine (if_neg (not_not_true owns)).trans ?_
    · obtain ⟨on, reader, wanted⟩ := yes
      refine if_neg ?_
      rw [show b.portOn (50 + f.val) = true from on, show b.rfModeOf f.val = 1 from reader, show b.getF (Fld.RF_CFG_MODE f.val) = 1 from wanted]
      decide
    · refine if_pos (by_contra fun none_ => no ?_)
      rw [Bool.or_eq_true, Bool.or_eq_true, not_or, not_or, Bool.not_eq_true', Bool.not_eq_false, bne_iff_ne, bne_iff_ne, not_not, not_not] at none_
      obtain ⟨⟨on, reader⟩, wanted⟩ := none_
      exact ⟨on, reader, wanted⟩
  case field =>
    intro n seen
    have sameMode : seen.rfModeOf n = s.rfModeOf n := by
      rw [State.rfModeOf, getF_setF_apart _ _ (show 17 < 32 by decide) (.inl (show 17 < 28 by decide)),
        getF_setF_apart _ _ (show 17 < 32 by decide) (.inl (show 17 < 31 by decide)), State.rfModeOf]
    refine ⟨fun there => congrArg Host.Outcome.next (if_pos there), fun gone tag => ?_, fun gone other => ?_,
      fun there => congrArg Host.Outcome.next (if_neg (not_not_true there)), fun gone => congrArg Host.Outcome.next (if_pos (not_true gone))⟩
    · exact congrArg Host.Outcome.next ((if_neg (Bool.eq_false_iff.1 gone)).trans (if_pos (sameMode.trans tag)))
    · exact congrArg Host.Outcome.next ((if_neg (Bool.eq_false_iff.1 gone)).trans (if_neg (sameMode ▸ other)))
  case exchanges =>
    intro n on tx puts lost
    refine ⟨fun t bs ans runs sends => ?raw, fun t e ans refused => ?refused, fun t bs ans runs sends crc par => ?apdu, fun c u runs typeA card room moved =>
      inventory_one runs typeA card room moved, fun t bs ans runs sends crc par => ?activate, fun runs => congrArg Host.Outcome.next (rfRun_of runs _),
      fun runs => congrArg Host.Outcome.next (rfRun_of runs _), fun rest st code w7 queue => ?done, fun empty lit => congrArg Host.Outcome.next (if_pos ?_),
      fun waiting => congrArg Host.Outcome.next (if_neg ?_)⟩
    case raw =>
      intro crc sent
      refine ⟨fun silent => ?_, fun u answered fits moved => ?_⟩
      · refine congrArg Host.Outcome.next ((rfRun_of runs _).trans ((rfSend_sent sends _).trans ?_))
        exact if_pos (not_true silent)
      · refine congrArg Host.Outcome.next ((rfRun_of runs _).trans ((rfSend_sent sends _).trans ?_))
        exact (if_neg (not_not_true answered)).trans (rfReceive_fits fits moved)
    case refused =>
      exact ⟨fun runs => congrArg Host.Outcome.next ((rfRun_of runs _).trans (rfSend_refused refused _)),
        fun runs => congrArg Host.Outcome.next ((rfRun_of runs _).trans (rfSend_refused refused _)),
        fun runs => congrArg Host.Outcome.next ((rfRun_of runs _).trans (rfSend_refused refused _))⟩
    case apdu =>
      intro sent
      have errors (u : State) : u.rfErrors n ans = u := if_neg (by rw [crc, par]; decide)
      refine ⟨fun silent => ?_, fun u answered fits moved => ?_⟩
      · refine congrArg Host.Outcome.next ((rfRun_of runs _).trans ((rfSend_sent sends _).trans ?_))
        dsimp only
        have unclean : (ans.crcErr || ans.parErr || !ans.answered) = true := by
          rw [silent]
          exact Bool.or_true _
        rw [errors, if_pos unclean, if_pos (not_true silent)]
      · refine congrArg Host.Outcome.next ((rfRun_of runs _).trans ((rfSend_sent sends _).trans ?_))
        dsimp only
        have clean : ¬((ans.crcErr || ans.parErr || !ans.answered) = true) := by
          rw [crc, par, answered]
          decide
        rw [errors, if_neg clean, if_neg (not_not_true answered), rfReceive_fits fits moved, rfWord7_plain]
    case activate =>
      intro sent
      have errors (u : State) : u.rfErrors n ans = u := if_neg (by rw [crc, par]; decide)
      refine ⟨fun silent => ?_, fun u answered fits moved => ?_⟩
      · refine congrArg Host.Outcome.next ((rfRun_of runs _).trans ((rfSend_sent sends _).trans ?_))
        dsimp only
        rw [errors, if_pos (not_true silent)]
      · refine congrArg Host.Outcome.next ((rfRun_of runs _).trans ((rfSend_sent sends _).trans ?_))
        dsimp only
        rw [errors, if_neg (not_not_true answered), rfReceive_fits fits moved, rfWord7_plain]
    case done =>
      intro next idle
      refine ⟨fun rests ran => ?_, fun heard cut starts ran => ?_, fun silent starts ran => ?_, fun rests fresh reader refused => ?_, fun rests fresh reader passes => ?_⟩
      · obtain ⟨whole, heard, starts⟩ := rests
        rw [exec_rfExchangeDone_ran queue starts ran, heard, whole]
        rfl
      · rw [exec_rfExchangeDone_ran queue starts ran, heard, cut]
        rfl
      · rw [exec_rfExchangeDone_ran queue starts ran, silent]
        rfl
      · obtain ⟨whole, heard, starts⟩ := rests
        obtain ⟨ends, -⟩ := exec_rfExchangeDone_fresh queue starts fresh reader whole heard
        exact ends st code refused
      · obtain ⟨whole, heard, starts⟩ := rests
        obtain ⟨-, waits⟩ := exec_rfExchangeDone_fresh queue starts fresh reader whole heard
        exact waits passes
    · rw [lit, empty]
      rfl
    · intro both
      exact waiting (List.isEmpty_iff.1 (Bool.and_eq_true_iff.1 both).2)

end Sys2Proof.Machine
end

section
/-! SUPPORT. The emulated tag (R407): what an anticollision frame covers. -/

namespace Sys2Proof.Machine

section
variable {s t : State} {f : Nat}

/-- The bytes of a list from the first on. -/
theorem head_drop_one {l : List Byte} (some_ : l ≠ []) : l.getD 0 0 :: l.drop 1 = l := by
  cases l with
  | nil => exact absurd rfl some_
  | cons a l => rfl

/-- The first eight bits of the frame are those of the level exactly where the first bytes agree. -/
theorem firstByte_covered {own bits : List Byte} {first : Byte} :
    (List.range 8).all (fun i => (own.getD (i / 8) 0).getLsbD (i % 8) == ((first :: bits).getD (i / 8) 0).getLsbD (i % 8)) = true ↔ own.getD 0 0 = first := by
  rw [List.all_eq_true]
  refine ⟨fun same => BitVec.eq_of_getLsbD_eq fun i low => ?_, fun same i mem => ?_⟩
  · have bit := beq_iff_eq.1 (same i (List.mem_range.2 low))
    rwa [Nat.div_eq_of_lt low, Nat.mod_eq_of_lt low] at bit
  · rw [Nat.div_eq_of_lt (List.mem_range.1 mem), same]
    exact beq_self_eq_true _

/-- ANTICOLLISION whose NVB covers k whole bytes that are the tag's is answered with the bytes after them (R407). -/
theorem anticollision_answers {f : Fin 4} {cl : Fin 3} {nvb k : Nat} {bits : List Byte} (hears : s.tagHears f.val = true) (ready : s.tstate f.val = 2)
    (level : cl.val = (s.rfOf f.val).level) (high : nvb / 16 = k + 2) (low : nvb % 16 = 0) (short : k < 5)
    (covers : (List.range (8 * k)).all (fun i => ((s.rfOf f.val).levelBytes.getD (i / 8) 0).getLsbD (i % 8) == (bits.getD (i / 8) 0).getLsbD (i % 8)) = true)
    (more : (s.rfOf f.val).levelBytes.drop k ≠ []) :
    exec (.anticollision f cl nvb bits) s = .next (s.tagAnswer f.val ((s.rfOf f.val).levelBytes.drop k)) := by
  have bits_ : (nvb / 16 - 2) * 8 + nvb % 16 = 8 * k := by omega
  have range : decide (2 ≤ nvb / 16 ∧ 8 * k < 40) = true := decide_eq_true (by omega)
  refine congrArg Host.Outcome.next ?_
  dsimp only
  rw [bits_, hears, ready, level, range, covers, beq_self_eq_true, beq_self_eq_true, Nat.mul_div_cancel_left k (by decide), Nat.mul_mod_right]
  refine (if_pos rfl).trans (congrArg (s.tagAnswer f.val) ?_)
  exact (congrArg (· :: _) (BitVec.and_allOnes)).trans (head_drop_one more)

end

end Sys2Proof.Machine
end

section
/-! The statement about the emulated tag's states settled. -/

namespace Sys2Proof.Machine

/-- Settles O49: each frame by the state that admits it. -/
theorem emulatedTagAnswersInItsStates : Obligations.EmulatedTagAnswersInItsStates := by
  intro s f n u st
  have deaf {c : Bool} (no : s.tagHears n = false) : ¬((s.tagHears n && c) = true) := by
    rw [no]
    exact Bool.false_ne_true
  have both {c : Bool} (hears : s.tagHears n = true) (is : c = true) : (s.tagHears n && c) = true := by
    rw [hears, is]
    rfl
  have here {k : Nat} (is : st = k) : (s.tstate f.val == k) = true := beq_iff_eq.2 is
  have away {k : Nat} (other : st ≠ k) : (s.tstate f.val == k) = false := beq_eq_false_iff_ne.2 other
  refine ⟨fun no => ⟨congrArg Host.Outcome.next (if_neg (deaf no)), congrArg Host.Outcome.next (if_neg (deaf no)), congrArg Host.Outcome.next (if_neg (deaf no)),
      congrArg Host.Outcome.next (if_neg (deaf no))⟩, fun hears idle => congrArg Host.Outcome.next (if_pos (both hears (here idle))),
    fun other => congrArg Host.Outcome.next (if_neg ?_), fun hears idle => congrArg Host.Outcome.next (if_pos (both hears ?_)),
    fun not1 not4 => congrArg Host.Outcome.next (if_neg ?_), fun cl bits hears ready level some_ => ?whole,
    fun cl first bits hears ready level long => ?part, fun cl hears ready level seven first => congrArg Host.Outcome.next ?cascade,
    fun cl hears ready level last => congrArg Host.Outcome.next ?selected, fun cl bs other => congrArg Host.Outcome.next (if_neg ?_),
    fun hears active => congrArg Host.Outcome.next (if_pos (both hears (here active))),
    fun param hears active => congrArg Host.Outcome.next (if_pos (both hears (here active))), fun param other => congrArg Host.Outcome.next (if_neg ?_),
    fun d hears protocol_ rate => congrArg Host.Outcome.next (if_pos ?_), fun dsi dri unequal => congrArg Host.Outcome.next (if_neg ?_),
    fun hears joined => congrArg Host.Outcome.next (if_pos (both hears (decide_eq_true joined)))⟩
  · rw [away other, Bool.and_false]
    exact Bool.false_ne_true
  · rw [Bool.or_eq_true]
    exact idle.imp here here
  · rw [away not1, away not4, Bool.or_self, Bool.and_false]
    exact Bool.false_ne_true
  case whole =>
    exact anticollision_answers hears ready level (show 0x20 / 16 = 0 + 2 by decide) (by decide) (by decide) rfl some_
  case part =>
    have covers : (List.range 8).all (fun i => (u.levelBytes.getD (i / 8) 0).getLsbD (i % 8) == ((first :: bits).getD (i / 8) 0).getLsbD (i % 8)) = true ↔
        u.levelBytes.getD 0 0 = first := firstByte_covered
    refine ⟨fun same => ?_, fun other => congrArg Host.Outcome.next (if_neg fun all => ?_)⟩
    · have more : u.levelBytes.drop 1 ≠ [] := List.ne_nil_of_length_pos (by rw [List.length_drop]; omega)
      exact anticollision_answers hears ready level (show 0x30 / 16 = 1 + 2 by decide) (by decide) (by decide) (covers.2 same.symm) more
    · exact other (covers.1 (Bool.and_eq_true_iff.1 all).2).symm
  case cascade =>
    rw [hears, here ready, level, beq_self_eq_true, beq_self_eq_true, if_pos (show (true && true && true && true) = true from rfl),
      if_pos ⟨seven, Bool.eq_false_iff.1 first⟩]
    rfl
  case selected =>
    rw [hears, here ready, level, beq_self_eq_true, beq_self_eq_true, if_pos (show (true && true && true && true) = true from rfl)]
    refine if_neg fun both => last.elim (fun no => no both.1) fun yes => both.2 yes
  · intro all
    exact other (beq_iff_eq.1 (Bool.and_eq_true_iff.1 all).2)
  · rw [away other, Bool.and_false]
    exact Bool.false_ne_true
  · rw [hears, here protocol_, beq_self_eq_true, decide_eq_true rate]
    rfl
  · rw [beq_eq_false_iff_ne.2 unequal, Bool.and_false, Bool.false_and]
    exact Bool.false_ne_true

end Sys2Proof.Machine
end

section
/-! SUPPORT. Tag commands (R409–R414): their fields, what answers them, and what authentication leaves. -/

namespace Sys2Proof.Machine

/-- The block that a command's two bytes after its code name. -/
theorem leAt_block (code lo hi : Byte) (rest : List Byte) : leAt (code :: lo :: hi :: rest) 1 2 = lo.toNat + 256 * hi.toNat := by
  unfold leAt slice
  simp [ofLe]

/-- The bytes that follow a command's first `p`. -/
theorem slice_append (p x : List Byte) {o n : Nat} (first : p.length = o) (length : x.length = n) : slice (p ++ x) o n = x := by
  unfold slice
  simp [← first, ← length]

section
variable {s u : State} {f cmd len : Nat} {inf : List Byte}

/-- The bytes of a tag's response: STS, and where it is 0 the data (R409). -/
def tagResponse (st : Nat) (data : List Byte) : List Byte := if st = 0 then 0#8 :: data else [byte st]

/-- A tag command of right code and length in PROTOCOL or SECURED_PWD runs its body and is answered (R409). -/
theorem tagCommand_plain (hears : s.tagHears f = true) (plain : s.tstate f = 5 ∨ s.tstate f = 6) (code : (inf.getD 0 0).toNat = cmd)
    (length : inf.length = len) {body : State → List Byte → State × Nat × List Byte} {st : Nat} {data bytes : List Byte} (runs : body s inf = (u, st, data))
    (response : tagResponse st data = bytes) : s.tagCommand f cmd len inf body = u.tagAnswer f bytes := by
  subst response
  have open_ : (s.tstate f == 7) = false := by
    obtain is | is := plain <;> rw [is] <;> rfl
  have awake : decide (s.tstate f < 5) = false := decide_eq_false (by omega)
  unfold State.tagCommand
  dsimp only
  rw [hears, awake, code, open_]
  simp only [Bool.not_true, Bool.or_self, bne_self_eq_false, Bool.false_and, Bool.false_eq_true, if_false, length, ne_eq, not_true_eq_false, or_self, runs]
  rfl

/-- A tag command of a wrong length (R409). -/
theorem tagCommand_length (hears : s.tagHears f = true) (plain : s.tstate f = 5 ∨ s.tstate f = 6) (code : (inf.getD 0 0).toNat = cmd)
    (length : inf.length ≠ len) (body : State → List Byte → State × Nat × List Byte) : s.tagCommand f cmd len inf body = s.tagAnswer f [0x01#8] := by
  have open_ : (s.tstate f == 7) = false := by
    obtain is | is := plain <;> rw [is] <;> rfl
  have awake : decide (s.tstate f < 5) = false := decide_eq_false (by omega)
  unfold State.tagCommand
  dsimp only
  rw [hears, awake, code, open_]
  simp only [Bool.not_true, Bool.or_self, bne_self_eq_false, Bool.false_and, Bool.false_eq_true, if_false, ne_eq, length, not_false_eq_true, or_true, if_true]
  rfl

/-- No tag command is had before PROTOCOL. -/
theorem tagCommand_asleep (asleep : s.tstate f < 5) (body : State → List Byte → State × Nat × List Byte) : s.tagCommand f cmd len inf body = s := by
  unfold State.tagCommand
  dsimp only
  rw [decide_eq_true asleep, Bool.or_true, Bool.true_or, if_pos rfl]

/-- In SECURED_AES a command's MAC decides whether it is had (R410). -/
theorem tagCommand_secured {m : List Byte} (hears : s.tagHears f = true) (secured : s.tstate f = 7) (some_ : inf ≠ []) (code : (inf.getD 0 0).toNat = cmd)
    (length : inf.length = len) (mac : m.length = 4) (body : State → List Byte → State × Nat × List Byte) :
    (m ≠ (s.rfOf f).mac 0x43#8 inf → s.tagCommand f cmd len (inf ++ m) body = ((s.incF (Fld.RF_CNT_AUTHFAIL f)).toProtocol f).tagAnswer f [0x04#8]) ∧
    (m = (s.rfOf f).mac 0x43#8 inf → ∀ st data, body s inf = (u, st, data) →
      s.tagCommand f cmd len (inf ++ m) body = u.tagRespond f true (tagResponse st data)) := by
  have first : ((inf ++ m).getD 0 0).toNat = cmd := by
    cases inf with
    | nil => exact absurd rfl some_
    | cons a l => exact code
  have cut : (inf ++ m).length - 4 = inf.length := by
    rw [List.length_append, mac]
    omega
  have long : decide ((inf ++ m).length < 5) = false := by
    have pos := List.length_pos_of_ne_nil some_
    rw [List.length_append, mac]
    exact decide_eq_false (by omega)
  have aes : (s.tstate f == 7) = true := beq_iff_eq.2 secured
  have awake : decide (s.tstate f < 5) = false := decide_eq_false (by omega)
  refine ⟨fun wrong => ?_, fun right st data runs => ?_⟩
  · unfold State.tagCommand
    dsimp only
    rw [hears, awake, first, aes, cut, if_pos rfl, List.take_left, List.drop_left, long, bne_iff_ne.2 wrong]
    simp only [Bool.not_true, Bool.or_self, bne_self_eq_false, Bool.false_and, Bool.false_eq_true, if_false, Bool.or_true, Bool.and_self, if_true]
  · unfold State.tagCommand
    dsimp only
    rw [hears, awake, first, aes, cut, if_pos rfl, List.take_left, List.drop_left, long, ← right]
    simp only [Bool.not_true, Bool.or_self, bne_self_eq_false, Bool.false_and, Bool.false_eq_true, if_false, Bool.and_false, length, ne_eq, not_true_eq_false, or_self,
      runs]
    rfl

/-- What TAG_READ gives from a command of right code and length. -/
def tagReadBody (f : Nat) (chk : WordCheck) (s : State) (m : List Byte) : State × Nat × List Byte :=
  let b := leAt m 1 2
  if 1023 < b then (s, 3, []) else if !s.tagPermits f b 0 then (s, 2, []) else if chk == .uncorrectable then (s, 6, []) else (s, 0, s.tagBlock f b)

theorem exec_tagRead_eq (s : State) (f : Fin 4) (inf : List Byte) (chk : WordCheck) :
    exec (.tagRead f ⟨inf, chk⟩) s = .next (s.tagCommand f.val 0x10 3 inf (tagReadBody f.val chk)) := rfl

/-- TAG_READ by its block, the sector's right and the check of the words read (R409, R413, R414). -/
theorem tagReadBody_cases (s : State) (f : Nat) (c lo hi : Byte) (chk : WordCheck) :
    let b := lo.toNat + 256 * hi.toNat
    (b ≤ 1023 → s.tagPermits f b 0 = true → chk ≠ .uncorrectable → tagReadBody f chk s [c, lo, hi] = (s, 0, s.tagBlock f b)) ∧
    (b ≤ 1023 → s.tagPermits f b 0 = true → tagReadBody f .uncorrectable s [c, lo, hi] = (s, 6, [])) ∧
    (b ≤ 1023 → s.tagPermits f b 0 = false → tagReadBody f chk s [c, lo, hi] = (s, 2, [])) ∧
    (1023 < b → tagReadBody f chk s [c, lo, hi] = (s, 3, [])) := by
  refine ⟨fun low permits good => ?_, fun low permits => ?_, fun low refuses => ?_, fun high => ?_⟩
  all_goals
    unfold tagReadBody
    dsimp only
    rw [leAt_block]
  · rw [if_neg (Nat.not_lt.2 low), if_neg (not_not_true permits), if_neg (fun bad => good (beq_iff_eq.1 bad))]
  · rw [if_neg (Nat.not_lt.2 low), if_neg (not_not_true permits)]
    exact if_pos rfl
  · rw [if_neg (Nat.not_lt.2 low)]
    exact if_pos (not_true refuses)
  · exact if_pos high

/-- A returned tag keeps K and its UID. -/
theorem rfOf_toProtocol (s : State) (f : Nat) : (s.toProtocol f).rfOf f = { s.rfOf f with ks := [], ctr := 0 } := by
  rw [State.toProtocol, State.setTstate, rfOf_setF, rfOf_updRf]

theorem rngHealthy_toProtocol (s : State) (f : Nat) : (s.toProtocol f).rngHealthy = s.rngHealthy := by
  have other : Reg.RNG_STAT ≠ Reg.RF_STAT f := by
    show 0x4004 ≠ 0x304004 + 0x100 * f
    omega
  rw [State.rngHealthy, State.toProtocol, State.setTstate, flag_setF_ne _ _ other]
  exact flag_congr rfl _

/-- What TAG_WRITE gives from a command of right code and length. -/
def tagWriteBody (f : Nat) (s : State) (m : List Byte) : State × Nat × List Byte :=
  let b := leAt m 1 2
  if 1023 < b then (s, 3, []) else if !s.tagPermits f b 1 then (s, 2, []) else (s.writeTag f b (slice m 3 16) true, 0, [])

theorem exec_tagWrite_eq (s : State) (f : Fin 4) (inf : List Byte) :
    exec (.tagWrite f inf) s = .next (s.tagCommand f.val 0x11 19 inf (tagWriteBody f.val)) := rfl

/-- TAG_WRITE by its block and the sector's right (R409, R413, R414). -/
theorem tagWriteBody_cases (s : State) (f : Nat) (c lo hi : Byte) (data : List Byte) (length : data.length = 16) :
    let b := lo.toNat + 256 * hi.toNat
    (b ≤ 1023 → s.tagPermits f b 1 = true → tagWriteBody f s (c :: lo :: hi :: data) = (s.writeTag f b data true, 0, [])) ∧
    (b ≤ 1023 → s.tagPermits f b 1 = false → tagWriteBody f s (c :: lo :: hi :: data) = (s, 2, [])) := by
  refine ⟨fun low permits => ?_, fun low refuses => ?_⟩
  all_goals
    unfold tagWriteBody
    dsimp only
    rw [leAt_block, if_neg (Nat.not_lt.2 low)]
  · rw [if_neg (not_not_true permits), show slice (c :: lo :: hi :: data) 3 16 = data from slice_append [c, lo, hi] data rfl length]
  · exact if_pos (not_true refuses)

/-- What PWD gives from a command of right code and length. -/
def pwdBody (f : Nat) (s : State) (m : List Byte) : State × Nat × List Byte :=
  let t := s.reg (Reg.RF_TPWD f)
  let u := s.rfOf f
  if t = 0 then (s.authFail f, 4, [])
  else if s.getF (Fld.RF_CFG_PWDLIM f) ≤ u.pwdFails then (s, 5, [])
  else if leAt m 1 4 = t.toNat then
    (((s.setRf f { u with pwdFails := 0, ks := [], ctr := 0 }).incF (Fld.RF_CNT_AUTHOK f)).setTstate f 6, 0, [])
  else ((s.setRf f { u with pwdFails := u.pwdFails + 1 }).authFail f, 4, [])

theorem exec_pwd_eq (s : State) (f : Fin 4) (inf : List Byte) : exec (.pwd f inf) s = .next (s.tagCommand f.val 0x20 5 inf (pwdBody f.val)) := rfl

/-- PWD by TPWD and the failures counted (R412). -/
theorem pwdBody_cases (s : State) (f : Nat) (c : Byte) (pw : List Byte) (length : pw.length = 4) :
    let t := s.reg (Reg.RF_TPWD f)
    let limit := s.getF (Fld.RF_CFG_PWDLIM f)
    (t ≠ 0 → limit ≤ (s.rfOf f).pwdFails → pwdBody f s (c :: pw) = (s, 5, [])) ∧
    (t ≠ 0 → (s.rfOf f).pwdFails < limit → ofLe pw = t.toNat → pwdBody f s (c :: pw) =
      (((s.updRf f (fun u => { u with pwdFails := 0, ks := [], ctr := 0 })).incF (Fld.RF_CNT_AUTHOK f)).setTstate f 6, 0, [])) ∧
    (t ≠ 0 → (s.rfOf f).pwdFails < limit → ofLe pw ≠ t.toNat →
      pwdBody f s (c :: pw) = ((s.updRf f (fun u => { u with pwdFails := u.pwdFails + 1 })).authFail f, 4, [])) ∧
    (t = 0 → pwdBody f s (c :: pw) = (s.authFail f, 4, [])) := by
  have value : leAt (c :: pw) 1 4 = ofLe pw := congrArg ofLe (slice_append [c] pw rfl length)
  refine ⟨fun set reached => ?_, fun set below right => ?_, fun set below wrong => ?_, fun unset => if_pos unset⟩
  all_goals refine (if_neg set).trans ?_
  · exact if_pos reached
  · exact (if_neg (Nat.not_le.2 below)).trans (if_pos (value.trans right))
  · exact (if_neg (Nat.not_le.2 below)).trans (if_neg (fun is => wrong (value.symm.trans is)))

/-- What AUTH1 gives from a command of right code and length. -/
def auth1Body (f : Nat) (s : State) (m : List Byte) : State × Nat × List Byte :=
  let s := s.toProtocol f
  if (s.rfOf f).key.isEmpty || !s.rngHealthy then (s.updRf f (fun u => { u with ra := [], rb := [] }), 4, [])
  else
    let d := s.drawHw 16
    let s := d.2.updRf f (fun u => { u with ra := slice m 1 16, rb := d.1 })
    let u := s.rfOf f
    (s, 0, u.rb ++ (aesCmac u.key (0x54#8 :: u.ra ++ u.rb ++ u.uid7)).take 8)

theorem exec_auth1_eq (s : State) (f : Fin 4) (inf : List Byte) :
    exec (.auth1 f inf) s = .next (s.tagCommand f.val 0x21 17 inf (auth1Body f.val)) := rfl

/-- AUTH1 with K and a healthy generator (R410). -/
theorem auth1Body_draws (s : State) (f : Nat) (c : Byte) (ra : List Byte) (length : ra.length = 16) (key : (s.rfOf f).key ≠ []) (healthy : s.rngHealthy = true) :
    let d := (s.toProtocol f).drawHw 16
    auth1Body f s (c :: ra) = (d.2.updRf f (fun u => { u with ra := ra, rb := d.1 }), 0,
      d.1 ++ (aesCmac (s.rfOf f).key (0x54#8 :: ra ++ d.1 ++ (s.rfOf f).uid7)).take 8) := by
  intro d
  have able : ¬((((s.toProtocol f).rfOf f).key.isEmpty || !(s.toProtocol f).rngHealthy) = true) := by
    rw [rfOf_toProtocol, rngHealthy_toProtocol, healthy, Bool.not_true, Bool.or_false]
    exact fun empty => key (List.isEmpty_iff.1 empty)
  have tag : d.2.rfOf f = { s.rfOf f with ks := [], ctr := 0 } := (rfOf_congr (draws_drawHw _ 16).rf f).trans (rfOf_toProtocol s f)
  have challenge : slice (c :: ra) 1 16 = ra := slice_append [c] ra rfl length
  refine (if_neg able).trans ?_
  rw [challenge, rfOf_updRf, show ((s.toProtocol f).drawHw 16).2.rfOf f = _ from tag]
  rfl

/-- AUTH1 without K or without random data (R266, R410). -/
theorem auth1Body_fails (s : State) (f : Nat) (m : List Byte) (unable : (s.rfOf f).key = [] ∨ s.rngHealthy = false) :
    auth1Body f s m = ((s.toProtocol f).updRf f (fun u => { u with ra := [], rb := [] }), 4, []) := by
  refine if_pos ?_
  rw [rfOf_toProtocol, rngHealthy_toProtocol]
  obtain none_ | ill := unable
  · exact Bool.or_eq_true_iff.2 (.inl (List.isEmpty_iff.2 none_))
  · exact Bool.or_eq_true_iff.2 (.inr (not_true ill))

/-- What AUTH2 gives from a command of right code and length. -/
def auth2Body (f : Nat) (s : State) (m : List Byte) : State × Nat × List Byte :=
  let u := s.rfOf f
  let done := s.setRf f { u with ra := [], rb := [] }
  if !u.key.isEmpty && !u.rb.isEmpty && m.drop 1 == (aesCmac u.key (0x52#8 :: u.rb ++ u.ra)).take 8 then
    let s := done.updRf f (fun v => { v with ks := aesCmac u.key (0x53#8 :: u.ra ++ u.rb), ctr := 0 })
    ((s.incF (Fld.RF_CNT_AUTHOK f)).setTstate f 7, 0, [])
  else (done.authFail f, 4, [])

theorem exec_auth2_eq (s : State) (f : Fin 4) (inf : List Byte) :
    exec (.auth2 f inf) s = .next (s.tagCommand f.val 0x22 9 inf (auth2Body f.val)) := rfl

/-- The state that a passed handshake leaves before its answer (R410). -/
def State.authPassed (s : State) (f : Nat) : State :=
  let u := s.rfOf f
  (((s.setRf f { u with ra := [], rb := [] }).updRf f (fun v => { v with ks := aesCmac u.key (0x53#8 :: u.ra ++ u.rb), ctr := 0 })).incF
    (Fld.RF_CNT_AUTHOK f)).setTstate f 7

/-- AUTH2 by the code it brings (R410). -/
theorem auth2Body_cases (s : State) (f : Nat) (c : Byte) (tr : List Byte) :
    let u := s.rfOf f
    let right := u.key ≠ [] ∧ u.rb ≠ [] ∧ tr = (aesCmac u.key (0x52#8 :: u.rb ++ u.ra)).take 8
    (¬right → auth2Body f s (c :: tr) = ((s.updRf f (fun u => { u with ra := [], rb := [] })).authFail f, 4, [])) ∧
    (right → auth2Body f s (c :: tr) = (s.authPassed f, 0, [])) := by
  intro u right
  have checks : ((!u.key.isEmpty && !u.rb.isEmpty && (c :: tr).drop 1 == (aesCmac u.key (0x52#8 :: u.rb ++ u.ra)).take 8) = true) ↔ right := by
    rw [Bool.and_eq_true, Bool.and_eq_true, Bool.not_eq_true', Bool.not_eq_true', List.isEmpty_eq_false_iff, List.isEmpty_eq_false_iff, beq_iff_eq,
      and_assoc]
    rfl
  exact ⟨fun wrong => if_neg (fun is => wrong (checks.1 is)), fun is => if_pos (checks.2 is)⟩

theorem setRf_fields_rest (s : State) (f : Nat) (x : RfUnit) (g : RfUnit → RfUnit) (a : FieldAt) {b : FieldAt} (n k : Nat) (o : Output) (bit : b.hi < 32)
    (fits : k < 2 ^ (b.hi + 1 - b.lo)) :
    let t := ((((s.setRf f x).updRf f g).setF a n).setF b k).emit o
    t.getF b = k ∧ t.rfOf f = g x ∧ t.tags = s.tags ∧ t.pairs = s.pairs :=
  ⟨(getF_congr rfl _).trans ((getF_setF_self _ _ bit).trans (Nat.mod_eq_of_lt fits)),
    ((rfOf_congr rfl f).trans (rfOf_updRf _ f g)).trans (congrArg g (rfOf_setRf s f x)), rfl, rfl⟩

/-- A passed handshake leaves the tag in SECURED_AES under KS (R410). -/
theorem authPassed_rest (s : State) (f : Nat) (bs : List Byte) :
    let t := (s.authPassed f).tagAnswer f bs
    t.tstate f = 7 ∧ (t.rfOf f).ks = aesCmac (s.rfOf f).key (0x53#8 :: (s.rfOf f).ra ++ (s.rfOf f).rb) ∧ t.tags = s.tags ∧ t.pairs = s.pairs := by
  obtain ⟨state, tag, tags, pairs⟩ := setRf_fields_rest s f { s.rfOf f with ra := [], rb := [] }
    (fun v => { v with ks := aesCmac (s.rfOf f).key (0x53#8 :: (s.rfOf f).ra ++ (s.rfOf f).rb), ctr := 0 }) (Fld.RF_CNT_AUTHOK f) (b := Fld.RF_STAT_TSTATE f) _ 7
    (.frame (50 + f) 0 bs) (show 27 < 32 by decide) (show 7 < 2 ^ 4 by decide)
  exact ⟨state, congrArg RfUnit.ks tag, tags, pairs⟩

theorem tagResponse_done (data : List Byte) : tagResponse 0 data = 0#8 :: data := rfl

/-- What INFO gives (R409). -/
def infoBody (f : Nat) (s : State) (_ : List Byte) : State × Nat × List Byte := (s, 0, (s.rfOf f).uid7 ++ leBytes 1 (s.tstate f) ++ leBytes 2 1024)

theorem exec_info_eq (s : State) (f : Fin 4) (inf : List Byte) : exec (.info f inf) s = .next (s.tagCommand f.val 0x30 1 inf (infoBody f.val)) := rfl

end

/-! ## The wired side -/

section
variable {s t : State} {p f : Nat} {v : Word}

theorem tkey_admits (supervisor : s.isSupervisor p = true) (armed : s.armedJob p ≠ none) (aligned : v.toNat % 32 = 0) :
    ¬((!s.isSupervisor p || (s.armedJob p).isNone || v.toNat % 32 != 0) = true) := by
  rw [supervisor, aligned]
  simpa using armed

/-- A blob that gives no key (R411). -/
theorem tkeyStore_refused {st code : Nat} (supervisor : s.isSupervisor p = true) (armed : s.armedJob p ≠ none) (some_ : v ≠ 0) (aligned : v.toNat % 32 = 0)
    (refused : s.portKey p v.toNat (s.getF (Fld.RF_TKEYIDX_INDEX f)) (s.getF (Fld.RF_CFG_TENANT f)) (· == 1) = .error (st, code)) :
    s.tkeyStore p f v = .ok (s.setTres p f st code) := by
  unfold State.tkeyStore
  rw [if_neg (tkey_admits supervisor armed aligned), if_neg some_, refused]

/-- A blob whose key is loaded (R411). -/
theorem tkeyStore_loads {key : List Byte} (supervisor : s.isSupervisor p = true) (armed : s.armedJob p ≠ none) (some_ : v ≠ 0) (aligned : v.toNat % 32 = 0)
    (loads : s.portKey p v.toNat (s.getF (Fld.RF_TKEYIDX_INDEX f)) (s.getF (Fld.RF_CFG_TENANT f)) (· == 1) = .ok (key, t)) :
    s.tkeyStore p f v = .ok (((t.updRf f (fun u => { u with key := key })).setF (Fld.RF_TKEYIDX_LOADED f) 1).setTres p f St.ok 0) := by
  unfold State.tkeyStore
  rw [if_neg (tkey_admits supervisor armed aligned), if_neg some_, loads]

/-- The staging registers of a master zeroed (R416). -/
def State.clearTstg (s : State) (p f : Nat) : State := (List.range 8).foldl (fun s k => s.setMreg p (Reg.RF_TSTG f k) 0) s

/-- The store to TSTG<7> by a pair of an armed job with room for the block (R416). -/
theorem tstgStore_taken {j : Job} (armed : s.armedJob p = some j) (job : j.src ≠ .load) (owns : s.ownsTenant p (s.getF (Fld.RF_CFG_TENANT f)) = true)
    (room : j.frameRoom 16 = true) (v : Word) :
    let g := fun k => (s.setMreg p (Reg.RF_TSTG f 7) v).mreg p (Reg.RF_TSTG f k)
    let t := (s.setMreg p (Reg.RF_TSTG f 7) v).clearTstg p f
    s.tstgStore p f 7 v = if g 5 ≠ 0 ∨ g 6 ≠ 0 then .ok (t.setTres p f St.param 0x01)
      else if !t.portOn (50 + f) then .ok (t.setTres p f St.portDisabled 0x40)
      else .ok ((t.stageFrame p ⟨50 + f, 0, fld 9 0 (g 0), wordsBytes [g 1, g 2, g 3, g 4]⟩).setTres p f St.ok 0) := by
  have own : ¬((!s.ownsTenant p (s.getF (Fld.RF_CFG_TENANT f)) || j.src == Stream.load || ((7 : Nat) == 7 && !j.frameRoom 16)) = true) := by
    rw [owns, room, beq_eq_false_iff_ne.2 job]
    exact Bool.false_ne_true
  unfold State.tstgStore
  rw [armed]
  exact (if_neg own).trans (if_neg (fun other => other rfl))

theorem portOn_clearTstg (n : Nat) : (s.clearTstg p f).portOn n = s.portOn n := flag_congr rfl _

theorem tstgStore_unarmed (idle : s.armedJob p = none) (v : Word) : s.tstgStore p f 7 v = busAt s (Reg.RF_TSTG f 7) := by
  unfold State.tstgStore
  rw [idle]

end

end Sys2Proof.Machine
end

section
/-! The statement about tag commands, keys and the tag store settled. -/

namespace Sys2Proof.Machine

/-- Settles O50: each command by its fields and the state's rights, and the registers of the wired side. -/
theorem tagCommandsKeysAndStore : Obligations.TagCommandsKeysAndStore := by
  refine ⟨fun s f hears => ?tag, fun s b p f => ?wired⟩
  case tag =>
    intro n u plain
    refine ⟨fun lo hi chk is => ?read, fun lo hi data is length => ?write, fun pw is length => ?pwd, fun ra is length key healthy => ?auth1,
      fun ra is length no => ?noAuth, fun tr is length => ?auth2, fun is => ?info, fun lo chk is => ?short, fun asleep inf chk => ?asleep,
      fun lo hi m secured mac => ?secured⟩
    case read =>
      intro b
      obtain ⟨block, bad, refused, high⟩ := tagReadBody_cases s n 0x10#8 lo hi chk
      refine ⟨fun low permits good => ?_, fun low permits => ?_, fun low refuses => ?_, fun over_ => ?_⟩
      all_goals refine (exec_tagRead_eq s f _ _).trans (congrArg Host.Outcome.next ?_)
      · exact tagCommand_plain hears is rfl rfl (block low permits good) rfl
      · exact tagCommand_plain hears is rfl rfl (bad low permits) rfl
      · exact tagCommand_plain hears is rfl rfl (refused low refuses) rfl
      · exact tagCommand_plain hears is rfl rfl (high over_) rfl
    case write =>
      intro b
      obtain ⟨written, refused⟩ := tagWriteBody_cases s n 0x11#8 lo hi data length
      refine ⟨fun low permits => ?_, fun low refuses => ?_⟩
      all_goals refine (exec_tagWrite_eq s f _).trans (congrArg Host.Outcome.next ?_)
      · exact tagCommand_plain hears is rfl (congrArg (· + 3) length) (written low permits) rfl
      · exact tagCommand_plain hears is rfl (congrArg (· + 3) length) (refused low refuses) rfl
    case pwd =>
      intro t limit
      obtain ⟨blocked, right, wrong, unset⟩ := pwdBody_cases s n 0x20#8 pw length
      refine ⟨fun set reached => ?_, fun set below is_ => ?_, fun set below not_ => ?_, fun none_ => ?_⟩
      all_goals refine (exec_pwd_eq s f _).trans (congrArg Host.Outcome.next ?_)
      · exact tagCommand_plain hears is rfl (congrArg (· + 1) length) (blocked set reached) rfl
      · exact tagCommand_plain hears is rfl (congrArg (· + 1) length) (right set below is_) rfl
      · exact tagCommand_plain hears is rfl (congrArg (· + 1) length) (wrong set below not_) rfl
      · exact tagCommand_plain hears is rfl (congrArg (· + 1) length) (unset none_) rfl
    case auth1 =>
      intro d
      refine (exec_auth1_eq s f _).trans (congrArg Host.Outcome.next ?_)
      exact tagCommand_plain hears is rfl (congrArg (· + 1) length) (auth1Body_draws s n 0x21#8 ra length key healthy) rfl
    case noAuth =>
      refine (exec_auth1_eq s f _).trans (congrArg Host.Outcome.next ?_)
      exact tagCommand_plain hears is rfl (congrArg (· + 1) length) (auth1Body_fails s n _ no) rfl
    case auth2 =>
      intro right done
      obtain ⟨fails, passes⟩ := auth2Body_cases s n 0x22#8 tr
      refine ⟨fun wrong => ?_, fun is_ => ⟨(s.authPassed n).tagAnswer n [0#8], ?_, authPassed_rest s n _⟩⟩
      all_goals refine (exec_auth2_eq s f _).trans (congrArg Host.Outcome.next ?_)
      · exact tagCommand_plain hears is rfl (congrArg (· + 1) length) (fails wrong) rfl
      · exact tagCommand_plain hears is rfl (congrArg (· + 1) length) (passes is_) rfl
    case info =>
      refine (exec_info_eq s f _).trans (congrArg Host.Outcome.next ?_)
      exact tagCommand_plain hears is rfl rfl (show infoBody n s _ = _ from rfl) rfl
    case short =>
      exact (exec_tagRead_eq s f _ _).trans (congrArg Host.Outcome.next (tagCommand_length (inf := [0x10#8, lo]) hears is rfl (fun is_ => absurd is_ (show 2 ≠ 3 by decide)) _))
    case asleep =>
      exact ⟨(exec_tagRead_eq s f _ _).trans (congrArg Host.Outcome.next (tagCommand_asleep asleep _)),
        (exec_info_eq s f _).trans (congrArg Host.Outcome.next (tagCommand_asleep asleep _))⟩
    case secured =>
      intro b
      obtain ⟨wrong, right⟩ := tagCommand_secured (u := s) (inf := [0x10#8, lo, hi]) (cmd := 0x10) (len := 3) (m := m) hears secured (List.cons_ne_nil _ _) rfl rfl mac
        (tagReadBody n .clean)
      rw [show [0x10#8, lo, hi] ++ m = 0x10#8 :: lo :: hi :: m from rfl] at wrong right
      refine ⟨fun bad => ?_, fun good low permits => ?_⟩
      all_goals refine (exec_tagRead_eq s f _ _).trans (congrArg Host.Outcome.next ?_)
      · rw [wrong bad]
      · rw [right good _ _ ((tagReadBody_cases s n 0x10#8 lo hi .clean).1 low permits (by decide)), tagResponse_done]
  case wired =>
    intro n at_ fault tenant staged word cleared
    refine ⟨fun reaches supervisor armed => ⟨?zero, fun v st code some_ aligned refused => ?blobRefused, fun v key t some_ aligned loads => ?blob⟩,
      fun v reaches other => ?notSupervisor, fun v j reaches armed job owns room => ⟨fun zero5 zero6 on => ?staged, fun bad => ?badWord⟩,
      fun v reaches idle => ?notArmed, fun off chk => ?load⟩
    case zero =>
      exact congrArg Host.Outcome.next (pairAccess_ok reaches ((if_neg (tkey_admits supervisor armed rfl)).trans (if_pos rfl)))
    case blobRefused =>
      exact congrArg Host.Outcome.next (pairAccess_ok reaches (tkeyStore_refused supervisor armed some_ aligned refused))
    case blob =>
      exact congrArg Host.Outcome.next (pairAccess_ok reaches (tkeyStore_loads supervisor armed some_ aligned loads))
    case notSupervisor =>
      refine congrArg Host.Outcome.next (pairAccess_fail reaches (if_pos ?_))
      rw [other]
      rfl
    case staged =>
      refine congrArg Host.Outcome.next (pairAccess_ok reaches ((tstgStore_taken armed job owns room v).trans ?_))
      refine (if_neg (fun set => set.elim (· zero5) (· zero6))).trans (if_neg (not_not_true ?_))
      exact (portOn_clearTstg _).trans ((flag_congr rfl _).trans on)
    case badWord =>
      exact congrArg Host.Outcome.next (pairAccess_ok reaches ((tstgStore_taken armed job owns room v).trans (if_pos (.inl bad))))
    case notArmed =>
      exact congrArg Host.Outcome.next (pairAccess_fail reaches (tstgStore_unarmed idle v))
    case load =>
      intro o reaches
      refine ⟨fun owns good => ?_, fun cannot => ?_⟩
      · refine congrArg Host.Outcome.next (pairAccess_ok reaches (congrArg Prod.fst (if_neg ?_)))
        rw [owns, Bool.not_true, Bool.false_or]
        exact fun bad => good (beq_iff_eq.1 bad)
      · refine congrArg Host.Outcome.next (pairAccess_fail reaches (congrArg Prod.fst (if_pos ?_)))
        exact Bool.or_eq_true_iff.2 (cannot.imp not_true beq_iff_eq.2)

end Sys2Proof.Machine
end

section
/-! SUPPORT. The head ports (R420–R431): what keying, its end and the loss of a head leave, and the order of a command's checks. -/

namespace Sys2Proof.Machine

section
variable {s t u : State} {h : Nat}

theorem headOf_setHead (s : State) (h : Nat) (x : HeadUnit) : (s.setHead h x).headOf h = x := Table.get_set_self (fun _ => ({} : HeadUnit)) s.heads h x

theorem headOf_updHead (s : State) (h : Nat) (g : HeadUnit → HeadUnit) : (s.updHead h g).headOf h = g (s.headOf h) := headOf_setHead _ _ _

theorem headOf_congr (same : t.heads = s.heads) (h : Nat) : t.headOf h = s.headOf h := by rw [State.headOf, same, State.headOf]

theorem headOf_setF (s : State) (f : FieldAt) (n h : Nat) : (s.setF f n).headOf h = s.headOf h := rfl

theorem headOf_setPresent (s : State) (k : Nat) (b : Bool) (h : Nat) : (s.setPresent k b).headOf h = s.headOf h := by
  rw [State.setPresent, headOf_setF, headOf_setF]

theorem flag_updHead (s : State) (h : Nat) (g : HeadUnit → HeadUnit) (f : FieldAt) : (s.updHead h g).flag f = s.flag f := flag_congr rfl f

theorem updHead_pairs (s : State) (h : Nat) (g : HeadUnit → HeadUnit) : (s.updHead h g).pairs = s.pairs := rfl

theorem updHead_hmem (s : State) (h : Nat) (g : HeadUnit → HeadUnit) : (s.updHead h g).hmem = s.hmem := rfl

/-- The heads, pairs and hearth memory that a log entry or a counter leaves alone, and STAT of head h. -/
structure State.HeadKept (h : Nat) (s t : State) : Prop where
  heads : t.heads = s.heads
  pairs : t.pairs = s.pairs
  hmem : t.hmem = s.hmem
  stat : t.reg (Reg.HEAD_STAT h) = s.reg (Reg.HEAD_STAT h)

theorem State.HeadKept.refl (h : Nat) (s : State) : s.HeadKept h s := ⟨rfl, rfl, rfl, rfl⟩

theorem State.HeadKept.trans (a : s.HeadKept h t) (b : t.HeadKept h u) : s.HeadKept h u :=
  ⟨b.heads.trans a.heads, b.pairs.trans a.pairs, b.hmem.trans a.hmem, b.stat.trans a.stat⟩

theorem State.HeadKept.flag (kept : s.HeadKept h t) {f : FieldAt} (own : f.off = Reg.HEAD_STAT h) : t.flag f = s.flag f := by
  rw [State.flag, State.getF, own, kept.stat, State.flag, State.getF, own]

theorem State.HeadKept.headOf (kept : s.HeadKept h t) : t.headOf h = s.headOf h := headOf_congr kept.heads h

theorem headKept_rest (regs : t.regs = s.regs) (heads : t.heads = s.heads) (pairs : t.pairs = s.pairs) (hmem : t.hmem = s.hmem) : s.HeadKept h t :=
  ⟨heads, pairs, hmem, reg_congr regs _⟩

theorem headKept_setReg (s : State) {o : Nat} (v : Word) (other : Reg.HEAD_STAT h ≠ o) : s.HeadKept h (s.setReg o v) :=
  ⟨rfl, rfl, rfl, State.reg_setReg_ne _ _ other⟩

theorem State.Logs.headKept (logs : s.Logs t) : s.HeadKept h t := by
  have heads := congrArg State.heads logs.rest
  have above (o : Nat) (low : o < 0x302004) : Reg.HEAD_STAT h ≠ o := by
    show 0x302004 + 0x40 * h ≠ o
    omega
  refine ⟨heads, logs.untouched.pairs, logs.untouched.hmem, logs.reg _ (above _ ?_) (above _ ?_) ?_⟩
  · decide
  · decide
  · exact above _ (show 0x200000 + 0x100 * 125 < 0x302004 by decide)

theorem headKept_portLog (s : State) (n status code : Nat) (j : Word) : s.HeadKept h (s.portLog n status code j) := (logs_logEvent s _ _ _ _ _ _).headKept

theorem headKept_foldl {α : Type} (f : State → α → State) (each : ∀ (s : State) a, s.HeadKept h (f s a)) (l : List α) (s : State) : s.HeadKept h (l.foldl f s) :=
  List.foldlRecOn l f (.refl h s) fun t kept a _ => kept.trans (each t a)

theorem State.Draws.headKept (draws : s.Draws t) : s.HeadKept h t := by
  have heads := congrArg State.heads draws.rest
  refine ⟨heads, draws.pairs, draws.hmem, draws.reg _ ?_⟩
  show 0x302004 + 0x40 * h ≠ 0x4014
  omega

/-- The session key destroyed (R424–R426). -/
theorem dropHeadKey_leaves (s : State) (h : Nat) :
    (s.dropHeadKey h).headOf h = { s.headOf h with ks := [], rd := [], tx := 0, rx := none } ∧ (s.dropHeadKey h).headKeyed h = false ∧
    (s.dropHeadKey h).pairs = s.pairs ∧ (s.dropHeadKey h).hmem = s.hmem := by
  refine ⟨by rw [State.dropHeadKey, headOf_setF, headOf_updHead], ?_, rfl, rfl⟩
  exact (flag_setF_self _ 0 rfl (show 30 < 32 by decide)).trans (by decide)

/-- The notices of a head dropped (R423, R28). -/
theorem dropNotices_leaves (s : State) (h st code : Nat) :
    let t := s.dropNotices h st code
    t.headOf h = { s.headOf h with notices := [] } ∧ t.headKeyed h = s.headKeyed h ∧ t.pairs = s.pairs ∧ t.hmem = s.hmem := by
  intro t
  have logged : s.HeadKept h ((s.headOf h).notices.foldl (fun s x => (s.portLog (10 + h) st code x.1).incSat (Reg.HEAD_DROP h)) s) :=
    headKept_foldl _ (fun s x => (headKept_portLog s _ _ _ _).trans (headKept_setReg _ _ (by show 0x302004 + 0x40 * h ≠ 0x30201C + 0x40 * h; omega))) _ _
  refine ⟨?_, (flag_congr rfl _).trans (logged.flag rfl), logged.pairs, logged.hmem⟩
  exact (headOf_updHead _ h _).trans (congrArg (fun u : HeadUnit => { u with notices := [] }) logged.headOf)

/-- A head without its session (R423, R426). -/
theorem headUnkey_leaves (s : State) (h : Nat) :
    let t := s.headUnkey h
    (t.headOf h).ks = [] ∧ (t.headOf h).notices = [] ∧ t.headKeyed h = false ∧ t.pairs = s.pairs ∧ t.hmem = s.hmem := by
  intro t
  obtain ⟨unit, keyed, pairs, hmem⟩ := dropHeadKey_leaves s h
  obtain ⟨unit', keyed', pairs', hmem'⟩ := dropNotices_leaves (s.dropHeadKey h) h St.portAbsent 0
  have same : t.headOf h = ((s.dropHeadKey h).dropNotices h St.portAbsent 0).headOf h := headOf_congr rfl h
  rw [same, unit', unit]
  exact ⟨rfl, rfl, (flag_congr rfl _).trans (keyed'.trans keyed), pairs'.trans pairs, hmem'.trans hmem⟩

/-- STAT of a head that is present no more and LOST (R423). -/
theorem absent_lost (s : State) (h : Nat) :
    let t := (s.setPresent h false).setF (Fld.HEAD_STAT_LOST h) 1
    t.headPresent h = false ∧ t.headKeyed h = s.headKeyed h ∧ t.flag (Fld.HEAD_STAT_LOST h) = true ∧ t.pairs = s.pairs ∧ t.hmem = s.hmem := by
  have other : Reg.HEAD_STAT h ≠ Reg.HEAD_PRESENT := by
    show 0x302004 + 0x40 * h ≠ 0x302800
    omega
  refine ⟨?_, ?_, flag_setF_b2n _ true rfl (show 29 < 32 by decide), ?_, ?_⟩
  · rw [State.headPresent, State.setPresent, flag_setF_apart _ _ (show 31 < 32 by decide) (.inr (show 29 < 31 by decide)), flag_setF_ne _ _ other]
    exact flag_setF_b2n _ false rfl (show 31 < 32 by decide)
  · rw [State.headKeyed, State.setPresent, flag_setF_apart _ _ (show 30 < 32 by decide) (.inr (show 29 < 30 by decide)), flag_setF_ne _ _ other,
      flag_setF_apart _ _ (show 30 < 32 by decide) (.inl (show 30 < 31 by decide)), State.headKeyed]
  · rw [State.setF_pairs, State.setPresent, State.setF_pairs, State.setF_pairs]
  · rw [State.setF_hmem, State.setPresent, State.setF_hmem, State.setF_hmem]

/-- The loss of a head (R423). -/
theorem headLost_leaves (s : State) (h : Nat) :
    let t := s.headLost h
    t.headPresent h = false ∧ t.headKeyed h = false ∧ (t.headOf h).ks = [] ∧ (t.headOf h).notices = [] ∧ t.flag (Fld.HEAD_STAT_LOST h) = true ∧
      t.pairs = s.pairs ∧ t.hmem = s.hmem := by
  obtain ⟨ks, notices, keyed, pairs, hmem⟩ := headUnkey_leaves s h
  obtain ⟨absent, keyed', lost, pairs', hmem'⟩ := absent_lost (s.headUnkey h) h
  have logged := headKept_portLog (h := h) ((((s.headUnkey h).setPresent h false).setF (Fld.HEAD_STAT_LOST h) 1).updHead h (fun u => { u with misses := 0 }))
    (10 + h) St.portAbsent 0 0
  have unit : (s.headLost h).headOf h = { (s.headUnkey h).headOf h with misses := 0 } := by
    refine logged.headOf.trans ?_
    rw [headOf_updHead, headOf_setF, headOf_setPresent]
  refine ⟨(logged.flag rfl).trans ((flag_updHead _ h _ _).trans absent), (logged.flag rfl).trans ((flag_updHead _ h _ _).trans (keyed'.trans keyed)), ?_, ?_,
    (logged.flag rfl).trans ((flag_updHead _ h _ _).trans lost), logged.pairs.trans ((updHead_pairs _ h _).trans (pairs'.trans pairs)),
    logged.hmem.trans ((updHead_hmem _ h _).trans (hmem'.trans hmem))⟩
  · rw [unit]
    exact ks
  · rw [unit]
    exact notices

/-- A plain frame sent. -/
theorem headKept_sendPlain (s : State) (k type : Nat) (payload : List Byte) : s.HeadKept h (s.sendPlain k type payload) :=
  (draws_freshBytes s 4).headKept.trans (headKept_rest rfl rfl rfl rfl)

/-! ## Probes and keying -/

theorem probe_idle {hd : Fin 32} (idle : s.portOn (10 + hd.val) = false ∨ ¬due s.beatNow 32 (s.headOf hd.val).probeAt = true) :
    exec (.headProbe hd) s = .next s := by
  refine congrArg Host.Outcome.next (if_pos (Bool.or_eq_true_iff.2 (idle.imp not_true fun early => not_true (Bool.eq_false_iff.2 early))))

/-- A PROBE that finds the one before it answered, or the head still allowed to miss (R423). -/
theorem probe_sent {hd : Fin 32} (on : s.portOn (10 + hd.val) = true) (isDue : due s.beatNow 32 (s.headOf hd.val).probeAt = true)
    (answered : (s.headOf hd.val).probing = false) (held : s.headPresent hd.val = false ∨ (s.headOf hd.val).misses < 3) :
    exec (.headProbe hd) s = .next (((s.updHead hd.val (fun u => { u with probeAt := some s.beatNow })).updHead hd.val
      (fun u => { u with probing := true })).sendPlain hd.val HeadType.probe []) := by
  have able : ¬((!s.portOn (10 + hd.val) || !due s.beatNow 32 (s.headOf hd.val).probeAt) = true) := by
    rw [on, isDue]
    decide
  refine congrArg Host.Outcome.next ((if_neg able).trans ?_)
  have unit := headOf_updHead s hd.val (fun u => { u with probeAt := some s.beatNow })
  have present := flag_updHead s hd.val (fun u => { u with probeAt := some s.beatNow }) (Fld.HEAD_STAT_PRESENT hd.val)
  revert unit present
  dsimp only
  generalize s.updHead hd.val (fun u => { u with probeAt := some s.beatNow }) = t
  intro unit present
  have open_ : ¬((t.headOf hd.val).probing = true) := by
    rw [unit]
    exact Bool.eq_false_iff.1 answered
  have kept : ¬((t.headPresent hd.val && decide (3 ≤ (t.headOf hd.val).misses)) = true) := by
    rw [State.headPresent, present, unit, Bool.and_eq_true, decide_eq_true_eq]
    rintro ⟨here, late⟩
    exact held.elim (fun away => Bool.eq_false_iff.1 away here) (fun few => Nat.not_le.2 few late)
  rw [if_neg open_, if_neg kept]

/-- The third PROBE in a row without an answer (R423). -/
theorem probe_loses {hd : Fin 32} (on : s.portOn (10 + hd.val) = true) (isDue : due s.beatNow 32 (s.headOf hd.val).probeAt = true)
    (open_ : (s.headOf hd.val).probing = true) (present : s.headPresent hd.val = true) (third : (s.headOf hd.val).misses = 2) :
    exec (.headProbe hd) s = .next (((((s.updHead hd.val (fun u => { u with probeAt := some s.beatNow })).updHead hd.val
      (fun u => { u with misses := u.misses + 1 })).headLost hd.val).updHead hd.val (fun u => { u with probing := true })).sendPlain hd.val HeadType.probe []) := by
  have able : ¬((!s.portOn (10 + hd.val) || !due s.beatNow 32 (s.headOf hd.val).probeAt) = true) := by
    rw [on, isDue]
    decide
  refine congrArg Host.Outcome.next ((if_neg able).trans ?_)
  dsimp only
  rw [headOf_updHead, if_pos open_, headOf_updHead, headOf_updHead, State.headPresent, flag_updHead, flag_updHead, if_pos]
  exact Bool.and_eq_true_iff.2 ⟨present, decide_eq_true (Nat.le_of_eq (congrArg (· + 1) third.symm))⟩

/-- A head lost, and the PROBE after it sent (R423). -/
theorem probeAfterLoss_leaves (s : State) (h : Nat) :
    let t := ((s.headLost h).updHead h (fun u => { u with probing := true })).sendPlain h HeadType.probe []
    t.headPresent h = false ∧ t.headKeyed h = false ∧ (t.headOf h).ks = [] ∧ (t.headOf h).notices = [] ∧ t.flag (Fld.HEAD_STAT_LOST h) = true ∧
      t.pairs = s.pairs ∧ t.hmem = s.hmem := by
  have facts := headLost_leaves s h
  revert facts
  dsimp only
  generalize s.headLost h = u
  rintro ⟨absent, unkeyed, ks, notices, lost, pairs, hmem⟩
  have sent := headKept_sendPlain (h := h) (u.updHead h (fun u => { u with probing := true })) h HeadType.probe []
  refine ⟨(sent.flag rfl).trans ((flag_updHead _ h _ _).trans absent), (sent.flag rfl).trans ((flag_updHead _ h _ _).trans unkeyed), ?_, ?_,
    (sent.flag rfl).trans ((flag_updHead _ h _ _).trans lost), sent.pairs.trans pairs, sent.hmem.trans hmem⟩
  · exact (congrArg HeadUnit.ks (sent.headOf.trans (headOf_updHead _ h _))).trans ks
  · exact (congrArg HeadUnit.notices (sent.headOf.trans (headOf_updHead _ h _))).trans notices

/-- The third PROBE in a row without an answer: what it leaves (R423). -/
theorem probe_loses_head {hd : Fin 32} (on : s.portOn (10 + hd.val) = true) (isDue : due s.beatNow 32 (s.headOf hd.val).probeAt = true)
    (open_ : (s.headOf hd.val).probing = true) (present : s.headPresent hd.val = true) (third : (s.headOf hd.val).misses = 2) :
    ∃ t : State, exec (.headProbe hd) s = .next t ∧ t.headPresent hd.val = false ∧ t.headKeyed hd.val = false ∧ (t.headOf hd.val).ks = [] ∧
      (t.headOf hd.val).notices = [] ∧ t.flag (Fld.HEAD_STAT_LOST hd.val) = true ∧ t.pairs = s.pairs ∧ t.hmem = s.hmem := by
  obtain ⟨absent, unkeyed, ks, notices, lost, pairs, hmem⟩ := probeAfterLoss_leaves
    ((s.updHead hd.val (fun u => { u with probeAt := some s.beatNow })).updHead hd.val (fun u => { u with misses := u.misses + 1 })) hd.val
  exact ⟨_, probe_loses on isDue open_ present third, absent, unkeyed, ks, notices, lost, pairs, hmem⟩

/-- The answer to a PROBE of a head that is new or the same (R423). -/
theorem present_taken {hd : Fin 32} {hid : List Byte} (on : s.portOn (10 + hd.val) = true) (length : hid.length = 16)
    (open_ : (s.headOf hd.val).probing = true) (same : s.headPresent hd.val = true → (s.headOf hd.val).hid = hid) :
    exec (.present hd hid) s = .next (((s.updHead hd.val (fun u => { u with hid := hid, misses := 0, probing := false })).setPresent hd.val
      true).startKeying hd.val) := by
  have stays : ¬((s.headPresent hd.val && (s.headOf hd.val).hid != hid) = true) := by
    rw [Bool.and_eq_true, bne_iff_ne]
    exact fun ⟨here, other⟩ => other (same here)
  refine congrArg Host.Outcome.next ((if_neg (not_not_true on)).trans ((if_neg (not_not.2 length)).trans ((if_neg (not_not_true open_)).trans ?_)))
  dsimp only
  rw [if_neg stays]

theorem present_unasked {hd : Fin 32} {hid : List Byte} (on : s.portOn (10 + hd.val) = true) (length : hid.length = 16)
    (answered : (s.headOf hd.val).probing = false) : exec (.present hd hid) s = .next s := by
  refine congrArg Host.Outcome.next ((if_neg (not_not_true on)).trans ((if_neg (not_not.2 length)).trans ?_))
  exact if_pos (not_true answered)

theorem present_malformed {hd : Fin 32} {hid : List Byte} (on : s.portOn (10 + hd.val) = true) (wrong : hid.length ≠ 16) :
    exec (.present hd hid) s = .next (s.incF (Fld.HEAD_ERRCNT_LINE hd.val)) := by
  refine congrArg Host.Outcome.next ((if_neg (not_not_true on)).trans ?_)
  exact if_pos wrong

/-- KEYX2 while its keying is under way (R425). -/
theorem keyx2_cases {hd : Fin 32} {rh : List Byte} (on : s.portOn (10 + hd.val) = true) (length : rh.length = 16) (keying : (s.headOf hd.val).rd ≠ []) :
    let h := hd.val
    let u := s.headOf h
    let ks := aesCmac u.key (0x48#8 :: u.rd ++ rh ++ u.hid)
    let keyed := s.updHead h (fun u => { u with ks := ks, rd := [], tx := 0, rx := some 0, nextSeq := 0 })
    exec (.keyx2 hd rh 0 true) s = .next (((keyed.sendKeyed h HeadType.keyx3 []).setF (Fld.HEAD_STAT_KEYED h) 1).sendNotices h) ∧
    ∀ fseq tagOk, tagOk = false ∨ fseq ≠ 0 → exec (.keyx2 hd rh fseq tagOk) s = .next (s.keyingFailed h) := by
  intro h _ ks keyed
  have under : ¬((s.headOf hd.val).rd.isEmpty = true) := fun empty => keying (List.isEmpty_iff.1 empty)
  refine ⟨?_, fun fseq tagOk wrong => ?_⟩
  all_goals refine congrArg Host.Outcome.next ((if_neg (not_not_true on)).trans ((if_neg (not_not.2 length)).trans ((if_neg under).trans ?_)))
  · exact if_neg (by decide)
  · exact if_pos (Bool.or_eq_true_iff.2 (wrong.imp not_true bne_iff_ne.2))

theorem keyxTimeout_cases {hd : Fin 32} :
    ((s.headOf hd.val).rd ≠ [] → exec (.keyxTimeout hd) s = .next (s.keyingFailed hd.val)) ∧ ((s.headOf hd.val).rd = [] → exec (.keyxTimeout hd) s = .next s) :=
  ⟨fun keying => congrArg Host.Outcome.next (if_neg fun empty => keying (List.isEmpty_iff.1 empty)),
    fun idle => congrArg Host.Outcome.next (if_pos (List.isEmpty_iff.2 idle))⟩

/-! ## Keys -/

section
variable {p : Nat} {v : Word}

/-- A blob that gives no key (R424). -/
theorem hkeyStore_refused {st code : Nat} (supervisor : s.isSupervisor p = true) (armed : s.armedJob p ≠ none) (some_ : v ≠ 0) (aligned : v.toNat % 32 = 0)
    (refused : s.portKey p v.toNat (s.getF (Fld.HEAD_HKEYIDX_INDEX h)) (s.getF (Fld.HEAD_CFG_TENANT h)) isAes = .error (st, code)) :
    s.hkeyStore p h v = .ok (s.setHeadRes p h st code) := by
  unfold State.hkeyStore
  rw [if_neg (tkey_admits supervisor armed aligned), if_neg some_, refused]

/-- A blob whose key is loaded (R424). -/
theorem hkeyStore_loads {key : List Byte} (supervisor : s.isSupervisor p = true) (armed : s.armedJob p ≠ none) (some_ : v ≠ 0) (aligned : v.toNat % 32 = 0)
    (loads : s.portKey p v.toNat (s.getF (Fld.HEAD_HKEYIDX_INDEX h)) (s.getF (Fld.HEAD_CFG_TENANT h)) isAes = .ok (key, t)) :
    s.hkeyStore p h v = .ok ((((t.updHead h (fun u => { u with key := key })).setF (Fld.HEAD_HKEYIDX_LOADED h) 1).setHeadRes p h St.ok 0).startKeying h) := by
  unfold State.hkeyStore
  rw [if_neg (tkey_admits supervisor armed aligned), if_neg some_, loads]

end

/-! ## Commands -/

section
variable {hd : Fin 32} {fseq : Word} {hdr : List Word} {params : List Byte} {adm : Admission}

/-- Before the header check: the port, the frame's length and its place in the session (R426, R427). -/
theorem headCmd_dropped :
    (s.portStarts (10 + hd.val) = false → exec (.headCmd hd fseq true hdr params adm) s = .next s) ∧
    (s.portStarts (10 + hd.val) = true → headCmdLenOk hdr params = false →
      exec (.headCmd hd fseq true hdr params adm) s = .next (s.incF (Fld.HEAD_ERRCNT_LINE hd.val))) ∧
    (s.portStarts (10 + hd.val) = true → headCmdLenOk hdr params = true → (s.headKeyed hd.val = false ∨ fseq.toNat ≠ (s.headOf hd.val).rx.getD 0 + 1) →
      exec (.headCmd hd fseq true hdr params adm) s = .next (s.dropKeyedFrame hd.val)) := by
  refine ⟨fun off => congrArg Host.Outcome.next (if_pos (not_true off)),
    fun on bad => congrArg Host.Outcome.next ((if_neg (not_not_true on)).trans (if_pos (not_true bad))),
    fun on good wrong => congrArg Host.Outcome.next ((if_neg (not_not_true on)).trans ((if_neg (not_not_true good)).trans (if_pos ?_)))⟩
  rw [Bool.not_true, Bool.or_false]
  exact Bool.or_eq_true_iff.2 (wrong.imp not_true bne_iff_ne.2)

/-- A frame in sequence from a keyed head is a command (R427). -/
theorem headCmd_taken (on : s.portStarts (10 + hd.val) = true) (good : headCmdLenOk hdr params = true) (keyed : s.headKeyed hd.val = true)
    (next : fseq.toNat = (s.headOf hd.val).rx.getD 0 + 1) : exec (.headCmd hd fseq true hdr params adm) s =
      .next (((s.updHead hd.val (fun u => { u with rx := some fseq.toNat })).headCommand hd hdr params adm).rekeyHead hd.val) := by
  refine congrArg Host.Outcome.next ((if_neg (not_not_true on)).trans ((if_neg (not_not_true good)).trans (if_neg ?_)))
  rw [keyed, beq_iff_eq.2 next |> fun is => show (fseq.toNat != (s.headOf hd.val).rx.getD 0 + 1) = false by rw [bne, is]; rfl]
  decide

/-- A command of a head by the header check and the commands it has waiting (R427). -/
theorem headCommand_cases (s : State) (hd : Fin 32) (hdr : List Word) (params : List Byte) (adm : Admission) :
    let h := hd.val
    let src := Stream.head hd
    let taken := (s.updHead h (fun u => { u with nextSeq := nextSeqOf hdr })).takeCommand src hdr
    let check := s.headerCheck hdr params 968 0 (s.headOf h).nextSeq src (s.flag (Fld.HEAD_CFG_BOUND h) && cmdTenant hdr == s.getF (Fld.HEAD_CFG_TENANT h))
      (s.headOpOk h params)
    (∀ st sub, check = some (st, sub) → s.headCommand hd hdr params adm = taken.refuseCommand src (hdrTag hdr) st sub) ∧
    (check = none → 8 ≤ s.headOut hd → s.headCommand hd hdr params adm = taken.refuseCommand src (hdrTag hdr) St.queueFull 0) ∧
    (check = none → s.headOut hd < 8 → s.headCommand hd hdr params adm = taken.postCommand (10 + h) src hdr params adm) := by
  intro h src taken check
  refine ⟨fun st sub fails => ?_, fun passes full => ?_, fun passes room => ?_⟩
  all_goals
    unfold State.headCommand
    dsimp only
  · rw [show s.headerCheck _ _ _ _ _ _ _ _ = _ from fails]
  · rw [show s.headerCheck _ _ _ _ _ _ _ _ = _ from passes]
    exact if_pos (decide_eq_true full)
  · rw [show s.headerCheck _ _ _ _ _ _ _ _ = _ from passes]
    exact if_neg (fun full => Nat.not_le.2 room (of_decide_eq_true full))

end

/-! ## Notices -/

/-- The request that a store of a descriptor's address makes (R220). -/
def State.portRequest (s : State) (p : Nat) (v : Word) : EngReq := ⟨p, indexOf p, s.isSupervisor p, (s.pair p).ring, v.toNat - fabricBase, (s.pair p).mpuF⟩

/-- A descriptor of a NOTICE that R429 admits. -/
def NoticeFormed (ws : List Word) : Prop :=
  1 ≤ (ws.getD 0 0).toNat ∧ (ws.getD 0 0).toNat ≤ 1000 ∧ (ws.getD 1 0).toNat % 4 = 0 ∧ ∀ w ∈ ws.drop 2, w = 0

theorem noticeFormed_iff (ws : List Word) :
    ((ws.getD 0 0).toNat = 0 ∨ 1000 < (ws.getD 0 0).toNat ∨ (ws.getD 1 0).toNat % 4 ≠ 0 ∨ (ws.drop 2).any (· != 0) = true) ↔ ¬NoticeFormed ws := by
  have rest : (ws.drop 2).any (· != 0) = true ↔ ¬∀ w ∈ ws.drop 2, w = 0 := by
    rw [List.any_eq_true]
    push Not
    simp only [bne_iff_ne]
  rw [rest, NoticeFormed]
  by_cases zero : ∀ w ∈ ws.drop 2, w = 0
  · simp only [not_not.2 zero, or_false]
    exact ⟨fun bad ok => by omega, fun bad => by_contra fun ok => bad ⟨by omega, by omega, by omega, zero⟩⟩
  · exact ⟨fun _ ok => zero ok.2.2.2, fun _ => .inr (.inr (.inr zero))⟩

/-- A store to STAGE by a pair that may stage, of a descriptor within its rights (R429). -/
theorem headStage_cases {p : Nat} {v : Word} {j : Job} (armed : s.armedJob p = some j) (job : j.src ≠ .load) (may : s.mayNotice p h = true)
    (aligned : v.toNat % 32 = 0) (rights : (s.portRequest p v).allows v.toNat 32 .load = true)
    (room : j.frameRoom ((s.portWords (s.portRequest p v) 32).getD 0 0).toNat = true) :
    let r := s.portRequest p v
    let ws := s.portWords r 32
    let n := (ws.getD 0 0).toNat
    let buf := (ws.getD 1 0).toNat
    (¬NoticeFormed ws → s.headStage p h v = .ok (s.setHeadRes p h St.param 0x01)) ∧
    (NoticeFormed ws → r.allows buf n .load = false → s.headStage p h v = .ok (s.setHeadRes p h St.param 0x02)) ∧
    (NoticeFormed ws → r.allows buf n .load = true → s.portOn (10 + h) = false → s.headStage p h v = .ok (s.setHeadRes p h St.portDisabled 0x40)) ∧
    (NoticeFormed ws → r.allows buf n .load = true → s.portOn (10 + h) = true → 16 ≤ s.noticePlaces h →
      s.headStage p h v = .ok (s.setHeadRes p h St.busy 0x20)) ∧
    (NoticeFormed ws → r.allows buf n .load = true → s.portOn (10 + h) = true → s.noticePlaces h < 16 →
      let m := State.portRead 32 s (10 + h) buf n
      (∀ t data, m = (t, .ok data) → s.headStage p h v = .ok ((t.stageFrame p ⟨10 + h, HeadType.notice, h, data⟩).setHeadRes p h St.ok 0)) ∧
      ∀ t e, m = (t, .error e) → s.headStage p h v = .ok (t.setHeadRes p h e.1 e.2)) := by
  have granted : (v.toNat % 32 == 0 && (s.portRequest p v).allows v.toNat 32 .load) = true := Bool.and_eq_true_iff.2 ⟨beq_iff_eq.2 aligned, rights⟩
  have may_ : ¬((j.src == Stream.load || !s.mayNotice p h || ((v.toNat % 32 == 0 && (s.portRequest p v).allows v.toNat 32 .load) &&
      !j.frameRoom ((s.portWords (s.portRequest p v) 32).getD 0 0).toNat)) = true) := by
    rw [beq_eq_false_iff_ne.2 job, may, room, Bool.not_true, Bool.and_false]
    exact Bool.false_ne_true
  unfold State.headStage
  rw [armed]
  refine ⟨fun bad => ?_, fun good no => ?_, fun good yes off => ?_, fun good yes on full => ?_, fun good yes on places => ⟨fun t data reads => ?_, fun t e stops => ?_⟩⟩
  all_goals refine (if_neg may_).trans ((if_neg (not_not.2 aligned)).trans ((if_neg (not_not_true granted)).trans ?_))
  · exact if_pos ((noticeFormed_iff _).2 bad)
  all_goals refine (if_neg (fun bad => (noticeFormed_iff _).1 bad good)).trans ?_
  · exact if_pos (not_true no)
  all_goals refine (if_neg (not_not_true yes)).trans ?_
  · exact if_pos (not_true off)
  all_goals refine (if_neg (not_not_true on)).trans ?_
  · exact if_pos full
  all_goals refine (if_neg (Nat.not_le.2 places)).trans ?_
  · unfold State.portRequest at reads
    rw [reads]
  · unfold State.portRequest at stops
    rw [stops]

end

end Sys2Proof.Machine
end

section
/-! The statement about head ports settled. -/

namespace Sys2Proof.Machine

/-- Settles O51: each event at a head port by what it finds, and each store by the checks before it. -/
theorem headsAreKeyedAndCommand : Obligations.HeadsAreKeyedAndCommand := by
  refine ⟨⟨fun s hd => ?presence, fun s b p hd reaches => ?key⟩, fun s hd fseq hdr params adm => ?command, fun s b p hd v j reaches armed => ?notice⟩
  case presence =>
    intro h u isDue
    refine ⟨fun idle => probe_idle idle, fun on due answered held => probe_sent on due answered held, fun on due open_ present third => ?lost,
      fun hid on length open_ same => present_taken on length open_ same, fun hid on length answered => ?unasked, fun hid on wrong => ?malformed,
      fun rh on length keying => ?keyx2, fun keying => ?timeout, fun idle => ?noTimeout⟩
    case lost =>
      exact probe_loses_head on due open_ present third
    case unasked =>
      exact present_unasked on length answered
    case malformed =>
      exact present_malformed on wrong
    case keyx2 =>
      obtain ⟨right, wrong⟩ := keyx2_cases on length keying
      intro ks keyed
      exact ⟨right, fun fseq => wrong fseq false (.inl rfl), fun fseq other => wrong fseq true (.inr other)⟩
    case timeout => exact keyxTimeout_cases.1 keying
    case noTimeout => exact keyxTimeout_cases.2 idle
  case key =>
    intro h tenant supervisor armed
    refine ⟨?_, fun v st code some_ aligned refused => ?_, fun v key t some_ aligned loads => ?_⟩
    · exact congrArg Host.Outcome.next (pairAccess_ok reaches ((if_neg (tkey_admits supervisor armed rfl)).trans (if_pos rfl)))
    · exact congrArg Host.Outcome.next (pairAccess_ok reaches (hkeyStore_refused supervisor armed some_ aligned refused))
    · exact congrArg Host.Outcome.next (pairAccess_ok reaches (hkeyStore_loads supervisor armed some_ aligned loads))
  case command =>
    intro h src u got taken check
    obtain ⟨off, malformed, dropped⟩ := headCmd_dropped (s := s) (hd := hd) (fseq := fseq) (hdr := hdr) (params := params) (adm := adm)
    refine ⟨off, malformed, dropped, fun on good keyed next => ?_⟩
    obtain ⟨refused, full, posted⟩ := headCommand_cases got hd hdr params adm
    have seq : (got.headOf h).nextSeq = u.nextSeq := by
      rw [show got.headOf h = _ from headOf_updHead s h _]
    rw [seq] at refused full posted
    refine ⟨fun st sub fails => ?_, fun passes many => ?_, fun passes room => ?_⟩
    all_goals rw [headCmd_taken on good keyed next]
    · exact congrArg (fun t : State => Host.Outcome.next (t.rekeyHead h)) (refused st sub fails)
    · exact congrArg (fun t : State => Host.Outcome.next (t.rekeyHead h)) (full passes many)
    · exact congrArg (fun t : State => Host.Outcome.next (t.rekeyHead h)) (posted passes room)
  case notice =>
    intro h x r ws n buf job may aligned rights room refused formed
    obtain ⟨bad, forbidden, off, full, staged⟩ := headStage_cases (h := h) armed job may aligned rights room
    refine ⟨fun no => ?_, fun good no => ?_, fun good yes no => ?_, fun good yes on no => ?_, fun good yes on places => ⟨fun t data reads => ?_, fun t e stops => ?_⟩⟩
    all_goals refine congrArg Host.Outcome.next (pairAccess_ok reaches ?_)
    · exact bad no
    · exact forbidden good no
    · exact off good yes no
    · exact full good yes on no
    · exact (staged good yes on places).1 t data reads
    · exact (staged good yes on places).2 t e stops

end Sys2Proof.Machine
end

section
/-! SUPPORT. The contact card ports (R432–R437): the exchange at the head of a queue, and what an activation leaves. -/

namespace Sys2Proof.Machine

/-- Registers stored one after another: each holds its value, and the others stay. -/
theorem foldl_setReg_range (s : State) (place : Nat → Nat) (value : Nat → Word) (apart : ∀ v w, v ≠ w → place v ≠ place w) (m : Nat) :
    let t := (List.range m).foldl (fun s w => s.setReg (place w) (value w)) s
    (∀ w, w < m → t.reg (place w) = value w) ∧ (∀ o, (∀ w, w < m → o ≠ place w) → t.reg o = s.reg o) ∧ ({ t with regs := s.regs } : State) = s := by
  induction m with
  | zero => exact ⟨fun w low => absurd low (Nat.not_lt_zero w), fun _ _ => rfl, rfl⟩
  | succ m ih =>
    intro t
    have last : t = ((List.range m).foldl (fun s w => s.setReg (place w) (value w)) s).setReg (place m) (value m) := by
      show (List.range (m + 1)).foldl _ s = _
      rw [List.range_succ, List.foldl_append]
      rfl
    revert ih last
    dsimp only
    generalize (List.range m).foldl (fun s w => s.setReg (place w) (value w)) s = u
    rintro ⟨stored, other, rest⟩ last
    rw [last]
    refine ⟨fun w low => ?_, fun o away => ?_, rest⟩
    · obtain rfl | ne := eq_or_ne w m
      · exact State.reg_setReg _ _ _
      · exact (State.reg_setReg_ne _ _ (apart _ _ ne)).trans (stored w (by omega))
    · exact (State.reg_setReg_ne _ _ (away m (Nat.lt_succ_self m))).trans (other o fun w low => away w (Nat.lt_succ_of_lt low))

section
variable {s t u : State} {n op : Nat} {x : PortExch}

theorem scOf_setSc (s : State) (n : Nat) (x : ScUnit) : (s.setSc n x).scOf n = x := Table.get_set_self (fun _ => ({} : ScUnit)) s.sc n x

theorem scOf_updSc (s : State) (n : Nat) (g : ScUnit → ScUnit) : (s.updSc n g).scOf n = g (s.scOf n) := scOf_setSc _ _ _

theorem getF_updSc (s : State) (n : Nat) (g : ScUnit → ScUnit) (f : FieldAt) : (s.updSc n g).getF f = s.getF f := getF_congr rfl f

theorem reg_updSc (s : State) (n : Nat) (g : ScUnit → ScUnit) (o : Nat) : (s.updSc n g).reg o = s.reg o := reg_congr rfl o

theorem updSc_pairs (s : State) (n : Nat) (g : ScUnit → ScUnit) : (s.updSc n g).pairs = s.pairs := rfl

theorem updSc_hmem (s : State) (n : Nat) (g : ScUnit → ScUnit) : (s.updSc n g).hmem = s.hmem := rfl

theorem result_scResult (s : State) (n st code len : Nat) : ((s.scResult n st code len).scOf n).result = some (st, code, len) :=
  congrArg ScUnit.result (scOf_updSc s n fun u => { u with result := some (st, code, len) })

/-- An exchange that runs does what its operation does (R436). -/
theorem scRun_runs (runs : s.ScRuns n op x) (body : State → PortExch → State) : s.scRun n op body = body s x := by
  obtain ⟨head, fresh, starts, isIt, passes⟩ := runs
  obtain ⟨rest, queue⟩ : ∃ rest, (s.scOf n).queue = x :: rest := List.head?_eq_some_iff.1 head
  have able : ¬(((s.scOf n).result.isSome || !s.portStarts (54 + n) || descOp x.words != op) = true) := by
    rw [fresh, starts, isIt, bne_self_eq_false]
    decide
  unfold State.scRun
  dsimp only
  rw [queue]
  dsimp only
  rw [if_neg able, passes]

/-! ## Activation -/

theorem getF_reg_congr {f : FieldAt} (same : t.reg f.off = s.reg f.off) : t.getF f = s.getF f := by rw [State.getF, same, State.getF]

/-- The outcome of the tries recorded: ERR, the length of the ATR and `m` of its words (R434, R437). -/
def State.atrStored (m : Nat) (s : State) (n err : Nat) (atr : List Byte) : State :=
  (List.range m).foldl (fun s w => s.setReg (Reg.SC_ATR n w) (wd (leAt atr (4 * w) 4)))
    (((s.emit (.frame (54 + n) 1 [])).setF (Fld.SC_STAT_ERR n) err).setF (Fld.SC_STAT_ATRLEN n) atr.length)

theorem atrStored_leaves (m : Nat) (s : State) (n err : Nat) (atr : List Byte) (small : err < 256) (short : atr.length < 256) :
    let t := State.atrStored m s n err atr
    t.getF (Fld.SC_STAT_ERR n) = err ∧ t.getF (Fld.SC_STAT_ATRLEN n) = atr.length ∧ (∀ w, w < m → t.reg (Reg.SC_ATR n w) = wd (leAt atr (4 * w) 4)) ∧
      t.pairs = s.pairs ∧ t.hmem = s.hmem := by
  obtain ⟨stored, other, rest⟩ := foldl_setReg_range (((s.emit (.frame (54 + n) 1 [])).setF (Fld.SC_STAT_ERR n) err).setF (Fld.SC_STAT_ATRLEN n) atr.length)
    (Reg.SC_ATR n) (fun w => wd (leAt atr (4 * w) 4)) (fun v w ne same => ne (by simp only [Reg.SC_ATR] at same; omega)) m
  have stat := other (Reg.SC_STAT n) (fun w _ => by show 0x305004 + 0x100 * n ≠ 0x305020 + 0x100 * n + 4 * w; omega)
  have pairs := congrArg State.pairs rest
  have hmem := congrArg State.hmem rest
  refine ⟨(getF_reg_congr stat).trans ?_, (getF_reg_congr stat).trans ?_, stored, pairs.trans ?_, hmem.trans ?_⟩
  · rw [getF_setF_apart _ _ (show 23 < 32 by decide) (.inr (show 15 < 16 by decide)), getF_setF_self _ _ (show 23 < 32 by decide)]
    exact Nat.mod_eq_of_lt small
  · rw [getF_setF_self _ _ (show 15 < 32 by decide)]
    exact Nat.mod_eq_of_lt short
  · rw [State.setF_pairs, State.setF_pairs]
    rfl
  · rw [State.setF_hmem, State.setF_hmem]
    rfl

/-- STATE, CLASS and T1 of a card set (R437). -/
def State.cardSet (s : State) (n v c b : Nat) : State := ((s.setF (Fld.SC_STAT_STATE n) v).setF (Fld.SC_STAT_CLASS n) c).setF (Fld.SC_STAT_T1 n) b

theorem cardSet_leaves (s : State) (n : Nat) {v : Nat} (fits : v < 16) (c b : Nat) :
    let t := s.cardSet n v c b
    t.cardState n = v ∧ t.getF (Fld.SC_STAT_ERR n) = s.getF (Fld.SC_STAT_ERR n) ∧ t.getF (Fld.SC_STAT_ATRLEN n) = s.getF (Fld.SC_STAT_ATRLEN n) ∧
      (∀ w, t.reg (Reg.SC_ATR n w) = s.reg (Reg.SC_ATR n w)) ∧ t.pairs = s.pairs ∧ t.hmem = s.hmem := by
  have other (w : Nat) : Reg.SC_ATR n w ≠ Reg.SC_STAT n := by
    show 0x305020 + 0x100 * n + 4 * w ≠ 0x305004 + 0x100 * n
    omega
  have low {f : FieldAt} (below : f.hi < 25) (x y z : Nat) :
      (s.cardSet n x y z).getF f = s.getF f := by
    have bit : f.hi < 32 := Nat.lt_trans below (by decide)
    rw [State.cardSet, getF_setF_apart _ _ bit (.inl below), getF_setF_apart _ _ bit (.inl (Nat.lt_trans below (show 25 < 26 by decide))),
      getF_setF_apart _ _ bit (.inl (Nat.lt_trans below (show 25 < 28 by decide)))]
  refine ⟨?_, low (show 23 < 25 by decide) _ _ _, low (show 15 < 25 by decide) _ _ _, fun w => ?_, ?_, ?_⟩
  · rw [State.cardState, State.cardSet, getF_setF_apart _ _ (show 31 < 32 by decide) (.inr (show 25 < 28 by decide)),
      getF_setF_apart _ _ (show 31 < 32 by decide) (.inr (show 27 < 28 by decide)), getF_setF_self _ _ (show 31 < 32 by decide)]
    exact Nat.mod_eq_of_lt fits
  · rw [State.cardSet, State.setF, State.reg_setReg_ne _ _ (other w), State.setF, State.reg_setReg_ne _ _ (other w), State.setF, State.reg_setReg_ne _ _ (other w)]
  · rw [State.cardSet, State.setF_pairs, State.setF_pairs, State.setF_pairs]
  · rw [State.cardSet, State.setF_hmem, State.setF_hmem, State.setF_hmem]

/-- ERR of an activation's tries (R434). -/
def State.atrErr (s : State) (n : Nat) (r : AtrResult) : Nat := if r.err ≠ 0 then r.err.toNat else if s.classPermitted n r.cls.val then 0 else 0x02

/-- A card found, as its activation leaves the port before the result (R434, R437). -/
def State.cardFound (s : State) (n : Nat) (r : AtrResult) : State :=
  ((State.atrStored 9 s n 0 (r.atr.take 33)).cardSet n Card.ready r.cls.val (b2n r.t1)).updSc n (fun u => { u with ifsc := r.ifsc, wt := r.wt, fi := r.fi, di := r.di })

/-- An activation that finds no card of a permitted class, before its result (R434, R437). -/
def State.cardMissed (s : State) (n err : Nat) (r : AtrResult) : State :=
  (State.atrStored 9 s n err (if err = 0x01 then [] else r.atr.take 33)).cardSet n Card.failed 0 0

theorem exec_scActivate_found {c : Fin 2} {r : AtrResult} (runs : s.ScRuns c.val 1 x) (ok : r.err = 0) (permitted : s.classPermitted c.val r.cls.val = true) :
    exec (.scActivate c r) s = .next ((s.cardFound c.val r).scResult c.val St.ok 0 0) := by
  refine congrArg Host.Outcome.next ((scRun_runs runs _).trans ?_)
  dsimp only
  rw [if_neg (not_not.2 ok), if_pos permitted]
  rfl

theorem exec_scActivate_missed {c : Fin 2} {r : AtrResult} (runs : s.ScRuns c.val 1 x) (bad : s.atrErr c.val r ≠ 0) :
    exec (.scActivate c r) s = .next ((s.cardMissed c.val (s.atrErr c.val r) r).scResult c.val St.portAbsent 0x41 0) := by
  refine congrArg Host.Outcome.next ((scRun_runs runs _).trans ?_)
  exact if_neg bad

theorem atrErr_ne_zero {r : AtrResult} (bad : r.err ≠ 0 ∨ s.classPermitted n r.cls.val = false) : s.atrErr n r ≠ 0 := by
  unfold State.atrErr
  split
  next err =>
    intro zero
    exact err (BitVec.eq_of_toNat_eq zero)
  next err =>
    rw [if_neg (Bool.eq_false_iff.1 (bad.resolve_left err))]
    decide

/-- A card found (R434, R437). -/
theorem cardFound_leaves (s : State) (n : Nat) (r : AtrResult) :
    let t := (s.cardFound n r).scResult n St.ok 0 0
    t.cardState n = Card.ready ∧ t.getF (Fld.SC_STAT_ERR n) = 0 ∧ t.getF (Fld.SC_STAT_ATRLEN n) = (r.atr.take 33).length ∧
      (∀ w, w < 9 → t.reg (Reg.SC_ATR n w) = wd (leAt (r.atr.take 33) (4 * w) 4)) ∧ (t.scOf n).result = some (St.ok, 0, 0) ∧ t.pairs = s.pairs ∧ t.hmem = s.hmem := by
  have short : (r.atr.take 33).length < 256 := Nat.lt_of_le_of_lt (List.length_take_le _ _) (by decide)
  obtain ⟨err, length, words, pairs, hmem⟩ := atrStored_leaves 9 s n 0 (r.atr.take 33) (by decide) short
  obtain ⟨state, err', length', words', pairs', hmem'⟩ :=
    cardSet_leaves (State.atrStored 9 s n 0 (r.atr.take 33)) n (show Card.ready < 16 by decide) r.cls.val (b2n r.t1)
  have fields (f : FieldAt) : ((s.cardFound n r).scResult n St.ok 0 0).getF f = ((State.atrStored 9 s n 0 (r.atr.take 33)).cardSet n Card.ready r.cls.val
      (b2n r.t1)).getF f := (getF_updSc _ n _ f).trans (getF_updSc _ n _ f)
  have regs (o : Nat) : ((s.cardFound n r).scResult n St.ok 0 0).reg o = ((State.atrStored 9 s n 0 (r.atr.take 33)).cardSet n Card.ready r.cls.val
      (b2n r.t1)).reg o := (reg_updSc _ n _ o).trans (reg_updSc _ n _ o)
  exact ⟨(fields _).trans state, (fields _).trans (err'.trans err), (fields _).trans (length'.trans length),
    fun w low => (regs _).trans ((words' w).trans (words w low)), result_scResult _ _ _ _ _,
    (updSc_pairs _ n _).trans ((updSc_pairs _ n _).trans (pairs'.trans pairs)), (updSc_hmem _ n _).trans ((updSc_hmem _ n _).trans (hmem'.trans hmem))⟩

/-- An activation that fails (R434, R437). -/
theorem cardMissed_leaves (s : State) (n err : Nat) (r : AtrResult) :
    let t := (s.cardMissed n err r).scResult n St.portAbsent 0x41 0
    t.cardState n = Card.failed ∧ (t.scOf n).result = some (St.portAbsent, 0x41, 0) :=
  ⟨(getF_updSc _ n _ _).trans (cardSet_leaves _ n (show Card.failed < 16 by decide) 0 0).1, result_scResult _ _ _ _ _⟩

/-! ## Exchanges -/

/-- An APDU whose data cannot be read (R153, R436). -/
theorem exec_scApdu_unread {c : Fin 2} {r : RfAnswer} {e : Nat × Nat} (runs : s.ScRuns c.val 2 x)
    (reads : State.portRead 300 s (54 + c.val) (x.words.getD 2 0).toNat (scTx x.words) = (t, .error e)) :
    exec (.scApduExchange c r) s = .next (t.scResult c.val e.1 e.2 0) := by
  refine congrArg Host.Outcome.next ((scRun_runs runs _).trans ?_)
  dsimp only
  rw [reads]

section
variable {c : Fin 2} {r : RfAnswer} {bs : List Byte} (runs : s.ScRuns c.val 2 x)
  (reads : State.portRead 300 s (54 + c.val) (x.words.getD 2 0).toNat (scTx x.words) = (t, .ok bs)) (parity : r.parErr = false) (crc : r.crcErr = false)
include runs reads parity crc

/-- An APDU sent: what comes of it lies with the card (R436). -/
theorem exec_scApdu_sent : exec (.scApduExchange c r) s = .next (
    let sent := t.emit (.frame (54 + c.val) 2 bs)
    if r.answered then sent.scReceive c.val x r.data
    else if sent.flag (Fld.SC_STAT_T1 c.val) then (sent.cardOff c.val).scResult c.val St.portAbsent 0x42 0
    else sent.scResult c.val St.portAbsent 0x41 0) := by
  refine congrArg Host.Outcome.next ((scRun_runs runs _).trans ?_)
  dsimp only
  rw [reads]
  dsimp only
  rw [parity, crc]
  simp only [Bool.false_eq_true, if_false]

end

/-- An answer within RXCAP that the port guard passes (R153, R405). -/
theorem scReceive_fits {data : List Byte} (fits : data.length ≤ scCap x.words)
    (writes : State.portWrite 300 s (54 + n) (x.words.getD 3 0).toNat data = (u, true)) : s.scReceive n x data = u.scResult n St.ok 0 data.length := by
  unfold State.scReceive
  dsimp only
  rw [List.take_of_length_le fits, writes]
  exact if_neg (Nat.not_lt.2 fits)

theorem exec_scDeactivate_runs {c : Fin 2} (runs : s.ScRuns c.val 3 x) :
    exec (.scDeactivate c) s = .next ((s.cardOff c.val).scResult c.val St.ok 0 0) := congrArg Host.Outcome.next (scRun_runs runs _)

/-- The exchange that has run ends (R28, R436). -/
theorem exec_scExchangeDone_ran {c : Fin 2} {rest : List PortExch} {st code len : Nat} (queue : (s.scOf c.val).queue = x :: rest)
    (ran : (s.scOf c.val).result = some (st, code, len)) (heard : (s.scOf c.val).silent = false) :
    let next := s.updSc c.val (fun u => { u with queue := rest, result := none, cut := false, silent := false })
    exec (.scExchangeDone c) s = .next ((if !s.portStarts (54 + c.val) then next.endScExch x St.portDisabled 0x44 len
      else next.endScExch x st code len).syncScq c.val) := by
  refine congrArg Host.Outcome.next ?_
  dsimp only
  rw [queue]
  dsimp only
  rw [ran, heard]
  rfl

/-- A submission that R218 accepts, by a supervisor pair (R435). -/
theorem scSubmit_cases {p : Nat} {v : Word} {r : EngReq}
    (request : s.portSubmission p 32 v (decide (2 ≤ (s.scOf n).queue.length) || (s.scOf n).queue.any (fun x => x.req.pair == p)) = some r) :
    let x : PortExch := ⟨r, s.portWords r 32⟩
    (s.isSupervisor p = false → s.scSubmit p n v = busAt s (Reg.SC_SUBMIT n)) ∧
    (s.isSupervisor p = true → s.portOn (54 + n) = false → s.scSubmit p n v = .ok (s.endScExch x St.portDisabled 0x40 0)) ∧
    (s.isSupervisor p = true → s.portOn (54 + n) = true →
      s.scSubmit p n v = .ok ((s.updSc n (fun u => { u with queue := u.queue ++ [x] })).syncScq n)) := by
  unfold State.scSubmit
  dsimp only
  rw [request]
  exact ⟨fun other => if_pos (not_true other), fun own off => (if_neg (not_not_true own)).trans (if_pos (not_true off)),
    fun own on => (if_neg (not_not_true own)).trans (if_neg (not_not_true on))⟩

end

end Sys2Proof.Machine
end

section
/-! SUPPORT. Actuation outputs (R438–R440): stagings, pulses and their readback. -/

namespace Sys2Proof.Machine

section
variable {s t : State} {n : Nat}

/-- A staging of a pair that may, with room in its job (R438). -/
theorem actStage_cases {p : Nat} {v : Word} {j : Job} (armed : s.armedJob p = some j) (job : j.src ≠ .load)
    (low : (s.mreg p Reg.ACT_STG0).toNat < 16) (may : s.mayPulse p (s.mreg p Reg.ACT_STG0).toNat = true) (room : j.pulses.length < 4) :
    let n := (s.mreg p Reg.ACT_STG0).toNat
    let tells := fun st code (t : State) => t.setMreg p Reg.ACT_SRES (wd (st * 2 ^ 16 + code * 2 ^ 8))
    (∀ st code, s.pulseRefusal j n v.toNat = some (st, code) → s.actStage p v = .ok (tells st code s)) ∧
    (s.pulseRefusal j n v.toNat = none →
      s.actStage p v = .ok (tells St.ok 0 (s.updArmed p (fun j => { j with pulses := j.pulses ++ [⟨n, v.toNat⟩] })))) := by
  have output : fld 3 0 (s.mreg p Reg.ACT_STG0) = (s.mreg p Reg.ACT_STG0).toNat := by
    unfold fld
    rw [BitVec.ushiftRight_zero]
    exact Nat.mod_eq_of_lt low
  have able : ¬((j.src == Stream.load || !s.mayPulse p (s.mreg p Reg.ACT_STG0).toNat || decide (4 ≤ j.pulses.length)) = true) := by
    rw [beq_eq_false_iff_ne.2 job, may, decide_eq_false (Nat.not_le.2 room)]
    decide
  unfold State.actStage
  dsimp only
  rw [armed, output]
  refine ⟨fun st code refused => ?_, fun passes => ?_⟩
  all_goals refine (if_neg able).trans ((if_neg (fun ne => ne rfl)).trans ?_)
  · rw [refused]
  · rw [passes]

theorem actStage_unarmed {p : Nat} (idle : s.armedJob p = none) (v : Word) : s.actStage p v = busAt s Reg.ACT_STG1 := by
  unfold State.actStage
  dsimp only
  rw [idle]

/-- A pulse begins where one waits and none runs (R439). -/
theorem actPulseStart_cases (s : State) (n : Fin 16) (t : Nat) :
    let k := n.val
    let a := s.actOf k
    (a.queue ≠ [] → a.rose = none → exec (.actPulseStart n t) s =
      .next (((s.setAct k { a with rose := some t }).setF (Fld.ACT_STAT_ACTIVE k) 1).emit (.pin (56 + k) (!s.actInactive k)))) ∧
    (a.queue = [] → exec (.actPulseStart n t) s = .next s) := by
  refine ⟨fun some_ idle => congrArg Host.Outcome.next (if_neg ?_), fun none_ => congrArg Host.Outcome.next (if_pos ?_)⟩
  · rw [idle, Option.isSome_none, Bool.or_false]
    exact fun empty => some_ (List.isEmpty_iff.1 empty)
  · rw [none_]
    rfl

/-- A pulse ends once its length has passed (R439). -/
theorem actPulseEnd_cases {n : Fin 16} {j : Word} {len r : Nat} {rest : List (Word × Nat)} (queue : (s.actOf n.val).queue = (j, len) :: rest)
    (rose : (s.actOf n.val).rose = some r) (fell : (s.actOf n.val).fell = none) :
    exec (.actPulseEnd n (r + len)) s = .next (((s.setAct n.val { s.actOf n.val with fell := some (r + len) }).setF (Fld.ACT_STAT_ACTIVE n.val) 0).emit
      (.pin (56 + n.val) (s.actInactive n.val))) ∧
    ∀ t, t ≠ r + len → exec (.actPulseEnd n t) s = .next s := by
  refine ⟨congrArg Host.Outcome.next ?_, fun t ne => congrArg Host.Outcome.next ?_⟩
  all_goals
    revert queue rose fell
    generalize s.actOf n.val = a
    obtain ⟨q, ro, fe, lj, se⟩ := a
    rintro ⟨⟩ ⟨⟩ ⟨⟩
  · exact if_pos rfl
  · exact if_neg ne

theorem actOf_setF (s : State) (f : FieldAt) (v n : Nat) : (s.setF f v).actOf n = s.actOf n := rfl

/-- No pulse ends where none has fallen (R439). -/
theorem endPulse_none (holds : (s.actOf n).queue = [] ∨ (s.actOf n).fell = none) (t : Nat) : s.endPulse n t = s := by
  unfold State.endPulse
  dsimp only
  split
  next queue fell =>
    obtain none_ | still := holds
    · exact absurd (queue.symm.trans none_) (List.cons_ne_nil _ _)
    · exact absurd (fell.symm.trans still) (Option.some_ne_none _)
  · rfl

/-- The readback sampled while a level is expected and no pulse ends (R440). -/
theorem actReadback_sampled {n : Fin 16} {t : Nat} {active : Bool} (main : s.onMain = true) (serves : s.portOn (56 + n.val) = true ∨ (s.actOf n.val).queue ≠ [])
    (expected : (s.actOf n.val).expected (s.getF (Fld.ACT_CFG_SETTLE n.val)) t = some active)
    (holds : (s.actOf n.val).queue = [] ∨ (s.actOf n.val).fell = none) (rb : Bool) :
    exec (.actReadback n t rb) s = .next (
      let sampled := s.setF (Fld.ACT_STAT_RB n.val) (b2n rb)
      if rb = (if active then !s.actInactive n.val else s.actInactive n.val) then sampled else sampled.readbackMismatch n.val) := by
  have able : ¬((!s.onMain || (!s.portOn (56 + n.val) && (s.actOf n.val).queue.isEmpty)) = true) := by
    rw [main, Bool.not_true, Bool.false_or, Bool.and_eq_true, Bool.not_eq_true', List.isEmpty_iff]
    rintro ⟨off, none_⟩
    exact serves.elim (fun on => Bool.eq_false_iff.1 off on) (fun some_ => some_ none_)
  refine congrArg Host.Outcome.next ((if_neg able).trans ?_)
  rw [expected]
  dsimp only
  rw [endPulse_none (by rw [actOf_setF]; exact holds)]

/-- The readback is not sampled before SETTLE has passed since the rising edge (R440). -/
theorem actReadback_settling {n : Fin 16} {t r : Nat} (rose : (s.actOf n.val).rose = some r) (fell : (s.actOf n.val).fell = none)
    (early : t < r + s.getF (Fld.ACT_CFG_SETTLE n.val)) (rb : Bool) : exec (.actReadback n t rb) s = .next s := by
  have none_ : (s.actOf n.val).expected (s.getF (Fld.ACT_CFG_SETTLE n.val)) t = none := by
    unfold ActOutput.expected
    rw [rose, fell]
    exact if_neg (Nat.not_le.2 early)
  refine congrArg Host.Outcome.next ?_
  dsimp only
  rw [none_]
  exact ite_self s

end

end Sys2Proof.Machine
end

section
/-! The statement about contact cards and actuation outputs settled. -/

namespace Sys2Proof.Machine

/-- Settles O52: each exchange by what it finds, each pulse by its output's unit. -/
theorem contactCardsAndActuationOutputs : Obligations.ContactCardsAndActuationOutputs := by
  refine ⟨⟨fun s b p n v r reaches => ?submit, fun s c x => ?card⟩, fun s b p v j reaches armed job => ?stage, fun s b p v reaches idle => ?unarmed,
    fun s n t => ?pulse⟩
  case submit =>
    intro q request x
    obtain ⟨other, off, queued⟩ := scSubmit_cases request
    refine ⟨fun no => ?_, fun own no => ?_, fun own on => ?_⟩
    · exact congrArg Host.Outcome.next (pairAccess_fail reaches (other no))
    · exact congrArg Host.Outcome.next (pairAccess_ok reaches (off own no))
    · exact congrArg Host.Outcome.next (pairAccess_ok reaches (queued own on))
  case card =>
    intro n
    refine ⟨fun r runs ok permitted => ⟨_, exec_scActivate_found runs ok permitted, cardFound_leaves s n r⟩,
      fun r runs bad => ⟨_, exec_scActivate_missed runs (atrErr_ne_zero bad), cardMissed_leaves s n _ r⟩,
      fun t e r runs reads => exec_scApdu_unread runs reads, fun t bs r runs reads parity crc => ?apdu, fun runs => exec_scDeactivate_runs runs,
      fun rest st code len queue ran heard => ?done⟩
    case apdu =>
      have sends := exec_scApdu_sent (r := r) runs reads parity crc
      refine ⟨fun u answered fits writes => sends.trans (congrArg Host.Outcome.next ?_), fun silent t1 => sends.trans (congrArg Host.Outcome.next ?_),
        fun silent t0 => sends.trans (congrArg Host.Outcome.next ?_)⟩
      · exact (if_pos answered).trans (scReceive_fits fits writes)
      · exact (if_neg (Bool.eq_false_iff.1 silent)).trans (if_pos t1)
      · exact (if_neg (Bool.eq_false_iff.1 silent)).trans (if_neg (Bool.eq_false_iff.1 t0))
    case done =>
      intro next
      have ends := exec_scExchangeDone_ran queue ran heard
      refine ⟨fun starts => ends.trans ?_, fun cut => ends.trans ?_⟩
      · exact congrArg (fun t : State => Host.Outcome.next (t.syncScq n)) (if_neg (not_not_true starts))
      · exact congrArg (fun t : State => Host.Outcome.next (t.syncScq n)) (if_pos (not_true cut))
  case stage =>
    intro n tells low may room
    obtain ⟨refused, staged⟩ := actStage_cases (v := v) armed job low may room
    exact ⟨fun st code no => congrArg Host.Outcome.next (pairAccess_ok reaches (refused st code no)),
      fun passes => congrArg Host.Outcome.next (pairAccess_ok reaches (staged passes))⟩
  case unarmed =>
    exact congrArg Host.Outcome.next (pairAccess_fail reaches (actStage_unarmed idle v))
  case pulse =>
    intro k a
    refine ⟨(actPulseStart_cases s n t).1, (actPulseStart_cases s n t).2, fun j len rest r queue rose fell => (actPulseEnd_cases queue rose fell).1,
      fun j len rest r queue rose fell ne => (actPulseEnd_cases queue rose fell).2 t ne, fun main on queue rose fell => ?idle,
      fun r main queue rose fell settled => ?running, fun r rose fell early => actReadback_settling rose fell early true⟩
    case idle =>
      have expected : a.expected (s.getF (Fld.ACT_CFG_SETTLE k)) t = some false := by
        unfold ActOutput.expected
        rw [rose, fell]
      have samples := actReadback_sampled main (.inl on) expected (.inl queue)
      refine ⟨(samples _).trans (congrArg Host.Outcome.next (if_pos rfl)), (samples _).trans (congrArg Host.Outcome.next (if_neg ?_))⟩
      exact Bool.not_ne_self _
    case running =>
      have expected : a.expected (s.getF (Fld.ACT_CFG_SETTLE k)) t = some true := by
        unfold ActOutput.expected
        rw [rose, fell]
        exact if_pos settled
      exact (actReadback_sampled main (.inr queue) expected (.inr fell) _).trans (congrArg Host.Outcome.next (if_pos rfl))

end Sys2Proof.Machine
end

section
/-! SUPPORT. Weave links (R443–R450): which received frames act, and what the links' timers wait for. -/

namespace Sys2Proof.Machine

section
variable {s t : State} {l : Nat} {fr : KeyedFrame} {khello : Bool}

theorem weaveLink_setLink (s : State) (l : Nat) (x : WeaveLink) : (s.setLink l x).weaveLink l = x := Table.get_set_self (fun _ => ({} : WeaveLink)) s.weave.links l x

theorem weaveLink_updLink (s : State) (l : Nat) (g : WeaveLink → WeaveLink) : (s.updLink l g).weaveLink l = g (s.weaveLink l) := weaveLink_setLink _ _ _

theorem weaveLink_congr (same : t.weave = s.weave) (l : Nat) : t.weaveLink l = s.weaveLink l := by rw [State.weaveLink, same, State.weaveLink]

/-! ## Keyed frames -/

/-- An accepted frame acts (R446). -/
theorem keyedIn_accepts (accepts : s.Accepts l fr khello) (body : State → State) : s.keyedIn l fr khello body = body (s.took l fr) := by
  obtain ⟨receives, crc, tag, keyed, inSeq, early⟩ := accepts
  have has : (s.linkKeyed l || (khello && !(s.weaveLink l).lk.isEmpty)) = true := by
    obtain link | ⟨rfl, key⟩ := keyed
    · rw [link, Bool.true_or]
    · rw [Bool.true_and, List.isEmpty_eq_false_iff.2 key, Bool.not_false, Bool.or_true]
  refine (if_neg (not_not_true receives)).trans ((if_neg ?_).trans ((if_neg ?_).trans (if_neg (Nat.not_le.2 early))))
  · rw [crc, has]
    decide
  · rw [tag, inSeq, bne_self_eq_false]
    decide

theorem keyedIn_deaf (deaf : s.receives l = false) (body : State → State) : s.keyedIn l fr khello body = s := if_pos (not_true deaf)

/-- A frame that fails its CRC is counted (R446). -/
theorem keyedIn_garbled (receives : s.receives l = true) (garbled : fr.crcOk = false) (body : State → State) :
    s.keyedIn l fr khello body = s.incF (Fld.WEAVE_LERR_CRC l) :=
  (if_neg (not_not_true receives)).trans (if_pos (Bool.or_eq_true_iff.2 (.inl (not_true garbled))))

/-- A frame that fails its tag or FSEQ unkeys the link (R446). -/
theorem keyedIn_forged (receives : s.receives l = true) (crc : fr.crcOk = true) (keyed : s.linkKeyed l = true)
    (forged : fr.tagOk = false ∨ fr.fseq.toNat ≠ ((s.weaveLink l).rx.map (· + 1)).getD 0) (body : State → State) :
    s.keyedIn l fr khello body = (s.incF (Fld.WEAVE_LERR_AUTH l)).unkeyLink l := by
  refine (if_neg (not_not_true receives)).trans ((if_neg ?_).trans (if_pos (Bool.or_eq_true_iff.2 (forged.imp not_true bne_iff_ne.2))))
  rw [crc, keyed, Bool.true_or]
  decide

/-! ## What an accepted frame leaves -/

theorem weaveLink_took (s : State) (l : Nat) (fr : KeyedFrame) :
    (s.took l fr).weaveLink l = { s.weaveLink l with rx := some fr.fseq.toNat, heard := s.beatNow } :=
  (weaveLink_congr (s := s.updLink l _) rfl l).trans (weaveLink_updLink s l fun x => { x with rx := some fr.fseq.toNat, heard := s.beatNow })

theorem getF_took {f : FieldAt} (other : f.off ≠ Reg.WEAVE_RXSEQ l) : (s.took l fr).getF f = s.getF f :=
  (getF_setReg_ne _ _ other).trans (getF_congr rfl f)

theorem ownNode_took (s : State) (l : Nat) (fr : KeyedFrame) : (s.took l fr).ownNode = s.ownNode :=
  getF_took (by show 0x301404 ≠ 0x301008 + 0x40 * l; omega)

end

/-! ## Frames of the links -/

section
variable {s : State} {l : Fin 8}

/-- A HELLO that is not of a conflict (R448). -/
theorem hello_cases {f : HelloFrame} (receives : s.receives l.val = true) :
    let k := l.val
    let basket := (s.reg (Reg.WEAVE_BASKET 0)).toNat + 2 ^ 32 * (s.reg (Reg.WEAVE_BASKET 1)).toNat
    ((f.crcOk = false ∨ s.linkKeyed k = true) → exec (.hello l f) s = .next (s.incF (Fld.WEAVE_LERR_CRC k))) ∧
    (f.crcOk = true → s.linkKeyed k = false → s.helloConflict f = true → exec (.hello l f) s = .next
      (((((s.setF (Fld.WEAVE_LSTAT_CONFLICT k) 1).setF Fld.WEAVE_BSTAT_CONFLICT 1).freshBytes 2).2).portLog (2 + k)
        (ofLe (((s.setF (Fld.WEAVE_LSTAT_CONFLICT k) 1).setF Fld.WEAVE_BSTAT_CONFLICT 1).freshBytes 2).1) 0 0)) ∧
    (f.crcOk = true → s.linkKeyed k = false → s.helloConflict f = false → (s.member = false ∨ f.admitted = false ∨ f.basket.toNat ≠ basket) →
      exec (.hello l f) s = .next s) ∧
    (f.crcOk = true → s.linkKeyed k = false → s.helloConflict f = false → s.member = true → f.admitted = true → f.basket.toNat = basket →
      exec (.hello l f) s = .next (((s.setMap f.node { s.mapOf f.node with uid := some f.uid.toNat }).updLink k
        (fun x => { x with peer := some (f.node, leBytes 16 f.rn.toNat) })).offerKey k)) := by
  intro k basket
  have plain (crc : f.crcOk = true) (unkeyed : s.linkKeyed k = false) : ¬((!f.crcOk || s.linkKeyed k) = true) := by
    rw [crc, unkeyed]
    decide
  refine ⟨fun bad => congrArg Host.Outcome.next ((if_neg (not_not_true receives)).trans (if_pos (Bool.or_eq_true_iff.2 (bad.imp_left not_true)))),
    fun crc unkeyed conflict => congrArg Host.Outcome.next ((if_neg (not_not_true receives)).trans ((if_neg (plain crc unkeyed)).trans ?_)),
    fun crc unkeyed none_ away => congrArg Host.Outcome.next ((if_neg (not_not_true receives)).trans ((if_neg (plain crc unkeyed)).trans ?_)),
    fun crc unkeyed none_ member admitted same => congrArg Host.Outcome.next ((if_neg (not_not_true receives)).trans ((if_neg (plain crc unkeyed)).trans ?_))⟩
  · exact if_pos conflict
  · refine (if_neg (Bool.eq_false_iff.1 none_)).trans (if_pos ?_)
    rw [Bool.or_eq_true_iff, Bool.or_eq_true_iff, bne_iff_ne, or_assoc]
    exact away.imp not_true (Or.imp_left not_true)
  · refine (if_neg (Bool.eq_false_iff.1 none_)).trans (if_neg ?_)
    rw [member, admitted, show f.basket.toNat = _ from same, bne_self_eq_false]
    decide

/-- A REKEY accepted (R449): answered where this end began none and has randomness, else it completes the one begun. -/
theorem rekey_cases {fr : KeyedFrame} (accepts : s.Accepts l.val fr false) (rn : List Byte) :
    let k := l.val
    let t := s.took k fr
    ((s.weaveLink k).rekeyRn = [] → t.rngHealthy = false → exec (.rekey l fr rn) s = .next t) ∧
    ((s.weaveLink k).rekeyRn = [] → t.rngHealthy = true →
      let d := t.drawHw 16
      exec (.rekey l fr rn) s = .next ((d.2.emitKeyed k WvType.rekey 1 s.ownNode 0xFFFF d.1).finishRekey k d.1 rn)) ∧
    ((s.weaveLink k).rekeyRn ≠ [] → exec (.rekey l fr rn) s = .next (t.finishRekey k (s.weaveLink k).rekeyRn rn)) := by
  intro k t
  have own : (t.weaveLink k).rekeyRn = (s.weaveLink k).rekeyRn := by rw [show t.weaveLink k = _ from weaveLink_took s k fr]
  refine ⟨fun none_ ill => congrArg Host.Outcome.next ((keyedIn_accepts accepts _).trans ?_),
    fun none_ healthy => congrArg Host.Outcome.next ((keyedIn_accepts accepts _).trans ?_),
    fun begun => congrArg Host.Outcome.next ((keyedIn_accepts accepts _).trans ?_)⟩
  · exact (if_pos (List.isEmpty_iff.2 (own.trans none_))).trans (if_pos (not_true ill))
  · refine (if_pos (List.isEmpty_iff.2 (own.trans none_))).trans ((if_neg (not_not_true healthy)).trans ?_)
    rw [show (s.took l.val fr).ownNode = s.ownNode from ownNode_took s k fr]
  · refine (if_neg fun empty => begun (own.symm.trans (List.isEmpty_iff.1 empty))).trans ?_
    rw [show ((s.took l.val fr).weaveLink l.val).rekeyRn = _ from own]

/-- What a HELLO of a conflict leaves (R448). -/
theorem helloConflict_leaves (s : State) {k : Nat} (low : k < 8) :
    let u := (s.setF (Fld.WEAVE_LSTAT_CONFLICT k) 1).setF Fld.WEAVE_BSTAT_CONFLICT 1
    let t := (u.freshBytes 2).2.portLog (2 + k) (ofLe (u.freshBytes 2).1) 0 0
    t.flag (Fld.WEAVE_LSTAT_CONFLICT k) = true ∧ t.flag Fld.WEAVE_BSTAT_CONFLICT = true ∧ t.weave = s.weave ∧ t.pairs = s.pairs := by
  intro u t
  have both : u.flag (Fld.WEAVE_LSTAT_CONFLICT k) = true ∧ u.flag Fld.WEAVE_BSTAT_CONFLICT = true := by
    refine ⟨?_, flag_setF_b2n _ true rfl (show 28 < 32 by decide)⟩
    rw [show u = _ from rfl, flag_setF_ne _ _ (by show 0x301000 + 0x40 * k ≠ 0x301408; omega)]
    exact flag_setF_b2n _ true rfl (show 28 < 32 by decide)
  have logs : (u.freshBytes 2).2.Logs t := logs_logEvent _ _ _ _ _ _ _
  have kept (o : Nat) (high : 0x300000 ≤ o) : t.reg o = u.reg o := by
    refine (logs.reg o ?_ ?_ ?_).trans ((draws_freshBytes u 2).reg o ?_)
    · show o ≠ 0x24
      omega
    · show o ≠ 0x28
      omega
    · show o ≠ 0x200000 + 0x100 * 125
      omega
    · show o ≠ 0x4014
      omega
  have logged := congrArg State.weave logs.rest
  have drawn := congrArg State.weave (draws_freshBytes u 2).rest
  have weave : t.weave = s.weave := logged.trans (Eq.trans drawn (by rw [show u = _ from rfl, State.setF_weave, State.setF_weave]))
  refine ⟨?_, ?_, weave, logs.untouched.pairs.trans (draws_freshBytes u 2).pairs⟩
  · rw [State.flag, getF_reg_congr (kept _ (by show 0x300000 ≤ 0x301000 + 0x40 * k; omega))]
    exact both.1
  · rw [State.flag, getF_reg_congr (kept _ (show 0x300000 ≤ 0x301408 by decide))]
    exact both.2

/-! ## The timers -/

theorem helloTimer_cases (s : State) (l : Fin 8) :
    let k := l.val
    let x := s.weaveLink k
    let d := (s.updLink k (fun x => { x with helloAt := some s.beatNow })).drawHw 16
    let e := d.2.freshBytes 6
    let u := e.2
    let payload := leBytes 2 u.ownNode ++ leBytes 1 (u.getF Fld.WEAVE_CFG_PRIO) ++
      leBytes 1 (b2n (u.flag Fld.WEAVE_CFG_ELIG) + 2 * b2n u.member) ++ wordBytes (u.reg (Reg.WEAVE_BASKET 0)) ++
      wordBytes (u.reg (Reg.WEAVE_BASKET 1)) ++ deviceUid ++ d.1
    let body := weaveClear WvType.hello 1 payload.length u.ownNode 0xFFFF (ofLe (e.1.take 2)) (ofLe (e.1.drop 2)) ++ payload
    (s.linkOn k = true → s.linkKeyed k = false → s.rngHealthy = true → due s.beatNow 16 x.helloAt = true → exec (.helloTimer l) s = .next
      (((u.updLink k (fun x => { x with rn := d.1 })).emit
        (.frame (2 + k) WvType.hello (body ++ wordBytes (crc32 body)))).offerKey k)) ∧
    ((s.linkOn k = false ∨ s.linkKeyed k = true ∨ s.rngHealthy = false ∨ due s.beatNow 16 x.helloAt = false) → exec (.helloTimer l) s = .next s) := by
  intro k x d e u payload body
  refine ⟨fun on unkeyed healthy isDue => congrArg Host.Outcome.next (if_neg ?_), fun not_ => congrArg Host.Outcome.next (if_pos ?_)⟩
  · rw [on, unkeyed, healthy, isDue]
    decide
  · rw [Bool.or_eq_true_iff, Bool.or_eq_true_iff, Bool.or_eq_true_iff, or_assoc, or_assoc]
    exact not_.imp not_true (Or.imp_right (Or.imp not_true not_true))

theorem khelloTimer_cases (s : State) (l : Fin 8) :
    let k := l.val
    let x := s.weaveLink k
    ((s.linkOn k = false ∨ s.linkKeyed k = false ∨ due s.beatNow 16 x.khelloAt = false) → exec (.khelloTimer l) s = .next s) ∧
    (s.linkOn k = true → s.linkKeyed k = true → due s.beatNow 16 x.khelloAt = true → exec (.khelloTimer l) s =
      .next ((s.updLink k (fun x => { x with khelloAt := some s.beatNow })).sendLink k WvType.khello 1 s.ownNode 0xFFFF
        (leBytes 2 s.ownNode ++ leBytes 1 (s.getF Fld.WEAVE_CFG_PRIO) ++ leBytes 1 (b2n (s.flag Fld.WEAVE_CFG_ELIG) + 2) ++
          leBytes 2 (s.getF Fld.WEAVE_BSTAT_MASTER_NODE) ++ leBytes 2 (s.getF Fld.WEAVE_MEMBERS_COUNT)))) := by
  refine ⟨fun not_ => congrArg Host.Outcome.next (if_pos ?_), fun on keyed isDue => congrArg Host.Outcome.next (if_neg ?_)⟩
  · rw [Bool.or_eq_true_iff, Bool.or_eq_true_iff, or_assoc]
    exact not_.imp not_true (Or.imp not_true not_true)
  · rw [on, keyed, isDue]
    decide

theorem routeTimer_cases (s : State) (l : Fin 8) :
    let k := l.val
    ((s.linkOn k = false ∨ s.linkKeyed k = false ∨ s.routeDue k = false) → exec (.routeTimer l) s = .next s) ∧
    (s.linkOn k = true → s.linkKeyed k = true → s.routeDue k = true →
      exec (.routeTimer l) s = .next (State.sendRoutes 5 (s.updLink k (fun x => { x with routeAt := some (s.beatNow, s.weave.changes) })) k
        (s.ownNode :: (s.weave.map.filter (fun e => e.2.state != 0 && e.1 != s.ownNode)).map (·.1)))) := by
  refine ⟨fun not_ => congrArg Host.Outcome.next (if_pos ?_), fun on keyed isDue => congrArg Host.Outcome.next ((if_neg ?_).trans ?_)⟩
  · rw [Bool.or_eq_true_iff, Bool.or_eq_true_iff, or_assoc]
    exact not_.imp not_true (Or.imp not_true not_true)
  · rw [on, keyed, isDue]
    decide
  · have own (g : WeaveLink → WeaveLink) : (s.updLink l.val g).ownNode = s.ownNode := getF_congr rfl _
    dsimp only
    rw [own]
    rfl

theorem neighbourLost_cases (s : State) (l : Fin 8) :
    let k := l.val
    let x := s.weaveLink k
    (s.hasNeighbour k = true → x.heard + 64 ≤ s.beatNow → exec (.neighbourLost l) s = .next
      (((((s.unkeyLink k).setF (Fld.WEAVE_LSTAT_LOST k) 1).portLog (2 + k) St.portAbsent 0 0).withdraw k).mapChanged s)) ∧
    ((s.hasNeighbour k = false ∨ s.beatNow < x.heard + 64) → exec (.neighbourLost l) s = .next s) := by
  refine ⟨fun has late => congrArg Host.Outcome.next (if_neg ?_), fun not_ => congrArg Host.Outcome.next (if_pos ?_)⟩
  · rw [has, decide_eq_false (Nat.not_lt.2 late)]
    decide
  · exact Bool.or_eq_true_iff.2 (not_.imp not_true decide_eq_true)

theorem rekeyTimeout_cases (s : State) (l : Fin 8) :
    let x := s.weaveLink l.val
    (x.rekeyRn ≠ [] → x.rekeyAt + 16 ≤ s.beatNow → exec (.rekeyTimeout l) s = .next (s.unkeyLink l.val)) ∧
    ((x.rekeyRn = [] ∨ s.beatNow < x.rekeyAt + 16) → exec (.rekeyTimeout l) s = .next s) := by
  refine ⟨fun begun late => congrArg Host.Outcome.next (if_neg ?_), fun not_ => congrArg Host.Outcome.next (if_pos ?_)⟩
  · rw [List.isEmpty_eq_false_iff.2 begun, decide_eq_false (Nat.not_lt.2 late)]
    decide
  · exact Bool.or_eq_true_iff.2 (not_.imp List.isEmpty_iff.2 decide_eq_true)

theorem timeTimer_cases (s : State) :
    (s.isMaster = true → due s.beatNow 1024 s.weave.timeAt = true → exec .timeTimer s = .next
      (({ s with weave := { s.weave with timeAt := some s.beatNow } } : State).flood 8 WvType.time 1 s.ownNode
        (timePayload ((s.beatNow + s.basketOfs) % 2 ^ 48) s.ownNode))) ∧
    ((s.isMaster = false ∨ due s.beatNow 1024 s.weave.timeAt = false) → exec .timeTimer s = .next s) := by
  refine ⟨fun master isDue => congrArg Host.Outcome.next (if_neg ?_), fun not_ => congrArg Host.Outcome.next (if_pos ?_)⟩
  · rw [master, isDue]
    decide
  · exact Bool.or_eq_true_iff.2 (not_.imp not_true not_true)

end

/-! ## The basket key and the map registers -/

section
variable {s t : State} {p : Nat} {v : Word}

/-- A blob that gives no key (R455). -/
theorem bkeyStore_refused {e : Nat × Nat} (supervisor : s.isSupervisor p = true) (armed : s.armedJob p ≠ none) (some_ : v ≠ 0) (aligned : v.toNat % 32 = 0)
    (refused : s.portKey p v.toNat (s.getF Fld.WEAVE_BKEYIDX_INDEX) (s.getF Fld.WEAVE_CFG_TENANT) (· == 3) = .error e) : s.bkeyStore p v = .ok s := by
  unfold State.bkeyStore
  rw [if_neg (tkey_admits supervisor armed aligned), if_neg some_, refused]

/-- A blob whose key is loaded (R455). -/
theorem bkeyStore_loads {key : List Byte} (supervisor : s.isSupervisor p = true) (armed : s.armedJob p ≠ none) (some_ : v ≠ 0) (aligned : v.toNat % 32 = 0)
    (loads : s.portKey p v.toNat (s.getF Fld.WEAVE_BKEYIDX_INDEX) (s.getF Fld.WEAVE_CFG_TENANT) (· == 3) = .ok (key, t)) :
    s.bkeyStore p v = .ok (t.loadBasketKey key) := by
  unfold State.bkeyStore
  rw [if_neg (tkey_admits supervisor armed aligned), if_neg some_, loads]

/-- MAPIDX selects the map's entry that MAPDATA shows (R470). -/
theorem mapidxStore_leaves (s : State) (v : Word) :
    let e := s.mapOf (fld 10 0 v)
    let t := s.mapidxStore v
    t.reg Reg.WEAVE_MAPIDX = wd (fld 10 0 v) ∧
      t.reg Reg.WEAVE_MAPDATA0 = wd (2 ^ 30 * (e.state % 4) + 2 ^ 29 * b2n e.elig + 2 ^ 24 * (e.hops % 32) + 2 ^ 16 * (e.link % 8) +
        2 ^ 8 * (e.prio % 256)) ∧ t.reg Reg.WEAVE_MAPDATA1 = wd (e.changed % 2 ^ 32) ∧ t.pairs = s.pairs ∧ t.weave = s.weave := by
  intro e t
  have is : t = ((s.setReg Reg.WEAVE_MAPIDX (wd (fld 10 0 v))).setReg Reg.WEAVE_MAPDATA0 (wd (2 ^ 30 * (e.state % 4) + 2 ^ 29 * b2n e.elig +
    2 ^ 24 * (e.hops % 32) + 2 ^ 16 * (e.link % 8) + 2 ^ 8 * (e.prio % 256)))).setReg Reg.WEAVE_MAPDATA1 (wd (e.changed % 2 ^ 32)) := rfl
  rw [is]
  refine ⟨?_, ?_, State.reg_setReg _ _ _, ?_, ?_⟩
  · rw [State.reg_setReg_ne _ _ (show (0x301440 : Nat) ≠ 0x301448 by decide), State.reg_setReg_ne _ _ (show (0x301440 : Nat) ≠ 0x301444 by decide),
      State.reg_setReg]
  · rw [State.reg_setReg_ne _ _ (show (0x301444 : Nat) ≠ 0x301448 by decide), State.reg_setReg]
  · rw [State.setReg_pairs, State.setReg_pairs, State.setReg_pairs]
  · rw [State.setReg_weave, State.setReg_weave, State.setReg_weave]

end

end Sys2Proof.Machine
end

section
/-! The statement about Weave links, keys and timers settled. -/

namespace Sys2Proof.Machine

/-- Settles O53: a received frame by the checks that it passes, a timer by what it waits for. -/
theorem weaveLinksKeysAndTimers : Obligations.WeaveLinksKeysAndTimers := by
  refine ⟨⟨fun s l => ⟨rfl, rfl⟩, fun s l f receives => ?hello, fun s l fr prio flags a b rn => ?keyed⟩,
    ⟨fun s l => ?timers, fun s => timeTimer_cases s, fun s b p reaches supervisor armed => ?key, fun s b m v reaches => ?map⟩⟩
  case hello =>
    obtain ⟨bad, conflict, away, good⟩ := hello_cases (f := f) receives
    exact ⟨bad, fun crc unkeyed is => ⟨_, conflict crc unkeyed is, helloConflict_leaves s l.isLt⟩, away, good⟩
  case keyed =>
    intro k t
    refine ⟨fun accepts => congrArg Host.Outcome.next (keyedIn_accepts accepts _), fun accepts => (rekey_cases accepts rn).1,
      fun accepts => (rekey_cases accepts rn).2.1, fun accepts => (rekey_cases accepts rn).2.2,
      fun deaf => ⟨congrArg Host.Outcome.next (keyedIn_deaf deaf _), congrArg Host.Outcome.next (keyedIn_deaf deaf _)⟩,
      fun receives garbled => congrArg Host.Outcome.next (keyedIn_garbled receives garbled _), fun receives crc keyed forged => ⟨?_, ?_⟩⟩
    · exact congrArg Host.Outcome.next (keyedIn_forged receives crc keyed forged _)
    · exact congrArg Host.Outcome.next (keyedIn_forged receives crc keyed forged _)
  case timers =>
    intro k x d e u payload body
    obtain ⟨hello, noHello⟩ := helloTimer_cases s l
    obtain ⟨noKhello, khello⟩ := khelloTimer_cases s l
    obtain ⟨noRoute, route⟩ := routeTimer_cases s l
    obtain ⟨lost, held⟩ := neighbourLost_cases s l
    obtain ⟨timeout, waits⟩ := rekeyTimeout_cases s l
    exact ⟨hello, noHello, noKhello, noRoute, khello, route, lost, held, timeout, waits⟩
  case key =>
    refine ⟨?_, fun v e some_ aligned refused => ?_, fun v key t some_ aligned loads => ?_⟩
    · exact congrArg Host.Outcome.next (pairAccess_ok reaches ((if_neg (tkey_admits supervisor armed rfl)).trans (if_pos rfl)))
    · exact congrArg Host.Outcome.next (pairAccess_ok reaches (bkeyStore_refused supervisor armed some_ aligned refused))
    · exact congrArg Host.Outcome.next (pairAccess_ok reaches (bkeyStore_loads supervisor armed some_ aligned loads))
  case map =>
    exact ⟨b.mapidxStore v, congrArg Host.Outcome.next (masterWrite_of reaches rfl), mapidxStore_leaves b v⟩

end Sys2Proof.Machine
end

section
/-! SUPPORT. Basket time and routed frames (R452–R454, R458): what an accepted TIME, mark or MSG does. -/

namespace Sys2Proof.Machine

section
variable {s : State} {l : Fin 8} {fr : KeyedFrame}

theorem weave_took (s : State) (l : Nat) (fr : KeyedFrame) : (s.took l fr).weave.btime = s.weave.btime ∧ (s.took l fr).weave.marks = s.weave.marks := ⟨rfl, rfl⟩

/-! ## Basket time -/

/-- A TIME that does not count (R458). -/
theorem time_ignored (accepts : s.Accepts l.val fr false) {a b : Nat}
    (away : (s.took l.val fr).flag (Fld.WEAVE_LSTAT_UPSTREAM l.val) = false ∨ (s.took l.val fr).computedMaster ≠ some b) :
    exec (.time l fr a b) s = .next (s.took l.val fr) :=
  congrArg Host.Outcome.next ((keyedIn_accepts accepts _).trans (if_pos (Bool.or_eq_true_iff.2 (away.imp not_true bne_iff_ne.2))))

/-- Basket time anchored by a TIME (R458). -/
def State.anchor (s : State) (a : Nat) : State := { s with weave := { s.weave with btime := some a, marks := 0 } }

/-- What a TIME that counts does after its marks are checked (R458). -/
def State.timeOn (s : State) (l : Nat) (fr : KeyedFrame) (a b : Nat) : State :=
  if 16 < fr.hops + 1 then (s.anchor a).incF (Fld.WEAVE_LERR_CRC l) else (s.anchor a).flood l WvType.time (fr.hops + 1) fr.src (timePayload a b)

section
variable {a b : Nat} (accepts : s.Accepts l.val fr false) (upstream : (s.took l.val fr).flag (Fld.WEAVE_LSTAT_UPSTREAM l.val) = true)
  (master : (s.took l.val fr).computedMaster = some b)
include accepts upstream master

/-- A TIME whose marks are right, or the first one (R458). -/
theorem time_right (right : s.weave.btime = none ∨ s.weave.marks = 1024) :
    exec (.time l fr a b) s = .next ((s.took l.val fr).timeOn l.val fr a b) := by
  have counts : ¬((!(s.took l.val fr).flag (Fld.WEAVE_LSTAT_UPSTREAM l.val) || (s.took l.val fr).computedMaster != some b) = true) := by
    rw [upstream, master, bne_self_eq_false]
    decide
  have good : ¬(((s.took l.val fr).weave.btime.isSome && (s.took l.val fr).weave.marks != 1024) = true) := by
    rw [(weave_took s l.val fr).1, (weave_took s l.val fr).2, Bool.and_eq_true, bne_iff_ne]
    rintro ⟨some_, other⟩
    exact right.elim (fun none_ => by rw [none_] at some_; cases some_) other
  refine congrArg Host.Outcome.next ((keyedIn_accepts accepts _).trans ((if_neg counts).trans ?_))
  dsimp only
  rw [if_neg good]
  rfl

/-- A TIME whose marks are wrong: counted, and the basket source starts anew (R458). -/
theorem time_wrong (anchored : s.weave.btime ≠ none) (wrong : s.weave.marks ≠ 1024) :
    let err := (s.took l.val fr).incF Fld.WEAVE_TSTAT_MARKERR
    exec (.time l fr a b) s = .next
      ((if (s.took l.val fr).flag Fld.BEAT_STATUS_BASKET_QUAL then err.loseSource .basket else err.setMeas .basket {}).timeOn l.val fr a b) := by
  intro err
  have counts : ¬((!(s.took l.val fr).flag (Fld.WEAVE_LSTAT_UPSTREAM l.val) || (s.took l.val fr).computedMaster != some b) = true) := by
    rw [upstream, master, bne_self_eq_false]
    decide
  have bad : ((s.took l.val fr).weave.btime.isSome && (s.took l.val fr).weave.marks != 1024) = true := by
    rw [(weave_took s l.val fr).1, (weave_took s l.val fr).2, Bool.and_eq_true, bne_iff_ne]
    exact ⟨Option.isSome_iff_ne_none.2 anchored, wrong⟩
  have qual : ((s.took l.val fr).incF Fld.WEAVE_TSTAT_MARKERR).flag Fld.BEAT_STATUS_BASKET_QUAL = (s.took l.val fr).flag Fld.BEAT_STATUS_BASKET_QUAL :=
    flag_setF_ne _ _ (by decide)
  refine congrArg Host.Outcome.next ((keyedIn_accepts accepts _).trans ((if_neg counts).trans ?_))
  dsimp only
  rw [if_pos bad, qual]
  rfl

end

theorem foldl_emit_rest {α : Type} (f : α → Output) (ks : List α) (s : State) : ∃ out, ks.foldl (fun s k => s.emit (f k)) s = { s with out := out } := by
  induction ks generalizing s with
  | nil => exact ⟨s.out, rfl⟩
  | cons k ks ih => exact ih (s.emit (f k))

/-- Marks sent change nothing beside the outputs. -/
theorem sendMarks_rest (s : State) (k : Nat) : ∃ out, s.sendMarks k = { s with out := out } := foldl_emit_rest _ _ s

theorem beatMark_ignored {at_ : Nat} (away : s.receives l.val = false ∨ s.flag (Fld.WEAVE_LSTAT_UPSTREAM l.val) = false) :
    exec (.beatMark l at_) s = .next s := congrArg Host.Outcome.next (if_pos (Bool.or_eq_true_iff.2 (away.imp not_true not_true)))

/-- A mark on the upstream link (R458). -/
theorem beatMark_taken {at_ : Nat} (receives : s.receives l.val = true) (upstream : s.flag (Fld.WEAVE_LSTAT_UPSTREAM l.val) = true) :
    let sent := s.sendMarks l.val
    let u : State := { sent with weave := { sent.weave with marks := s.weave.marks + 1 } }
    (s.weave.btime = none → exec (.beatMark l at_) s = .next (u.sourceEdge .basket at_)) ∧
    (∀ b, s.weave.btime = some b → exec (.beatMark l at_) s = .next
      ((u.setBasketOfs ((b + s.weave.marks + 1 + 2 ^ 48 - s.beatNow) % 2 ^ 48)).sourceEdge .basket at_)) := by
  have takes : ¬((!s.receives l.val || !s.flag (Fld.WEAVE_LSTAT_UPSTREAM l.val)) = true) := by
    rw [receives, upstream]
    decide
  obtain ⟨out, is⟩ := sendMarks_rest s l.val
  refine ⟨fun none_ => congrArg Host.Outcome.next ((if_neg takes).trans ?_), fun b anchored => congrArg Host.Outcome.next ((if_neg takes).trans ?_)⟩
  all_goals
    dsimp only
    rw [is]
    dsimp only
  · rw [none_]
  · rw [anchored]
    rfl

/-! ## Routed frames -/

section
variable {type : Nat} {payload : List Byte} (accepts : s.Accepts l.val fr false) (started : State → Bool) (body : State → State)
include accepts

/-- A routed frame for another node (R452, R453). -/
theorem routedIn_onward (away : fr.dst ≠ s.ownNode) (open_ : (s.took l.val fr).quarantined = false) :
    let t := s.took l.val fr
    (fr.hops ≤ 15 → t.reachable fr.dst = true →
      s.routedIn l.val fr type payload started body = t.sendLink (t.mapOf fr.dst).link type (fr.hops + 1) fr.src fr.dst payload) ∧
    (fr.hops ≤ 15 → t.reachable fr.dst = false → s.routedIn l.val fr type payload started body = t.incF Fld.WEAVE_BSTAT_UNROUTED) ∧
    (15 < fr.hops → s.routedIn l.val fr type payload started body = t.incF (Fld.WEAVE_LERR_CRC l.val)) := by
  intro t
  have other : ¬(fr.dst = (s.took l.val fr).ownNode) := by rw [ownNode_took]; exact away
  refine ⟨fun near reached => ?_, fun near unreached => ?_, fun far => ?_⟩
  all_goals refine (keyedIn_accepts accepts _).trans ((if_neg other).trans ((if_neg (Bool.eq_false_iff.1 open_)).trans ?_))
  · exact (if_neg (by omega)).trans (if_pos reached)
  · exact (if_neg (by omega)).trans (if_neg (Bool.eq_false_iff.1 unreached))
  · exact if_pos (by omega)

/-- A routed frame for this device (R453). -/
theorem routedIn_own (own : fr.dst = s.ownNode) :
    let t := s.took l.val fr
    s.routedIn l.val fr type payload started body = if t.quarantined && !started t then t else body t := by
  refine (keyedIn_accepts accepts _).trans (if_pos ?_)
  rw [ownNode_took]
  exact own

end

/-! ## Commands of other members -/

/-- A command of another member by the header check and its commands here that wait (R454). -/
theorem nodeCommand_cases (s : State) (port n : Nat) (hdr : List Word) (params : List Byte) (adm : Admission) :
    let src := Stream.node n
    let taken := ({ s with weave := { s.weave with streams := s.weave.streams.set (fun _ => 0) n (nextSeqOf hdr) } } : State).takeCommand src hdr
    let check := s.headerCheck hdr params 968 0 (s.nodeSeq n) src (cmdTenant hdr == s.getF Fld.WEAVE_CFG_TENANT) (fun o => o.code / 0x100 == 7 || o.code == 0x400)
    let sent := s.taken.countP (fun x => x.src == src)
    (∀ st sub, check = some (st, sub) → s.nodeCommand port n hdr params adm = taken.refuseCommand src (hdrTag hdr) st sub) ∧
    (check = none → 8 ≤ sent → s.nodeCommand port n hdr params adm = taken.refuseCommand src (hdrTag hdr) St.queueFull 0) ∧
    (check = none → sent < 8 → s.nodeCommand port n hdr params adm = taken.postCommand port src hdr params adm) := by
  intro src taken check sent
  refine ⟨fun st sub fails => ?_, fun passes full => ?_, fun passes room => ?_⟩
  all_goals
    unfold State.nodeCommand
    dsimp only
  · rw [show s.headerCheck _ _ _ _ _ _ _ _ = _ from fails]
  · rw [show s.headerCheck _ _ _ _ _ _ _ _ = _ from passes]
    exact if_pos (decide_eq_true full)
  · rw [show s.headerCheck _ _ _ _ _ _ _ _ = _ from passes]
    exact if_neg (fun full => Nat.not_le.2 room (of_decide_eq_true full))

/-- A well-formed MSG for this device out of quarantine is a command (R454). -/
theorem msg_own {hdr : List Word} {params : List Byte} {adm : Admission} (accepts : s.Accepts l.val fr false) (own : fr.dst = s.ownNode)
    (open_ : (s.took l.val fr).quarantined = false) (header : hdr.length = 8) (short : params.length ≤ 968) (length : hdrLen hdr = params.length) :
    exec (.msg l fr hdr params adm) s = .next ((s.took l.val fr).nodeCommand (2 + l.val) fr.src hdr params adm) := by
  refine congrArg Host.Outcome.next ((routedIn_own accepts _ _ own).trans ((if_neg ?_).trans (if_neg ?_)))
  · rw [open_, Bool.false_and]
    exact Bool.false_ne_true
  · omega

end

end Sys2Proof.Machine
end

section
/-! The statement about routes, basket time and members settled. -/

namespace Sys2Proof.Machine

/-- Settles O54: a received frame acts from the state that took it, by its destination or by what TIME and marks are checked against. -/
theorem weaveRoutesTimeAndMembers : Obligations.WeaveRoutesTimeAndMembers := by
  refine ⟨fun s l fr => ?links, fun s l fr hdr params adm accepts => ?members⟩
  case links =>
    intro k t
    refine ⟨fun es accepts => congrArg Host.Outcome.next (keyedIn_accepts accepts _), fun a b accepts away => time_ignored accepts away,
      fun a b accepts upstream master => ?time, fun at_ away => beatMark_ignored away, fun at_ receives upstream => beatMark_taken receives upstream⟩
    case time =>
      intro set_ on err
      refine ⟨fun right near => (time_right accepts upstream master right).trans (congrArg Host.Outcome.next (if_neg (by omega))),
        fun right far => (time_right accepts upstream master right).trans (congrArg Host.Outcome.next (if_pos (by omega))),
        fun anchored wrong near qual => ?_, fun anchored wrong near unqual => ?_⟩
      all_goals refine (time_wrong accepts upstream master anchored wrong).trans (congrArg Host.Outcome.next ?_)
      · rw [if_pos qual]
        exact if_neg (by omega)
      · rw [if_neg (Bool.eq_false_iff.1 unqual)]
        exact if_neg (by omega)
  case members =>
    intro t src taken check sent
    refine ⟨fun away open_ near => ⟨fun reached => ⟨?_, ?_⟩, fun unreached => ⟨?_, ?_⟩⟩, fun away open_ far => ?_, fun own closed => ?_, fun own => ?_,
      fun own open_ header short length => ?command⟩
    · exact congrArg Host.Outcome.next ((routedIn_onward accepts _ _ away open_).1 near reached)
    · exact congrArg Host.Outcome.next ((routedIn_onward accepts _ _ away open_).1 near reached)
    · exact congrArg Host.Outcome.next ((routedIn_onward accepts _ _ away open_).2.1 near unreached)
    · exact congrArg Host.Outcome.next ((routedIn_onward accepts _ _ away open_).2.1 near unreached)
    · exact congrArg Host.Outcome.next ((routedIn_onward accepts _ _ away open_).2.2 far)
    · exact congrArg Host.Outcome.next ((routedIn_own accepts _ _ own).trans (if_pos (by rw [closed]; rfl)))
    · exact congrArg Host.Outcome.next ((routedIn_own accepts _ _ own).trans (ite_self _))
    case command =>
      obtain ⟨refused, full, posted⟩ := nodeCommand_cases t (2 + l.val) fr.src hdr params adm
      have acts : exec (.msg l fr hdr params adm) s = .next (t.nodeCommand (2 + l.val) fr.src hdr params adm) :=
        msg_own accepts own open_ header short length
      rw [acts]
      refine ⟨fun st sub fails => ?_, fun passes many => ?_, fun passes room => ?_⟩
      · rw [refused st sub fails]
      · rw [full passes many]
      · rw [posted passes room]

end Sys2Proof.Machine
end
